-- ==== Sys2Proof/Word.lean ====
section
/-! DEFINITION. The words of the SD-4812: 16-bit words, twin-words, and the sparse tables the state is built of. -/

namespace Sys2Proof

/-- A 16-bit word: a register, a packet word, a lane memory word (00_scope.md R12). -/
abbrev Word := BitVec 16

/-- A value of the Time Base in ticks of 5 ns. The Time Base never wraps (02_time_base.md R44, R45), so it is a Nat. -/
abbrev Tick := Nat

/-- An angle in CAU (00_scope.md R5): 0 to 2^24 - 1. -/
abbrev Cau := Nat

/-- A twin-word: a value with its stored complement (00_scope.md R9). -/
structure TwinWord where
  value : Word
  comp  : Word
  deriving DecidableEq, Repr

/-- R9: the pair is valid only when value XOR complement is 0xFFFF. -/
def TwinWord.valid (t : TwinWord) : Bool := (t.value ^^^ t.comp) == 0xFFFF#16

/-- A valid twin-word of a value. -/
def TwinWord.of (v : Word) : TwinWord := ⟨v, ~~~v⟩

/-- A sparse table: pairs of a key and a value in strictly rising order of the keys. Every key that is not listed
holds the table's default, which the reader names (`Tbl.get`). -/
abbrev Tbl (α : Type) := List (Nat × α)

end Sys2Proof
end

