-- ==== Sys2Proof/Machine/Payloads.lean ====
section
/-! DEFINITION. What some commands carry beside plain numbers: the held pair that a background walk checks, and a change of a
crank input's comparator. -/

namespace Sys2Proof

/-- A change of a crank input's comparator (03_wheel_inputs.md R69 to R74, R100): the level that it takes and, in VR mode, the positive
peak since the last crossing. -/
structure Crossing where
  high : Bool
  peak : Nat
  deriving DecidableEq, Repr

/-- A value held with its complement (19_integrity_repair.md R612, R613), as PAIR_WALK_CHECK names it. -/
inductive HeldPair where
  /-- A queue entry: its output and its place in the queue, 0 the head. -/
  | entry (out i : Nat)
  /-- The active-pulse end of an output. -/
  | pulseEnd (out : Nat)
  /-- A current profile working copy: one of its two copies, or both. -/
  | profile (n : Nat) (both : Bool)
  | arc (n : Nat)
  | combustion (channel : Nat)
  /-- An entry of the Tangent's geometry table (the applied copy, or the learning copy), of its ripple table, an offset. -/
  | geometry (i : Nat) (learning : Bool)
  | ripple (i : Nat)
  | offset (i : Nat)
  /-- The shadow of an RWS register: its address and the index of its selection register. -/
  | staged (addr idx : Nat)
  | fuse (field : Nat)
  /-- The live or the shadow value of a lane compare. -/
  | laneCompare (lane cmp : Nat) (shadow : Bool)
  /-- The low or the high word of a feedback compare. -/
  | feedbackCompare (port cmp : Nat) (high : Bool)
  /-- A word of a cluster memory, from 0x80_0000 (its parity, 11_lanes.md R346), and an item of a lane (R379). -/
  | laneMemory (addr : Nat)
  | laneItem (lane item : Nat)
  deriving DecidableEq, Repr

end Sys2Proof
end

