-- ==== Sys2Proof/Machine/StateAdc.lean ====
section
/-! DEFINITION. The state of the ADC island and of the combustion datapath: arcs, converters, combustion, feedback. -/

namespace Sys2Proof.Machine

/-- The working copy of an arc record (07_arcs.md R225). -/
structure ArcRec where
  /-- MODE = 1: time-stepped. -/
  timed  : Bool
  irq    : Bool
  /-- CMB: 0 none, 1 pressure, 2 knock. -/
  cmb    : Nat
  cyl    : Nat
  input  : Nat
  start  : Cau
  /-- MODE 0: STEP, 40 bits, LSB 2^-16 CAU; MODE 1: ticks. -/
  step   : Nat
  count  : Nat
  endA   : Cau
  rbase  : Nat
  frames : Nat
  tag    : Nat
  deriving DecidableEq, Repr

/-- A running pass of an arc, at the ANGLE island (R230 to R235). -/
structure ArcRun where
  /-- The frame it writes. -/
  serial : Nat
  rcd    : ArcRec
  /-- The next sample to launch. -/
  next   : Nat
  /-- R231: the latched hold tick of the committed next sample; none while it is not committed. -/
  pin    : Option Tick
  /-- R232: the committed sample was moved to its commit tick + 64. -/
  moved  : Bool
  /-- R227, R233: s0. -/
  s0     : Tick
  /-- R233: END's latched tick. -/
  endPin : Option Tick
  /-- The stamp E of the segment in which the latest angle of the pass committed, and that angle's offset in it. -/
  segE   : Tick
  segOff : Nat
  deriving DecidableEq, Repr

/-- One arc (R228 to R231, R242). -/
structure Arc where
  /-- R228, R242 LOADED: the working copy; none while the arc is disabled; reset none (R243). -/
  copy : Option ArcRec := none
  /-- R230, R242 RUNNING: the pass in progress; reset none. -/
  run : Option ArcRun := none
  /-- R230: the stamp E of the segment in which START last committed, whether an instance began or not; reset none. -/
  seen : Option Tick := none
  /-- R242: LASTEND, 4 bits; reset 0. -/
  lastEnd : Nat := 0
  /-- R237, R242: passes started since load (INST is its low 8 bits); reset 0. -/
  inst : Nat := 0
  deriving DecidableEq, Repr

/-- A frame that is being written, at the ADC island (R237 to R240). -/
structure Frame where
  arc    : Nat
  serial : Nat
  rcd    : ArcRec
  base   : Nat
  cyc    : Nat
  stamp  : Nat
  /-- NS, MISS, SHIFTS, CLIP, MISSF, DLY, DLYMAX of R237. -/
  ns     : Nat
  miss   : Nat
  shifts : Nat
  clip   : Bool
  missf  : Bool
  dly    : Bool
  dlymax : Nat
  /-- The code of the latest sample written (R239). -/
  last   : Nat
  /-- Samples found missing whose earlier samples are not yet written. -/
  gone   : List Nat
  /-- How many samples the frame will hold and its END; none while the pass goes on. -/
  total  : Option (Nat × Nat)
  /-- R238: the hold tick of the latest sample written, or the tick of the ending. -/
  endTick : Tick
  deriving DecidableEq, Repr

/-- An arc request at a converter (R219 to R221). -/
structure ConvReq where
  sched  : Tick
  arc    : Nat
  serial : Nat
  idx    : Nat
  deriving DecidableEq, Repr

/-- What a converter converts (R218, R220): an arc's sample, the mid reference of R224, or the low or high reference of R223. -/
inductive ConvJob where
  | arc (r : ConvReq)
  | mid
  | cal (high : Bool)
  deriving DecidableEq, Repr

/-- The conversion whose sample is held: what it converts, its hold tick, and GAIN and OFS in effect at it (R222). -/
structure ConvCur where
  job  : ConvJob
  hold : Tick
  gain : Nat
  ofs  : Int
  deriving DecidableEq, Repr

/-- A sample of a feedback port's tracks held at its hold tick s, with what is in effect at s (R56, R222, R428): FBK_CFG and FBK_AMP of the
port, GAIN and OFS of its two converters, and GAIN and OFS of its two tracks. -/
structure FbkHold where
  s : Tick
  cfg : Nat
  amp : Nat
  calGS : Nat
  calOS : Int
  calGC : Nat
  calOC : Int
  gainS : Nat
  ofsS : Int
  gainC : Nat
  ofsC : Int
  deriving DecidableEq, Repr

/-- One SAR converter (R218 to R224, R242). -/
structure Conv where
  /-- R221: waiting arc requests, at most 4; reset empty. -/
  wait : List ConvReq := []
  /-- R219: the conversion in progress; reset none. -/
  cur : Option ConvCur := none
  /-- R220: the tick from which the converter is free for an acquisition; reset 0. -/
  freeAt : Tick := 0
  /-- R219, R220: the conversion in a free slot whose acquisition has begun, with its hold tick; reset none. -/
  slot : Option (ConvJob × Tick) := none
  /-- R223: the tick of the calibration in progress; reset none. -/
  calFrom : Option Tick := none
  /-- R223: conversions of the calibration that are still to come, 64 at its command; reset 0. -/
  calLeft : Nat := 0
  /-- R223: the sums of the raw codes of its low and high reference; reset 0. -/
  sumL : Nat := 0
  sumH : Nat := 0
  /-- R242: CALRES, 2 bits; reset 0. -/
  calRes : Nat := 0
  /-- R224, R242: REF; reset false. -/
  refBad : Bool := false
  /-- R224, R242: TMO; reset false. -/
  tmo : Bool := false
  /-- R224: the reference check of this period of 2^20 ticks is still to come; reset false. -/
  refDue : Bool := false
  deriving DecidableEq, Repr

/-- Arcs and converters (07_arcs.md). -/
structure Arcs where
  /-- R228: the 256 arcs; unlisted `{}`. -/
  arc : Tbl Arc := []
  /-- R218: the 16 converters; unlisted `{}`. -/
  conv : Tbl Conv := []
  /-- R238: frames being written, oldest first; reset empty. -/
  frames : List Frame := []
  /-- Frames begun so far (their serial numbers); reset 0. -/
  serial : Nat := 0
  /-- R228: the working copies read for the commit that waits (none: the record failed), by arc; reset empty. -/
  load : Tbl (Option ArcRec) := []
  /-- R228: ARC_EN was in the set prepared; reset false. -/
  loading : Bool := false
  /-- R242: OVERLAP and MISS, 8 bits each; reset 0. -/
  overlap : Nat := 0
  miss : Nat := 0
  /-- R242: ARC_FLT, 16 bits; reset 0. -/
  flt : Nat := 0
  deriving DecidableEq, Repr

/-- A frame handed to the combustion datapath (08_combustion.md R249). -/
structure CmbJob where
  arc    : Nat
  rcd    : ArcRec
  base   : Nat
  endTick : Tick
  /-- R249: the tick of the hand-off. -/
  at_    : Tick
  deriving DecidableEq, Repr

/-- The figures of one frame, computed and not yet written (R250 to R258). -/
structure CmbRun where
  job    : CmbJob
  /-- CYC and STAMP as first read (R250). -/
  cyc    : Nat
  stamp  : Nat
  tag    : Nat
  status : Nat
  /-- Bits 11 to 9 of twin-word 0 (MISFIRE or KNOCK, CLIP, SAT). -/
  flags  : Nat
  /-- The figure words: pressure twin-words 5 to 12, knock twin-words 3 to 5. -/
  figs   : List Nat
  misfire : Bool
  deriving DecidableEq, Repr

/-- The combustion datapath (08_combustion.md). -/
structure Cmb where
  /-- R247: the working copies, the 32 values of a parameter block, by channel; reset empty (R266). -/
  param : Tbl (List Nat) := []
  /-- R247: the copies read for the commit that waits; reset empty. -/
  load : Tbl (List Nat) := []
  /-- R247: CMB_EN was in the set prepared; reset false. -/
  loading : Bool := false
  /-- R249: the frames waiting, at most 8, in order; reset empty. -/
  queue : List CmbJob := []
  /-- R249: the frame in progress; reset none. -/
  run : Option CmbRun := none
  /-- R261: SEQ of pressure records by channel, 8 bits; unlisted 0. -/
  seqP : Tbl Nat := []
  /-- R261: SEQ of knock records by channel, 8 bits; unlisted 0. -/
  seqK : Tbl Nat := []
  /-- R263: the newest pressure record of each channel, 16 values; unlisted empty. -/
  resP : Tbl (List Nat) := []
  /-- R263: the newest knock record of each channel, 8 values; unlisted empty. -/
  resK : Tbl (List Nat) := []
  /-- R265: OVERRUN and MISFIRE, 8 bits each; reset 0. -/
  overrun : Nat := 0
  misfire : Nat := 0
  deriving DecidableEq, Repr

/-- What a compare held before the writes of a tick, for an update of that same tick (13_feedback.md R438). -/
structure CmpBefore where
  /-- The tick of the ADC island. -/
  at_ : Tick
  lo : TwinWord
  hi : TwinWord
  armed : Bool
  ciLo : Bool
  ciHi : Bool
  behind : Bool
  dir : Nat
  /-- It was armed in that tick. -/
  rearm : Bool
  deriving DecidableEq, Repr

/-- One position compare (13_feedback.md R438 to R441). DIR and FIB are FBK_CMPCFG in `State.regs`. -/
structure Compare where
  /-- R438: V, two twin-words; reset 0, valid. -/
  lo : TwinWord := ⟨0#16, 0xFFFF#16⟩
  hi : TwinWord := ⟨0#16, 0xFFFF#16⟩
  /-- R452: ARMED, FIRED; reset 0. -/
  armed : Bool := false
  fired : Bool := false
  /-- R441: the low or the high pair was found invalid (CI is either); reset false. -/
  ciLo : Bool := false
  ciHi : Bool := false
  /-- R440: it was armed behind, with FIB = 1, and no update has come since; reset false. -/
  behind : Bool := false
  /-- R438: what it held before the latest tick in which it was written; reset none. -/
  before : Option CmpBefore := none
  deriving DecidableEq, Repr

/-- One incremental port (R424 to R441). -/
structure IncPort where
  /-- R425: POS, 32 bits; reset 0. -/
  pos : Nat := 0
  /-- R452: POSOK (reset 0), SIGLOSS (0), FAST (0), STILL (1), SVALID (0). -/
  posok : Bool := false
  sigloss : Bool := false
  fast : Bool := false
  still : Bool := true
  svalid : Bool := false
  /-- R428: the samples held at their hold ticks whose results are awaited, oldest first; reset empty. -/
  holds : List FbkHold := []
  /-- R430: fprev, 12 bits; reset 0. -/
  fprev : Nat := 0
  /-- R426: the next usable sample loads POS; reset true. -/
  first : Bool := true
  /-- R430: consecutive unusable samples; reset 0. -/
  bad : Nat := 0
  /-- R431: the comparator levels A and B; reset false. -/
  lvA : Bool := false
  lvB : Bool := false
  /-- R431: the stamp of the last accepted edge of each track; reset none. -/
  edgeA : Option Tick := none
  edgeB : Option Tick := none
  /-- R435, R436: the stamp of the latest crossing; reset none. -/
  cross : Option Tick := none
  /-- R436: crossings since entering STILL; reset 0. -/
  crossings : Nat := 0
  /-- R436: the tick from which the time without a crossing counts; reset 0. -/
  quietFrom : Tick := 0
  /-- R436: the update tick of the crossing at which STILL was left, until the observer's next update; reset none. -/
  starting : Option Tick := none
  /-- R433: th, w and a, with 64 fraction bits (lines, lines/s, lines/s²); reset 0. -/
  th : Int := 0
  w : Int := 0
  a : Int := 0
  /-- R435: RAW, 32 bits; reset 0. -/
  raw : Nat := 0
  /-- R452: TRK, SIG, QERR, QREJ, 4 bits each; reset 0. -/
  trk : Nat := 0
  sig : Nat := 0
  qerr : Nat := 0
  qrej : Nat := 0
  /-- R451: the words captured by the last read of FBK_POS_LO (offsets 0x0C to 0x13); reset 0. -/
  cap : List Word := []
  /-- R438: the 4 compares; unlisted `{}`. -/
  cmp : Tbl Compare := []
  deriving DecidableEq, Repr

/-- An SSI frame that runs, with the values in effect at its start tick (R56, R447, R448): FBK_SSI_CFG, HALF, TMO in ticks, FBK_SSI_FMT,
POLY and INIT. -/
structure SsiFrame where
  f : Tick
  cfg : Nat
  half : Nat
  tmo : Nat
  fmt : Nat
  poly : Nat
  init : Nat
  deriving DecidableEq, Repr

/-- The state of an SSI frame (R446 to R449). -/
inductive SsiPhase where
  | idle
  /-- Waiting for SSIn_DAT to read high since the trigger tick, for so many ticks. -/
  | waiting (since tmo : Tick)
  /-- The frame runs. -/
  | running (g : SsiFrame)
  deriving DecidableEq, Repr

/-- One SSI port (R446 to R453). -/
structure SsiPort where
  phase : SsiPhase := .idle
  /-- R449: DATA, 48 bits; reset 0. -/
  data : Nat := 0
  /-- R449: low 32 bits of F; reset 0. -/
  f : Nat := 0
  /-- R453: NEW, RES (2 bits), EBIT, SKIP (8 bits); reset 0. -/
  new : Bool := false
  res : Nat := 0
  ebit : Bool := false
  skip : Nat := 0
  /-- R446: the last tick multiple of PER × 100 at which a periodic trigger occurred; reset none. -/
  lastTrig : Option Tick := none
  /-- R451: the words captured by the last read of FBK_SSI_D0 (offsets 0x21 to 0x26); reset 0. -/
  cap : List Word := []
  deriving DecidableEq, Repr

/-- Position and speed feedback (13_feedback.md). -/
structure Feedback where
  pA : IncPort := {}
  pB : IncPort := {}
  s0 : SsiPort := {}
  s1 : SsiPort := {}
  deriving DecidableEq, Repr

end Sys2Proof.Machine
end

