-- ==== Sys2Proof/Config.lean ====
section
/-! DEFINITION. What the spec leaves open: the free values. None of them has a body, so nothing can be proved of a value. -/

namespace Sys2Proof.Config

/-- A free natural number for each use, numbered by `State.free` (note 3). Every use says what bounds the spec sets and
reduces the number to them. -/
opaque freeNat : Nat → Nat

/-- Whether an island's replica lags the ANGLE count by one tick: 02_time_base.md R46 says 0 or 1, fixed from one replica
lock to the next. The first argument is the island's bit position of R64, the second counts its replica locks (note 4). -/
opaque replicaLag : Nat → Nat → Bool

/-- The values that Tirore programs into the fuse fields 1 to 5 and 17 to 80 of a device: 19_integrity_repair.md R626 says what the
fields hold and gives no values (note 7). -/
opaque fuseField : Nat → Nat

/-- The words of the firmware image that Tirore programs: 19_integrity_repair.md R630 gives their layout and not their values (note 7). -/
opaque factoryWord : Nat → Nat

/-- The lengths of the boundary register and of the test access port's selection register, which 21_package_electrical.md R686 does not
give (note 70). -/
opaque boundaryLength : Nat
opaque irLength : Nat

/-- The number (0 BYPASS, 1 IDCODE, 2 SAMPLE/PRELOAD, 3 EXTEST, modulo 4) that a code of the selection register stands for, which R686
does not give (note 70). -/
opaque irDecode : Nat → Nat

end Sys2Proof.Config
end

