-- ==== Sys2Proof/Machine/StateSys.lean ====
section
/-! DEFINITION. The state of the common blocks: Time Base and islands, commits, the die bridge, supervisors, the Lattice,
interrupts, fuses and firmware, power. Each field's docstring names its rule and its value at reset. -/

namespace Sys2Proof.Machine

/-- The clock islands (01_architecture.md, table before R24). -/
inductive Island where
  | host | sup | lattice | angle | adc | drive | link
  | cl (n : Nat)
  deriving DecidableEq, Repr

/-- What became of a start, as the DRIVE island tells the ANGLE island (09_solenoid_drive.md R292). -/
structure StartStatusMsg where
  out     : Nat
  tag     : Nat
  dropped : Bool
  /-- S, and the delay p to S; both 0 for a drop. -/
  s       : Nat
  delta   : Nat
  la      : Nat
  deriving DecidableEq, Repr

/-- What a fire message says of one output (01_architecture.md R37; 06_events.md R191, R192). -/
inductive FireKind where
  | pulseStart | pulseEnd
  | edge (lvl : Bool)
  deriving DecidableEq, Repr

/-- Where an event came from, and what its reports carry (06_events.md R209 to R211). -/
structure Origin where
  tag     : Nat
  rpt     : Bool
  rcp     : Bool
  /-- Slot, or buffer in [10] and entry in [9:0] of a recipe event. -/
  slot    : Nat
  guarded : Bool
  deriving DecidableEq, Repr

/-- One start, end or edge of a fire message. -/
structure FireItem where
  out     : Nat
  kind    : FireKind
  org     : Origin
  profile : Nat
  /-- R192: the DUR of a PULSE in ticks with BACK = 0, which the message carries. -/
  durTicks : Option Nat
  /-- R285: LA, the lateness of the start that the ANGLE island has counted. -/
  late    : Nat
  /-- R285: W = 16 × LLIM - LA; none when LLIM = 0xFFFF. -/
  w       : Option Nat
  /-- R128: an end fired by a synchronisation transition. -/
  soft    : Bool
  deriving DecidableEq, Repr

/-- An action that a launch carries (02_time_base.md R49): what an island's launch unit holds. -/
inductive Action where
  /-- A fire message of R37 or R38. -/
  | fire (items : List FireItem)
  /-- A converter start of an arc sample (07_arcs.md R232): the serial number of its frame, and the sample index. -/
  | sample (serial : Nat) (idx : Nat)
  /-- Any other launched action, which acts through its own command; the number is the event's tag. -/
  | other (tag : Nat)
  deriving DecidableEq, Repr

/-- A launch: an action tagged with a Time Base value (R49). -/
structure Launch where
  value  : Tick
  action : Action
  deriving DecidableEq, Repr

/-- One island's Time Base replica and launch unit. -/
structure Replica where
  /-- R46, R47: how far the replica is from the ANGLE count, apart from its lag; reset 0. -/
  ofs : Int := 0
  /-- R46: replica locks so far (the lag is fixed from one to the next); reset 0. -/
  locks : Nat := 0
  /-- R47: the replica is loaded from the next full-value message; reset false. -/
  reload : Bool := false
  /-- R48: full-value messages received; reset 0. -/
  msgs : Nat := 0
  /-- R48: the full-value message count at the latest recorded mismatch; reset none. -/
  lastBad : Option Nat := none
  /-- R48: launches stopped until the host resets the TB_RFAULT bit; reset false. -/
  stopped : Bool := false
  /-- R25, R51: launches on their way to the island in its gate, at most 8, in the order sent; reset empty. -/
  inFlight : List Launch := []
  /-- R25: launches whose sender waits, in order, while the gate is full; reset empty. -/
  sending : List Launch := []
  /-- R49, R50: launches held by the launch unit, in order of arrival; reset empty. -/
  held : List Launch := []
  deriving DecidableEq, Repr

/-- The Time Base block (block 0x0). -/
structure TimeBase where
  /-- R46 to R51: replicas, by island number of R64 (ANGLE is 14); an unlisted island is `{}`. -/
  isl : Tbl Replica := []
  /-- R64: TB_RFAULT, 14 bits; reset 0. -/
  rfault : Nat := 0
  /-- R65: TB_STALE.COUNT, 8 bits; reset 0. -/
  stale : Nat := 0
  /-- R61: the 64 bits captured by the last read of TB_NOW0; reset 0. -/
  cap : Nat := 0
  /-- R45, R63, R545: the tick of the latest slew (at most one in 1,024 ticks), for TB_STAT.SLEWING; reset none. -/
  lastSlew : Option Tick := none
  /-- R45: a slew to be made at the next tick: 1 doubles an increment, -1 omits one; reset 0. -/
  slew : Int := 0
  /-- R63: TB_STAT.ALIGNED; reset false. -/
  aligned : Bool := false
  deriving DecidableEq, Repr

/-- The outcome of the last accepted commit (R67). -/
inductive CommitMode where | none | cycle | launch
  deriving DecidableEq, Repr

/-- The closed staged set and its commit (R55 to R60, R67, R68). -/
structure Commit where
  /-- R67: MODE; reset none. -/
  mode : CommitMode := .none
  /-- R67: RESULT, 4 bits; reset 0. -/
  result : Nat := 0
  /-- R67: PENDING; reset false. -/
  pending : Bool := false
  /-- R67: ARMED; reset false. -/
  armed : Bool := false
  /-- R57: the tick of arming (cycle-boundary mode); reset 0. -/
  armTick : Tick := 0
  /-- R57: in launch-value mode, the decision of C - 128 let the set stand; reset false. -/
  stands : Bool := false
  /-- R68: C, 64 bits; reset 0. -/
  c : Tick := 0
  /-- R58: in cycle-boundary mode, C has been sent (B has passed); reset false. -/
  cSent : Bool := false
  /-- R57: islands (numbers of R64, ANGLE 14) whose prepare message is on its way; reset empty. -/
  prepares : List Nat := []
  /-- R57: islands whose acknowledgement is on its way to SUP; reset empty. -/
  acks : List Nat := []
  /-- R57, R617: islands that withheld their acknowledgement or have not yet acknowledged; reset empty. -/
  waiting : List Nat := []
  /-- R55: the closed staged set, by register key; reset empty. -/
  closed : Tbl Word := []
  /-- R617: register keys of the set whose shadow fails its check; reset empty. -/
  bad : List Nat := []
  /-- R658: the commit is that of the standing configuration; reset false. -/
  standing : Bool := false
  deriving DecidableEq, Repr

/-- The die bridge (R20 to R23). -/
structure Bridge where
  /-- R20, R21: the lanes whose first message has already failed its CRC once: bit 0 the fire lane, 1 the shared lane, 2 the message
  channel to the digital die; reset 0. -/
  retrying : Nat := 0
  /-- R22: the tick of the latest valid message at the DRIVE island; reset 0. -/
  lastRx : Tick := 0
  /-- R22, R48: the drive outputs are held in high impedance until the drive domains are re-enabled: bit 0 DRVA, bit 1 DRVB; reset 0. -/
  silent : Nat := 0
  deriving DecidableEq, Repr

/-- The supervisors (R42, R43). -/
structure Sup where
  /-- R42: the supervisors run; reset false (they start in the boot). -/
  running : Bool := false
  /-- R633: ROM mode, in which no image verified; reset false. -/
  rom : Bool := false
  deriving DecidableEq, Repr

/-- A row copied to a spare (19_integrity_repair.md R622 to R625). -/
structure RowMap where
  bank  : Nat
  row   : Nat
  spare : Nat
  /-- R623: the copy still runs; reads are served from the old row. -/
  copying : Bool
  /-- R623: scrubber clocks the copy still needs. -/
  left : Nat
  deriving DecidableEq, Repr

/-- One bank's scrub pass (R621). -/
structure Scrub where
  /-- R621: the next twin-word of the pass, 0 to 135,167; reset 0. -/
  pos : Nat := 0
  /-- R621: the tick the pass began; reset 0. -/
  start : Tick := 0
  /-- R621: passes completed; reset 0. -/
  passes : Nat := 0
  /-- R621: 0x2E05 has been reported for this pass; reset false. -/
  late : Bool := false
  /-- R622: addresses and syndromes (the flipped code bit) corrected in this pass; reset empty. -/
  seen : List (Nat × Nat) := []
  /-- R622: the same of the previous pass; reset empty. -/
  seenOld : List (Nat × Nat) := []
  deriving DecidableEq, Repr

/-- The Lattice (01_architecture.md R28 to R33; 19_integrity_repair.md R618 to R625, R637). -/
structure Lattice where
  /-- R32: the twin-words, 32 bits each; unlisted reads value 0x0000, complement 0xFFFF, the boot fill of R654. -/
  mem : Tbl TwinWord := []
  /-- R618: code bits (0 to 38) in error, by address; unlisted none. -/
  errs : Tbl (List Nat) := []
  /-- R619: addresses whose correction is to be written back at the bank's next scrubber clock; reset empty. -/
  writeBack : List Nat := []
  /-- R621: the scrub pass of each bank 0 to 3; reset each at 0. -/
  scrub : Tbl Scrub := []
  /-- R622 to R625: rows mapped to spares, or being copied; reset empty (kept by a reset, R638). -/
  maps : List RowMap := []
  /-- R625: the repair log in flash: bank and row of each mapping; reset empty (kept by a reset). -/
  repairLog : List (Nat × Nat) := []
  /-- R637: LAT_CNT.CE, 8 bits; reset 0. -/
  ce : Nat := 0
  /-- R637: LAT_CNT.UE, 8 bits; reset 0. -/
  ue : Nat := 0
  /-- R637: LAT_EADDR, 19 bits; reset 0. -/
  eaddr : Nat := 0
  /-- R637: LAT_EADDR_HI.UNC; reset false. -/
  eunc : Bool := false
  deriving DecidableEq, Repr

/-- One interrupt source (14_interrupts.md R457 to R468). Its EN, PRIO and TGT are IRC_SCFG in `State.regs`. -/
structure Source where
  /-- R457: COUNT, 8 bits; reset 0. -/
  count : Nat := 0
  /-- R457: OVF; reset false. -/
  ovf : Bool := false
  /-- R468: STRAY; reset false. -/
  stray : Bool := false
  /-- R468: the tick the stray timer started; reset none. -/
  strayFrom : Option Tick := none
  /-- R462, R463: in a handshake with, or held by, this target; reset none. -/
  dlv : Option Nat := none
  deriving DecidableEq, Repr

/-- One delivery target (R461 to R467). WAKE, SLEEP, IDLE are IRC_TCFG and MODI is IRC_TMOD in `State.regs`. -/
structure Target where
  /-- R462: the source in the delivery handshake; reset none. -/
  hs : Option Nat := none
  /-- R463: the source a host line holds; reset none. -/
  held : Option Nat := none
  /-- R465: the tick of the latest selection; reset none. -/
  lastSel : Option Tick := none
  /-- R463: the tick HIRQn was released; reset none. -/
  released : Option Tick := none
  deriving DecidableEq, Repr

/-- An open coalesced fault record (R469, R470). -/
structure OpenRec where
  code  : Nat
  count : Nat
  aux   : Nat
  first : Tick
  last  : Tick
  /-- R470: the record's index in the fault log; none when it was lost. -/
  index : Option Nat
  deriving DecidableEq, Repr

/-- A fault report on its way to the router (R469): its code, its detail and its tick. -/
structure Report where
  code : Nat
  aux  : Nat
  tick : Tick
  deriving DecidableEq, Repr

/-- The interrupt router and the wake latches (14_interrupts.md). -/
structure Irc where
  /-- R455, R457: the 512 sources; unlisted `{}`. -/
  src : Tbl Source := []
  /-- R461: the targets by code; unlisted `{}`. -/
  tgt : Tbl Target := []
  /-- R456: arrivals sent and not yet counted, in the order sent; reset empty. -/
  arrivals : List Nat := []
  /-- R469: fault reports sent and not yet handled; reset empty. -/
  reports : List Report := []
  /-- R469: the open records, oldest first, at most 16; reset empty. -/
  openRecs : List OpenRec := []
  /-- R470: IRC_FLWR, 9 bits; reset 0. -/
  flwr : Nat := 0
  /-- R470: IRC_FLOST, 8 bits; reset 0. -/
  flost : Nat := 0
  /-- R464: IRC_HCNT, 8 bits; reset 0. -/
  hcnt : Nat := 0
  /-- R468: IRC_STRAYCNT, 8 bits; reset 0. -/
  strayCnt : Nat := 0
  /-- R472: wake latches held, by number; reset empty. -/
  latches : List Nat := []
  /-- R472: IRC_WCAUSE, 64 bits; reset 0. -/
  wcause : Nat := 0
  /-- R693: report limits: code and subject with the period (epoch, block) they were last reported in; reset empty. -/
  limits : List ((Nat × Nat) × (Nat × Nat)) := []
  /-- R693: reporting periods counted by boundaries B and changes into or out of FULL_SYNC; reset 0. -/
  epoch : Nat := 0
  deriving DecidableEq, Repr

/-- The state of a firmware update (19_integrity_repair.md R632, R637). -/
inductive FwState where | idle | erasing | receiving | verifying | closed
  deriving DecidableEq, Repr

/-- R626: the fields that Tirore programs, in a device as it leaves Tirore: value in [15:0] and complement in [31:16]. The values
are the device's own, but for field 0 (DESIGN CHOICE, notes 7, 8). -/
def fuseFactory : Tbl Nat :=
  ((List.range 128).filter (fun n => decide (n ≤ 5) || (decide (17 ≤ n) && decide (n ≤ 80)))).map (fun n =>
    let v := if n = 0 then 1 else Config.fuseField n % 65536
    (n, v + 65536 * (65535 - v)))

/-- Fuses, firmware and the flash (19_integrity_repair.md R626 to R633, R637). -/
structure Fuse where
  /-- R626: the array: 128 fields of 32 bits, value in [15:0] and complement in [31:16]; reset `fuseFactory` (note 7). -/
  array : Tbl Nat := fuseFactory
  /-- R627: the shadows, each a twin-word; filled at boot. -/
  shadow : Tbl TwinWord := []
  /-- R629: the field being programmed and its value; reset none. -/
  prog : Option (Nat × Nat) := none
  /-- R630: the flash, 2 Mi words of 16 bits; unlisted reads 0xFFFF (erased). -/
  flash : Tbl Word := []
  /-- R630: slot A, or slot B, holds the image that Tirore programmed, which verifies (note 7); reset true, false. -/
  factoryA : Bool := true
  factoryB : Bool := false
  /-- R637: FUS_FWSTAT.STATE; reset idle. -/
  fw : FwState := .idle
  /-- R637: BOOTB; reset false. -/
  bootB : Bool := false
  /-- R637: MARKB; reset false. -/
  markB : Bool := false
  /-- R637: VRES, 4 bits; reset 0. -/
  vres : Nat := 0
  /-- R632: image length announced by FWOPEN; reset 0. -/
  len : Nat := 0
  /-- R632: words received; reset 0. -/
  received : Nat := 0
  deriving DecidableEq, Repr

/-- The state of a power domain (20_power_reset_boot.md R639). -/
inductive Dom where | on | gated | ret | off
  deriving DecidableEq, Repr

/-- A rung commanded and not yet entered (R644): its code, the port of the reply, the reply queue's words up to the reply's end, and the
tick the reply was queued. -/
structure RungEntry where
  code  : Nat
  port  : Nat
  left  : Nat
  since : Tick
  deriving DecidableEq, Repr

/-- The power block (20_power_reset_boot.md). -/
structure Power where
  /-- R639: the 12 domains by their bit; unlisted is off (before the boot); PWR_DSTAT reads 0xFFF from boot step 5. -/
  dom : Tbl Dom := []
  /-- R640: domains being switched on, with the tick C of the commit; reset empty. -/
  rising : List (Nat × Tick) := []
  /-- R643: the rung, 0 Run to 7 Vault; reset 0. -/
  rung : Nat := 0
  /-- R644: the rung commanded and not yet entered; reset none. -/
  entering : Option RungEntry := none
  /-- R649: a wake waits (its latch is set with WEN = 1); reset false. -/
  wake : Bool := false
  /-- R645: register values saved for Hold; reset empty. -/
  saved : Tbl Word := []
  /-- R646: the last Time Base tick before the clock stopped; reset 0. -/
  tbStop : Tick := 0
  /-- R655: READY; reset false. -/
  ready : Bool := false
  /-- R544: the tick of READY; reset 0. -/
  readyAt : Tick := 0
  /-- R655: HIRQ3 is low for the READY pulse until this tick; reset none. -/
  readyPulse : Option Tick := none
  /-- R660: LIMITED; reset false. -/
  limited : Bool := false
  /-- R660: the commit tick of the standing configuration; reset 0. -/
  limFrom : Tick := 0
  /-- R660: HLTMO of the standing configuration, 16 bits; reset 0. -/
  hltmo : Nat := 0
  /-- R642: VGD is good; reset false. -/
  vgdok : Bool := false
  /-- R642: 0x3F45 reported in this episode; reset false. -/
  vgdRep : Bool := false
  /-- R646: TBREST; reset false. -/
  tbrest : Bool := false
  /-- R651: PWR_RCAUSE, 4 bits; reset 1 (power-on). -/
  rcause : Nat := 1
  /-- R649: PWR_WAKE, 3 bits; reset 0. -/
  wakeFrom : Nat := 0
  /-- R657: CFGERASE in progress; reset false. -/
  cfgBusy : Bool := false
  /-- R662: PWR_CFGSTAT.RES, 4 bits; reset 0. -/
  cfgRes : Nat := 0
  /-- R664: keep periods left on the keep timer, 32 bits; reset 0. -/
  ktim : Nat := 0
  /-- R664: the keep timer runs; reset false. -/
  ktRun : Bool := false
  /-- R649: the keep domain's VERIFIED mark; reset false. -/
  verified : Bool := false
  /-- R650: PWREN is high; reset true. -/
  pwren : Bool := true
  /-- R652: a command reset waits: the tick its reply was queued; reset none. -/
  resetAt : Option Tick := none
  /-- R654: a device reset has been performed and the cold boot has not run; reset true. -/
  booting : Bool := true
  /-- R649: the rung the boot follows: 5 Keep, 6 Still; 0 a reset; reset 0. -/
  bootFrom : Nat := 0
  /-- R651: domains that stayed powered through the reset; reset empty. -/
  kept : List Nat := []
  deriving DecidableEq, Repr

end Sys2Proof.Machine
end

