-- ==== Sys2Proof/Machine/StateDrive.lean ====
section
/-! DEFINITION. The state of the DRIVE island: solenoid banks, boost controllers, ignition outputs, valves. -/

namespace Sys2Proof.Machine

/-- The regulator phases (09_solenoid_drive.md R277). -/
inductive Phase where | idle | boost | peak | trans1 | hold1 | trans2 | hold2 | decay
  deriving DecidableEq, Repr

/-- The states of a low-side gate that a regulator commands (R270, R277). -/
inductive Low where | off | on | clamp
  deriving DecidableEq, Repr

/-- The phase and the gates of a bank from a tick on. -/
structure Gates where
  tick  : Tick := 0
  phase : Phase := .idle
  hsb   : Bool := false
  hsv   : Bool := false
  ls    : Low := .off
  deriving DecidableEq, Repr

/-- A start in the DRIVE island that has not begun (R285 to R290). -/
structure Start where
  out     : Nat
  org     : Origin
  profile : Nat
  /-- p, the latched pin time. -/
  p       : Tick
  /-- W; none when unlimited. -/
  w       : Option Nat
  la      : Nat
  /-- DUR of a PULSE in ticks. -/
  dur     : Option Nat
  /-- Conditions 1 to 3 of R287 have delayed it. -/
  blocked : Bool
  /-- R330: BOOST_NOT_READY has been counted for it. -/
  bnr     : Bool
  deriving DecidableEq, Repr

/-- A solenoid bank and its regulator. -/
structure Bank where
  /-- R277: phase and gates, newest first; empty stands for IDLE with all gates off; reset empty. -/
  hist : List Gates := []
  /-- R277: the channel, 0 to 3, of the pulse in progress; reset 0. -/
  ch : Nat := 0
  /-- R287: S of the pulse; reset 0. -/
  s : Tick := 0
  /-- The event of the pulse; reset all 0. -/
  org : Origin := ⟨0, false, false, 0, false⟩
  /-- R276: the working copy the pulse started with: twin-words 0 to 22 of its profile; reset empty. -/
  prof : List Nat := []
  /-- R293: DUR of a PULSE in ticks still to end; reset none. -/
  dur : Option Nat := none
  /-- R277: a battery-source BOOST; reset false. -/
  batt : Bool := false
  /-- R281: the tick of HSVx's latest change; reset 0. -/
  hsvAt : Tick := 0
  /-- R281: a deferred switch of HSVx; reset none. -/
  want : Option Bool := none
  /-- R330: the code of the latest sample acted on in the pulse; reset none. -/
  last : Option Nat := none
  /-- R330: the open-load check is made, or waits for the first sample; reset false. -/
  olDone : Bool := false
  olWait : Bool := false
  /-- R331: ECL, 32 bits; reset 0. -/
  ecl : Nat := 0
  /-- R284: the end tick of the pulse; reset 0. -/
  endTick : Tick := 0
  /-- R286: Eb, the end tick of the bank's latest pulse; reset none. -/
  eb : Option Tick := none
  /-- R283: the tick the regulator last returned to IDLE; reset 0. -/
  idleAt : Tick := 0
  /-- R295: READY has been reported since BEN became 1; reset false. -/
  readySeen : Bool := false
  deriving DecidableEq, Repr

/-- The switching cycle of a boost controller (R297): no cycle, step 1 (on), step 3 (off). -/
inductive BoostFet where | rest | on | off
  deriving DecidableEq, Repr

/-- A boost controller (R296 to R299, R306). -/
structure Boost where
  /-- R306: V, 12 bits; reset 0. -/
  v : Nat := 0
  /-- R297: charging; reset false. -/
  chg : Bool := false
  /-- R298: OVP; reset false. -/
  ovp : Bool := false
  /-- R297: BSTGn's cycle and the tick of its latest change; reset at rest, 0. -/
  fet : BoostFet := .rest
  since : Tick := 0
  deriving DecidableEq, Repr

/-- A current trace in progress (R301). -/
structure Trace where
  bank : Nat
  base : Nat
  dec  : Nat
  len  : Nat
  /-- Samples taken so far. -/
  seen : Nat
  deriving DecidableEq, Repr

/-- The states of an ignition output (10_ignition_valves_diagnostics.md R309). -/
inductive IgnState where | low | dwell | ramp | highZ
  deriving DecidableEq, Repr

/-- An ignition output. -/
structure Ign where
  /-- R309: reset LOW. -/
  st : IgnState := .low
  /-- The tick it entered the state; reset 0. -/
  since : Tick := 0
  /-- R316: the tick the ramp ends; reset 0. -/
  rampEnd : Tick := 0
  /-- R316: the tick in which the dwell that a soft end ended had begun; reset 0. -/
  dwellFrom : Tick := 0
  /-- R311: S and DUR of a PULSE in ticks still to end; reset none. -/
  dur : Option (Tick × Nat) := none
  /-- R318: the latest tick in which an output fault was found in this stay; reset none. -/
  found : Option Tick := none
  deriving DecidableEq, Repr

/-- A proportional valve (R319 to R327). -/
structure Valve where
  /-- R322: PWM periods run; reset false. -/
  run : Bool := false
  /-- R322: the start of the period; reset 0. -/
  start : Tick := 0
  /-- R322: PER and DMAX of the period; reset 250, 0xF333. -/
  per : Nat := 250
  dmax : Nat := 0xF333
  /-- R337: D, the duty of the period, 16 bits; reset 0. -/
  d : Nat := 0
  /-- R322: the gate is on; reset false. -/
  gate : Bool := false
  /-- R326: the gate is off from this tick to the end of the period; reset none. -/
  ocOff : Option Tick := none
  /-- R323: iset_d of the period; reset 0. -/
  iset : Nat := 0
  /-- R323: the sum of the period's samples; reset 0. -/
  sum : Nat := 0
  /-- R323: integ, 24 bits; reset 0. -/
  integ : Nat := 0
  /-- R324: periods since the dither sequence began; reset 0. -/
  dith : Nat := 0
  /-- R326: the run lengths of the diagnostics; reset 0. -/
  ocRun : Nat := 0
  olRun : Nat := 0
  satRun : Nat := 0
  /-- R337: LATCH, OL, SAT; reset false. -/
  latch : Bool := false
  ol : Bool := false
  sat : Bool := false
  /-- R337: IMEAN, 12 bits; reset 0. -/
  imean : Nat := 0
  /-- R325: an angle pulse is in progress; reset false. -/
  pulse : Bool := false
  /-- R311: S and DUR of a PULSE in ticks still to end; reset none. -/
  dur : Option (Tick × Nat) := none
  deriving DecidableEq, Repr

/-- The DRIVE island (09_solenoid_drive.md, 10_ignition_valves_diagnostics.md). -/
structure Drive where
  /-- R285: starts that have not begun, in order of arrival; reset empty. -/
  waiting : List Start := []
  /-- R267: the banks 0 to 5 (A to F); unlisted `{}`. -/
  banks : Tbl Bank := []
  /-- R286: Ec, the end tick of each channel's previous pulse, by output; unlisted none. -/
  ec : Tbl (Option Tick) := []
  /-- R275, R276, R615: the working copies, 64 profiles of 23 values; held twice on the device; reset none loaded. -/
  profs : Tbl (List Nat) := []
  /-- R304: LOADED, LRES, PROF; reset 0. -/
  loaded : Bool := false
  lres : Nat := 0
  prof : Nat := 0
  /-- R275: the profiles that the read before a commit found valid; none after a failed read; reset none. -/
  load : Option (List (List Nat)) := none
  /-- R305: BANK_CONFLICT, 6 bits; DELAYS and DROPS, 8 bits; reset 0. -/
  cflag : Nat := 0
  delays : Nat := 0
  drops : Nat := 0
  /-- R305: DRV_DROP_TAG; REASON and OUT of DRV_DROP_INFO; reset 0. -/
  dropTag : Nat := 0
  dropReason : Nat := 0
  dropOut : Nat := 0
  /-- R296: the boost controllers and the battery monitor's latest result, 12 bits; reset 0. -/
  boost0 : Boost := {}
  boost1 : Boost := {}
  vbat : Nat := 0
  /-- R301: a capture in progress; reset none. -/
  trc : Option Trace := none
  /-- R307: DONE, CH, NS; reset 0. -/
  trcDone : Bool := false
  trcCh : Nat := 0
  trcNs : Nat := 0
  /-- R335: OPEN, SHORT, PNR, CLAMP, BNR, DECTMO, 8 bits each; reset 0. -/
  dgOpen : Nat := 0
  dgShort : Nat := 0
  dgPnr : Nat := 0
  dgClamp : Nat := 0
  dgBnr : Nat := 0
  dgDec : Nat := 0
  /-- R335: open-load and shorted-load flags, 24 bits each; reset 0. -/
  olFlags : Nat := 0
  scFlags : Nat := 0
  /-- R335: DRV_DG_TAG; KIND, PHASE, OUT of DRV_DG_INFO; ECL; reset 0. -/
  dgTag : Nat := 0
  dgInfo : Nat := 0
  dgEcl : Nat := 0
  /-- R309: the ignition outputs 0 to 23; unlisted `{}`. -/
  ign : Tbl Ign := []
  /-- R336: IGN_FLT, 24 bits; reset 0. -/
  ignFlt : Nat := 0
  /-- R336: OVERDWELL (8 bits), SHORTDWELL, DROPS (4 bits); reset 0. -/
  overdwell : Nat := 0
  shortdwell : Nat := 0
  ignDrops : Nat := 0
  /-- R336: IGN_DROP_TAG, REASON and OUT of IGN_DROP_INFO; reset 0. -/
  ignDropTag : Nat := 0
  ignDropReason : Nat := 0
  ignDropOut : Nat := 0
  /-- R319: the valves 0 to 7; unlisted `{}`. -/
  valves : Tbl Valve := []
  /-- R337: LATCHES and OPENS, 8 bits each; reset 0. -/
  latches : Nat := 0
  opens : Nat := 0
  deriving DecidableEq, Repr

end Sys2Proof.Machine
end

