-- ==== Sys2Proof/Machine/Util.lean ====
section
/-! DEFINITION. Bit fields, signed numbers, checks and sparse tables: the plain helpers every family uses. -/

namespace Sys2Proof

/-- Bits [hi:lo] of a number (00_scope.md R13). -/
def bits (w hi lo : Nat) : Nat := (w / 2 ^ lo) % 2 ^ (hi + 1 - lo)

/-- Bit i of a number. -/
def bit (w i : Nat) : Bool := (w / 2 ^ i) % 2 == 1

/-- A Bool as a number. -/
def b2n (b : Bool) : Nat := if b then 1 else 0

/-- The number with bit i set to b. -/
def setBit (w i : Nat) (b : Bool) : Nat :=
  if bit w i then (if b then w else w - 2 ^ i) else (if b then w + 2 ^ i else w)

/-- The word of a number, its low 16 bits. -/
def toWord (n : Nat) : Word := BitVec.ofNat 16 n

/-- Word i of a number that lies low word first (R11). -/
def wordOf (n i : Nat) : Word := BitVec.ofNat 16 (n / 2 ^ (16 * i))

/-- A number from words, low word first (R11). -/
def ofWords : List Word → Nat
  | [] => 0
  | w :: ws => w.toNat + 65536 * ofWords ws

/-- The lowest `k` words of a number, low word first (R11). -/
def wordsOf (n : Nat) : Nat → List Word
  | 0 => []
  | k + 1 => toWord n :: wordsOf (n / 65536) k

/-- An n-bit two's complement number read as an integer. -/
def signedOf (n v : Nat) : Int :=
  let m := v % 2 ^ n
  if m < 2 ^ (n - 1) then (m : Int) else (m : Int) - (2 ^ n : Nat)

/-- An integer as an n-bit two's complement number (wrapping). -/
def ofSigned (n : Nat) (i : Int) : Nat := (i % ((2 ^ n : Nat) : Int)).toNat

/-- An integer limited to lo..hi. -/
def clampInt (lo hi i : Int) : Int := if i < lo then lo else if hi < i then hi else i

/-- A count that saturates at `top`. -/
def satInc (top n : Nat) : Nat := if n < top then n + 1 else n

/-- A count that saturates at `top`, raised by k. -/
def satAdd (top n k : Nat) : Nat := if n + k ≤ top then n + k else (if n ≤ top then top else n)

/-- Division rounded to the nearest integer, ties to the even value (the rounding of 00_scope.md R6). -/
def divRoundEven (a b : Nat) : Nat :=
  let q := a / b
  let r := a % b
  if 2 * r < b then q else if b < 2 * r then q + 1 else if q % 2 == 0 then q else q + 1

/-- Integer division that rounds towards zero. -/
def tdiv (a b : Int) : Int := Int.tdiv a b

/-- Integer division that rounds down (an arithmetic right shift when b is a power of two). -/
def fdiv (a b : Int) : Int := Int.fdiv a b

/-- Integer division rounded to nearest, halves away from zero. -/
def rdivAway (a : Int) (b : Nat) : Int :=
  if 0 ≤ a then ((2 * a.toNat + b) / (2 * b) : Nat) else - ((2 * (-a).toNat + b) / (2 * b) : Nat)

/-- Integer division rounded to nearest, ties to even. -/
def rdivEven (a : Int) (b : Nat) : Int :=
  if 0 ≤ a then (divRoundEven a.toNat b : Nat) else - (divRoundEven (-a).toNat b : Nat)

/-- The value of a sparse table at a key, with the default it holds where nothing is listed. -/
def Tbl.get {α : Type} (d : α) (k : Nat) : Tbl α → α
  | [] => d
  | (j, v) :: t => if j = k then v else Tbl.get d k t

/-- A sparse table without its entry at a key. -/
def Tbl.erase {α : Type} (k : Nat) : Tbl α → Tbl α
  | [] => []
  | (j, v) :: t => if j = k then Tbl.erase k t else (j, v) :: Tbl.erase k t

/-- A sparse table with a value listed at a key, in the key's place. -/
def Tbl.insert {α : Type} (k : Nat) (v : α) : Tbl α → Tbl α
  | [] => [(k, v)]
  | (j, w) :: t => if j = k then (k, v) :: t else if k < j then (k, v) :: (j, w) :: t else (j, w) :: Tbl.insert k v t

/-- A sparse table with a value stored at a key: storing the default removes the entry, so that equal tables are equal data. -/
def Tbl.put {α : Type} [DecidableEq α] (d : α) (k : Nat) (v : α) (t : Tbl α) : Tbl α :=
  if v = d then Tbl.erase k t else Tbl.insert k v t

/-- The canonical form of a sparse table: keys strictly rising, and no entry equal to the default. -/
def Tbl.wf {α : Type} [DecidableEq α] (d : α) : Tbl α → Bool
  | [] => true
  | [(_, v)] => decide (v ≠ d)
  | (j, v) :: (k, w) :: t => decide (j < k) && decide (v ≠ d) && Tbl.wf d ((k, w) :: t)

/-- The element of a list at an index, with a default beyond its end. -/
def nth {α : Type} (d : α) (l : List α) (i : Nat) : α := l.getD i d

/-- Every element changed by its index. -/
def mapIdxFrom {α β : Type} (f : Nat → α → β) : Nat → List α → List β
  | _, [] => []
  | i, a :: l => f i a :: mapIdxFrom f (i + 1) l

/-- A function run over the numbers i, i+1, … (n of them), from first to last. -/
def forUpTo {σ : Type} (f : Nat → σ → σ) : Nat → Nat → σ → σ
  | _, 0, s => s
  | i, n + 1, s => forUpTo f (i + 1) n (f i s)

/-- A list split at its first element that satisfies p: that element and the list without it. -/
def takeFirst {α : Type} (p : α → Bool) : List α → Option (α × List α)
  | [] => none
  | a :: l => if p a then some (a, l) else
    match takeFirst p l with
    | none => none
    | some (x, r) => some (x, a :: r)

/-- One byte into the CRC-16 of 16_command_ports.md R501 (polynomial 0x1021, most significant bit first). -/
def crc16Bit (c : Nat) : Nat :=
  if 32768 ≤ c then ((c * 2) % 65536) ^^^ 0x1021 else c * 2

/-- A step repeated n times. -/
def iter {α : Type} (f : α → α) : Nat → α → α
  | 0, a => a
  | n + 1, a => iter f n (f a)

/-- One byte into the CRC-16 of R501. -/
def crc16Byte (c b : Nat) : Nat := iter crc16Bit 8 (c ^^^ (b * 256))

/-- One word, high byte first, into the CRC-16 of R501. -/
def crc16Word (c : Nat) (w : Word) : Nat := crc16Byte (crc16Byte c (w.toNat / 256)) (w.toNat % 256)

/-- The CRC-16 of R501 over words, from the initial value 0xFFFF. -/
def crc16 (ws : List Word) : Nat := ws.foldl crc16Word 0xFFFF

/-- The integer square root, rounded down. -/
def isqrtGo : Nat → Nat → Nat → Nat
  | 0, r, _ => r
  | k + 1, r, n => if (r + 2 ^ k) * (r + 2 ^ k) ≤ n then isqrtGo k (r + 2 ^ k) n else isqrtGo k r n

/-- The integer square root of a number below 2^128, rounded down. -/
def isqrt (n : Nat) : Nat := isqrtGo 64 0 n

end Sys2Proof
end

