-- ==== Sys2Proof/Machine/Flags.lean ====
section
/-! DEFINITION. The flags of a Larlar lane and the results of its arithmetic (12_larlar_isa.md R391 to R398, R408). -/

namespace Sys2Proof.Machine

/-- The flags of a lane (11_lanes.md R347). -/
structure Flags where
  z  : Bool := false
  n  : Bool := false
  c  : Bool := false
  v  : Bool := false
  dz : Bool := false
  deriving DecidableEq, Repr

/-- The flags item (R347): DZ in [4], V in [3], C in [2], N in [1], Z in [0]. -/
def Flags.word (f : Flags) : Nat := b2n f.dz * 16 + b2n f.v * 8 + b2n f.c * 4 + b2n f.n * 2 + b2n f.z

/-- The flags that a value of the flags item sets (R402). -/
def flagsOf (w : Nat) : Flags := { z := bit w 0, n := bit w 1, c := bit w 2, v := bit w 3, dz := bit w 4 }

/-- R391: Z and N of a 16-bit result. -/
def Flags.zn (f : Flags) (r : Nat) : Flags := { f with z := decide (r % 65536 = 0), n := bit r 15 }

/-- R391: Z and N of a 32-bit result. -/
def Flags.zn32 (f : Flags) (r : Nat) : Flags := { f with z := decide (r % 0x100000000 = 0), n := bit r 31 }

/-- R391: an addition with carry in: the result and the flags. -/
def addFlags (f : Flags) (x y cin : Nat) : Nat × Flags :=
  let t := x + y + cin
  let r := t % 65536
  (r, { (f.zn r) with c := decide (65536 ≤ t), v := (bit x 15 == bit y 15) && (bit r 15 != bit x 15) })

/-- R391: a subtraction, formed as x + NOT y + cin. -/
def subFlags (f : Flags) (x y cin : Nat) : Nat × Flags := addFlags f x (65535 - y % 65536) cin

/-- R392: the condition cc holds. -/
def Flags.holds (f : Flags) (cc : Nat) : Bool :=
  match cc with
  | 0x0 => true
  | 0x1 => f.z
  | 0x2 => !f.z
  | 0x3 => f.c
  | 0x4 => !f.c
  | 0x5 => f.n
  | 0x6 => !f.n
  | 0x7 => f.v
  | 0x8 => !f.v
  | 0x9 => f.c && !f.z
  | 0xA => !f.c || f.z
  | 0xB => f.n == f.v
  | 0xC => f.n != f.v
  | 0xD => !f.z && (f.n == f.v)
  | 0xE => f.z || (f.n != f.v)
  | _ => f.dz

/-- R394: a 32-bit product: Z and N from the product, C and V cleared. -/
def mulFlags (f : Flags) (p : Nat) : Flags := { (f.zn32 p) with c := false, v := false }

/-- The two's complement value of a 16-bit register. -/
def s16 (x : Nat) : Int := signedOf 16 x

/-- R395, DIVU: quotient, remainder and flags. -/
def divuOf (f : Flags) (x y : Nat) : Nat × Nat × Flags :=
  if y = 0 then (0xFFFF, x, { (f.zn 0xFFFF) with c := false, v := false, dz := true })
  else (x / y, x % y, { (f.zn (x / y)) with c := false, v := false })

/-- R395, DIVS: quotient, remainder and flags. -/
def divsOf (f : Flags) (x y : Nat) : Nat × Nat × Flags :=
  if y = 0 then
    let q := if bit x 15 then 0x8000 else 0x7FFF
    (q, x, { (f.zn q) with c := false, v := false, dz := true })
  else if x = 0x8000 ∧ y = 0xFFFF then (0x8000, 0, { (f.zn 0x8000) with c := false, v := true })
  else
    let q := ofSigned 16 (Int.tdiv (s16 x) (s16 y))
    (q, ofSigned 16 (Int.tmod (s16 x) (s16 y)), { (f.zn q) with c := false, v := false })

/-- R397: SHL and SHLI. -/
def shlOf (f : Flags) (x s : Nat) : Nat × Flags :=
  if s = 0 then (x, f.zn x)
  else
    let r := if 16 ≤ s then 0 else x * 2 ^ s % 65536
    (r, { (f.zn r) with c := if s ≤ 16 then bit x (16 - s) else false, v := false })

/-- R397: SHR and SHRI. -/
def shrOf (f : Flags) (x s : Nat) : Nat × Flags :=
  if s = 0 then (x, f.zn x)
  else
    let r := if 16 ≤ s then 0 else x / 2 ^ s
    (r, { (f.zn r) with c := if s ≤ 16 then bit x (s - 1) else false, v := false })

/-- R397: SAR and SARI. -/
def sarOf (f : Flags) (x s : Nat) : Nat × Flags :=
  if s = 0 then (x, f.zn x)
  else
    let r := if 16 ≤ s then (if bit x 15 then 0xFFFF else 0) else ofSigned 16 (fdiv (s16 x) (2 ^ s : Nat))
    (r, { (f.zn r) with c := if s ≤ 16 then bit x (s - 1) else bit x 15, v := false })

/-- R397: ROR and RORI. -/
def rorOf (f : Flags) (x s : Nat) : Nat × Flags :=
  if s = 0 then (x, f.zn x)
  else
    let k := s % 16
    let r := (x / 2 ^ k + x * 2 ^ (16 - k)) % 65536
    (r, { (f.zn r) with c := bit r 15, v := false })

/-- R397: ROL. -/
def rolOf (f : Flags) (x s : Nat) : Nat × Flags :=
  if s = 0 then (x, f.zn x)
  else
    let k := s % 16
    let r := (x * 2 ^ k + x / 2 ^ (16 - k)) % 65536
    (r, { (f.zn r) with c := bit r 0, v := false })

/-- R398: how many of the lowest n bits are 1. -/
def onesOf (x : Nat) : Nat → Nat
  | 0 => 0
  | n + 1 => b2n (bit x n) + onesOf x n

/-- R398: the lowest n bits in reverse order. -/
def reverseBits (x : Nat) : Nat → Nat
  | 0 => 0
  | n + 1 => reverseBits (x / 2) n + b2n (bit x 0) * 2 ^ n

/-- R408: one step of the CRC of CRCB, with R and the polynomial. -/
def crcStep (r : Bool) (poly c : Nat) : Nat :=
  if r then (if bit c 0 then (c / 2) ^^^ poly else c / 2)
  else (if bit c 15 then (c * 2 % 65536) ^^^ poly else c * 2 % 65536)

/-- R408: one byte into the CRC of CRCB. -/
def crcbOf (r : Bool) (poly c byte : Nat) : Nat :=
  iter (crcStep r poly) 8 (if r then c ^^^ byte else c ^^^ (byte * 256))

/-- R165, R418: one byte into the reflected CRC-32. -/
def crc32Byte (c byte : Nat) : Nat :=
  iter (fun x => if bit x 0 then (x / 2) ^^^ 0xEDB88320 else x / 2) 8 (c ^^^ byte)

/-- R418: one byte into the FNV-1a hash. -/
def fnvByte (h byte : Nat) : Nat := (h ^^^ byte) * 16777619 % 0x100000000

end Sys2Proof.Machine
end

