-- ==== Sys2Proof/Machine/Operands.lean ====
section
/-! DEFINITION. The instruction words of the Larlar lanes: mnemonics, word formats and operand forms
(12_larlar_isa.md R387 to R421). -/

namespace Sys2Proof.Machine

/-- The lane instructions (R390, R412, R414, R417 to R421). -/
inductive Mn where
  | nop | halt | ret | retv | trap | jr
  | add | adc | sub | sbc | land | lor | lxor | cmp | mov | tst | neg | lnot
  | mulu | muls | divu | divs | shl | shr | sar | ror | rol | par | brev | swpb
  | shli | shri | sari | rori | addi | subi | cmpi | movi | brevn
  | ld | st | ldi | lda | sta | jmp | call | djnz | br
  | mfsl | mfsh | mtsl | mtsh | ctcRun | ctcStop | ctcClear
  | pclr | pset | ptgl | pmovc | wait | shift | crcb | rep | bmov | bfil | bcmp | bcrc
  | tang | trate | tpred | trpm | tsyn | tvtx | ta2t
  | c32i | c32w | c32f | c16w | hshi | hshw
  | lwr | lww | lwri | lwwi | ewr | earm | ecan
  | pstat | pmax | imep | qmax | a1050 | a90lat | kstat | kint
  deriving DecidableEq, Repr

/-- A decoded instruction: the mnemonic, A, rs (B[7:5]), B as a number, the second word, D, and its length in words. -/
structure LarWord where
  mn  : Mn
  a   : Nat
  rs  : Nat
  b   : Nat
  w   : Nat
  d   : Nat
  len : Nat
  deriving DecidableEq, Repr

/-- R390: OP 0x00, by A and B. HALT and TRAP have no D (R388). -/
def decodeOp0 (a b d : Nat) : Option Mn :=
  if a = 0 then (if b = 0 then some .nop else none)
  else if a = 1 then (if b = 0 ∧ d = 0 then some .halt else none)
  else if a = 2 then (if b = 0 then some .ret else none)
  else if a = 3 then (if b = 0 then some .retv else none)
  else if a = 4 then (if d = 0 then some .trap else none)
  else if a = 5 then (if b % 4 = 0 then some .jr else none)
  else none

/-- One of four mnemonics, by fn in the order listed (R390). -/
def byFn (fn : Nat) (m0 m1 m2 m3 : Mn) : Mn :=
  match fn with
  | 0 => m0
  | 1 => m1
  | 2 => m2
  | _ => m3

/-- R390: OP 0x12, by its kind; `w` is the second word. -/
def decodeOp12 (a kind w : Nat) : Option Mn :=
  match kind with
  | 0 => some .ldi
  | 1 => if w < 2048 then some .lda else none
  | 2 => if w < 2048 then some .sta else none
  | 3 => if a = 0 ∧ w < 4096 then some .jmp else none
  | 4 => if a = 0 ∧ w < 4096 then some .call else none
  | 5 => if w < 4096 then some .djnz else none
  | _ => none

/-- R401: the lane state items that MFSL, MFSH, MTSL and MTSH reach. -/
def mfslOk (i : Nat) : Bool := decide (8 ≤ i)
def mfshOk (i : Nat) : Bool := decide (8 ≤ i) && decide (i ≤ 0x10)
def mtslOk (i : Nat) : Bool :=
  (decide (8 ≤ i) && decide (i ≤ 0xD)) || (decide (0x10 ≤ i) && decide (i ≤ 0x15)) || decide (i = 0x17)
def mtshOk (i : Nat) : Bool := (decide (8 ≤ i) && decide (i ≤ 0xD)) || decide (i = 0x10)

/-- R417 to R421: the functions of the attached extension units. -/
def extMn (unit fn : Nat) : Option Mn :=
  match unit with
  | 0 => [Mn.tang, .trate, .tpred, .trpm, .tsyn, .tvtx, .ta2t][fn]?
  | 1 => [Mn.c32i, .c32w, .c32f, .c16w, .hshi, .hshw][fn]?
  | 2 => [Mn.lwr, .lww, .lwri, .lwwi][fn]?
  | 3 => [Mn.ewr, .earm, .ecan][fn]?
  | 4 => [Mn.pstat, .pmax, .imep, .qmax, .a1050, .a90lat, .kstat, .kint][fn]?
  | _ => none

/-- R412, R414: OP 0x1D in the cluster's repeat style. -/
def decodeOp1D (v : Nat) (blocks : Bool) : Option Mn :=
  if blocks then
    let op := bits v 10 9
    if bits v 4 3 ≠ 0 then none
    else if op ≠ 1 ∧ bits v 8 6 ≠ 0 then none
    else if op ≠ 3 ∧ bit v 5 = true then none
    else some (byFn op .bmov .bfil .bcmp .bcrc)
  else if bits v 2 0 ≠ 0 then none
  else if bit v 9 = false ∧ bits v 5 3 ≠ 0 then none
  else some .rep

/-- R387, R389, R390: the mnemonic of an instruction word, with the second word `w` and the cluster's repeat style; none where the
encoding is undefined. -/
def mnOf (v w : Nat) (blocks : Bool) : Option Mn :=
  let op := bits v 15 11
  let a := bits v 10 8
  let b := bits v 7 3
  let fn := b % 4
  match op with
  | 0x00 => decodeOp0 a b (v % 8)
  | 0x01 => some (byFn fn .add .adc .sub .sbc)
  | 0x02 => some (byFn fn .land .lor .lxor .cmp)
  | 0x03 => some (byFn fn .mov .tst .neg .lnot)
  | 0x04 => if a % 2 = 0 then some (byFn fn .mulu .muls .divu .divs) else none
  | 0x05 => some (byFn fn .shl .shr .sar .ror)
  | 0x06 => some (byFn fn .rol .par .brev .swpb)
  | 0x07 => some .shli
  | 0x08 => some .shri
  | 0x09 => some .sari
  | 0x0A => some .rori
  | 0x0B => some .addi
  | 0x0C => some .subi
  | 0x0D => some .cmpi
  | 0x0E => some .movi
  | 0x0F => if 1 ≤ b ∧ b ≤ 16 then some .brevn else none
  | 0x10 => if fn = 3 then none else some .ld
  | 0x11 => if fn = 3 then none else some .st
  | 0x12 => if fn = 0 then decodeOp12 a (b / 4) w else none
  | 0x13 => if bits v 6 3 = 0 ∧ w < 4096 then some .br else none
  | 0x14 => if mfslOk b then some .mfsl else none
  | 0x15 => if mfshOk b then some .mfsh else none
  | 0x16 => if mtslOk b then some .mtsl else none
  | 0x17 => if mtshOk b then some .mtsh else none
  | 0x18 => if a < 2 ∧ b < 3 then some (byFn b .ctcRun .ctcStop .ctcClear .ctcClear) else none
  | 0x19 => if b < 4 then some (byFn b .pclr .pset .ptgl .pmovc) else none
  | 0x1A => if a = 0 ∧ (fn < 2 ∨ b / 4 < 2) then some .wait else none
  | 0x1B => some .shift
  | 0x1C => some .crcb
  | 0x1D => decodeOp1D v blocks
  | _ => extMn (bits v 11 8) b

/-- R387: the length of an instruction in words. -/
def lenOf (v : Nat) : Nat := if bits v 15 11 = 0x12 ∨ bits v 15 11 = 0x13 then 2 else 1

/-- R387, R389: the instruction of a word and the word that follows it; none where it is undefined. -/
def decodeLar (v w : Nat) (blocks : Bool) : Option LarWord :=
  match mnOf v w blocks with
  | some m =>
    some { mn := m, a := bits v 10 8, rs := bits v 7 5, b := bits v 7 3, w := w
           d := if m = .halt ∨ m = .trap ∨ m = .rep then 0 else v % 8, len := lenOf v }
  | none => none

/-- R413: a word that REP may repeat: one word, of OP 0x01 to 0x11, 0x14 to 0x1C, 0x1E and 0x1F. -/
def repeatable (v : Nat) : Bool :=
  let op := bits v 15 11
  (decide (1 ≤ op) && decide (op ≤ 0x11)) || (decide (0x14 ≤ op) && decide (op ≤ 0x1C)) || decide (0x1E ≤ op)

/-- R392: the condition field of BR, with the flags. -/
def condOf (v : Nat) : Nat := bits v 10 7

end Sys2Proof.Machine
end

