-- ==== Sys2Proof/Machine/StateAngle.lean ====
section
/-! DEFINITION. The state of the ANGLE island: wheel inputs, synchronisation, the Tangent, events and queues. -/

namespace Sys2Proof.Machine

/-- A vertex record (03_wheel_inputs.md R88). -/
structure Vertex where
  stamp  : Tick
  period : Nat
  dir    : Nat := 0
  gap    : Bool := false
  lvl    : Bool := false
  pos    : Nat := 0x1FF
  half   : Bool := false
  peak   : Nat := 0
  seq    : Nat := 0
  deriving DecidableEq, Repr

/-- One wheel input: crank inputs 0 and 1, cam inputs 2 to 5 (the INPUT code of R102). -/
structure Input where
  /-- R87: the vertex history, newest first, at most 64 (crank) or 32 (cam); reset empty. -/
  hist : List Vertex := []
  /-- R77, R79: the stamp of the last accepted edge; reset none. -/
  lastV : Option Tick := none
  /-- R80: the last accepted period, 32 bits; reset 0xFFFF_FFFF (no previous vertex, R88). -/
  per1 : Nat := 0xFFFFFFFF
  /-- R80: the accepted period before it; reset 0xFFFF_FFFF. -/
  per2 : Nat := 0xFFFFFFFF
  /-- R88: accepted vertices since reset; reset 0. -/
  seq : Nat := 0
  /-- R100: the synchronised level; reset false. -/
  level : Bool := false
  /-- R101: spacing rejections (8 bits, 4 for a cam); reset 0. -/
  spacing : Nat := 0
  /-- R101: noise rejections, 8 bits; reset 0. -/
  noise : Nat := 0
  /-- R102: AMBIG count, 4 bits; reset 0. -/
  ambig : Nat := 0
  /-- R72: the VR arming threshold in eighths of 50 mV; none stands for FLOOR; reset none (R73). -/
  arm : Option Nat := none
  /-- R73: the tick of the last zero crossing; reset 0. -/
  lastCross : Tick := 0
  /-- R74: the VR peak records on their way, oldest first: crossing stamp and peak code; reset empty. -/
  peakRec : List (Tick × Nat) := []
  /-- R82: the stamp of the edge whose direction is undecided; reset none. -/
  dirOpen : Option Tick := none
  /-- R100: the last decided direction, 2 bits; reset 0. -/
  lastDir : Nat := 0
  /-- R92: cam edges accepted in the counting interval; reset 0. -/
  edges : Nat := 0
  /-- R92: the interval of `edges`: epoch and block of R693; reset (0, 0). -/
  ival : Nat × Nat := (0, 0)
  deriving DecidableEq, Repr

/-- The wheel inputs (03_wheel_inputs.md). -/
structure Wheel where
  /-- The inputs by INPUT code; unlisted `{}`. -/
  inp : Tbl Input := []
  /-- R93: stamp of the latest rejected edge, 64 bits; reset 0. -/
  rejT : Tick := 0
  /-- R102: its INPUT, 3 bits; reset 0. -/
  rejInput : Nat := 0
  /-- R102: its REASON, 2 bits; reset 0. -/
  rejReason : Nat := 0
  /-- R103: the captured record, 8 words; reset all 0. -/
  vtxD : List Word := []
  deriving DecidableEq, Repr

/-- The states of the synchronisation machine (04_sync.md R111). -/
inductive SyncState where
  | search | toothLock | crankSync | fullSync | reverse | stall
  deriving DecidableEq, Repr

/-- A condition of R113 that has been found and on which the machine has not acted (04_sync.md R115). -/
inductive SyncCond where
  /-- The host writes SYN_CMD.SEARCH. -/
  | host
  /-- ERRS reaches ERRLIM. -/
  | errs
  /-- A REVERSE (2) or AMBIGUOUS (3) decision. -/
  | dir (code : Nat)
  /-- R132, R160: LOCKN consecutive FORWARD decisions in REVERSE, the last of them for the vertex with stamp e and period p; pp is the
  period before it where that lies between FORWARD vertices, m the gap before its position. -/
  | back (e p : Nat) (pp : Option Nat) (m : Nat)
  /-- R116: the stall condition. -/
  | stall
  /-- R118: a gap is identified by the vertex with stamp e, period p and period before it pp, at position pos after a gap of m. -/
  | gap (e p pp pos m : Nat)
  /-- An accepted active-crank edge in STALL. -/
  | edge
  /-- The lock count reaches LOCKN. -/
  | locked
  /-- 2 × N edges without a gap. -/
  | noGap
  /-- R122: the cam phase is decided; fix: hypothesis h = 1. -/
  | phase (fix : Bool)
  /-- R124: cam loss with CAMHOLD = 0. -/
  | camLoss
  deriving DecidableEq, Repr

/-- The synchronisation machine (04_sync.md). -/
structure Sync where
  /-- R111: STATE; reset STALL. -/
  state : SyncState := .stall
  /-- R110: ERRS, 3 bits; reset 0. -/
  errs : Nat := 0
  /-- R105: HALF; reset 0. -/
  half : Bool := false
  /-- R119: PHASE_VALID; reset 0. -/
  phaseValid : Bool := false
  /-- R121: VOTES, 3 bits; reset 0. -/
  votes : Nat := 0
  /-- R121: the hypothesis of the latest vote (true: h = 1); reset false. -/
  lastVote : Bool := false
  /-- R126: ELIGIBLE; reset 0. -/
  eligible : Bool := false
  /-- R135: POS, 9 bits; reset 0x1FF. -/
  pos : Nat := 0x1FF
  /-- R135: SYN_LAST: FROM, TO (reset STALL), CAUSE (reset 0x00). -/
  lastFrom : SyncState := .stall
  lastTo : SyncState := .stall
  cause : Nat := 0
  /-- R135: LOSSES and CAMERR, 8 bits each; reset 0. -/
  losses : Nat := 0
  camErr : Nat := 0
  /-- R114: the lock count; reset 0. -/
  lockCount : Nat := 0
  /-- R113: accepted edges since entering TOOTH_LOCK; reset 0. -/
  tlEdges : Nat := 0
  /-- R118: accepted edges since the gap candidate; none without a candidate; reset none. -/
  gapCand : Option Nat := none
  /-- R108: the missing positions of the gap whose first tooth the previous vertex was (0: none); reset 0. -/
  prevGap : Nat := 0
  /-- R122: the phase correction of 2^23 CAU awaits the next accepted vertex; reset false. -/
  corr : Bool := false
  /-- R132: the run of FORWARD decisions in REVERSE; reset 0. -/
  fwdRun : Nat := 0
  /-- R132: a FORWARD vertex has taken a position since the last REVERSE vertex; reset false. -/
  turned : Bool := false
  /-- R132: the state REVERSE was entered from; reset CRANK_SYNC. -/
  revFrom : SyncState := .crankSync
  /-- R132: no error counted during the stay in REVERSE; reset true. -/
  revClean : Bool := true
  /-- R131, R132: the vertex whose position a direction decision must still assign (REVERSE); reset none. -/
  revOpen : Option Tick := none
  /-- R117: STALL was entered by the stall condition; reset false. -/
  stallByTime : Bool := false
  /-- R117: cam edges in this stay in STALL; reset 0. -/
  stallCams : Nat := 0
  /-- R123: the cycle is judged (a boundary has passed in FULL_SYNC); reset false. -/
  judged : Bool := false
  /-- R123: pattern entries matched in this cycle: 32 × cam + index; reset empty. -/
  matched : List Nat := []
  /-- R123: cams with a cam error in this cycle (bit n); reset 0. -/
  camBadNow : Nat := 0
  /-- R124: consecutive bad cycles of each cam; unlisted 0. -/
  badRun : Tbl Nat := []
  /-- R124: the present cam loss has been reported (0x3204); reset false. -/
  lossRep : Bool := false
  /-- R131: the position the vertex before the reversed edge had when that edge was placed; reset 0x1FF. -/
  prevPos : Nat := 0x1FF
  /-- R92: counting intervals begun by boundaries and by changes of case; reset 0. -/
  ivalNo : Nat := 0
  /-- R115: conditions found and not acted on, in the order found; reset empty. -/
  conds : List SyncCond := []
  /-- R115: the machine has changed state in this tick; reset false. -/
  acted : Bool := false
  deriving DecidableEq, Repr

/-- What the accumulator does (05_tangent.md R140, the AST column). -/
inductive Ast where | invalid | running | frozen | stepped
  deriving DecidableEq, Repr

/-- A forward segment (R137, R144). -/
structure Segment where
  /-- The vertex's stamp E. -/
  e : Tick := 0
  /-- The anchor angle A, in CAU. -/
  a : Cau := 0
  /-- LEN in CAU. -/
  len : Nat := 0
  /-- RATE, 8.24 CAU per tick. -/
  rate : Nat := 0
  /-- The predicted period in ticks. -/
  phat : Nat := 0
  /-- m and F of the segment (R144). -/
  m : Nat := 1
  f : Nat := 0
  /-- The starting position and half. -/
  pos : Nat := 0x1FF
  half : Bool := false
  deriving DecidableEq, Repr

/-- An update of a feedback port on its way to the ANGLE island (13_feedback.md R442): the tick from which it is available, the port, and
its position, SPD and SVALID. -/
structure XUpdate where
  from_ : Tick := 0
  port  : Nat := 0
  pos   : Nat := 0
  spd   : Int := 0
  sval  : Bool := false
  deriving DecidableEq, Repr

/-- The angle formed from a feedback port (13_feedback.md R442 to R445). -/
structure XAngle where
  /-- R442: XACT; reset false. -/
  act : Bool := false
  /-- R442: the port in use since the anchor: 0 A, 1 B; reset 0. -/
  port : Nat := 0
  /-- R444: the latest position available at E; reset 0. -/
  ref : Nat := 0
  /-- R444: the largest offset reached so far in the segment (48-bit format); reset 0. -/
  off : Nat := 0
  /-- R442: the latest updates of both ports, oldest first; reset empty. -/
  coming : List XUpdate := []
  /-- R442: the update of each port before those of `coming`; unlisted all 0. -/
  avail : Tbl XUpdate := []
  /-- R445: the tick the source was lost in this segment; reset none. -/
  lostAt : Option Tick := none
  deriving DecidableEq, Repr

/-- The Tangent (05_tangent.md). -/
structure Tangent where
  /-- R140: AST; reset invalid. -/
  ast : Ast := .invalid
  /-- R137: the current segment; reset zero. -/
  seg : Segment := {}
  /-- R138: the segment followed through E + 4; none when the accumulator was not running. -/
  prev : Option Segment := none
  /-- R136: the accumulator's value while it is stopped, frozen or stepped, 48 bits; reset 0. -/
  hold : Nat := 0
  /-- R136: the cycle count, 8 bits; reset 0. -/
  cyc : Nat := 0
  /-- R139: the tick of the next forward wrap through 0 CAU inside the segment; none when there is none. -/
  wrap : Option Tick := none
  /-- R144: B1 and B2, 40 bits; none when invalid; reset none. -/
  b1 : Option Nat := none
  b2 : Option Nat := none
  /-- R143: the applied copy and the learning copy of the geometry table, 400 entries of 16 bits; unlisted 0. -/
  g : Tbl Int := []
  gl : Tbl Int := []
  /-- R142: the offsets, 400; unlisted 0. -/
  offs : Tbl Int := []
  /-- R155: the applied copy that takes effect at the vertex of position 1; reset none. -/
  gPend : Option (Tbl Int) := none
  /-- R145: the ripple table, 800 entries of 16 bits; unlisted 0. -/
  r : Tbl Int := []
  /-- R153: pcyc of the segments whose pcyc_valid is 1, 800 entries; unlisted invalid. -/
  pcyc : Tbl Nat := []
  /-- R153: measured periods of the segments of the last revolution, newest first; reset empty. -/
  revP : List Nat := []
  /-- R164: revolutions of geometry learning and cycles of ripple learning, 16 bits each; reset 0. -/
  geoRevs : Nat := 0
  ripCycs : Nat := 0
  /-- R174: LEARNG, LEARNR; reset 0. -/
  learnG : Bool := false
  learnR : Bool := false
  /-- R166, R167: a save or a reload in progress, with the tick it started; reset none. -/
  saving : Option Tick := none
  loading : Option Tick := none
  /-- R166: the tables and the first eight values as they stood when the save was commanded; reset empty. -/
  savedG : Tbl Int := []
  savedR : Tbl Int := []
  savedHead : List Nat := []
  /-- R174: LRES, 3 bits; reset 0. -/
  lres : Nat := 0
  /-- R616: the offsets are being rebuilt and anchors use nominal angles; reset false. -/
  offsBad : Bool := false
  /-- R168: ANG_RPM, 32 bits; reset 0. -/
  rpm : Nat := 0
  /-- R168: ANG_CYCT, 32 bits; reset 0xFFFF_FFFF. -/
  cyct : Nat := 0xFFFFFFFF
  /-- R168: the tick of the last cycle boundary; reset none. -/
  lastB : Option Tick := none
  /-- R157: e, position and half (as ANG_ERR_PMAX) of the largest and smallest e of the running cycle, not yet saturated; reset none. -/
  curMax : Option (Int × Nat) := none
  curMin : Option (Int × Nat) := none
  /-- R157: ANG_ERR_MAX, ANG_ERR_MIN (signed), ANG_ERR_PMAX, ANG_ERR_PMIN; reset 0, 0, 0x1FF, 0x1FF. -/
  errMax : Int := 0
  errMin : Int := 0
  errPMax : Nat := 0x1FF
  errPMin : Nat := 0x1FF
  /-- R149: FROM and TO of the last early anchor, 24 bits; reset 0. -/
  jmpFrom : Cau := 0
  jmpTo : Cau := 0
  /-- R158: EARLY, LATE, JUMPS, 8 bits each; reset 0. -/
  early : Nat := 0
  late : Nat := 0
  jumps : Nat := 0
  /-- R175: the words captured by the last read of ANG_ACC_LO (offsets 0x46 to 0x4C); reset 0. -/
  cap : List Word := []
  /-- R442 to R445: the external angle source. -/
  x : XAngle := {}
  /-- R169: the SD-1608 window: the last accepted periods of its input, newest first, at most 16; reset empty. -/
  s16P : List Nat := []
  /-- R176: PER, 24 bits; reset 0xFF_FFFF. -/
  s16Per : Nat := 0xFFFFFF
  /-- R176: TCNT, 16 bits; reset 0. -/
  s16T : Nat := 0
  /-- R176: STOPPED (reset 1), OVF (0), NEW (0). -/
  s16Stop : Bool := true
  s16Ovf : Bool := false
  s16New : Bool := false
  /-- R176: the stamp of the window's last accepted edge; reset 0. -/
  s16Last : Tick := 0
  /-- R170: the words captured by the last read of ANG_S16_PERL; reset as the live registers. -/
  s16Cap : List Word := [0xFFFF#16, 0x00FF#16, 0x0000#16, 0x0004#16]
  deriving DecidableEq, Repr

/-- The kinds of event (06_events.md R178). -/
inductive EvKind where | edge | pulse | chord
  deriving DecidableEq, Repr

/-- A queue entry (06_events.md R178, R184 to R190). -/
structure QEntry where
  kind  : EvKind
  dunit : Bool
  lvl   : Bool
  guard : Bool
  back  : Bool
  out   : Nat
  angle : Cau
  dur   : Nat
  llim  : Nat
  cqmode : Nat
  cq    : Nat
  profile : Nat
  org   : Origin
  earliest : Nat
  latest   : Nat
  /-- R197: the base tick G. -/
  gbase : Tick
  /-- R184: the target cycle distance, 8 bits. -/
  d : Nat
  /-- R187: the entry is keyed. -/
  keyed : Bool
  /-- R185: marked OVERDUE, with the tick B and the lateness term of R185. -/
  overdue : Option (Tick × Nat)
  /-- R198, R201: set aside in the skipped range of an early anchor. -/
  skip : Bool
  /-- R188: the latched pin time; none while uncommitted. -/
  pin : Option Tick
  /-- R189, R194, R199: lateness incurred before the latched fire tick. -/
  late0 : Nat
  /-- R184: committed, and a boundary B has passed since: its angle lies in the cycle just ended. -/
  past : Bool
  /-- R612 to R614: the entry failed its check and is being rebuilt. -/
  bad : Bool
  deriving DecidableEq, Repr

/-- The active-pulse register of an output (R191, R192). -/
structure Pulse where
  out  : Nat
  org  : Origin
  profile : Nat
  /-- R192: the end angle; none for a PULSE in ticks, whose end the fire message carries. -/
  endAngle : Option Cau
  /-- R192: the end's cycle distance. -/
  d : Nat
  /-- R192: the latched pin time of the end. -/
  pin : Option Tick
  /-- R192: lateness incurred before the end's fire tick (a passed end). -/
  late0 : Nat
  /-- R192: the pin time of the start. -/
  start : Tick
  /-- R192: DUR of a PULSE in ticks. -/
  dur : Nat
  /-- R292: the start status of the DRIVE island is still awaited. -/
  awaiting : Bool
  /-- R614: the end failed its check. -/
  bad : Bool
  deriving DecidableEq, Repr

/-- Who sent an arm or cancel request (R181). -/
inductive Requester where
  | host
  /-- A lane: 8 × cluster + lane (12_larlar_isa.md R420). -/
  | lane (id : Nat)
  /-- An ARM or CANCEL packet of a command port (16_command_ports.md R517). -/
  | port (p : Nat)
  /-- The partner's request, forwarded over Belith (17_twin.md R549). -/
  | partner
  deriving DecidableEq, Repr

/-- A request waiting at the ANGLE island (R181). -/
inductive AngReq where
  | arm (slot : Nat) (by_ : Requester)
  | cancel (tag : Nat) (all : Bool) (out : Nat) (by_ : Requester)
  /-- R420: a lane's write of one twin-word of a slot. -/
  | write (slot field v lane : Nat)
  deriving DecidableEq, Repr

/-- The outcomes of the report ring (R210), by their code. -/
abbrev EvOutcome := Nat

/-- Events, chords and queues (06_events.md). -/
structure Events where
  /-- R177: the 96 queues, each with at most 16 entries in key order; unlisted empty. -/
  q : Tbl (List QEntry) := []
  /-- R177: the 96 active-pulse registers; unlisted empty. -/
  act : Tbl (Option Pulse) := []
  /-- R195: the tick of the last firing on each output; unlisted none. -/
  lastFire : Tbl (Option Tick) := []
  /-- R33, R182: slots that are locked: 1 queued or being armed, 2 pulse active (R216), with the output; unlisted free. -/
  slots : Tbl (Nat × Nat) := []
  /-- R181: requests waiting, in order of arrival; reset empty. -/
  reqs : List AngReq := []
  /-- R183: the arm in progress: slot, requester and the tick it reached the island; reset none. -/
  arming : Option (Nat × Requester × Tick) := none
  /-- R420: answers on their way to lanes: 8 × cluster + lane, and the two result words; reset empty. -/
  answers : List (Nat × Nat × Nat) := []
  /-- R214: EVQ_ARM_STAT: BUSY and RESULT; reset 0. -/
  armBusy : Bool := false
  armRes : Nat := 0
  /-- R214: EVQ_CAN_STAT: LATE and DONE, 8 bits each; reset 0. -/
  canLate : Nat := 0
  canDone : Nat := 0
  /-- R215: EVQ_RWR, 12 bits; EVQ_RLOST.COUNT, 8 bits; reset 0. -/
  rwr : Nat := 0
  rlost : Nat := 0
  /-- R205, R216: ACTIVE and COUNT of the recipe; reset 0. -/
  rcpActive : Bool := false
  rcpCount : Nat := 0
  /-- R206: a pending swap: its COUNT and the tick it reached the ANGLE island; reset none. -/
  rcpPend : Option (Nat × Tick) := none
  /-- R216: LATES and DROPS, 8 bits each; reset 0. -/
  lates : Nat := 0
  drops : Nat := 0
  /-- R37: the launch value of the latest fire message sent to the DRIVE island; reset none. -/
  lp : Option Tick := none
  /-- R37, R38: fire messages on their way, by destination (0 DRIVE, 1 + c cluster c), in the order sent; reset empty. -/
  flight : List (Nat × Tick × List FireItem) := []
  /-- R292: start statuses on their way from the DRIVE island; reset empty. -/
  status : List (StartStatusMsg × Origin) := []
  deriving DecidableEq, Repr

/-! ### Work in the ticks to come -/

/-- What a tick to come does by itself, without a command of its own: the stages of R39 after the tick of an edge, direction
decisions, commits, the re-arm of a recipe, and the sets of islands whose replicas lag. -/
inductive Work where
  /-- R100: the synchronised level of an input, 2 ticks behind its pin. -/
  | level (input : Nat) (high : Bool)
  /-- R56, R57: the part of a set that islands with a lagging replica apply, a tick after the others. -/
  | applyLag (set : Tbl Word)
  /-- R85: an active edge has arrived with the direction of the one before it still open. -/
  | closeDir (input : Nat)
  /-- R76: the checks of a crank edge with stamp e, in E + 4. -/
  | check (input : Nat) (e : Tick)
  /-- R77, R78: the check of a cam edge with stamp e, in E + 4; a is the Tangent angle in tick e. -/
  | camCheck (cam : Nat) (lvl : Bool) (e : Tick) (a : Cau)
  /-- R83: a trailing transition of tick t is judged, in T + 4. -/
  | trail (input : Nat) (t : Tick)
  /-- R83: a direction decision enters the vertex record and the machine. -/
  | dir (input code : Nat)
  /-- R39: E + 5 of an accepted crank edge with stamp e, period p and period before it pp. -/
  | vertex (e : Tick) (p pp : Nat)
  /-- R121: a cam edge of stamp e reaches the synchronisation machine. -/
  | cam (cam : Nat) (lvl : Bool) (e : Tick) (a : Cau)
  /-- R88 to R90: a cam edge's record takes the position of a crank vertex at or before it. -/
  | camPos (cam : Nat) (e : Tick)
  /-- R198 to R201, R235: E + 6 of an early anchor at a from FROM, after the segment of stamp oldE; rate is the new segment's, gone the
  pulses skipped whole. -/
  | early (oldE : Tick) (from_ a rate : Nat) (gone : List QEntry)
  /-- R188: E + 6 of the segment: every queue head is considered for commit, and the arcs. -/
  | commits
  /-- R553: E + 6 of a vertex with stamp e: its digest. -/
  | digest (e : Tick)
  /-- R188: every queue head is considered in the tick after a boundary. -/
  | heads
  /-- R188: the head and the end of one output are considered. -/
  | head (out : Nat)
  /-- R207: entry k of the active recipe buffer is re-armed for the boundary b. -/
  | rearm (b k : Nat)
  /-- R231: the sample of an arc that follows one sent late. -/
  | arc (n : Nat)
  /-- R220: a converter looks for a free slot for its calibration or reference check. -/
  | slot (conv : Nat)
  /-- R222: the hold tick of a conversion in a free slot. -/
  | slotHold (conv : Nat)
  /-- R375: an outside access of a lane's window item. -/
  | rdlWrite (lane item v : Nat)
  | rdlRead (lane item : Nat)
  /-- R375: the packet in execution, an RD (values alone or twin-words) or a WR, whose range holds LAN_RDL. -/
  | rdPacket (bare : Bool) (addr n : Nat)
  | wrPacket (high : Bool) (addr : Nat) (vals : List Nat)
  deriving DecidableEq, Repr

end Sys2Proof.Machine
end

