-- ==== Sys2Proof/Machine/StateLane.lean ====
section
/-! DEFINITION. The state of the Larlar lanes, their clusters and the pin matrix (11_lanes.md, 12_larlar_isa.md). -/

namespace Sys2Proof.Machine

/-- A counter (11_lanes.md R347, R350, R351). RUN, MODE, CLR and PORT are LAN_CTCFGn in `State.regs`. -/
structure Counter where
  /-- R347: 32 bits; reset 0. -/
  v : Nat := 0
  /-- R351: the next step yields 0; reset false. -/
  clr : Bool := false
  /-- R350: an edge of its port has come in this tick, or, for ct1 in CASC, ct0 wraps in it; reset false. -/
  edge : Bool := false
  deriving DecidableEq, Repr

/-- A compare (R347, R354 to R359). Its configuration is LAN_CMPCFG in `State.regs`. -/
structure CmpUnit where
  /-- R347: the live and the shadow value, 32 bits; reset 0. -/
  live   : Nat := 0
  shadow : Nat := 0
  /-- R357: the shadow waits to move; reset false. -/
  staged : Bool := false
  /-- R355, R359: the stored complement of the live or shadow value is wrong; reset false. -/
  liveBad   : Bool := false
  shadowBad : Bool := false
  /-- R359: CI; reset false. -/
  ci : Bool := false
  /-- R359: 0x5803 has been reported for the invalid live pair; reset false. -/
  told : Bool := false
  /-- R354: it matched in the step of the tick before, and what follows is still to be done; reset false. -/
  hit : Bool := false
  /-- R405: the tick of the step it last matched in; reset none. -/
  last : Option Tick := none
  deriving DecidableEq, Repr

/-- What a lane writes, to land at the end of a tick (R341, R400). -/
inductive LaneWrite where
  | g (n v : Nat)
  | mem (addr v : Nat)
  | flags (f : Flags)
  /-- A counter load (R352). -/
  | ctr (n v : Nat)
  /-- A write of one half of a counter (R402). -/
  | ctrHalf (n : Nat) (high : Bool) (v : Nat)
  /-- RUN of a counter (R403). -/
  | run (n : Nat) (on : Bool)
  /-- A write of one half of a compare, live or shadow by its mode (R356, R357, R402). -/
  | cmpHalf (n : Nat) (high : Bool) (v : Nat)
  /-- A compare written from outside, live or shadow (R374, R375). -/
  | cmpSet (n : Nat) (shadow : Bool) (v : Nat)
  /-- A port latch written (R404). -/
  | latch (p : Nat) (v : Bool)
  /-- All eight latches (R401). -/
  | latches (v : Nat)
  /-- A capture entry removed (R362). -/
  | pop (n : Nat)
  | shHalf (high : Bool) (v : Nat)
  | sc (v : Nat)
  | sa (v : Nat)
  | da (v : Nat)
  | cnt (v : Nat)
  | pc (v : Nat)
  | push (v : Nat)
  | popStack
  /-- The captured high half of an item (R349). -/
  | high (item v : Nat)
  /-- The highest vector in service is no longer in service (R371). -/
  | endService
  | halt
  deriving DecidableEq, Repr

/-- What a WAITING lane waits for (R405, R406, R416). -/
inductive WaitFor where
  /-- R405: kind and n. -/
  | cond (kind n : Nat)
  /-- R406: data port, clock port, falling edge, output. -/
  | shift (data clock : Nat) (falling out : Bool)
  /-- R416: an extension unit's answer: the function, g0, g2, g3 as the instruction read them, and the words that TVTX will store
  (R417). -/
  | unit (mn : Mn) (g0 g2 g3 : Nat) (words : List Word)
  deriving DecidableEq, Repr

/-- A lane held in an instruction that waits. -/
structure Waiting where
  for_ : WaitFor
  /-- 4r: the first tick in which the condition is tested. -/
  from_ : Tick
  /-- The instruction, for its D and its length. -/
  i : LarWord
  /-- R377: the tick before which a takeover leaves the condition untested; 0 without one. -/
  test : Tick := 0
  deriving DecidableEq, Repr

/-- The states of a lane that R342 names; WAITING is RUNNING held in a wait. -/
inductive LaneState where | halted | running | faulted
  deriving DecidableEq, Repr

/-- A lane (R347). -/
structure Lane where
  /-- R342; reset HALTED. -/
  st : LaneState := .halted
  /-- R373: the tick from which a started lane counts as RUNNING, and whether it was FAULTED before; reset 0, false. -/
  runFrom : Tick := 0
  wasFaulted : Bool := false
  /-- R347: g0 to g7; unlisted 0. -/
  g : Tbl Word := []
  ct0 : Counter := {}
  ct1 : Counter := {}
  cmp0 : CmpUnit := {}
  cmp1 : CmpUnit := {}
  /-- R347: the capture entries, oldest first, at most 2; reset empty. -/
  cap0 : List Nat := []
  cap1 : List Nat := []
  /-- R347: sh (32), sc (6), sa, da, cnt (16); reset 0. -/
  sh : Nat := 0
  sc : Nat := 0
  sa : Nat := 0
  da : Nat := 0
  cnt : Nat := 0
  /-- R347: the flags; reset 0. -/
  fl : Flags := {}
  /-- R347: pc, 12 bits; reset 0. -/
  pc : Nat := 0
  /-- R347: stack entries 0 to 7, entry 0 the newest, and the depth 0 to 8; reset 0. -/
  stack : List Nat := [0, 0, 0, 0, 0, 0, 0, 0]
  depth : Nat := 0
  /-- R347: output latches of p7 to p0, 8 bits; reset 0. -/
  latch : Nat := 0
  /-- R349: the high halves captured by reads of 32-bit items, by RSEL; unlisted 0. -/
  high : Tbl Nat := []
  /-- R341: the tick in which the next instruction executes, not before; reset 0. -/
  next : Tick := 0
  /-- R341, R400: writes on their way: the tick at whose end each lands; reset empty. -/
  land : List (Tick × LaneWrite) := []
  /-- R405, R406, R416: held in a waiting instruction; reset none. -/
  wait : Option Waiting := none
  /-- R412: iterations of a REP are under way, with its BRK; reset none. -/
  rep : Option Bool := none
  /-- R373: a HALT takes effect at the end of the lane cycle; reset false. -/
  stop : Bool := false
  /-- R366: the latches as this tick began, once an outside write has changed them in it; reset none. -/
  old : Option Nat := none
  /-- R406: the port levels of the tick before, in a tick in which a commit changes the port map; reset none. -/
  remap : Option Nat := none
  /-- R358: latch actions of compares applied at the end of this tick: port and ACT; reset empty. -/
  acts : List (Nat × Nat) := []
  /-- R360: captures triggered by a port edge in this tick, with the Time Base value VAL would take; reset empty. -/
  trig : List (Nat × Nat) := []
  /-- R369: pending vectors with the tick of their source event; reset empty. -/
  pend : List (Nat × Tick) := []
  /-- R370: vectors in service; reset empty. -/
  insvc : List Nat := []
  /-- R382: COV0, COV1, VOV; reset false. -/
  cov0 : Bool := false
  cov1 : Bool := false
  vov : Bool := false
  /-- R382: FCODE, 8 bits; FPC, 12 bits; reset 0. -/
  fcode : Nat := 0
  fpc : Nat := 0
  /-- R379: the item (RSEL) whose parity is wrong; reset none. -/
  badItem : Option Nat := none
  deriving DecidableEq, Repr

/-- The spare lane of a cluster (R376 to R380, R385): free; a takeover of lane k pending, in mode IDLE, NOW or automatic
(R379); in use for lane k. -/
inductive Spare where
  | free
  | idle (k : Nat)
  | now (k : Nat)
  | auto (k : Nat)
  | used (k : Nat)
  deriving DecidableEq, Repr

/-- What the ANGLE island held at the end of a tick, for unit 0 (12_larlar_isa.md R417). -/
structure UnitZero where
  tick  : Tick
  angle : Nat
  cyc   : Nat
  ast   : Ast
  seg   : Segment
  rpm   : Nat
  stat  : Nat
  pos   : Nat
  /-- The vertex histories of sources 0 to 5. -/
  vtx   : List (List Vertex)
  deriving DecidableEq, Repr

/-- The clusters, the lanes and the pin matrix. -/
structure Lanes where
  /-- R347: the 64 lanes by 8 × cluster + lane; unlisted `{}`. -/
  lane : Tbl Lane := []
  /-- R343: the cluster memories by word address from 0x80_0000; unlisted 0xFFFF (R344). -/
  mem : Tbl Word := []
  /-- R346: words (from 0x80_0000) whose parity is wrong; reset empty. -/
  parity : List Nat := []
  /-- R344: clusters whose memory fill goes on; reset empty. -/
  filling : List Nat := []
  /-- R376: the spares by cluster; unlisted free. -/
  spare : Tbl Spare := []
  /-- R365: the synchronised level of each GP pin and the tick it last changed; unlisted low, tick 0. -/
  pads : Tbl (Bool × Tick) := []
  /-- R367: the event lines by 5 × cluster + line: level and the tick it last changed; unlisted low, tick 0. -/
  lines : Tbl (Bool × Tick) := []
  /-- R417: what the ANGLE island held at the ends of the latest ticks, newest first, at most 12; reset empty. -/
  u0 : List UnitZero := []
  deriving DecidableEq, Repr

end Sys2Proof.Machine
end

