-- ==== Sys2Proof/Machine/StateLink.lean ====
section
/-! DEFINITION. The state of the DMA channels (15_dma.md), the twin pair (17_twin.md) and the Elrex domain (18_elrex.md), and of
the test access port (21_package_electrical.md). -/

namespace Sys2Proof.Machine

/-- The states of a DMA channel (R483, R495). -/
inductive ChanState where | stopped | idle | credit | moving | barrier | error
  deriving DecidableEq, Repr

/-- A DMA channel. RSZ and the pacing source are DMA_CCFG and DMA_CPACE in `State.regs`. -/
structure Chan where
  /-- R495: STATE; reset STOPPED. -/
  st : ChanState := .stopped
  /-- R495: IDX, 8 bits; reset 0. -/
  idx : Nat := 0
  /-- R483: the descriptor at idx is being read; reset false. -/
  fetch : Bool := false
  /-- R495: STOPP, KICKP; reset 0. -/
  stopP : Bool := false
  kickP : Bool := false
  /-- R493: an ABORT waits for the writes to land; reset false. -/
  abort : Bool := false
  /-- R486: PCNT, 8 bits; reset 0. -/
  pcnt : Nat := 0
  /-- R486: 0x2A14 has been reported in this saturation; reset false. -/
  satRep : Bool := false
  /-- R495: STAT and IDX of DMA_CERR; reset 0. -/
  errStat : Nat := 0
  errIdx : Nat := 0
  /-- R483: the eight values of the descriptor in work; reset empty. -/
  desc : List Nat := []
  /-- R482: what is left of the Lattice side: address and length of each range; reset empty. -/
  ranges : List (Nat × Nat) := []
  /-- R479: values moved, and values to move in all; reset 0. -/
  moved : Nat := 0
  total : Nat := 0
  /-- R491: PAR; reset false. -/
  par : Bool := false
  deriving DecidableEq, Repr

/-- The DMA channels (15_dma.md). -/
structure Dma where
  /-- The 32 channels; unlisted `{}`. -/
  ch : Tbl Chan := []
  /-- R485: the channel the next burst is looked for from; reset 0. -/
  turn : Nat := 0
  /-- R486: credits on their way, by channel, in order; reset empty. -/
  credits : List Nat := []
  /-- R495: ERRORS and ABORTS, 8 bits each; reset 0. -/
  errors : Nat := 0
  aborts : Nat := 0
  deriving DecidableEq, Repr

/-- What a device formed at one of its vertices, or received from its partner for one (17_twin.md R553, R554). -/
structure VertexDigest where
  pos    : Nat
  half   : Bool
  cyc    : Nat
  stamp  : Nat
  digest : Nat
  /-- R571: it is the vertex of a cycle boundary. -/
  atB    : Bool
  /-- R554: the tick by which the partner's must have come (its own digests). -/
  due    : Tick
  deriving DecidableEq, Repr

/-- A link frame that waits for its acknowledgement: SEQ, TYPE, payload, the tick it was last sent (R540, R585). -/
structure SentFrame where
  seq  : Nat
  type : Nat
  body : List Word
  at_  : Tick
  deriving DecidableEq, Repr

/-- A handover by command (R560). -/
structure Handover where
  units   : Nat
  /-- WHEN = 1: each unit when it is idle. -/
  idle    : Bool
  role    : Bool
  r       : Tick
  /-- R577: 3 TAKEOVER, 4 RELEASE. -/
  cause   : Nat
  /-- This device takes the units; otherwise it releases them. -/
  taker   : Bool
  /-- Units released by the owner, units moved or refused. -/
  released : Nat
  done     : Nat
  /-- R560: units that the taker did not take, each with the tick from which its owner drives it again (NOTAKE). -/
  back     : List (Nat × Tick)
  /-- R574: the reply waits for this handover. -/
  reply    : Bool
  deriving DecidableEq, Repr

/-- The twin pair (17_twin.md). TWN_CFG is in `State.regs`. -/
structure Twin where
  /-- R577: LINK, PAIRED, ROLE (true SHADOW), FAULT, JSTATE; reset 0. -/
  link : Bool := false
  paired : Bool := false
  shadow : Bool := false
  fault : Bool := false
  jstate : Nat := 0
  /-- R542: pairing was refused on this link; reset false. -/
  refused : Bool := false
  /-- R577: TWN_OWN, TWN_POWN, TWN_GSNS, 11 bits each; reset 0. -/
  own : Nat := 0
  pown : Nat := 0
  gsns : Nat := 0
  /-- R577: CAUSE and UNITS of TWN_LAST; RES of TWN_JRES; reset 0. -/
  lastCause : Nat := 0
  lastUnits : Nat := 0
  jres : Nat := 0
  /-- R578: DMIS, LINKERR (8 bits), VDIF (16 bits), OFS (signed); reset 0. -/
  dmis : Nat := 0
  linkerr : Nat := 0
  vdif : Nat := 0
  ofs : Int := 0
  /-- R554: the largest stamp difference of the cycle in progress; reset 0. -/
  vdifNow : Nat := 0
  /-- R555: consecutive mismatches; reset 0. -/
  misRun : Nat := 0
  /-- R554: own digests not yet matched, partner digests not yet matched, oldest first; reset empty. -/
  mine : List VertexDigest := []
  theirs : List VertexDigest := []
  /-- R541: the ticks of this device's last HEARTBEAT and of the partner's last arrival; reset none. -/
  hbSent : Option Tick := none
  hbSeen : Option Tick := none
  /-- R541: heartbeat loss has been declared; reset false. -/
  lost : Bool := false
  /-- R540: the tick of the last valid frame; reset 0. -/
  lastRx : Tick := 0
  /-- R538: the last frame of each TYPE that is not ordered, as it was given to the link; reset empty. -/
  sent : Tbl (List Word) := []
  /-- R540: ordered frames not yet acknowledged, oldest first; the next SEQ; sendings again of the oldest; reset empty, 0. -/
  tx : List SentFrame := []
  txSeq : Nat := 0
  resends : Nat := 0
  /-- R540: the highest in-order SEQ received; reset none. -/
  rxSeq : Option Nat := none
  /-- R538: words received for DMA channels with PEER 0x3; reset empty. -/
  dmaRx : List Word := []
  /-- R534: probes in progress, oldest first: units, the first tick, the cause (TWN_LAST) units are taken for; reset empty. -/
  probes : List (Nat × Tick × Nat) := []
  /-- R544, R557, R560: units that read UNDRIVEN and are driven from a tick on, with the cause (TWN_LAST); reset empty. -/
  takes : List (Nat × Tick × Nat) := []
  /-- R541: the partner's SYN_STAT, and its FAULT, from its last HEARTBEAT; reset 0, false. -/
  psyn : Nat := 0
  pfault : Bool := false
  /-- R571, R572: the PRIMARY's synchronisation state that a join runs in, in the PRIMARY: 3 FULL_SYNC, 5 STALL; reset none. -/
  joinIn : Option Nat := none
  /-- R560: the handover in progress; reset none. -/
  hand : Option Handover := none
  /-- R558: the nets of an own fault are to be released by this tick; reset none. -/
  faultAt : Option Tick := none
  /-- R544: a partner HELLO has come, or the SOLO wait is over; reset false. -/
  soloDone : Bool := false
  /-- R550: notices (cycle count) for a swap and for a set; reset none. -/
  swapAt : Option Nat := none
  setAt : Option Nat := none
  /-- R567, R569: DELTA frames are formed; B_s; boundaries counted since B_s; reset false, none, 0. -/
  delta : Bool := false
  bs : Option Tick := none
  cycles : Nat := 0
  /-- R570: the image has been applied; reset false. -/
  applied : Bool := false
  /-- R571: the cycle count of this device's latest digest: a digest with another one is that of a boundary's vertex; reset none. -/
  digCyc : Option Nat := none
  /-- R568: the newcomer waits in ADOPT for its vertex; reset false. -/
  adopting : Bool := false
  /-- R571: the tick a new join starts; reset none. -/
  rejoinAt : Option Tick := none
  deriving DecidableEq, Repr

/-- An Elrex port (18_elrex.md R583 to R588). -/
structure ElxPort where
  /-- R585: symbol lock, up, valid HELLOs sent and received; reset false, 0. -/
  lock : Bool := false
  up : Bool := false
  sentHello : Nat := 0
  seenHello : Nat := 0
  /-- R585: the tick of the last HELLO sent; reset none. -/
  helloAt : Option Tick := none
  /-- R585: the tick of the last valid frame; reset 0. -/
  lastRx : Tick := 0
  /-- R587: node ID, acting role, EPOCH, depth and ALIGNED of the node at the other end, from its last HELLO or TMARK; reset 0. -/
  peer : Nat := 0
  peerRole : Nat := 0
  peerEpoch : Nat := 0
  peerDepth : Nat := 31
  peerAligned : Bool := false
  /-- R585: ordered frames not yet acknowledged; next SEQ (4 bits); sendings again of the oldest; highest SEQ received; reset empty. -/
  tx : List SentFrame := []
  txSeq : Nat := 0
  resends : Nat := 0
  rxSeq : Option Nat := none
  /-- R584: the last frame of each TYPE that is not ordered, as it was given to the link; reset empty. -/
  sent : Tbl (List Word) := []
  deriving DecidableEq, Repr

/-- A domain record (R603, R604); FIRST and LAST are 32 bits. -/
structure DomRec where
  code  : Nat
  subj  : Nat
  count : Nat
  reps  : List Nat
  first : Nat
  last  : Nat
  aux   : Nat
  deriving DecidableEq, Repr

/-- A domain command as the origin sent it or as a node forwards it (R594 to R597). -/
structure DomCmd where
  cnum   : Nat
  action : Nat
  arg    : Nat
  target : Nat
  t      : Tick
  applied : Nat
  refused : Nat
  late    : Nat
  noanswer : Nat
  /-- R597: ports whose DACK is still awaited. -/
  waits  : List Nat
  /-- R598: complete at the origin; the DACK sent at another node. -/
  done   : Bool
  deriving DecidableEq, Repr

/-- The Elrex domain (18_elrex.md). ELX_CFG and ELX_TIM are in `State.regs`; ALIGNED is `State.time.aligned`. -/
structure Elrex where
  /-- R609: AROLE (reset by R611), HOLDOVER with the tick it began, STEPBLK, REVERSED, DEPTH (31 not joined), EPOCH (8 bits). -/
  arole : Nat := 0
  holdFrom : Option Tick := none
  stepblk : Bool := false
  reversed : Bool := false
  depth : Nat := 31
  epoch : Nat := 0
  /-- R581: ports, 0 ELX_U, 1 to 4 ELX_D0 to ELX_D3; unlisted `{}`. -/
  port : Tbl ElxPort := []
  /-- R587: accepted, refused; reset false. -/
  accepted : Bool := false
  refused : Bool := false
  /-- R588, R589: stamps t1, t2 of the latest TMARK and t3 of the DREQ that followed, in sixteenths of a tick; reset none. -/
  mark : Option (Nat × Nat) := none
  t3 : Option Nat := none
  /-- R589: o (signed) and d, in sixteenths of a tick; reset 0. -/
  o : Int := 0
  d : Nat := 0
  /-- R590: an offset has been computed since the node was accepted; reset false. -/
  placed : Bool := false
  /-- R591: consecutive marks with |o| below 1 tick; reset 0. -/
  good : Nat := 0
  /-- R591, R599: the tick of the last TMARK; ALIGNED with HOLDOVER = 0 held in it; reset none, false. -/
  lastMark : Option Tick := none
  goodMark : Bool := false
  /-- R587: the join table: node ID, serial number, tick of the last refresh; reset empty. -/
  table : List (Nat × Nat × Tick) := []
  /-- R587: the tick of this node's last JOIN; reset none. -/
  joinAt : Option Tick := none
  /-- R594: the next command number; the last command of this origin; reset 0, none. -/
  cnum : Nat := 0
  cmd : Option DomCmd := none
  /-- R597: the command this node forwards and has not answered; reset none. -/
  fwd : Option DomCmd := none
  /-- R596: actions queued: ACTION, ARG, T; reset empty. -/
  queued : List (Nat × Nat × Tick) := []
  /-- R603, R605: open records (at most 32) and closed records that wait (at most 64), oldest first; reset empty. -/
  open_ : List DomRec := []
  held : List DomRec := []
  /-- R610: IDX of ELX_FRWR, ELX_FRLOST.COUNT, LINKERR, DROPS, 8 bits each; reset 0. -/
  frwr : Nat := 0
  frlost : Nat := 0
  linkerr : Nat := 0
  drops : Nat := 0
  deriving DecidableEq, Repr

/-- The states of the test access port (IEEE 1149.1). -/
inductive TapState where
  | reset | idle | selDr | capDr | shDr | ex1Dr | pauDr | ex2Dr | upDr | selIr | capIr | shIr | ex1Ir | pauIr | ex2Ir | upIr
  deriving DecidableEq, Repr

/-- The instructions of the test access port (21_package_electrical.md R686). -/
inductive TapInstr where | bypass | idcode | sample | extest
  deriving DecidableEq, Repr

/-- The test access port (R686). -/
structure Tap where
  /-- Reset Test-Logic-Reset, IDCODE, the registers 0. -/
  st : TapState := .reset
  instr : TapInstr := .idcode
  /-- The shift register: bits, the next one out first. -/
  sh : List Bool := []
  /-- R686: the level of TCK. -/
  tck : Bool := false
  /-- The boundary cells held for EXTEST by the last update. -/
  cells : List Bool := []
  /-- R686: the level that TDO drives; none in high impedance. -/
  tdo : Option Bool := none
  deriving DecidableEq, Repr

end Sys2Proof.Machine
end

