-- ==== Sys2Proof/Machine/StateImage.lean ====
section
/-! DEFINITION. What JOIN frames carry: join control and the image of 17_twin.md R569. -/

namespace Sys2Proof.Machine

/-- The working state that a PRIMARY captures at B_s (R569). -/
structure StateImage where
  /-- B_s. -/
  bs : Tick
  /-- The queues, active-pulse registers, slot locks and the recipe's state. -/
  evq : Events
  /-- The ripple table, both geometry copies and the offsets. -/
  g : Tbl Int
  gl : Tbl Int
  gPend : Option (Tbl Int)
  offs : Tbl Int
  r : Tbl Int
  /-- Arc runs and their counts. -/
  arc : Tbl Arc
  /-- The DRIVE island: waiting starts, regulators, boosts, ignition, valves, with its working copies. -/
  drv : Drive
  /-- The lanes and spares. -/
  lane : Tbl Lane
  spare : Tbl Spare
  /-- The DMA channels. -/
  ch : Tbl Chan
  /-- Router counts and STRAY bits, and the open fault records. -/
  src : Tbl Source
  openRecs : List OpenRec
  deriving DecidableEq, Repr

/-- Join control and the image (R566 to R572). The spec names the steps and not the coding of their frames. -/
inductive JoinMsg where
  /-- The SHADOW asks for a join: REJOIN sent to it, or an invalid twin-word while TRACKING. -/
  | ask
  /-- The PRIMARY starts the join: COPY. -/
  | start
  /-- The newcomer has adopted the angle state: ADOPT ends. -/
  | adopted
  /-- The last part of the image. -/
  | image (i : StateImage)
  /-- The newcomer has applied the image. -/
  | applied
  /-- The join ended without completing, with the value of TWN_JRES. -/
  | failed (res : Nat)
  deriving DecidableEq, Repr

end Sys2Proof.Machine
end

