-- ==== Sys2Proof/Syntax.lean ====
section
/-! DEFINITION. The commands of the block: one constructor per row of the command table, with its operands. -/

namespace Sys2Proof

/-- The commands. Each is one happening of the device, whole and indivisible, in the tick the state stands in. -/
inductive Instr where
  /-- BRIDGE_MESSAGE (R20): lane: 0 the fire lane, 1 the shared lane, 2 the message channel to the digital die; crcOk: its CRC-8 matches. -/
  | bridgeMessage (lane : Nat) (crcOk : Bool)
  /-- BRIDGE_SILENCE (R22). -/
  | bridgeSilence
  /-- SUPERVISOR_LOCKSTEP_MISMATCH (R42). -/
  | supervisorLockstepMismatch
  /-- SUPERVISOR_RESTART_DONE (R42). -/
  | supervisorRestartDone
  /-- FULL_VALUE_MESSAGE (R47): island: the bit position of R64 (ANGLE has none); value: the Time Base value the message carries. -/
  | fullValueMessage (island : Nat) (value : Nat)
  /-- LAUNCH_ARRIVAL (R51): island: the bit position of R64, 14 for ANGLE. -/
  | launchArrival (island : Nat)
  /-- LAUNCH_EXECUTE (R49): island: as for LAUNCH_ARRIVAL. -/
  | launchExecute (island : Nat)
  /-- ISLAND_PREPARE (R57): island: as for LAUNCH_ARRIVAL. -/
  | islandPrepare (island : Nat)
  /-- ISLAND_ACK (R57): island: as for LAUNCH_ARRIVAL. -/
  | islandAck (island : Nat)
  /-- COMMIT_DECISION (R57). -/
  | commitDecision
  /-- COMMIT_APPLY (R56). -/
  | commitApply
  /-- TB_NOW0_READ (R61). -/
  | tbNow0Read
  /-- TB_STALE_CLR (R65). -/
  | tbStaleClr
  /-- REGISTER_WRITE (R15): addr: the global address of the register; high: the level of the selected SSIn_DAT (13_feedback.md R446). -/
  | registerWrite (addr : Nat) (value : Word) (high : Bool)
  /-- CRANK_EDGE (R39): input: 0 CRK0, 1 CRK1; high: the comparator's level after the crossing, of the P pin in Hall mode and of P - N in VR
  mode; peak: in VR mode, the positive peak since the last zero crossing, in steps of 50 mV. -/
  | crankEdge (input : Nat) (crossing : Crossing)
  /-- VR_PEAK_RECORD (R74): input: 0 or 1. -/
  | vrPeakRecord (input : Nat)
  /-- ARM_THRESHOLD_TIMEOUT (R73): input: 0 or 1. -/
  | armThresholdTimeout (input : Nat)
  /-- CAM_EDGE (R71): cam: 0 to 3; level: the level after the edge. -/
  | camEdge (cam : Nat) (level : Bool)
  /-- DIR_TRAILING_EDGE (R82): input: 0 or 1. -/
  | dirTrailingEdge (input : Nat)
  /-- DIR_REVERSE_DECISION (R82): input: 0 or 1. -/
  | dirReverseDecision (input : Nat)
  /-- ANG_CNT_CLR (R102): value: the word written. -/
  | angCntClr (value : Word)
  /-- ANG_VTX_SEL (R103): value: the word written. -/
  | angVtxSel (value : Word)
  /-- SYNC_STALL_TIMEOUT (R116). -/
  | syncStallTimeout
  /-- SYN_CMD_SEARCH (R113). -/
  | synCmdSearch
  /-- SYN_CLR (R135): value: the word written. -/
  | synClr (value : Word)
  /-- CYCLE_BOUNDARY (R139). -/
  | cycleBoundary
  /-- SAVE (R166). -/
  | save
  /-- TABLE_SAVE_DONE (R166). -/
  | tableSaveDone
  /-- LOAD (R167). -/
  | load
  /-- TABLE_RELOAD_DONE (R167). -/
  | tableReloadDone
  /-- CLRGEO (R173). -/
  | clrgeo
  /-- CLRRIP (R173). -/
  | clrrip
  /-- CLRCNT (R173). -/
  | clrcnt
  /-- ANG_ACC_LO_READ (R175). -/
  | angAccLoRead
  /-- ANG_S16_PERL_READ (R170). -/
  | angS16PerlRead
  /-- EVQ_ARM (R182): value: the word written. -/
  | evqArm (value : Word)
  /-- ARM_REQUEST (R183). -/
  | armRequest
  /-- ARM_RECORD_READ (R183). -/
  | armRecordRead
  /-- EVENT_FIRE (R191): out: the event output, 0 to 95. -/
  | eventFire (out : Nat)
  /-- PULSE_END_FIRE (R192): out: the event output, 0 to 95. -/
  | pulseEndFire (out : Nat)
  /-- GUARD_EXPIRY (R197): out: the event output, 0 to 95. -/
  | guardExpiry (out : Nat)
  /-- START_STATUS (R292). -/
  | startStatus
  /-- EVQ_CAN_CMD (R202): value: the word written. -/
  | evqCanCmd (value : Word)
  /-- CANCEL_REQUEST (R202). -/
  | cancelRequest
  /-- EVQ_RCP_CMD (R205): value: the word written. -/
  | evqRcpCmd (value : Word)
  /-- EVQ_RLOST_CLR (R215). -/
  | evqRlostClr
  /-- EVQ_CNT_CLR (R216): value: the word written. -/
  | evqCntClr (value : Word)
  /-- ARC_LAUNCH_SEND (R232): arc: the arc, 0 to 255. -/
  | arcLaunchSend (arc : Nat)
  /-- CONVERSION_RESULT (R222): conv: the converter; raw: its code. -/
  | conversionResult (conv raw : Nat)
  /-- CONVERSION_TIMEOUT (R224): conv: the converter. -/
  | conversionTimeout (conv : Nat)
  /-- REFERENCE_CHECK (R224): conv: the converter; raw: the code of its reference. -/
  | referenceCheck (conv raw : Nat)
  /-- CAL (R223): value: the word written. -/
  | cal (value : Word)
  /-- CALIBRATION_DONE (R223): conv: the converter. -/
  | calibrationDone (conv sumL sumH : Nat)
  /-- CALIBRATION_TIMEOUT (R223): conv: the converter. -/
  | calibrationTimeout (conv : Nat)
  /-- ARC_CNT_CLR (R242): value: the word written. -/
  | arcCntClr (value : Word)
  /-- FRAME_PROCESSING (R250). -/
  | frameProcessing
  /-- RESULT_RECORD_WRITE (R261). -/
  | resultRecordWrite
  /-- CMB_CNT_CLR (R265): value: the word written. -/
  | cmbCntClr (value : Word)
  /-- FIRE_MESSAGE (R285): dest: 0 the DRIVE island, 1 + c cluster c. -/
  | fireMessage (dest : Nat)
  /-- PULSE_START (R287): out: the output, 0 to 23. -/
  | pulseStart (out : Nat)
  /-- START_DROP_TIMEOUT (R289): out: the output, 0 to 23. -/
  | startDropTimeout (out : Nat)
  /-- BANK_CURRENT_RESULT (R272): bank: 0 to 5 for A to F; code: the result of the hold 17 ticks ago; net: the sensed level of HSVx. -/
  | bankCurrentResult (bank code : Nat) (net : Bool)
  /-- PHASE_TIMER (R277): bank: 0 to 5 for A to F. -/
  | phaseTimer (bank : Nat)
  /-- MIN_SWITCH_TIME_EXPIRY (R281): bank: 0 to 5 for A to F. -/
  | minSwitchTimeExpiry (bank : Nat)
  /-- PULSE_DUR_EXPIRY (R293): out: the output, 0 to 55. -/
  | pulseDurExpiry (out : Nat)
  /-- DECAY_TIMEOUT (R284): bank: 0 to 5 for A to F. -/
  | decayTimeout (bank : Nat)
  /-- OPEN_LOAD_CHECK (R330): bank: 0 to 5 for A to F. -/
  | openLoadCheck (bank : Nat)
  /-- BOOST_MONITOR_RESULT (R296): net: the sensed level of BSTGn; monitor: 0 and 1 the boost rails, 2 the battery; code: the result of the hold 100 ticks ago. -/
  | boostMonitorResult (monitor code : Nat) (net : Bool)
  /-- BOOST_ILIM_REACHED (R297): ctl: the boost controller, 0 or 1. -/
  | boostIlimReached (ctl : Nat)
  /-- BOOST_TONMAX_EXPIRY (R297): ctl: the boost controller, 0 or 1. -/
  | boostTonmaxExpiry (ctl : Nat)
  /-- BOOST_TOFF_EXPIRY (R297): ctl: the boost controller, 0 or 1. -/
  | boostToffExpiry (ctl : Nat)
  /-- DRV_TRC_CTL (R301): value: the word written. -/
  | drvTrcCtl (value : Word)
  /-- DRV_CNT_CLR (R305): value: the word written. -/
  | drvCntClr (value : Word)
  /-- OVERDWELL (R313): out: the output, 24 to 47. -/
  | overdwell (out : Nat)
  /-- RAMP_END (R316): out: the output, 24 to 47. -/
  | rampEnd (out : Nat)
  /-- SOFT (R315): value: the word written to IGN_CMD. -/
  | soft (value : Word)
  /-- IGN_OUTPUT_FAULT (R318): out: the output, 24 to 47. -/
  | ignOutputFault (out : Nat)
  /-- IGN_CNT_CLR (R336): value: the word written. -/
  | ignCntClr (value : Word)
  /-- VALVE_CURRENT_RESULT (R326): valve: 0 to 7; code: the sample held in this tick. -/
  | valveCurrentResult (valve code : Nat)
  /-- VALVE_TON_EXPIRY (R322): valve: 0 to 7. -/
  | valveTonExpiry (valve : Nat)
  /-- VALVE_PERIOD_END (R323): valve: 0 to 7. -/
  | valvePeriodEnd (valve : Nat)
  /-- LATCH (R327): value: the word written to VLV_STAT. -/
  | latch (value : Word)
  /-- VLV_CNT_CLR (R337): value: the word written. -/
  | vlvCntClr (value : Word)
  /-- DRV_DG_CLR (R335): value: the word written. -/
  | drvDgClr (value : Word)
  /-- NOP (R390): lane: 8 × cluster + lane. -/
  | larNop (lane : Nat)
  /-- HALT (R390): lane: 8 × cluster + lane. -/
  | larHalt (lane : Nat)
  /-- RET (R409): lane: 8 × cluster + lane. -/
  | larRet (lane : Nat)
  /-- RETV (R371): lane: 8 × cluster + lane. -/
  | larRetv (lane : Nat)
  /-- TRAP (R422): lane: 8 × cluster + lane. -/
  | larTrap (lane : Nat)
  /-- JR (R409): lane: 8 × cluster + lane. -/
  | larJr (lane : Nat)
  /-- ADD (R391): lane: 8 × cluster + lane. -/
  | larAdd (lane : Nat)
  /-- ADC (R391): lane: 8 × cluster + lane. -/
  | larAdc (lane : Nat)
  /-- SUB (R391): lane: 8 × cluster + lane. -/
  | larSub (lane : Nat)
  /-- SBC (R391): lane: 8 × cluster + lane. -/
  | larSbc (lane : Nat)
  /-- AND (R390): lane: 8 × cluster + lane. -/
  | larAnd (lane : Nat)
  /-- OR (R390): lane: 8 × cluster + lane. -/
  | larOr (lane : Nat)
  /-- XOR (R390): lane: 8 × cluster + lane. -/
  | larXor (lane : Nat)
  /-- CMP (R391): lane: 8 × cluster + lane. -/
  | larCmp (lane : Nat)
  /-- MOV (R390): lane: 8 × cluster + lane. -/
  | larMov (lane : Nat)
  /-- TST (R390): lane: 8 × cluster + lane. -/
  | larTst (lane : Nat)
  /-- NEG (R393): lane: 8 × cluster + lane. -/
  | larNeg (lane : Nat)
  /-- NOT (R390): lane: 8 × cluster + lane. -/
  | larNot (lane : Nat)
  /-- MULU (R394): lane: 8 × cluster + lane. -/
  | larMulu (lane : Nat)
  /-- MULS (R394): lane: 8 × cluster + lane. -/
  | larMuls (lane : Nat)
  /-- DIVU (R395): lane: 8 × cluster + lane. -/
  | larDivu (lane : Nat)
  /-- DIVS (R395): lane: 8 × cluster + lane. -/
  | larDivs (lane : Nat)
  /-- SHL (R397): lane: 8 × cluster + lane. -/
  | larShl (lane : Nat)
  /-- SHR (R397): lane: 8 × cluster + lane. -/
  | larShr (lane : Nat)
  /-- SAR (R397): lane: 8 × cluster + lane. -/
  | larSar (lane : Nat)
  /-- ROR (R397): lane: 8 × cluster + lane. -/
  | larRor (lane : Nat)
  /-- ROL (R397): lane: 8 × cluster + lane. -/
  | larRol (lane : Nat)
  /-- PAR (R398): lane: 8 × cluster + lane. -/
  | larPar (lane : Nat)
  /-- BREV (R398): lane: 8 × cluster + lane. -/
  | larBrev (lane : Nat)
  /-- SWPB (R398): lane: 8 × cluster + lane. -/
  | larSwpb (lane : Nat)
  /-- SHLI (R397): lane: 8 × cluster + lane. -/
  | larShli (lane : Nat)
  /-- SHRI (R397): lane: 8 × cluster + lane. -/
  | larShri (lane : Nat)
  /-- SARI (R397): lane: 8 × cluster + lane. -/
  | larSari (lane : Nat)
  /-- RORI (R397): lane: 8 × cluster + lane. -/
  | larRori (lane : Nat)
  /-- ADDI (R390): lane: 8 × cluster + lane. -/
  | larAddi (lane : Nat)
  /-- SUBI (R390): lane: 8 × cluster + lane. -/
  | larSubi (lane : Nat)
  /-- CMPI (R390): lane: 8 × cluster + lane. -/
  | larCmpi (lane : Nat)
  /-- MOVI (R390): lane: 8 × cluster + lane. -/
  | larMovi (lane : Nat)
  /-- BREVN (R398): lane: 8 × cluster + lane. -/
  | larBrevn (lane : Nat)
  /-- LD (R400): lane: 8 × cluster + lane. -/
  | larLd (lane : Nat)
  /-- ST (R399): lane: 8 × cluster + lane. -/
  | larSt (lane : Nat)
  /-- LDI (R390): lane: 8 × cluster + lane. -/
  | larLdi (lane : Nat)
  /-- LDA (R400): lane: 8 × cluster + lane. -/
  | larLda (lane : Nat)
  /-- STA (R399): lane: 8 × cluster + lane. -/
  | larSta (lane : Nat)
  /-- JMP (R409): lane: 8 × cluster + lane. -/
  | larJmp (lane : Nat)
  /-- CALL (R410): lane: 8 × cluster + lane. -/
  | larCall (lane : Nat)
  /-- DJNZ (R409): lane: 8 × cluster + lane. -/
  | larDjnz (lane : Nat)
  /-- BR (R392): lane: 8 × cluster + lane. -/
  | larBr (lane : Nat)
  /-- MFSL (R402): lane: 8 × cluster + lane. -/
  | larMfsl (lane : Nat)
  /-- MFSH (R402): lane: 8 × cluster + lane. -/
  | larMfsh (lane : Nat)
  /-- MTSL (R402): lane: 8 × cluster + lane. -/
  | larMtsl (lane : Nat)
  /-- MTSH (R402): lane: 8 × cluster + lane. -/
  | larMtsh (lane : Nat)
  /-- CTC_RUN (R403): lane: 8 × cluster + lane. -/
  | larCtcRun (lane : Nat)
  /-- CTC_STOP (R403): lane: 8 × cluster + lane. -/
  | larCtcStop (lane : Nat)
  /-- CTC_CLEAR (R403): lane: 8 × cluster + lane. -/
  | larCtcClear (lane : Nat)
  /-- PCLR (R404): lane: 8 × cluster + lane. -/
  | larPclr (lane : Nat)
  /-- PSET (R404): lane: 8 × cluster + lane. -/
  | larPset (lane : Nat)
  /-- PTGL (R404): lane: 8 × cluster + lane. -/
  | larPtgl (lane : Nat)
  /-- PMOVC (R404): lane: 8 × cluster + lane. -/
  | larPmovc (lane : Nat)
  /-- WAIT (R405): lane: 8 × cluster + lane. -/
  | larWait (lane : Nat)
  /-- WAIT_SATISFIED (R405): lane: 8 × cluster + lane. -/
  | waitSatisfied (lane : Nat)
  /-- SHIFT (R406): lane: 8 × cluster + lane. -/
  | larShift (lane : Nat)
  /-- SHIFT_EDGE (R406): lane: 8 × cluster + lane. -/
  | shiftEdge (lane : Nat)
  /-- CRCB (R408): lane: 8 × cluster + lane. -/
  | larCrcb (lane : Nat)
  /-- REP (R412): lane: 8 × cluster + lane. -/
  | larRep (lane : Nat)
  /-- BMOV (R414): lane: 8 × cluster + lane. -/
  | larBmov (lane : Nat)
  /-- BFIL (R414): lane: 8 × cluster + lane. -/
  | larBfil (lane : Nat)
  /-- BCMP (R414): lane: 8 × cluster + lane. -/
  | larBcmp (lane : Nat)
  /-- BCRC (R414): lane: 8 × cluster + lane. -/
  | larBcrc (lane : Nat)
  /-- TANG (R417): lane: 8 × cluster + lane. -/
  | larTang (lane : Nat)
  /-- TRATE (R417): lane: 8 × cluster + lane. -/
  | larTrate (lane : Nat)
  /-- TPRED (R417): lane: 8 × cluster + lane. -/
  | larTpred (lane : Nat)
  /-- TRPM (R417): lane: 8 × cluster + lane. -/
  | larTrpm (lane : Nat)
  /-- TSYN (R417): lane: 8 × cluster + lane. -/
  | larTsyn (lane : Nat)
  /-- TVTX (R417): lane: 8 × cluster + lane. -/
  | larTvtx (lane : Nat)
  /-- TA2T (R417): lane: 8 × cluster + lane. -/
  | larTa2t (lane : Nat)
  /-- C32I (R418): lane: 8 × cluster + lane. -/
  | larC32i (lane : Nat)
  /-- C32W (R418): lane: 8 × cluster + lane. -/
  | larC32w (lane : Nat)
  /-- C32F (R418): lane: 8 × cluster + lane. -/
  | larC32f (lane : Nat)
  /-- C16W (R418): lane: 8 × cluster + lane. -/
  | larC16w (lane : Nat)
  /-- HSHI (R418): lane: 8 × cluster + lane. -/
  | larHshi (lane : Nat)
  /-- HSHW (R418): lane: 8 × cluster + lane. -/
  | larHshw (lane : Nat)
  /-- LWR (R419): lane: 8 × cluster + lane. -/
  | larLwr (lane : Nat)
  /-- LWW (R419): lane: 8 × cluster + lane. -/
  | larLww (lane : Nat)
  /-- LWRI (R419): lane: 8 × cluster + lane. -/
  | larLwri (lane : Nat)
  /-- LWWI (R419): lane: 8 × cluster + lane. -/
  | larLwwi (lane : Nat)
  /-- EWR (R420): lane: 8 × cluster + lane. -/
  | larEwr (lane : Nat)
  /-- EARM (R420): lane: 8 × cluster + lane. -/
  | larEarm (lane : Nat)
  /-- ECAN (R420): lane: 8 × cluster + lane. -/
  | larEcan (lane : Nat)
  /-- CMBRD_PSTAT (R421): lane: 8 × cluster + lane. -/
  | larCmbrdPstat (lane : Nat)
  /-- CMBRD_PMAX (R421): lane: 8 × cluster + lane. -/
  | larCmbrdPmax (lane : Nat)
  /-- CMBRD_IMEP (R421): lane: 8 × cluster + lane. -/
  | larCmbrdImep (lane : Nat)
  /-- CMBRD_QMAX (R421): lane: 8 × cluster + lane. -/
  | larCmbrdQmax (lane : Nat)
  /-- CMBRD_A10_A50 (R421): lane: 8 × cluster + lane. -/
  | larCmbrdA10A50 (lane : Nat)
  /-- CMBRD_A90_LAT (R421): lane: 8 × cluster + lane. -/
  | larCmbrdA90Lat (lane : Nat)
  /-- CMBRD_KSTAT (R421): lane: 8 × cluster + lane. -/
  | larCmbrdKstat (lane : Nat)
  /-- CMBRD_KINT (R421): lane: 8 × cluster + lane. -/
  | larCmbrdKint (lane : Nat)
  /-- EXT_UNIT_ANSWER (R416): lane: 8 × cluster + lane. -/
  | extUnitAnswer (lane : Nat)
  /-- COMPARE_MATCH (R354): lane: 8 × cluster + lane; cmp: 0 or 1. -/
  | compareMatch (lane cmp : Nat)
  /-- GP_PIN_EDGE (R365): pin: GP 0 to 95; level: its synchronised level. -/
  | gpPinEdge (pin : Nat) (level : Bool)
  /-- VECTOR_ENTRY (R370): lane: 8 × cluster + lane. -/
  | vectorEntry (lane : Nat)
  /-- LAN_CMD_HALT (R373): value: the word written to LAN_CMD. -/
  | lanCmdHalt (value : Word)
  /-- LAN_CMD_START (R373): value: the word written to LAN_CMD. -/
  | lanCmdStart (value : Word)
  /-- LAN_CMD_CONTINUE (R373): value: the word written to LAN_CMD. -/
  | lanCmdContinue (value : Word)
  /-- LAN_RDL_READ (R382). -/
  | lanRdlRead
  /-- LAN_RDL_WRITE (R375): value: the word written to LAN_RDL. -/
  | lanRdlWrite (value : Word)
  /-- LAN_CLR (R382): value: the word written. -/
  | lanClr (value : Word)
  /-- SPARE_IDLE (R376): value: the word written to LAN_SPCMD. -/
  | spareIdle (value : Word)
  /-- SPARE_NOW (R376): value: the word written to LAN_SPCMD. -/
  | spareNow (value : Word)
  /-- SPARE_CANCEL (R376): value: the word written to LAN_SPCMD. -/
  | spareCancel (value : Word)
  /-- SPARE_TAKEOVER (R377): cluster: 0 to 7. -/
  | spareTakeover (cluster : Nat)
  /-- MEMORY_FILL_DONE (R344): cluster: 0 to 7. -/
  | memoryFillDone (cluster : Nat)
  /-- FBK_SINCOS_SAMPLE (R430): port: 0 A, 1 B; sin, cos: the raw codes of the two tracks. -/
  | fbkSincosSample (port sin cos : Nat)
  /-- QUAD_EDGE (R431): port: 0 A, 1 B; a, b: the levels of the two tracks. -/
  | quadEdge (port : Nat) (a b : Bool)
  /-- OBSERVER_UPDATE (R433): port: 0 A, 1 B. -/
  | observerUpdate (port : Nat)
  /-- FBK_STILL_TIMEOUT (R436): port: 0 A, 1 B. -/
  | fbkStillTimeout (port : Nat)
  /-- FBK_CMPV_LO (R438): value: the word written. -/
  | fbkCmpvLo (value : Word)
  /-- DISARM (R452): value: the word written to FBK_CMPCFG. -/
  | disarm (value : Word)
  /-- CLRPOK (R452): value: the word written to FBK_CLR. -/
  | clrpok (value : Word)
  /-- FBK_CLRCNT (R452): value: the word written to FBK_CLR. -/
  | fbkClrcnt (value : Word)
  /-- FBK_POS_LO_READ (R451). -/
  | fbkPosLoRead
  /-- FBK_SSI_D0_READ (R451). -/
  | fbkSsiD0Read
  /-- SSI_PERIODIC_TRIGGER (R446): port: SSI 0 or 1; high: the level of SSIn_DAT. -/
  | ssiPeriodicTrigger (port : Nat) (high : Bool)
  /-- START (R446): value: the word written to FBK_SSI_CMD; high: the level of SSIn_DAT. -/
  | start (value : Word) (high : Bool)
  /-- SSI_FRAME_BEGIN (R446): port: SSI 0 or 1. -/
  | ssiFrameBegin (port : Nat)
  /-- SSI_TIMEOUT (R449): port: SSI 0 or 1; rd: the bits read, the first the most significant. -/
  | ssiTimeout (port rd : Nat)
  /-- SSI_FRAME_COMPLETE (R449): port: SSI 0 or 1; rd: the bits read, the first the most significant. -/
  | ssiFrameComplete (port rd : Nat)
  /-- SOURCE_ARRIVAL (R457): src: the source. -/
  | sourceArrival (src : Nat)
  /-- IRC_SET (R458): value: the word written. -/
  | ircSet (value : Word)
  /-- IRC_ACKCNT (R459): value: the word written. -/
  | ircAckcnt (value : Word)
  /-- IRC_HVEC_READ (R464): line: 0 to 3. -/
  | ircHvecRead (line : Nat)
  /-- IRC_SCFG (R466): value: the word written. -/
  | ircScfg (value : Word)
  /-- DELIVERY_SELECTION (R462): tgt: a target code of R461. -/
  | deliverySelection (tgt : Nat)
  /-- HANDSHAKE_END (R462): tgt: a target code of R461. -/
  | handshakeEnd (tgt : Nat)
  /-- STRAY_TIMEOUT (R468): src: the source. -/
  | strayTimeout (src : Nat)
  /-- IRC_STRAYCNT_CLR (R476): value: the word written to IRC_STRAYCNT. -/
  | ircStraycntClr (value : Word)
  /-- IRC_FLOST_CLR (R476): value: the word written to IRC_FLOST. -/
  | ircFlostClr (value : Word)
  /-- FAULT_REPORT (R469): block: the block of the report's code. -/
  | faultReport (block : Nat)
  /-- FAULT_RECORD_CLOSE (R470). -/
  | faultRecordClose
  /-- WAKE_LATCH_EDGE (R472): latch: 0 to 63; rise: the direction of the edge. -/
  | wakeLatchEdge (latch : Nat) (rise : Bool)
  /-- DMA_START (R492): value: the word written to DMA_CCMD. -/
  | dmaStart (value : Word)
  /-- KICK (R484): value: the word written to DMA_CCMD. -/
  | kick (value : Word)
  /-- STOP (R492): value: the word written to DMA_CCMD. -/
  | stop (value : Word)
  /-- ABORT (R493): value: the word written to DMA_CCMD. -/
  | abort (value : Word)
  /-- CLRCRED (R492): value: the word written to DMA_CCMD. -/
  | clrcred (value : Word)
  /-- DMA_CNT_CLR (R495): value: the word written. -/
  | dmaCntClr (value : Word)
  /-- DESCRIPTOR_FETCH (R483): channel: 0 to 31. -/
  | descriptorFetch (channel : Nat)
  /-- PACING_CREDIT (R486): channel: 0 to 31. -/
  | pacingCredit (channel : Nat)
  /-- DMA_BURST (R485). -/
  | dmaBurst
  /-- BARRIER_END (R488): channel: 0 to 31. -/
  | barrierEnd (channel : Nat)
  /-- CSN_RISE (R498): port: 0 CP0, 1 CP1. -/
  | csnRise (port : Nat)
  /-- PACKET_RECEIVED (R506): the packet's words as received; with LEN above 518 it ends with LEN. -/
  | packetReceived (port : Nat) (opw seq len : Word) (params : List Word) (crc : Word)
  /-- IDENT (R513): the packet the supervisors take next is an IDENT; so for every opcode below. -/
  | ident
  /-- RD (R514). -/
  | rd
  /-- WR (R516): high: the level of the selected SSIn_DAT pin. -/
  | wr (high : Bool)
  /-- ARM (R517). -/
  | arm
  /-- CANCEL (R517). -/
  | cancel
  /-- RCPSWAP (R517). -/
  | rcpswap
  /-- COMMIT (R518). -/
  | commit
  /-- CMTCANCEL (R518). -/
  | cmtcancel
  /-- SIN (R519). -/
  | sin
  /-- SOUT (R519). -/
  | sout
  /-- TAKEOVER (R560). -/
  | takeover
  /-- RELEASE (R560). -/
  | release
  /-- REJOIN (R566). -/
  | rejoin
  /-- DOMAIN (R594). -/
  | domain
  /-- DOMREAD (R598). -/
  | domread
  /-- FWOPEN (R632). -/
  | fwopen
  /-- FWDATA (R632). -/
  | fwdata
  /-- FWCLOSE (R632). -/
  | fwclose
  /-- CFGSTORE (R657). -/
  | cfgstore
  /-- CFGERASE (R657). -/
  | cfgerase
  /-- RUNG (R644). -/
  | rung
  /-- RESET (R652). -/
  | reset
  /-- CMD_CNT_CLR (R526). -/
  | cmdCntClr (value : Word)
  /-- BELITH_HELLO (R542): err, as in every frame: 0 good, 1 discarded under R537, 2 a twin-word is invalid; then the payload. -/
  | belithHello (err pairId serial fmt own jst syn : Nat)
  /-- BELITH_HEARTBEAT (R541): the payload; t4: the arrival tick at the partner of this device's last HEARTBEAT; aligned: the partner's ALIGNED. -/
  | belithHeartbeat (err : Nat) (shadow : Bool) (jst : Nat) (fault : Bool) (own t1 t4 : Nat) (aligned : Bool) (syn : Nat)
  /-- HEARTBEAT_SEND (R541). -/
  | heartbeatSend
  /-- HEARTBEAT_LOSS (R559). -/
  | heartbeatLoss
  /-- DIGEST (R554): sum: the digest. -/
  | digest (err pos : Nat) (half : Bool) (cyc stamp sum : Nat)
  /-- DIGEST_TIMEOUT (R554). -/
  | digestTimeout
  /-- RELEASE_FRAME (R556): reason: 1 FAULT. -/
  | releaseFrame (err units reason time : Nat)
  /-- HANDREQ (R560): idle: WHEN = 1; r: the launch R, or with NOTAKE the units' release tick. -/
  | handreq (err : Nat) (notake : Bool) (units : Nat) (idle role : Bool) (r : Nat)
  /-- HANDOVER_RELEASE (R560): units: those released in this tick. -/
  | handoverRelease (units : Nat)
  /-- HANDOVER_IDLE_TIMEOUT (R560). -/
  | handoverIdleTimeout
  /-- PROBE_RESULT (R534): driven: the units of the oldest probe that read DRIVEN. -/
  | probeResult (driven : Nat)
  /-- OWN_FAULT_RELEASE (R558). -/
  | ownFaultRelease
  /-- SOLO_TIMEOUT (R544). -/
  | soloTimeout
  /-- MIRROR (R547): sin: SIN words of port addr; high: as for WR. -/
  | mirror (err seq : Nat) (sin : Bool) (addr : Nat) (vals : List Word) (high : Bool)
  /-- AREQ (R549): kind: 0 arm (slot, RESULT, key distance), 1 cancel (tag, selection), 2 swap (COUNT), 3 and 4 boundary notice of a swap and of a set (cycle count), 5 set closed (mode; C), 6 set dropped (RESULT), 7 set acknowledged. -/
  | areq (err seq kind a b c time : Nat)
  /-- BULK (R567): idx: the index of an indexed register; staged: open staged values. -/
  | bulk (err seq addr idx : Nat) (vals : List Word) (staged : Bool)
  /-- DELTA (R567). -/
  | delta (err seq addr : Nat) (vals : List Word)
  /-- BELITH_JOIN (R570). -/
  | belithJoin (err seq : Nat) (msg : Machine.JoinMsg)
  /-- BELITH_DMA (R538). -/
  | belithDma (err seq : Nat) (vals : List Word)
  /-- BELITH_ACK (R540). -/
  | belithAck (err seq : Nat)
  /-- BELITH_RESEND_TIMEOUT (R540). -/
  | belithResendTimeout
  /-- BELITH_LINK_UP (R542). -/
  | belithLinkUp
  /-- BELITH_LINK_DOWN (R540): lockLost: a receive lane has lost symbol lock for 64 LINK clocks. -/
  | belithLinkDown (lockLost : Bool)
  /-- COPY_DONE (R568): time: the PRIMARY's Time Base. -/
  | copyDone (time : Nat)
  /-- JOIN_TIMEOUT (R571). -/
  | joinTimeout
  /-- REJOIN_TIMER (R571). -/
  | rejoinTimer
  /-- TWN_CNT_CLR (R578). -/
  | twnCntClr (value : Word)
  /-- ELREX_HELLO (R585): port: 0 ELX_U, 1 to 4 ELX_D0 to ELX_D3; err as for Belith frames; then the payload. -/
  | elrexHello (port err peer frole arole epoch depth : Nat) (aligned : Bool)
  /-- ELREX_HELLO_SEND (R585). -/
  | elrexHelloSend (port : Nat)
  /-- TMARK (R589): t1: in sixteenths of a tick; frac: sixteenths of the arrival stamp beyond this tick. -/
  | tmark (port err t1 frac epoch depth : Nat) (aligned : Bool)
  /-- TMARK_SEND (R588): delay: sixteenths of a tick from the tick to the comma, here and in DREQ_SEND. -/
  | tmarkSend (port delay : Nat)
  /-- DREQ_SEND (R588). -/
  | dreqSend (delay : Nat)
  /-- DREQ (R588): num: the mark number; frac: as for TMARK. -/
  | dreq (port err num frac : Nat)
  /-- DRESP (R589): t4: in sixteenths of a tick. -/
  | dresp (port err num t4 : Nat)
  /-- DCMD (R596): the payload. -/
  | dcmd (port err seq cnum action arg target t : Nat)
  /-- DOMEVT (R595). -/
  | domevt (n : Nat)
  /-- IGNSOFT (R595). -/
  | ignsoft
  /-- ORIGIN (R600). -/
  | origin
  /-- DACK (R597). -/
  | dack (port err seq cnum applied refused late : Nat)
  /-- DACK_DEADLINE (R597). -/
  | dackDeadline
  /-- DOMAIN_COMMAND_COMPLETE (R597). -/
  | domainCommandComplete
  /-- FREP (R603). -/
  | frep (port err seq : Nat) (rcd : Machine.DomRec)
  /-- DOMAIN_RECORD_CLOSE (R603). -/
  | domainRecordClose
  /-- NOTICE (R599): kind: 1 ORIGIN, 2 UPLOST. -/
  | notice (port err seq kind subj epoch : Nat)
  /-- ELREX_JOIN (R587). -/
  | elrexJoin (port err seq id frole serial depth : Nat)
  /-- JRES (R587): result: 1 accepted, 0 refused. -/
  | jres (port err seq id serial result : Nat)
  /-- LACK (R585). -/
  | lack (port err seq : Nat)
  /-- ELREX_RESEND_TIMEOUT (R585). -/
  | elrexResendTimeout (port : Nat)
  /-- ELREX_PORT_UP (R585). -/
  | elrexPortUp (port : Nat)
  /-- ELREX_PORT_DOWN (R585): lockLost: symbol lock has been lost for 64 LINK clocks. -/
  | elrexPortDown (port : Nat) (lockLost : Bool)
  /-- HOLDOVER_START (R591). -/
  | holdoverStart
  /-- HOLDOVER_END (R591). -/
  | holdoverEnd
  /-- STANDBY_TAKEOVER (R599). -/
  | standbyTakeover
  /-- JOIN_REFRESH (R587). -/
  | joinRefresh
  /-- JOIN_ENTRY_EXPIRY (R587). -/
  | joinEntryExpiry
  /-- ELX_CNT_CLR (R610). -/
  | elxCntClr (value : Word)
  /-- ELX_FRLOST_CLR (R610). -/
  | elxFrlostClr
  /-- PAIR_WALK_CHECK (R612): pair: the held pair; ok: it passes its check. -/
  | pairWalkCheck (pair : HeldPair) (ok : Bool)
  /-- SCRUB_READ (R621). -/
  | scrubRead
  /-- SCRUB_PASS_TIMEOUT (R621): bank: 0 to 3. -/
  | scrubPassTimeout (bank : Nat)
  /-- ROW_COPY_DONE (R623): bank: 0 to 3. -/
  | rowCopyDone (bank : Nat)
  /-- FUS_PROG (R629): value: the word written. -/
  | fusProg (value : Word)
  /-- FUSE_PROGRAM_DONE (R629). -/
  | fuseProgramDone
  /-- LAT_CNT_CLR (R637): value: the word written. -/
  | latCntClr (value : Word)
  /-- LAT_INJ (R637): value: the word written. -/
  | latInj (value : Word)
  /-- FLASH_ERASE_DONE (R632). -/
  | flashEraseDone
  /-- CFG_ERASE_DONE (R657). -/
  | cfgEraseDone
  /-- DOMAIN_ON (R640): domain: the power domain, 0 to 11. -/
  | domainOn (domain : Nat)
  /-- RUNG_ENTRY (R644). -/
  | rungEntry
  /-- RUNG_EXIT (R649): k: keep-oscillator periods since the Time Base clock stopped. -/
  | rungExit (k : Nat)
  /-- KEEP_TIMER_EXPIRY (R649). -/
  | keepTimerExpiry
  /-- PWR_KTIM_LO (R664). -/
  | pwrKtimLo (value : Word)
  /-- CLAIM (R660). -/
  | claim
  /-- HOSTLESS_LIMIT (R660). -/
  | hostlessLimit
  /-- VGD_LOW (R642). -/
  | vgdLow
  /-- VGD_GOOD (R642). -/
  | vgdGood
  /-- POWER_ON_RESET (R651). -/
  | powerOnReset
  /-- SUPPLY_RESET (R651). -/
  | supplyReset
  /-- PIN_RESET (R651): ticks: how long RSTN has been low. -/
  | pinReset (ticks : Nat)
  /-- COMMAND_RESET (R652). -/
  | commandReset
  /-- COLD_BOOT (R654): cfgAt: the tick in which the standing configuration is written; readyAt: that of READY; bad: bank and row of rows that fail the self-test. -/
  | coldBoot (cfgAt readyAt : Nat) (bad : List (Nat × Nat))
  /-- GRAY_CODE_PARITY_FAILURE (R47): island: the bit position of R64. -/
  | grayCodeParityFailure (island : Nat)
  /-- CSN_FALL (R497). -/
  | csnFall (port : Nat)
  /-- SYNC_WORD_FOUND (R499). -/
  | syncWordFound (port : Nat)
  /-- REPLY_WORD_SLOT (R505): the word slot in progress ends. -/
  | replyWordSlot (port : Nat)
  /-- NOP_PACKET (R511). -/
  | nopPacket
  /-- UNDEFINED_OPCODE_PACKET (R506). -/
  | undefinedOpcodePacket
  /-- UNDEFINED_INSTRUCTION (R389): lane: 8 × cluster + lane. -/
  | undefinedInstruction (lane : Nat)
  /-- COUNTER_WRAP (R357): lane: 8 × cluster + lane; ctr: 0 or 1. -/
  | counterWrap (lane ctr : Nat)
  /-- ENTRY_REBUILD_DONE (R614): out: the event output, 0 to 95. -/
  | entryRebuildDone (out : Nat)
  /-- OFFSET_REBUILD_DONE (R616). -/
  | offsetRebuildDone
  /-- READY_PULSE_END (R655). -/
  | readyPulseEnd
  /-- SPEED_WINDOW_STOPPED (R176). -/
  | speedWindowStopped
  /-- TCK_EDGE (R686): rise: TCK rises, else it falls; tms, tdi, trstn: the levels of the pins. -/
  | tckEdge (rise tms tdi trstn : Bool)
  deriving DecidableEq, Repr

end Sys2Proof
end

