-- ==== Sys2Proof/Machine/RegMap.lean ====
section
/-! DEFINITION. The register map: the address of every register (16_command_ports.md R523 and each chapter's offset table)
and, row by row, which bits each access code of 00_scope.md R15 covers and what they hold at reset. Bits in no mask are
reserved (R16). -/

namespace Sys2Proof

/-- A row of the register map: `n` registers of one layout from `addr` on; the bits that are RW, RWS, W1C, WO and RO; the
reset value. -/
structure RegRow where
  addr : Nat
  n : Nat
  rw : Nat
  rws : Nat
  w1c : Nat
  wo : Nat
  ro : Nat
  reset : Nat
  deriving DecidableEq, Repr

/-- TB_NOW0 (4 of them): 02_time_base.md R62. -/
abbrev Reg.TB_NOW0 : Nat := 0xF00000
/-- TB_STAT: 02_time_base.md R63. -/
abbrev Reg.TB_STAT : Nat := 0xF00004
/-- TB_LAG: 02_time_base.md R64. -/
abbrev Reg.TB_LAG : Nat := 0xF00005
/-- TB_RFAULT: 02_time_base.md R64. -/
abbrev Reg.TB_RFAULT : Nat := 0xF00006
/-- TB_STALE: 02_time_base.md R65. -/
abbrev Reg.TB_STALE : Nat := 0xF00007
/-- TB_CLEAD: 02_time_base.md R66. -/
abbrev Reg.TB_CLEAD : Nat := 0xF00008
/-- TB_CMT_STAT: 02_time_base.md R67. -/
abbrev Reg.TB_CMT_STAT : Nat := 0xF00009
/-- TB_CMT_T0 (4 of them): 02_time_base.md R68. -/
abbrev Reg.TB_CMT_T0 : Nat := 0xF0000A
/-- ANG_IN_CTL: 03_wheel_inputs.md R95. -/
abbrev Reg.ANG_IN_CTL : Nat := 0xF00100
/-- ANG_CRK0_AFE: 03_wheel_inputs.md R96. -/
abbrev Reg.ANG_CRK0_AFE : Nat := 0xF00101
/-- ANG_CRK1_AFE: 03_wheel_inputs.md R96. -/
abbrev Reg.ANG_CRK1_AFE : Nat := 0xF00102
/-- ANG_CRK0_MINSP: 03_wheel_inputs.md R97. -/
abbrev Reg.ANG_CRK0_MINSP : Nat := 0xF00103
/-- ANG_CRK1_MINSP: 03_wheel_inputs.md R97. -/
abbrev Reg.ANG_CRK1_MINSP : Nat := 0xF00104
/-- ANG_CAM_MINSP: 03_wheel_inputs.md R97. -/
abbrev Reg.ANG_CAM_MINSP : Nat := 0xF00105
/-- ANG_NWIN: 03_wheel_inputs.md R98. -/
abbrev Reg.ANG_NWIN : Nat := 0xF00106
/-- ANG_DIR_CFG: 03_wheel_inputs.md R99. -/
abbrev Reg.ANG_DIR_CFG : Nat := 0xF00107
/-- ANG_DIR_FWD: 03_wheel_inputs.md R99. -/
abbrev Reg.ANG_DIR_FWD : Nat := 0xF00108
/-- ANG_DIR_REV: 03_wheel_inputs.md R99. -/
abbrev Reg.ANG_DIR_REV : Nat := 0xF00109
/-- ANG_IN_STAT: 03_wheel_inputs.md R100. -/
abbrev Reg.ANG_IN_STAT : Nat := 0xF0010A
/-- ANG_CNT_CRK0 (2 of them): 03_wheel_inputs.md R101. -/
abbrev Reg.ANG_CNT_CRK0 : Nat := 0xF0010B
/-- ANG_CNT_CAM: 03_wheel_inputs.md R101. -/
abbrev Reg.ANG_CNT_CAM : Nat := 0xF0010D
/-- ANG_CNT_CLR: 03_wheel_inputs.md R102. -/
abbrev Reg.ANG_CNT_CLR : Nat := 0xF0010E
/-- ANG_REJ_T0 (4 of them): 03_wheel_inputs.md R94. -/
abbrev Reg.ANG_REJ_T0 : Nat := 0xF0010F
/-- ANG_REJ_INFO: 03_wheel_inputs.md R102. -/
abbrev Reg.ANG_REJ_INFO : Nat := 0xF00113
/-- ANG_VTX_SEL: 03_wheel_inputs.md R103. -/
abbrev Reg.ANG_VTX_SEL : Nat := 0xF00114
/-- ANG_VTX_D0 (8 of them): 03_wheel_inputs.md R94. -/
abbrev Reg.ANG_VTX_D0 : Nat := 0xF00115
/-- ANG_TCTL: 05_tangent.md R172. -/
abbrev Reg.ANG_TCTL : Nat := 0xF00140
/-- ANG_LBAND: 05_tangent.md R172. -/
abbrev Reg.ANG_LBAND : Nat := 0xF00141
/-- ANG_ERR_LIM: 05_tangent.md R172. -/
abbrev Reg.ANG_ERR_LIM : Nat := 0xF00142
/-- ANG_TCMD: 05_tangent.md R173. -/
abbrev Reg.ANG_TCMD : Nat := 0xF00143
/-- ANG_TSTAT: 05_tangent.md R174. -/
abbrev Reg.ANG_TSTAT : Nat := 0xF00144
/-- ANG_ACC_LO: 05_tangent.md R175. -/
abbrev Reg.ANG_ACC_LO : Nat := 0xF00145
/-- ANG_ACC_HI: 05_tangent.md R175. -/
abbrev Reg.ANG_ACC_HI : Nat := 0xF00146
/-- ANG_RATE_LO: 05_tangent.md R175. -/
abbrev Reg.ANG_RATE_LO : Nat := 0xF00147
/-- ANG_RATE_HI: 05_tangent.md R175. -/
abbrev Reg.ANG_RATE_HI : Nat := 0xF00148
/-- ANG_PRED_LO: 05_tangent.md R175. -/
abbrev Reg.ANG_PRED_LO : Nat := 0xF00149
/-- ANG_PRED_HI: 05_tangent.md R175. -/
abbrev Reg.ANG_PRED_HI : Nat := 0xF0014A
/-- ANG_RPM_LO: 05_tangent.md R175. -/
abbrev Reg.ANG_RPM_LO : Nat := 0xF0014B
/-- ANG_RPM_HI: 05_tangent.md R175. -/
abbrev Reg.ANG_RPM_HI : Nat := 0xF0014C
/-- ANG_CYCT_LO: 05_tangent.md R175. -/
abbrev Reg.ANG_CYCT_LO : Nat := 0xF0014D
/-- ANG_CYCT_HI: 05_tangent.md R175. -/
abbrev Reg.ANG_CYCT_HI : Nat := 0xF0014E
/-- ANG_ERR_MAX: 05_tangent.md R175. -/
abbrev Reg.ANG_ERR_MAX : Nat := 0xF0014F
/-- ANG_ERR_MIN: 05_tangent.md R175. -/
abbrev Reg.ANG_ERR_MIN : Nat := 0xF00150
/-- ANG_ERR_PMAX: 05_tangent.md R175. -/
abbrev Reg.ANG_ERR_PMAX : Nat := 0xF00151
/-- ANG_ERR_PMIN: 05_tangent.md R175. -/
abbrev Reg.ANG_ERR_PMIN : Nat := 0xF00152
/-- ANG_JMP_FROM_LO: 05_tangent.md R175. -/
abbrev Reg.ANG_JMP_FROM_LO : Nat := 0xF00153
/-- ANG_JMP_FROM_HI: 05_tangent.md R175. -/
abbrev Reg.ANG_JMP_FROM_HI : Nat := 0xF00154
/-- ANG_JMP_TO_LO: 05_tangent.md R175. -/
abbrev Reg.ANG_JMP_TO_LO : Nat := 0xF00155
/-- ANG_JMP_TO_HI: 05_tangent.md R175. -/
abbrev Reg.ANG_JMP_TO_HI : Nat := 0xF00156
/-- ANG_CNT_T: 05_tangent.md R175. -/
abbrev Reg.ANG_CNT_T : Nat := 0xF00157
/-- ANG_CNT_J: 05_tangent.md R175. -/
abbrev Reg.ANG_CNT_J : Nat := 0xF00158
/-- ANG_S16_PERL: 05_tangent.md R176. -/
abbrev Reg.ANG_S16_PERL : Nat := 0xF00170
/-- ANG_S16_PERH: 05_tangent.md R176. -/
abbrev Reg.ANG_S16_PERH : Nat := 0xF00171
/-- ANG_S16_TCNT: 05_tangent.md R176. -/
abbrev Reg.ANG_S16_TCNT : Nat := 0xF00172
/-- ANG_S16_STAT: 05_tangent.md R176. -/
abbrev Reg.ANG_S16_STAT : Nat := 0xF00173
/-- ANG_S16_CTL: 05_tangent.md R176. -/
abbrev Reg.ANG_S16_CTL : Nat := 0xF00174
/-- SYN_CTL: 04_sync.md R134. -/
abbrev Reg.SYN_CTL : Nat := 0xF00200
/-- SYN_WHEEL: 04_sync.md R134. -/
abbrev Reg.SYN_WHEEL : Nat := 0xF00201
/-- SYN_GAP2: 04_sync.md R134. -/
abbrev Reg.SYN_GAP2 : Nat := 0xF00202
/-- SYN_GTOL: 04_sync.md R134. -/
abbrev Reg.SYN_GTOL : Nat := 0xF00203
/-- SYN_REF_LO: 04_sync.md R134. -/
abbrev Reg.SYN_REF_LO : Nat := 0xF00204
/-- SYN_REF_HI: 04_sync.md R134. -/
abbrev Reg.SYN_REF_HI : Nat := 0xF00205
/-- SYN_STALL_T: 04_sync.md R134. -/
abbrev Reg.SYN_STALL_T : Nat := 0xF00206
/-- SYN_CAM_CTL: 04_sync.md R134. -/
abbrev Reg.SYN_CAM_CTL : Nat := 0xF00207
/-- SYN_CAMTOL: 04_sync.md R134. -/
abbrev Reg.SYN_CAMTOL : Nat := 0xF00208
/-- SYN_CPSEL: 04_sync.md R134. -/
abbrev Reg.SYN_CPSEL : Nat := 0xF00209
/-- SYN_CPANG: 04_sync.md R134. -/
abbrev Reg.SYN_CPANG : Nat := 0xF0020A
/-- SYN_CPLVL: 04_sync.md R134. -/
abbrev Reg.SYN_CPLVL : Nat := 0xF0020B
/-- SYN_CPNUM01 (2 of them): 04_sync.md R134. -/
abbrev Reg.SYN_CPNUM01 : Nat := 0xF0020C
/-- SYN_STAT: 04_sync.md R135. -/
abbrev Reg.SYN_STAT : Nat := 0xF0020E
/-- SYN_POS: 04_sync.md R135. -/
abbrev Reg.SYN_POS : Nat := 0xF0020F
/-- SYN_LAST: 04_sync.md R135. -/
abbrev Reg.SYN_LAST : Nat := 0xF00210
/-- SYN_CNT: 04_sync.md R135. -/
abbrev Reg.SYN_CNT : Nat := 0xF00211
/-- SYN_CLR: 04_sync.md R135. -/
abbrev Reg.SYN_CLR : Nat := 0xF00212
/-- SYN_CMD: 04_sync.md R135. -/
abbrev Reg.SYN_CMD : Nat := 0xF00213
/-- EVQ_CTL: 06_events.md R214. -/
abbrev Reg.EVQ_CTL : Nat := 0xF00300
/-- EVQ_ARM: 06_events.md R214. -/
abbrev Reg.EVQ_ARM : Nat := 0xF00301
/-- EVQ_ARM_STAT: 06_events.md R214. -/
abbrev Reg.EVQ_ARM_STAT : Nat := 0xF00302
/-- EVQ_CAN_TAG: 06_events.md R214. -/
abbrev Reg.EVQ_CAN_TAG : Nat := 0xF00303
/-- EVQ_CAN_CMD: 06_events.md R214. -/
abbrev Reg.EVQ_CAN_CMD : Nat := 0xF00304
/-- EVQ_CAN_STAT: 06_events.md R214. -/
abbrev Reg.EVQ_CAN_STAT : Nat := 0xF00305
/-- EVQ_GBASE_LO: 06_events.md R215. -/
abbrev Reg.EVQ_GBASE_LO : Nat := 0xF00306
/-- EVQ_GBASE_HI: 06_events.md R215. -/
abbrev Reg.EVQ_GBASE_HI : Nat := 0xF00307
/-- EVQ_RBASE_LO: 06_events.md R215. -/
abbrev Reg.EVQ_RBASE_LO : Nat := 0xF00308
/-- EVQ_RBASE_HI: 06_events.md R215. -/
abbrev Reg.EVQ_RBASE_HI : Nat := 0xF00309
/-- EVQ_RCTL: 06_events.md R215. -/
abbrev Reg.EVQ_RCTL : Nat := 0xF0030A
/-- EVQ_RWR: 06_events.md R215. -/
abbrev Reg.EVQ_RWR : Nat := 0xF0030B
/-- EVQ_RRD: 06_events.md R215. -/
abbrev Reg.EVQ_RRD : Nat := 0xF0030C
/-- EVQ_RLOST: 06_events.md R215. -/
abbrev Reg.EVQ_RLOST : Nat := 0xF0030D
/-- EVQ_RCP_CMD: 06_events.md R216. -/
abbrev Reg.EVQ_RCP_CMD : Nat := 0xF0030E
/-- EVQ_RCP_STAT: 06_events.md R216. -/
abbrev Reg.EVQ_RCP_STAT : Nat := 0xF0030F
/-- EVQ_QSEL: 06_events.md R216. -/
abbrev Reg.EVQ_QSEL : Nat := 0xF00310
/-- EVQ_QSTAT: 06_events.md R216. -/
abbrev Reg.EVQ_QSTAT : Nat := 0xF00311
/-- EVQ_SLSEL: 06_events.md R216. -/
abbrev Reg.EVQ_SLSEL : Nat := 0xF00312
/-- EVQ_SLSTAT: 06_events.md R216. -/
abbrev Reg.EVQ_SLSTAT : Nat := 0xF00313
/-- EVQ_INUSE: 06_events.md R216. -/
abbrev Reg.EVQ_INUSE : Nat := 0xF00314
/-- EVQ_CNT: 06_events.md R216. -/
abbrev Reg.EVQ_CNT : Nat := 0xF00315
/-- EVQ_CNT_CLR: 06_events.md R216. -/
abbrev Reg.EVQ_CNT_CLR : Nat := 0xF00316
/-- ARC_EN0 (16 of them): 07_arcs.md R241. -/
abbrev Reg.ARC_EN0 : Nat := 0xF00400
/-- ARC_SEL: 07_arcs.md R242. -/
abbrev Reg.ARC_SEL : Nat := 0xF00410
/-- ARC_STAT: 07_arcs.md R242. -/
abbrev Reg.ARC_STAT : Nat := 0xF00411
/-- ARC_CSEL: 07_arcs.md R242. -/
abbrev Reg.ARC_CSEL : Nat := 0xF00412
/-- ARC_CALG: 07_arcs.md R242. -/
abbrev Reg.ARC_CALG : Nat := 0xF00413
/-- ARC_CALO: 07_arcs.md R242. -/
abbrev Reg.ARC_CALO : Nat := 0xF00414
/-- ARC_CSTAT: 07_arcs.md R242. -/
abbrev Reg.ARC_CSTAT : Nat := 0xF00415
/-- ARC_CMD: 07_arcs.md R242. -/
abbrev Reg.ARC_CMD : Nat := 0xF00416
/-- ARC_CNT: 07_arcs.md R242. -/
abbrev Reg.ARC_CNT : Nat := 0xF00417
/-- ARC_CNT_CLR: 07_arcs.md R242. -/
abbrev Reg.ARC_CNT_CLR : Nat := 0xF00418
/-- ARC_FLT: 07_arcs.md R242. -/
abbrev Reg.ARC_FLT : Nat := 0xF00419
/-- CMB_EN0: 08_combustion.md R265. -/
abbrev Reg.CMB_EN0 : Nat := 0xF00500
/-- CMB_EN1: 08_combustion.md R265. -/
abbrev Reg.CMB_EN1 : Nat := 0xF00501
/-- CMB_PEGP: 08_combustion.md R265. -/
abbrev Reg.CMB_PEGP : Nat := 0xF00502
/-- CMB_STAT: 08_combustion.md R265. -/
abbrev Reg.CMB_STAT : Nat := 0xF00503
/-- CMB_CNT: 08_combustion.md R265. -/
abbrev Reg.CMB_CNT : Nat := 0xF00504
/-- CMB_CNT_CLR: 08_combustion.md R265. -/
abbrev Reg.CMB_CNT_CLR : Nat := 0xF00505
/-- DRV_CTL: 09_solenoid_drive.md R304. -/
abbrev Reg.DRV_CTL : Nat := 0xF00600
/-- DRV_PCTL: 09_solenoid_drive.md R304. -/
abbrev Reg.DRV_PCTL : Nat := 0xF00601
/-- DRV_PSTAT: 09_solenoid_drive.md R304. -/
abbrev Reg.DRV_PSTAT : Nat := 0xF00602
/-- DRV_GUARD: 09_solenoid_drive.md R304. -/
abbrev Reg.DRV_GUARD : Nat := 0xF00603
/-- DRV_OFFT0 (24 of them): 09_solenoid_drive.md R304. -/
abbrev Reg.DRV_OFFT0 : Nat := 0xF00604
/-- DRV_BSTAT_A (6 of them): 09_solenoid_drive.md R305. -/
abbrev Reg.DRV_BSTAT_A : Nat := 0xF0061C
/-- DRV_CFLAG: 09_solenoid_drive.md R305. -/
abbrev Reg.DRV_CFLAG : Nat := 0xF00622
/-- DRV_CNT: 09_solenoid_drive.md R305. -/
abbrev Reg.DRV_CNT : Nat := 0xF00623
/-- DRV_CNT_CLR: 09_solenoid_drive.md R305. -/
abbrev Reg.DRV_CNT_CLR : Nat := 0xF00624
/-- DRV_DROP_TAG: 09_solenoid_drive.md R305. -/
abbrev Reg.DRV_DROP_TAG : Nat := 0xF00625
/-- DRV_DROP_INFO: 09_solenoid_drive.md R305. -/
abbrev Reg.DRV_DROP_INFO : Nat := 0xF00626
/-- DRV_VBAT: 09_solenoid_drive.md R306. -/
abbrev Reg.DRV_VBAT : Nat := 0xF00627
/-- DRV_BST0_TGT: 09_solenoid_drive.md R306. -/
abbrev Reg.DRV_BST0_TGT : Nat := 0xF00628
/-- DRV_BST0_RDY: 09_solenoid_drive.md R306. -/
abbrev Reg.DRV_BST0_RDY : Nat := 0xF00629
/-- DRV_BST0_OVP: 09_solenoid_drive.md R306. -/
abbrev Reg.DRV_BST0_OVP : Nat := 0xF0062A
/-- DRV_BST0_SW: 09_solenoid_drive.md R306. -/
abbrev Reg.DRV_BST0_SW : Nat := 0xF0062B
/-- DRV_BST0_TIM: 09_solenoid_drive.md R306. -/
abbrev Reg.DRV_BST0_TIM : Nat := 0xF0062C
/-- DRV_BST0_V: 09_solenoid_drive.md R306. -/
abbrev Reg.DRV_BST0_V : Nat := 0xF0062D
/-- DRV_BST1_TGT: 09_solenoid_drive.md R306. -/
abbrev Reg.DRV_BST1_TGT : Nat := 0xF0062E
/-- DRV_BST1_RDY: 09_solenoid_drive.md R306. -/
abbrev Reg.DRV_BST1_RDY : Nat := 0xF0062F
/-- DRV_BST1_OVP: 09_solenoid_drive.md R306. -/
abbrev Reg.DRV_BST1_OVP : Nat := 0xF00630
/-- DRV_BST1_SW: 09_solenoid_drive.md R306. -/
abbrev Reg.DRV_BST1_SW : Nat := 0xF00631
/-- DRV_BST1_TIM: 09_solenoid_drive.md R306. -/
abbrev Reg.DRV_BST1_TIM : Nat := 0xF00632
/-- DRV_BST1_V: 09_solenoid_drive.md R306. -/
abbrev Reg.DRV_BST1_V : Nat := 0xF00633
/-- DRV_BSTST: 09_solenoid_drive.md R306. -/
abbrev Reg.DRV_BSTST : Nat := 0xF00634
/-- DRV_TRC_CTL: 09_solenoid_drive.md R307. -/
abbrev Reg.DRV_TRC_CTL : Nat := 0xF00635
/-- DRV_TRC_BASE_LO: 09_solenoid_drive.md R307. -/
abbrev Reg.DRV_TRC_BASE_LO : Nat := 0xF00636
/-- DRV_TRC_BASE_HI: 09_solenoid_drive.md R307. -/
abbrev Reg.DRV_TRC_BASE_HI : Nat := 0xF00637
/-- DRV_TRC_LEN: 09_solenoid_drive.md R307. -/
abbrev Reg.DRV_TRC_LEN : Nat := 0xF00638
/-- DRV_TRC_STAT: 09_solenoid_drive.md R307. -/
abbrev Reg.DRV_TRC_STAT : Nat := 0xF00639
/-- DRV_DG_CNT0 (3 of them): 10_ignition_valves_diagnostics.md R335. -/
abbrev Reg.DRV_DG_CNT0 : Nat := 0xF00640
/-- DRV_DG_CLR: 10_ignition_valves_diagnostics.md R335. -/
abbrev Reg.DRV_DG_CLR : Nat := 0xF00643
/-- DRV_DG_OL0: 10_ignition_valves_diagnostics.md R335. -/
abbrev Reg.DRV_DG_OL0 : Nat := 0xF00644
/-- DRV_DG_OL1: 10_ignition_valves_diagnostics.md R335. -/
abbrev Reg.DRV_DG_OL1 : Nat := 0xF00645
/-- DRV_DG_SC0: 10_ignition_valves_diagnostics.md R335. -/
abbrev Reg.DRV_DG_SC0 : Nat := 0xF00646
/-- DRV_DG_SC1: 10_ignition_valves_diagnostics.md R335. -/
abbrev Reg.DRV_DG_SC1 : Nat := 0xF00647
/-- DRV_DG_TAG: 10_ignition_valves_diagnostics.md R335. -/
abbrev Reg.DRV_DG_TAG : Nat := 0xF00648
/-- DRV_DG_INFO: 10_ignition_valves_diagnostics.md R335. -/
abbrev Reg.DRV_DG_INFO : Nat := 0xF00649
/-- DRV_DG_ECL_LO: 10_ignition_valves_diagnostics.md R335. -/
abbrev Reg.DRV_DG_ECL_LO : Nat := 0xF0064A
/-- DRV_DG_ECL_HI: 10_ignition_valves_diagnostics.md R335. -/
abbrev Reg.DRV_DG_ECL_HI : Nat := 0xF0064B
/-- IGN_EN0: 10_ignition_valves_diagnostics.md R336. -/
abbrev Reg.IGN_EN0 : Nat := 0xF00700
/-- IGN_EN1: 10_ignition_valves_diagnostics.md R336. -/
abbrev Reg.IGN_EN1 : Nat := 0xF00701
/-- IGN_RAMP: 10_ignition_valves_diagnostics.md R336. -/
abbrev Reg.IGN_RAMP : Nat := 0xF00702
/-- IGN_DWMAX: 10_ignition_valves_diagnostics.md R336. -/
abbrev Reg.IGN_DWMAX : Nat := 0xF00703
/-- IGN_DWMIN: 10_ignition_valves_diagnostics.md R336. -/
abbrev Reg.IGN_DWMIN : Nat := 0xF00704
/-- IGN_CMD: 10_ignition_valves_diagnostics.md R336. -/
abbrev Reg.IGN_CMD : Nat := 0xF00705
/-- IGN_DWL0: 10_ignition_valves_diagnostics.md R336. -/
abbrev Reg.IGN_DWL0 : Nat := 0xF00706
/-- IGN_DWL1: 10_ignition_valves_diagnostics.md R336. -/
abbrev Reg.IGN_DWL1 : Nat := 0xF00707
/-- IGN_RMP0: 10_ignition_valves_diagnostics.md R336. -/
abbrev Reg.IGN_RMP0 : Nat := 0xF00708
/-- IGN_RMP1: 10_ignition_valves_diagnostics.md R336. -/
abbrev Reg.IGN_RMP1 : Nat := 0xF00709
/-- IGN_FLT0: 10_ignition_valves_diagnostics.md R336. -/
abbrev Reg.IGN_FLT0 : Nat := 0xF0070A
/-- IGN_FLT1: 10_ignition_valves_diagnostics.md R336. -/
abbrev Reg.IGN_FLT1 : Nat := 0xF0070B
/-- IGN_CNT: 10_ignition_valves_diagnostics.md R336. -/
abbrev Reg.IGN_CNT : Nat := 0xF0070C
/-- IGN_CNT_CLR: 10_ignition_valves_diagnostics.md R336. -/
abbrev Reg.IGN_CNT_CLR : Nat := 0xF0070D
/-- IGN_DROP_TAG: 10_ignition_valves_diagnostics.md R336. -/
abbrev Reg.IGN_DROP_TAG : Nat := 0xF0070E
/-- IGN_DROP_INFO: 10_ignition_valves_diagnostics.md R336. -/
abbrev Reg.IGN_DROP_INFO : Nat := 0xF0070F
/-- VLV_SEL: 10_ignition_valves_diagnostics.md R337. -/
abbrev Reg.VLV_SEL : Nat := 0xF00800
/-- VLV_CFG: 10_ignition_valves_diagnostics.md R337. -/
abbrev Reg.VLV_CFG : Nat := 0xF00801
/-- VLV_PER: 10_ignition_valves_diagnostics.md R337. -/
abbrev Reg.VLV_PER : Nat := 0xF00802
/-- VLV_DUTY: 10_ignition_valves_diagnostics.md R337. -/
abbrev Reg.VLV_DUTY : Nat := 0xF00803
/-- VLV_ISET: 10_ignition_valves_diagnostics.md R337. -/
abbrev Reg.VLV_ISET : Nat := 0xF00804
/-- VLV_KP: 10_ignition_valves_diagnostics.md R337. -/
abbrev Reg.VLV_KP : Nat := 0xF00805
/-- VLV_KI: 10_ignition_valves_diagnostics.md R337. -/
abbrev Reg.VLV_KI : Nat := 0xF00806
/-- VLV_DMAX: 10_ignition_valves_diagnostics.md R337. -/
abbrev Reg.VLV_DMAX : Nat := 0xF00807
/-- VLV_IOL: 10_ignition_valves_diagnostics.md R337. -/
abbrev Reg.VLV_IOL : Nat := 0xF00808
/-- VLV_IOC: 10_ignition_valves_diagnostics.md R337. -/
abbrev Reg.VLV_IOC : Nat := 0xF00809
/-- VLV_STAT: 10_ignition_valves_diagnostics.md R337. -/
abbrev Reg.VLV_STAT : Nat := 0xF0080A
/-- VLV_IMEAN: 10_ignition_valves_diagnostics.md R337. -/
abbrev Reg.VLV_IMEAN : Nat := 0xF0080B
/-- VLV_DNOW: 10_ignition_valves_diagnostics.md R337. -/
abbrev Reg.VLV_DNOW : Nat := 0xF0080C
/-- VLV_CNT: 10_ignition_valves_diagnostics.md R337. -/
abbrev Reg.VLV_CNT : Nat := 0xF0080D
/-- VLV_CNT_CLR: 10_ignition_valves_diagnostics.md R337. -/
abbrev Reg.VLV_CNT_CLR : Nat := 0xF0080E
/-- LAN_SEL: 11_lanes.md R382. -/
abbrev Reg.LAN_SEL : Nat := 0xF00900
/-- LAN_CMD: 11_lanes.md R382. -/
abbrev Reg.LAN_CMD : Nat := 0xF00901
/-- LAN_LSTAT: 11_lanes.md R382. -/
abbrev Reg.LAN_LSTAT : Nat := 0xF00902
/-- LAN_FPC: 11_lanes.md R382. -/
abbrev Reg.LAN_FPC : Nat := 0xF00903
/-- LAN_LCFG: 11_lanes.md R382. -/
abbrev Reg.LAN_LCFG : Nat := 0xF00904
/-- LAN_REC: 11_lanes.md R382. -/
abbrev Reg.LAN_REC : Nat := 0xF00905
/-- LAN_RSEL: 11_lanes.md R382. -/
abbrev Reg.LAN_RSEL : Nat := 0xF00906
/-- LAN_RDL: 11_lanes.md R382. -/
abbrev Reg.LAN_RDL : Nat := 0xF00907
/-- LAN_RDH: 11_lanes.md R382. -/
abbrev Reg.LAN_RDH : Nat := 0xF00908
/-- LAN_CTCFG0 (2 of them): 11_lanes.md R383. -/
abbrev Reg.LAN_CTCFG0 : Nat := 0xF00909
/-- LAN_CMPCFG: 11_lanes.md R383. -/
abbrev Reg.LAN_CMPCFG : Nat := 0xF0090B
/-- LAN_CAPCFG: 11_lanes.md R383. -/
abbrev Reg.LAN_CAPCFG : Nat := 0xF0090C
/-- LAN_VSRC0 (4 of them): 11_lanes.md R384. -/
abbrev Reg.LAN_VSRC0 : Nat := 0xF0090D
/-- LAN_VENT0 (4 of them): 11_lanes.md R384. -/
abbrev Reg.LAN_VENT0 : Nat := 0xF00911
/-- LAN_PMAP0 (8 of them): 11_lanes.md R384. -/
abbrev Reg.LAN_PMAP0 : Nat := 0xF00915
/-- LAN_CLR: 11_lanes.md R382. -/
abbrev Reg.LAN_CLR : Nat := 0xF0091D
/-- LAN_CCFG: 11_lanes.md R385. -/
abbrev Reg.LAN_CCFG : Nat := 0xF0091E
/-- LAN_SPCMD: 11_lanes.md R385. -/
abbrev Reg.LAN_SPCMD : Nat := 0xF0091F
/-- LAN_SPSTAT: 11_lanes.md R385. -/
abbrev Reg.LAN_SPSTAT : Nat := 0xF00920
/-- LAN_PSEL: 11_lanes.md R385. -/
abbrev Reg.LAN_PSEL : Nat := 0xF00921
/-- LAN_PIN: 11_lanes.md R385. -/
abbrev Reg.LAN_PIN : Nat := 0xF00922
/-- LAN_PLVL0 (6 of them): 11_lanes.md R381. -/
abbrev Reg.LAN_PLVL0 : Nat := 0xF00923
/-- FBK_SEL: 13_feedback.md R452. -/
abbrev Reg.FBK_SEL : Nat := 0xF00A00
/-- FBK_CFG: 13_feedback.md R452. -/
abbrev Reg.FBK_CFG : Nat := 0xF00A01
/-- FBK_BW: 13_feedback.md R452. -/
abbrev Reg.FBK_BW : Nat := 0xF00A02
/-- FBK_OFSS: 13_feedback.md R452. -/
abbrev Reg.FBK_OFSS : Nat := 0xF00A03
/-- FBK_OFSC: 13_feedback.md R452. -/
abbrev Reg.FBK_OFSC : Nat := 0xF00A04
/-- FBK_GAINS: 13_feedback.md R452. -/
abbrev Reg.FBK_GAINS : Nat := 0xF00A05
/-- FBK_GAINC: 13_feedback.md R452. -/
abbrev Reg.FBK_GAINC : Nat := 0xF00A06
/-- FBK_AMP: 13_feedback.md R452. -/
abbrev Reg.FBK_AMP : Nat := 0xF00A07
/-- FBK_QMINSP: 13_feedback.md R452. -/
abbrev Reg.FBK_QMINSP : Nat := 0xF00A08
/-- FBK_STILL: 13_feedback.md R452. -/
abbrev Reg.FBK_STILL : Nat := 0xF00A09
/-- FBK_TLPR: 13_feedback.md R452. -/
abbrev Reg.FBK_TLPR : Nat := 0xF00A0A
/-- FBK_STAT: 13_feedback.md R452. -/
abbrev Reg.FBK_STAT : Nat := 0xF00A0B
/-- FBK_POS_LO: 13_feedback.md R450. -/
abbrev Reg.FBK_POS_LO : Nat := 0xF00A0C
/-- FBK_POS_HI: 13_feedback.md R450. -/
abbrev Reg.FBK_POS_HI : Nat := 0xF00A0D
/-- FBK_SPD_LO: 13_feedback.md R450. -/
abbrev Reg.FBK_SPD_LO : Nat := 0xF00A0E
/-- FBK_SPD_HI: 13_feedback.md R450. -/
abbrev Reg.FBK_SPD_HI : Nat := 0xF00A0F
/-- FBK_ACC_LO: 13_feedback.md R450. -/
abbrev Reg.FBK_ACC_LO : Nat := 0xF00A10
/-- FBK_ACC_HI: 13_feedback.md R450. -/
abbrev Reg.FBK_ACC_HI : Nat := 0xF00A11
/-- FBK_RAW_LO: 13_feedback.md R450. -/
abbrev Reg.FBK_RAW_LO : Nat := 0xF00A12
/-- FBK_RAW_HI: 13_feedback.md R450. -/
abbrev Reg.FBK_RAW_HI : Nat := 0xF00A13
/-- FBK_CNT: 13_feedback.md R452. -/
abbrev Reg.FBK_CNT : Nat := 0xF00A14
/-- FBK_CLR: 13_feedback.md R452. -/
abbrev Reg.FBK_CLR : Nat := 0xF00A15
/-- FBK_CMPCFG: 13_feedback.md R452. -/
abbrev Reg.FBK_CMPCFG : Nat := 0xF00A16
/-- FBK_CMPV_LO: 13_feedback.md R452. -/
abbrev Reg.FBK_CMPV_LO : Nat := 0xF00A17
/-- FBK_CMPV_HI: 13_feedback.md R452. -/
abbrev Reg.FBK_CMPV_HI : Nat := 0xF00A18
/-- FBK_SSI_CFG: 13_feedback.md R453. -/
abbrev Reg.FBK_SSI_CFG : Nat := 0xF00A19
/-- FBK_SSI_CLK: 13_feedback.md R453. -/
abbrev Reg.FBK_SSI_CLK : Nat := 0xF00A1A
/-- FBK_SSI_FMT: 13_feedback.md R453. -/
abbrev Reg.FBK_SSI_FMT : Nat := 0xF00A1B
/-- FBK_SSI_POLY: 13_feedback.md R453. -/
abbrev Reg.FBK_SSI_POLY : Nat := 0xF00A1C
/-- FBK_SSI_INIT: 13_feedback.md R453. -/
abbrev Reg.FBK_SSI_INIT : Nat := 0xF00A1D
/-- FBK_SSI_PER: 13_feedback.md R453. -/
abbrev Reg.FBK_SSI_PER : Nat := 0xF00A1E
/-- FBK_SSI_TMO: 13_feedback.md R453. -/
abbrev Reg.FBK_SSI_TMO : Nat := 0xF00A1F
/-- FBK_SSI_CMD: 13_feedback.md R453. -/
abbrev Reg.FBK_SSI_CMD : Nat := 0xF00A20
/-- FBK_SSI_STAT: 13_feedback.md R453. -/
abbrev Reg.FBK_SSI_STAT : Nat := 0xF00A21
/-- FBK_SSI_D0 (3 of them): 13_feedback.md R450. -/
abbrev Reg.FBK_SSI_D0 : Nat := 0xF00A22
/-- FBK_SSI_T0 (2 of them): 13_feedback.md R450. -/
abbrev Reg.FBK_SSI_T0 : Nat := 0xF00A25
/-- IRC_SSEL: 14_interrupts.md R475. -/
abbrev Reg.IRC_SSEL : Nat := 0xF00B00
/-- IRC_SCFG: 14_interrupts.md R475. -/
abbrev Reg.IRC_SCFG : Nat := 0xF00B01
/-- IRC_SSTAT: 14_interrupts.md R475. -/
abbrev Reg.IRC_SSTAT : Nat := 0xF00B02
/-- IRC_SET: 14_interrupts.md R475. -/
abbrev Reg.IRC_SET : Nat := 0xF00B03
/-- IRC_ACKSRC: 14_interrupts.md R475. -/
abbrev Reg.IRC_ACKSRC : Nat := 0xF00B04
/-- IRC_ACKCNT: 14_interrupts.md R475. -/
abbrev Reg.IRC_ACKCNT : Nat := 0xF00B05
/-- IRC_HVEC0 (4 of them): 14_interrupts.md R475. -/
abbrev Reg.IRC_HVEC0 : Nat := 0xF00B06
/-- IRC_HCNT: 14_interrupts.md R475. -/
abbrev Reg.IRC_HCNT : Nat := 0xF00B0A
/-- IRC_TSEL: 14_interrupts.md R476. -/
abbrev Reg.IRC_TSEL : Nat := 0xF00B0B
/-- IRC_TCFG: 14_interrupts.md R476. -/
abbrev Reg.IRC_TCFG : Nat := 0xF00B0C
/-- IRC_TMOD: 14_interrupts.md R476. -/
abbrev Reg.IRC_TMOD : Nat := 0xF00B0D
/-- IRC_STRAYT: 14_interrupts.md R476. -/
abbrev Reg.IRC_STRAYT : Nat := 0xF00B0E
/-- IRC_STRAYCNT: 14_interrupts.md R476. -/
abbrev Reg.IRC_STRAYCNT : Nat := 0xF00B0F
/-- IRC_WSEL: 14_interrupts.md R476. -/
abbrev Reg.IRC_WSEL : Nat := 0xF00B10
/-- IRC_WCFG: 14_interrupts.md R476. -/
abbrev Reg.IRC_WCFG : Nat := 0xF00B11
/-- IRC_WCAUSE0 (4 of them): 14_interrupts.md R474. -/
abbrev Reg.IRC_WCAUSE0 : Nat := 0xF00B12
/-- IRC_FLWR: 14_interrupts.md R476. -/
abbrev Reg.IRC_FLWR : Nat := 0xF00B16
/-- IRC_FLRD: 14_interrupts.md R476. -/
abbrev Reg.IRC_FLRD : Nat := 0xF00B17
/-- IRC_FLOST: 14_interrupts.md R476. -/
abbrev Reg.IRC_FLOST : Nat := 0xF00B18
/-- IRC_PSUM0 (32 of them): 14_interrupts.md R474. -/
abbrev Reg.IRC_PSUM0 : Nat := 0xF00B20
/-- DMA_CSEL: 15_dma.md R495. -/
abbrev Reg.DMA_CSEL : Nat := 0xF00C00
/-- DMA_CCFG: 15_dma.md R495. -/
abbrev Reg.DMA_CCFG : Nat := 0xF00C01
/-- DMA_CPACE: 15_dma.md R495. -/
abbrev Reg.DMA_CPACE : Nat := 0xF00C02
/-- DMA_CIDX: 15_dma.md R495. -/
abbrev Reg.DMA_CIDX : Nat := 0xF00C03
/-- DMA_CCMD: 15_dma.md R495. -/
abbrev Reg.DMA_CCMD : Nat := 0xF00C04
/-- DMA_CSTAT: 15_dma.md R495. -/
abbrev Reg.DMA_CSTAT : Nat := 0xF00C05
/-- DMA_CPCNT: 15_dma.md R495. -/
abbrev Reg.DMA_CPCNT : Nat := 0xF00C06
/-- DMA_CERR: 15_dma.md R495. -/
abbrev Reg.DMA_CERR : Nat := 0xF00C07
/-- DMA_ACT0 (2 of them): 15_dma.md R494. -/
abbrev Reg.DMA_ACT0 : Nat := 0xF00C08
/-- DMA_CNT: 15_dma.md R495. -/
abbrev Reg.DMA_CNT : Nat := 0xF00C0A
/-- DMA_CNT_CLR: 15_dma.md R495. -/
abbrev Reg.DMA_CNT_CLR : Nat := 0xF00C0B
/-- CMD_STAT0 (2 of them): 16_command_ports.md R526. -/
abbrev Reg.CMD_STAT0 : Nat := 0xF00D00
/-- CMD_CNT0 (2 of them): 16_command_ports.md R526. -/
abbrev Reg.CMD_CNT0 : Nat := 0xF00D02
/-- CMD_CNT_CLR: 16_command_ports.md R526. -/
abbrev Reg.CMD_CNT_CLR : Nat := 0xF00D04
/-- CMD_LSEQ0 (2 of them): 16_command_ports.md R526. -/
abbrev Reg.CMD_LSEQ0 : Nat := 0xF00D05
/-- CMD_PSEL: 16_command_ports.md R526. -/
abbrev Reg.CMD_PSEL : Nat := 0xF00D07
/-- CMD_PROTR_LO: 16_command_ports.md R526. -/
abbrev Reg.CMD_PROTR_LO : Nat := 0xF00D08
/-- CMD_PROTR_HI: 16_command_ports.md R526. -/
abbrev Reg.CMD_PROTR_HI : Nat := 0xF00D09
/-- CMD_PROTW_LO: 16_command_ports.md R526. -/
abbrev Reg.CMD_PROTW_LO : Nat := 0xF00D0A
/-- CMD_PROTW_HI: 16_command_ports.md R526. -/
abbrev Reg.CMD_PROTW_HI : Nat := 0xF00D0B
/-- CMD_SRX: 16_command_ports.md R526. -/
abbrev Reg.CMD_SRX : Nat := 0xF00D0C
/-- CMD_STX: 16_command_ports.md R526. -/
abbrev Reg.CMD_STX : Nat := 0xF00D0D
/-- TWN_CFG: 17_twin.md R577. -/
abbrev Reg.TWN_CFG : Nat := 0xF00E00
/-- TWN_STAT: 17_twin.md R577. -/
abbrev Reg.TWN_STAT : Nat := 0xF00E01
/-- TWN_OWN: 17_twin.md R577. -/
abbrev Reg.TWN_OWN : Nat := 0xF00E02
/-- TWN_POWN: 17_twin.md R577. -/
abbrev Reg.TWN_POWN : Nat := 0xF00E03
/-- TWN_GSNS: 17_twin.md R577. -/
abbrev Reg.TWN_GSNS : Nat := 0xF00E04
/-- TWN_LAST: 17_twin.md R577. -/
abbrev Reg.TWN_LAST : Nat := 0xF00E05
/-- TWN_JRES: 17_twin.md R577. -/
abbrev Reg.TWN_JRES : Nat := 0xF00E06
/-- TWN_CNT: 17_twin.md R578. -/
abbrev Reg.TWN_CNT : Nat := 0xF00E07
/-- TWN_CNT_CLR: 17_twin.md R578. -/
abbrev Reg.TWN_CNT_CLR : Nat := 0xF00E08
/-- TWN_VDIF: 17_twin.md R578. -/
abbrev Reg.TWN_VDIF : Nat := 0xF00E09
/-- TWN_TBOFS: 17_twin.md R578. -/
abbrev Reg.TWN_TBOFS : Nat := 0xF00E0A
/-- TWN_PAIRID: 17_twin.md R578. -/
abbrev Reg.TWN_PAIRID : Nat := 0xF00E0B
/-- TWN_FMT: 17_twin.md R578. -/
abbrev Reg.TWN_FMT : Nat := 0xF00E0C
/-- ELX_CFG: 18_elrex.md R608. -/
abbrev Reg.ELX_CFG : Nat := 0xF00F00
/-- ELX_TIM: 18_elrex.md R608. -/
abbrev Reg.ELX_TIM : Nat := 0xF00F01
/-- ELX_ID: 18_elrex.md R608. -/
abbrev Reg.ELX_ID : Nat := 0xF00F02
/-- ELX_STAT: 18_elrex.md R609. -/
abbrev Reg.ELX_STAT : Nat := 0xF00F03
/-- ELX_EPOCH: 18_elrex.md R609. -/
abbrev Reg.ELX_EPOCH : Nat := 0xF00F04
/-- ELX_PORT: 18_elrex.md R609. -/
abbrev Reg.ELX_PORT : Nat := 0xF00F05
/-- ELX_PARENT: 18_elrex.md R609. -/
abbrev Reg.ELX_PARENT : Nat := 0xF00F06
/-- ELX_OFS: 18_elrex.md R609. -/
abbrev Reg.ELX_OFS : Nat := 0xF00F07
/-- ELX_LDLY: 18_elrex.md R609. -/
abbrev Reg.ELX_LDLY : Nat := 0xF00F08
/-- ELX_JOINED: 18_elrex.md R609. -/
abbrev Reg.ELX_JOINED : Nat := 0xF00F09
/-- ELX_CNT: 18_elrex.md R610. -/
abbrev Reg.ELX_CNT : Nat := 0xF00F0A
/-- ELX_CNT_CLR: 18_elrex.md R610. -/
abbrev Reg.ELX_CNT_CLR : Nat := 0xF00F0B
/-- ELX_FRWR: 18_elrex.md R610. -/
abbrev Reg.ELX_FRWR : Nat := 0xF00F0C
/-- ELX_FRRD: 18_elrex.md R610. -/
abbrev Reg.ELX_FRRD : Nat := 0xF00F0D
/-- ELX_FRLOST: 18_elrex.md R610. -/
abbrev Reg.ELX_FRLOST : Nat := 0xF00F0E
/-- LAT_STAT: 19_integrity_repair.md R637. -/
abbrev Reg.LAT_STAT : Nat := 0xF01000
/-- LAT_CNT: 19_integrity_repair.md R637. -/
abbrev Reg.LAT_CNT : Nat := 0xF01001
/-- LAT_CNT_CLR: 19_integrity_repair.md R637. -/
abbrev Reg.LAT_CNT_CLR : Nat := 0xF01002
/-- LAT_EADDR_LO: 19_integrity_repair.md R637. -/
abbrev Reg.LAT_EADDR_LO : Nat := 0xF01003
/-- LAT_EADDR_HI: 19_integrity_repair.md R637. -/
abbrev Reg.LAT_EADDR_HI : Nat := 0xF01004
/-- LAT_SPR01 (2 of them): 19_integrity_repair.md R637. -/
abbrev Reg.LAT_SPR01 : Nat := 0xF01005
/-- LAT_INJ: 19_integrity_repair.md R637. -/
abbrev Reg.LAT_INJ : Nat := 0xF01007
/-- PWR_DOM: 20_power_reset_boot.md R664. -/
abbrev Reg.PWR_DOM : Nat := 0xF01100
/-- PWR_DSTAT: 20_power_reset_boot.md R664. -/
abbrev Reg.PWR_DSTAT : Nat := 0xF01101
/-- PWR_STAT: 20_power_reset_boot.md R664. -/
abbrev Reg.PWR_STAT : Nat := 0xF01102
/-- PWR_RCAUSE: 20_power_reset_boot.md R664. -/
abbrev Reg.PWR_RCAUSE : Nat := 0xF01103
/-- PWR_WAKE: 20_power_reset_boot.md R664. -/
abbrev Reg.PWR_WAKE : Nat := 0xF01104
/-- PWR_CMD: 20_power_reset_boot.md R664. -/
abbrev Reg.PWR_CMD : Nat := 0xF01105
/-- PWR_CFGSTAT: 20_power_reset_boot.md R664. -/
abbrev Reg.PWR_CFGSTAT : Nat := 0xF01106
/-- PWR_KTIM_LO: 20_power_reset_boot.md R664. -/
abbrev Reg.PWR_KTIM_LO : Nat := 0xF01107
/-- PWR_KTIM_HI: 20_power_reset_boot.md R664. -/
abbrev Reg.PWR_KTIM_HI : Nat := 0xF01108
/-- PWR_CTL: 20_power_reset_boot.md R664. -/
abbrev Reg.PWR_CTL : Nat := 0xF01109
/-- PWR_KEEP0 (32 of them): 20_power_reset_boot.md R664. -/
abbrev Reg.PWR_KEEP0 : Nat := 0xF01110
/-- FUS_STAT: 19_integrity_repair.md R637. -/
abbrev Reg.FUS_STAT : Nat := 0xF01200
/-- FUS_SEL: 19_integrity_repair.md R637. -/
abbrev Reg.FUS_SEL : Nat := 0xF01201
/-- FUS_VAL: 19_integrity_repair.md R637. -/
abbrev Reg.FUS_VAL : Nat := 0xF01202
/-- FUS_PROG: 19_integrity_repair.md R637. -/
abbrev Reg.FUS_PROG : Nat := 0xF01203
/-- FUS_FWSTAT: 19_integrity_repair.md R637. -/
abbrev Reg.FUS_FWSTAT : Nat := 0xF01204
/-- FUS_FWVA: 19_integrity_repair.md R637. -/
abbrev Reg.FUS_FWVA : Nat := 0xF01205
/-- FUS_FWVB: 19_integrity_repair.md R637. -/
abbrev Reg.FUS_FWVB : Nat := 0xF01206

/-- The registers of the TB_ block. -/
def regRowsTb : List RegRow := [
  ⟨Reg.TB_NOW0, 4, 0x0, 0x0, 0x0, 0x0, 0xFFFF, 0x0⟩,
  ⟨Reg.TB_STAT, 1, 0x0, 0x0, 0x0, 0x0, 0x3, 0x0⟩,
  ⟨Reg.TB_LAG, 1, 0x0, 0x0, 0x0, 0x0, 0x3FFF, 0x0⟩,
  ⟨Reg.TB_RFAULT, 1, 0x0, 0x0, 0x3FFF, 0x0, 0x0, 0x0⟩,
  ⟨Reg.TB_STALE, 1, 0x0, 0x0, 0x0, 0x1, 0xFF00, 0x0⟩,
  ⟨Reg.TB_CLEAD, 1, 0xFFFF, 0x0, 0x0, 0x0, 0x0, 0x4E20⟩,
  ⟨Reg.TB_CMT_STAT, 1, 0x0, 0x0, 0x0, 0x0, 0x3FC0, 0x0⟩,
  ⟨Reg.TB_CMT_T0, 4, 0x0, 0x0, 0x0, 0x0, 0xFFFF, 0x0⟩]

/-- The registers of the ANG_ block. -/
def regRowsAng : List RegRow := [
  ⟨Reg.ANG_IN_CTL, 1, 0x0, 0x7F, 0x0, 0x0, 0x0, 0x0⟩,
  ⟨Reg.ANG_CRK0_AFE, 1, 0x0, 0xDFF, 0x0, 0x0, 0x0, 0x104⟩,
  ⟨Reg.ANG_CRK1_AFE, 1, 0x0, 0xDFF, 0x0, 0x0, 0x0, 0x104⟩,
  ⟨Reg.ANG_CRK0_MINSP, 1, 0x0, 0xFFFF, 0x0, 0x0, 0x0, 0x190⟩,
  ⟨Reg.ANG_CRK1_MINSP, 1, 0x0, 0xFFFF, 0x0, 0x0, 0x0, 0x190⟩,
  ⟨Reg.ANG_CAM_MINSP, 1, 0x0, 0xFFFF, 0x0, 0x0, 0x0, 0x190⟩,
  ⟨Reg.ANG_NWIN, 1, 0x0, 0x3F, 0x0, 0x0, 0x0, 0x10⟩,
  ⟨Reg.ANG_DIR_CFG, 1, 0x0, 0x3, 0x0, 0x0, 0x0, 0x0⟩,
  ⟨Reg.ANG_DIR_FWD, 1, 0x0, 0xFFFF, 0x0, 0x0, 0x0, 0x258⟩,
  ⟨Reg.ANG_DIR_REV, 1, 0x0, 0xFFFF, 0x0, 0x0, 0x0, 0x4B0⟩,
  ⟨Reg.ANG_IN_STAT, 1, 0x0, 0x0, 0x0, 0x0, 0x3FF, 0x0⟩,
  ⟨Reg.ANG_CNT_CRK0, 2, 0x0, 0x0, 0x0, 0x0, 0xFFFF, 0x0⟩,
  ⟨Reg.ANG_CNT_CAM, 1, 0x0, 0x0, 0x0, 0x0, 0xFFFF, 0x0⟩,
  ⟨Reg.ANG_CNT_CLR, 1, 0x0, 0x0, 0x0, 0x7, 0x0, 0x0⟩,
  ⟨Reg.ANG_REJ_T0, 4, 0x0, 0x0, 0x0, 0x0, 0xFFFF, 0x0⟩,
  ⟨Reg.ANG_REJ_INFO, 1, 0x0, 0x0, 0x0, 0x0, 0xFF37, 0x0⟩,
  ⟨Reg.ANG_VTX_SEL, 1, 0x73F, 0x0, 0x0, 0x0, 0x0, 0x0⟩,
  ⟨Reg.ANG_VTX_D0, 8, 0x0, 0x0, 0x0, 0x0, 0xFFFF, 0x0⟩,
  ⟨Reg.ANG_TCTL, 1, 0x0, 0xFFFF, 0x0, 0x0, 0x0, 0x2688⟩,
  ⟨Reg.ANG_LBAND, 1, 0x0, 0xFFFF, 0x0, 0x0, 0x0, 0x42⟩,
  ⟨Reg.ANG_ERR_LIM, 1, 0x0, 0xFFFF, 0x0, 0x0, 0x0, 0x48D⟩,
  ⟨Reg.ANG_TCMD, 1, 0x0, 0x0, 0x0, 0x1F, 0x0, 0x0⟩,
  ⟨Reg.ANG_TSTAT, 1, 0x0, 0x0, 0x0, 0x0, 0xFFC0, 0x0⟩,
  ⟨Reg.ANG_ACC_LO, 1, 0x0, 0x0, 0x0, 0x0, 0xFFFF, 0x0⟩,
  ⟨Reg.ANG_ACC_HI, 1, 0x0, 0x0, 0x0, 0x0, 0xFFFF, 0x0⟩,
  ⟨Reg.ANG_RATE_LO, 1, 0x0, 0x0, 0x0, 0x0, 0xFFFF, 0x0⟩,
  ⟨Reg.ANG_RATE_HI, 1, 0x0, 0x0, 0x0, 0x0, 0xFFFF, 0x0⟩,
  ⟨Reg.ANG_PRED_LO, 1, 0x0, 0x0, 0x0, 0x0, 0xFFFF, 0x0⟩,
  ⟨Reg.ANG_PRED_HI, 1, 0x0, 0x0, 0x0, 0x0, 0xFFFF, 0x0⟩,
  ⟨Reg.ANG_RPM_LO, 1, 0x0, 0x0, 0x0, 0x0, 0xFFFF, 0x0⟩,
  ⟨Reg.ANG_RPM_HI, 1, 0x0, 0x0, 0x0, 0x0, 0xFFFF, 0x0⟩,
  ⟨Reg.ANG_CYCT_LO, 1, 0x0, 0x0, 0x0, 0x0, 0xFFFF, 0xFFFF⟩,
  ⟨Reg.ANG_CYCT_HI, 1, 0x0, 0x0, 0x0, 0x0, 0xFFFF, 0xFFFF⟩,
  ⟨Reg.ANG_ERR_MAX, 1, 0x0, 0x0, 0x0, 0x0, 0xFFFF, 0x0⟩,
  ⟨Reg.ANG_ERR_MIN, 1, 0x0, 0x0, 0x0, 0x0, 0xFFFF, 0x0⟩,
  ⟨Reg.ANG_ERR_PMAX, 1, 0x0, 0x0, 0x0, 0x0, 0x3FF, 0x1FF⟩,
  ⟨Reg.ANG_ERR_PMIN, 1, 0x0, 0x0, 0x0, 0x0, 0x3FF, 0x1FF⟩,
  ⟨Reg.ANG_JMP_FROM_LO, 1, 0x0, 0x0, 0x0, 0x0, 0xFFFF, 0x0⟩,
  ⟨Reg.ANG_JMP_FROM_HI, 1, 0x0, 0x0, 0x0, 0x0, 0xFF, 0x0⟩,
  ⟨Reg.ANG_JMP_TO_LO, 1, 0x0, 0x0, 0x0, 0x0, 0xFFFF, 0x0⟩,
  ⟨Reg.ANG_JMP_TO_HI, 1, 0x0, 0x0, 0x0, 0x0, 0xFF, 0x0⟩,
  ⟨Reg.ANG_CNT_T, 1, 0x0, 0x0, 0x0, 0x0, 0xFFFF, 0x0⟩,
  ⟨Reg.ANG_CNT_J, 1, 0x0, 0x0, 0x0, 0x0, 0xFF, 0x0⟩,
  ⟨Reg.ANG_S16_PERL, 1, 0x0, 0x0, 0x0, 0x0, 0xFFFF, 0xFFFF⟩,
  ⟨Reg.ANG_S16_PERH, 1, 0x0, 0x0, 0x0, 0x0, 0xFF, 0xFF⟩,
  ⟨Reg.ANG_S16_TCNT, 1, 0x0, 0x0, 0x0, 0x0, 0xFFFF, 0x0⟩,
  ⟨Reg.ANG_S16_STAT, 1, 0x0, 0x0, 0x0, 0x0, 0x7, 0x4⟩,
  ⟨Reg.ANG_S16_CTL, 1, 0x1F, 0x0, 0x0, 0x0, 0x0, 0x0⟩]

/-- The registers of the SYN_ block. -/
def regRowsSyn : List RegRow := [
  ⟨Reg.SYN_CTL, 1, 0x0, 0x77FF, 0x0, 0x0, 0x0, 0x2234⟩,
  ⟨Reg.SYN_WHEEL, 1, 0x0, 0x1DFF, 0x0, 0x0, 0x0, 0x83C⟩,
  ⟨Reg.SYN_GAP2, 1, 0x0, 0xDFF, 0x0, 0x0, 0x0, 0x400⟩,
  ⟨Reg.SYN_GTOL, 1, 0x0, 0xF, 0x0, 0x0, 0x0, 0x8⟩,
  ⟨Reg.SYN_REF_LO, 1, 0x0, 0xFFFF, 0x0, 0x0, 0x0, 0x0⟩,
  ⟨Reg.SYN_REF_HI, 1, 0x0, 0xFF, 0x0, 0x0, 0x0, 0x0⟩,
  ⟨Reg.SYN_STALL_T, 1, 0x0, 0xFFFF, 0x0, 0x0, 0x0, 0xBEC⟩,
  ⟨Reg.SYN_CAM_CTL, 1, 0x0, 0x77F, 0x0, 0x0, 0x0, 0x220⟩,
  ⟨Reg.SYN_CAMTOL, 1, 0x0, 0xFFFF, 0x0, 0x0, 0x0, 0x1C7⟩,
  ⟨Reg.SYN_CPSEL, 1, 0x7F, 0x0, 0x0, 0x0, 0x0, 0x0⟩,
  ⟨Reg.SYN_CPANG, 1, 0x0, 0xFFFF, 0x0, 0x0, 0x0, 0x0⟩,
  ⟨Reg.SYN_CPLVL, 1, 0x0, 0x1, 0x0, 0x0, 0x0, 0x0⟩,
  ⟨Reg.SYN_CPNUM01, 2, 0x0, 0x3F3F, 0x0, 0x0, 0x0, 0x0⟩,
  ⟨Reg.SYN_STAT, 1, 0x0, 0x0, 0x0, 0x0, 0x1FF7, 0x5⟩,
  ⟨Reg.SYN_POS, 1, 0x0, 0x0, 0x0, 0x0, 0x1FF, 0x1FF⟩,
  ⟨Reg.SYN_LAST, 1, 0x0, 0x0, 0x0, 0x0, 0xFCFF, 0xB400⟩,
  ⟨Reg.SYN_CNT, 1, 0x0, 0x0, 0x0, 0x0, 0xFFFF, 0x0⟩,
  ⟨Reg.SYN_CLR, 1, 0x0, 0x0, 0x0, 0x3, 0x0, 0x0⟩,
  ⟨Reg.SYN_CMD, 1, 0x0, 0x0, 0x0, 0x1, 0x0, 0x0⟩]

/-- The registers of the EVQ_ block. -/
def regRowsEvq : List RegRow := [
  ⟨Reg.EVQ_CTL, 1, 0x0, 0x3, 0x0, 0x0, 0x0, 0x0⟩,
  ⟨Reg.EVQ_ARM, 1, 0x0, 0x0, 0x0, 0x1FFF, 0x0, 0x0⟩,
  ⟨Reg.EVQ_ARM_STAT, 1, 0x0, 0x0, 0x0, 0x0, 0x800F, 0x0⟩,
  ⟨Reg.EVQ_CAN_TAG, 1, 0xFFFF, 0x0, 0x0, 0x0, 0x0, 0x0⟩,
  ⟨Reg.EVQ_CAN_CMD, 1, 0x0, 0x0, 0x0, 0x17F, 0x0, 0x0⟩,
  ⟨Reg.EVQ_CAN_STAT, 1, 0x0, 0x0, 0x0, 0x0, 0xFFFF, 0x0⟩,
  ⟨Reg.EVQ_GBASE_LO, 1, 0x0, 0xFFFF, 0x0, 0x0, 0x0, 0x0⟩,
  ⟨Reg.EVQ_GBASE_HI, 1, 0x0, 0x7, 0x0, 0x0, 0x0, 0x0⟩,
  ⟨Reg.EVQ_RBASE_LO, 1, 0x0, 0xFFFF, 0x0, 0x0, 0x0, 0x0⟩,
  ⟨Reg.EVQ_RBASE_HI, 1, 0x0, 0x7, 0x0, 0x0, 0x0, 0x0⟩,
  ⟨Reg.EVQ_RCTL, 1, 0x0, 0x7, 0x0, 0x0, 0x0, 0x3⟩,
  ⟨Reg.EVQ_RWR, 1, 0x0, 0x0, 0x0, 0x0, 0xFFF, 0x0⟩,
  ⟨Reg.EVQ_RRD, 1, 0xFFF, 0x0, 0x0, 0x0, 0x0, 0x0⟩,
  ⟨Reg.EVQ_RLOST, 1, 0x0, 0x0, 0x0, 0x8000, 0xFF, 0x0⟩,
  ⟨Reg.EVQ_RCP_CMD, 1, 0x0, 0x0, 0x0, 0x7FF, 0x0, 0x0⟩,
  ⟨Reg.EVQ_RCP_STAT, 1, 0x0, 0x0, 0x0, 0x0, 0xC7FF, 0x0⟩,
  ⟨Reg.EVQ_QSEL, 1, 0x7F, 0x0, 0x0, 0x0, 0x0, 0x0⟩,
  ⟨Reg.EVQ_QSTAT, 1, 0x0, 0x0, 0x0, 0x0, 0xFF, 0x0⟩,
  ⟨Reg.EVQ_SLSEL, 1, 0x1FFF, 0x0, 0x0, 0x0, 0x0, 0x0⟩,
  ⟨Reg.EVQ_SLSTAT, 1, 0x0, 0x0, 0x0, 0x0, 0xC07F, 0x0⟩,
  ⟨Reg.EVQ_INUSE, 1, 0x0, 0x0, 0x0, 0x0, 0x7FF, 0x0⟩,
  ⟨Reg.EVQ_CNT, 1, 0x0, 0x0, 0x0, 0x0, 0xFFFF, 0x0⟩,
  ⟨Reg.EVQ_CNT_CLR, 1, 0x0, 0x0, 0x0, 0x3, 0x0, 0x0⟩]

/-- The registers of the ARC_ block. -/
def regRowsArc : List RegRow := [
  ⟨Reg.ARC_EN0, 16, 0x0, 0xFFFF, 0x0, 0x0, 0x0, 0x0⟩,
  ⟨Reg.ARC_SEL, 1, 0xFF, 0x0, 0x0, 0x0, 0x0, 0x0⟩,
  ⟨Reg.ARC_STAT, 1, 0x0, 0x0, 0x0, 0x0, 0xFCFF, 0x0⟩,
  ⟨Reg.ARC_CSEL, 1, 0xF, 0x0, 0x0, 0x0, 0x0, 0x0⟩,
  ⟨Reg.ARC_CALG, 1, 0x0, 0xFFFF, 0x0, 0x0, 0x0, 0x0⟩,
  ⟨Reg.ARC_CALO, 1, 0x0, 0xFFFF, 0x0, 0x0, 0x0, 0x0⟩,
  ⟨Reg.ARC_CSTAT, 1, 0x0, 0x0, 0x0, 0x0, 0x1FF, 0x0⟩,
  ⟨Reg.ARC_CMD, 1, 0x0, 0x0, 0x0, 0x1, 0x0, 0x0⟩,
  ⟨Reg.ARC_CNT, 1, 0x0, 0x0, 0x0, 0x0, 0xFFFF, 0x0⟩,
  ⟨Reg.ARC_CNT_CLR, 1, 0x0, 0x0, 0x0, 0x3, 0x0, 0x0⟩,
  ⟨Reg.ARC_FLT, 1, 0x0, 0x0, 0xFFFF, 0x0, 0x0, 0x0⟩]

/-- The registers of the CMB_ block. -/
def regRowsCmb : List RegRow := [
  ⟨Reg.CMB_EN0, 1, 0x0, 0xFFFF, 0x0, 0x0, 0x0, 0x0⟩,
  ⟨Reg.CMB_EN1, 1, 0x0, 0xFF, 0x0, 0x0, 0x0, 0x0⟩,
  ⟨Reg.CMB_PEGP, 1, 0xFFFF, 0x0, 0x0, 0x0, 0x0, 0x100⟩,
  ⟨Reg.CMB_STAT, 1, 0x0, 0x0, 0x0, 0x0, 0xF81F, 0x1F⟩,
  ⟨Reg.CMB_CNT, 1, 0x0, 0x0, 0x0, 0x0, 0xFFFF, 0x0⟩,
  ⟨Reg.CMB_CNT_CLR, 1, 0x0, 0x0, 0x0, 0x3, 0x0, 0x0⟩]

/-- The registers of the DRV_ block. -/
def regRowsDrv : List RegRow := [
  ⟨Reg.DRV_CTL, 1, 0x0, 0x33F, 0x0, 0x0, 0x0, 0x0⟩,
  ⟨Reg.DRV_PCTL, 1, 0x0, 0xFF, 0x0, 0x0, 0x0, 0x0⟩,
  ⟨Reg.DRV_PSTAT, 1, 0x0, 0x0, 0x0, 0x0, 0xF03F, 0x0⟩,
  ⟨Reg.DRV_GUARD, 1, 0x0, 0x3FF, 0x0, 0x0, 0x0, 0x32⟩,
  ⟨Reg.DRV_OFFT0, 24, 0x0, 0x7FF, 0x0, 0x0, 0x0, 0x14⟩,
  ⟨Reg.DRV_BSTAT_A, 6, 0x0, 0x0, 0x0, 0x0, 0xFFFE, 0x0⟩,
  ⟨Reg.DRV_CFLAG, 1, 0x0, 0x0, 0x3F, 0x0, 0x0, 0x0⟩,
  ⟨Reg.DRV_CNT, 1, 0x0, 0x0, 0x0, 0x0, 0xFFFF, 0x0⟩,
  ⟨Reg.DRV_CNT_CLR, 1, 0x0, 0x0, 0x0, 0x3, 0x0, 0x0⟩,
  ⟨Reg.DRV_DROP_TAG, 1, 0x0, 0x0, 0x0, 0x0, 0xFFFF, 0x0⟩,
  ⟨Reg.DRV_DROP_INFO, 1, 0x0, 0x0, 0x0, 0x0, 0xF01F, 0x0⟩,
  ⟨Reg.DRV_VBAT, 1, 0x0, 0x0, 0x0, 0x0, 0xFFF, 0x0⟩,
  ⟨Reg.DRV_BST0_TGT, 1, 0x0, 0xFFF, 0x0, 0x0, 0x0, 0x780⟩,
  ⟨Reg.DRV_BST0_RDY, 1, 0x0, 0xFFF, 0x0, 0x0, 0x0, 0x708⟩,
  ⟨Reg.DRV_BST0_OVP, 1, 0x0, 0xFFF, 0x0, 0x0, 0x0, 0x820⟩,
  ⟨Reg.DRV_BST0_SW, 1, 0x0, 0x3FFF, 0x0, 0x0, 0x0, 0x1428⟩,
  ⟨Reg.DRV_BST0_TIM, 1, 0x0, 0xFFFF, 0x0, 0x0, 0x0, 0x3205⟩,
  ⟨Reg.DRV_BST0_V, 1, 0x0, 0x0, 0x0, 0x0, 0xFFF, 0x0⟩,
  ⟨Reg.DRV_BST1_TGT, 1, 0x0, 0xFFF, 0x0, 0x0, 0x0, 0x780⟩,
  ⟨Reg.DRV_BST1_RDY, 1, 0x0, 0xFFF, 0x0, 0x0, 0x0, 0x708⟩,
  ⟨Reg.DRV_BST1_OVP, 1, 0x0, 0xFFF, 0x0, 0x0, 0x0, 0x820⟩,
  ⟨Reg.DRV_BST1_SW, 1, 0x0, 0x3FFF, 0x0, 0x0, 0x0, 0x1428⟩,
  ⟨Reg.DRV_BST1_TIM, 1, 0x0, 0xFFFF, 0x0, 0x0, 0x0, 0x3205⟩,
  ⟨Reg.DRV_BST1_V, 1, 0x0, 0x0, 0x0, 0x0, 0xFFF, 0x0⟩,
  ⟨Reg.DRV_BSTST, 1, 0x0, 0x0, 0x0, 0x0, 0x77, 0x0⟩,
  ⟨Reg.DRV_TRC_CTL, 1, 0xF700, 0x0, 0x0, 0x0, 0x0, 0x0⟩,
  ⟨Reg.DRV_TRC_BASE_LO, 1, 0x0, 0xFFFF, 0x0, 0x0, 0x0, 0x0⟩,
  ⟨Reg.DRV_TRC_BASE_HI, 1, 0x0, 0x7, 0x0, 0x0, 0x0, 0x0⟩,
  ⟨Reg.DRV_TRC_LEN, 1, 0x0, 0x1FFF, 0x0, 0x0, 0x0, 0x1000⟩,
  ⟨Reg.DRV_TRC_STAT, 1, 0x0, 0x0, 0x0, 0x0, 0xFFFF, 0x0⟩,
  ⟨Reg.DRV_DG_CNT0, 3, 0x0, 0x0, 0x0, 0x0, 0xFFFF, 0x0⟩,
  ⟨Reg.DRV_DG_CLR, 1, 0x0, 0x0, 0x0, 0x3F, 0x0, 0x0⟩,
  ⟨Reg.DRV_DG_OL0, 1, 0x0, 0x0, 0xFFFF, 0x0, 0x0, 0x0⟩,
  ⟨Reg.DRV_DG_OL1, 1, 0x0, 0x0, 0xFF, 0x0, 0x0, 0x0⟩,
  ⟨Reg.DRV_DG_SC0, 1, 0x0, 0x0, 0xFFFF, 0x0, 0x0, 0x0⟩,
  ⟨Reg.DRV_DG_SC1, 1, 0x0, 0x0, 0xFF, 0x0, 0x0, 0x0⟩,
  ⟨Reg.DRV_DG_TAG, 1, 0x0, 0x0, 0x0, 0x0, 0xFFFF, 0x0⟩,
  ⟨Reg.DRV_DG_INFO, 1, 0x0, 0x0, 0x0, 0x0, 0xFE1F, 0x0⟩,
  ⟨Reg.DRV_DG_ECL_LO, 1, 0x0, 0x0, 0x0, 0x0, 0xFFFF, 0x0⟩,
  ⟨Reg.DRV_DG_ECL_HI, 1, 0x0, 0x0, 0x0, 0x0, 0xFFFF, 0x0⟩]

/-- The registers of the IGN_ block. -/
def regRowsIgn : List RegRow := [
  ⟨Reg.IGN_EN0, 1, 0x0, 0xFFFF, 0x0, 0x0, 0x0, 0x0⟩,
  ⟨Reg.IGN_EN1, 1, 0x0, 0xFF, 0x0, 0x0, 0x0, 0x0⟩,
  ⟨Reg.IGN_RAMP, 1, 0x0, 0xFF, 0x0, 0x0, 0x0, 0x32⟩,
  ⟨Reg.IGN_DWMAX, 1, 0x0, 0xFFFF, 0x0, 0x0, 0x0, 0x1F40⟩,
  ⟨Reg.IGN_DWMIN, 1, 0x0, 0xFFFF, 0x0, 0x0, 0x0, 0x0⟩,
  ⟨Reg.IGN_CMD, 1, 0x0, 0x0, 0x0, 0x1, 0x0, 0x0⟩,
  ⟨Reg.IGN_DWL0, 1, 0x0, 0x0, 0x0, 0x0, 0xFFFF, 0x0⟩,
  ⟨Reg.IGN_DWL1, 1, 0x0, 0x0, 0x0, 0x0, 0xFF, 0x0⟩,
  ⟨Reg.IGN_RMP0, 1, 0x0, 0x0, 0x0, 0x0, 0xFFFF, 0x0⟩,
  ⟨Reg.IGN_RMP1, 1, 0x0, 0x0, 0x0, 0x0, 0xFF, 0x0⟩,
  ⟨Reg.IGN_FLT0, 1, 0x0, 0x0, 0xFFFF, 0x0, 0x0, 0x0⟩,
  ⟨Reg.IGN_FLT1, 1, 0x0, 0x0, 0xFF, 0x0, 0x0, 0x0⟩,
  ⟨Reg.IGN_CNT, 1, 0x0, 0x0, 0x0, 0x0, 0xFFFF, 0x0⟩,
  ⟨Reg.IGN_CNT_CLR, 1, 0x0, 0x0, 0x0, 0x7, 0x0, 0x0⟩,
  ⟨Reg.IGN_DROP_TAG, 1, 0x0, 0x0, 0x0, 0x0, 0xFFFF, 0x0⟩,
  ⟨Reg.IGN_DROP_INFO, 1, 0x0, 0x0, 0x0, 0x0, 0xF03F, 0x0⟩]

/-- The registers of the VLV_ block. -/
def regRowsVlv : List RegRow := [
  ⟨Reg.VLV_SEL, 1, 0x7, 0x0, 0x0, 0x0, 0x0, 0x0⟩,
  ⟨Reg.VLV_CFG, 1, 0x0, 0xFFFF, 0x0, 0x0, 0x0, 0x0⟩,
  ⟨Reg.VLV_PER, 1, 0x0, 0xFFF, 0x0, 0x0, 0x0, 0xFA⟩,
  ⟨Reg.VLV_DUTY, 1, 0xFFFF, 0x0, 0x0, 0x0, 0x0, 0x0⟩,
  ⟨Reg.VLV_ISET, 1, 0xFFF, 0x0, 0x0, 0x0, 0x0, 0x0⟩,
  ⟨Reg.VLV_KP, 1, 0x0, 0xFFFF, 0x0, 0x0, 0x0, 0x0⟩,
  ⟨Reg.VLV_KI, 1, 0x0, 0xFFFF, 0x0, 0x0, 0x0, 0x0⟩,
  ⟨Reg.VLV_DMAX, 1, 0x0, 0xFFFF, 0x0, 0x0, 0x0, 0xF333⟩,
  ⟨Reg.VLV_IOL, 1, 0x0, 0xFFF, 0x0, 0x0, 0x0, 0x0⟩,
  ⟨Reg.VLV_IOC, 1, 0x0, 0xFFF, 0x0, 0x0, 0x0, 0xFA0⟩,
  ⟨Reg.VLV_STAT, 1, 0x0, 0x0, 0x8000, 0x0, 0x7C00, 0x0⟩,
  ⟨Reg.VLV_IMEAN, 1, 0x0, 0x0, 0x0, 0x0, 0xFFF, 0x0⟩,
  ⟨Reg.VLV_DNOW, 1, 0x0, 0x0, 0x0, 0x0, 0xFFFF, 0x0⟩,
  ⟨Reg.VLV_CNT, 1, 0x0, 0x0, 0x0, 0x0, 0xFFFF, 0x0⟩,
  ⟨Reg.VLV_CNT_CLR, 1, 0x0, 0x0, 0x0, 0x3, 0x0, 0x0⟩]

/-- The registers of the LAN_ block. -/
def regRowsLan : List RegRow := [
  ⟨Reg.LAN_SEL, 1, 0x77, 0x0, 0x0, 0x0, 0x0, 0x0⟩,
  ⟨Reg.LAN_CMD, 1, 0x0, 0x0, 0x0, 0xEFFF, 0x0, 0x0⟩,
  ⟨Reg.LAN_LSTAT, 1, 0x0, 0x0, 0x0, 0x0, 0xFFFF, 0x0⟩,
  ⟨Reg.LAN_FPC, 1, 0x0, 0x0, 0x0, 0x0, 0xFFF, 0x0⟩,
  ⟨Reg.LAN_LCFG, 1, 0x0, 0x3, 0x0, 0x0, 0x0, 0x0⟩,
  ⟨Reg.LAN_REC, 1, 0x0, 0xFFF, 0x0, 0x0, 0x0, 0x0⟩,
  ⟨Reg.LAN_RSEL, 1, 0x1F, 0x0, 0x0, 0x0, 0x0, 0x0⟩,
  ⟨Reg.LAN_RDL, 1, 0xFFFF, 0x0, 0x0, 0x0, 0x0, 0x0⟩,
  ⟨Reg.LAN_RDH, 1, 0xFFFF, 0x0, 0x0, 0x0, 0x0, 0x0⟩,
  ⟨Reg.LAN_CTCFG0, 2, 0x0, 0xFC07, 0x0, 0x0, 0x0, 0x0⟩,
  ⟨Reg.LAN_CMPCFG, 1, 0x0, 0xFEFE, 0x0, 0x0, 0x0, 0x0⟩,
  ⟨Reg.LAN_CAPCFG, 1, 0x0, 0xFFFF, 0x0, 0x0, 0x0, 0x0⟩,
  ⟨Reg.LAN_VSRC0, 4, 0x0, 0x8F0F, 0x0, 0x0, 0x0, 0x0⟩,
  ⟨Reg.LAN_VENT0, 4, 0x0, 0xFFF, 0x0, 0x0, 0x0, 0x0⟩,
  ⟨Reg.LAN_PMAP0, 8, 0x0, 0xC07F, 0x0, 0x0, 0x0, 0x0⟩,
  ⟨Reg.LAN_CLR, 1, 0x0, 0x0, 0x0, 0x7, 0x0, 0x0⟩,
  ⟨Reg.LAN_CCFG, 1, 0x0, 0x3, 0x0, 0x0, 0x0, 0x0⟩,
  ⟨Reg.LAN_SPCMD, 1, 0x0, 0x0, 0x0, 0xC007, 0x0, 0x0⟩,
  ⟨Reg.LAN_SPSTAT, 1, 0x0, 0x0, 0x0, 0x0, 0xC007, 0x0⟩,
  ⟨Reg.LAN_PSEL, 1, 0x7F, 0x0, 0x0, 0x0, 0x0, 0x0⟩,
  ⟨Reg.LAN_PIN, 1, 0x0, 0xFFFF, 0x0, 0x0, 0x0, 0x2⟩,
  ⟨Reg.LAN_PLVL0, 6, 0x0, 0x0, 0x0, 0x0, 0xFFFF, 0x0⟩]

/-- The registers of the FBK_ block. -/
def regRowsFbk : List RegRow := [
  ⟨Reg.FBK_SEL, 1, 0x1D, 0x0, 0x0, 0x0, 0x0, 0x0⟩,
  ⟨Reg.FBK_CFG, 1, 0x0, 0xE0FF, 0x0, 0x0, 0x0, 0x4⟩,
  ⟨Reg.FBK_BW, 1, 0x0, 0x1FFF, 0x0, 0x0, 0x0, 0x64⟩,
  ⟨Reg.FBK_OFSS, 1, 0x0, 0xFFFF, 0x0, 0x0, 0x0, 0x0⟩,
  ⟨Reg.FBK_OFSC, 1, 0x0, 0xFFFF, 0x0, 0x0, 0x0, 0x0⟩,
  ⟨Reg.FBK_GAINS, 1, 0x0, 0xFFFF, 0x0, 0x0, 0x0, 0x8000⟩,
  ⟨Reg.FBK_GAINC, 1, 0x0, 0xFFFF, 0x0, 0x0, 0x0, 0x8000⟩,
  ⟨Reg.FBK_AMP, 1, 0x0, 0xFFFF, 0x0, 0x0, 0x0, 0x7F10⟩,
  ⟨Reg.FBK_QMINSP, 1, 0x0, 0xFFFF, 0x0, 0x0, 0x0, 0x28⟩,
  ⟨Reg.FBK_STILL, 1, 0x0, 0xFFFF, 0x0, 0x0, 0x0, 0x99⟩,
  ⟨Reg.FBK_TLPR, 1, 0x0, 0xFFFF, 0x0, 0x0, 0x0, 0x0⟩,
  ⟨Reg.FBK_STAT, 1, 0x0, 0x0, 0x0, 0x0, 0xFC00, 0x4000⟩,
  ⟨Reg.FBK_POS_LO, 1, 0x0, 0x0, 0x0, 0x0, 0xFFFF, 0x0⟩,
  ⟨Reg.FBK_POS_HI, 1, 0x0, 0x0, 0x0, 0x0, 0xFFFF, 0x0⟩,
  ⟨Reg.FBK_SPD_LO, 1, 0x0, 0x0, 0x0, 0x0, 0xFFFF, 0x0⟩,
  ⟨Reg.FBK_SPD_HI, 1, 0x0, 0x0, 0x0, 0x0, 0xFFFF, 0x0⟩,
  ⟨Reg.FBK_ACC_LO, 1, 0x0, 0x0, 0x0, 0x0, 0xFFFF, 0x0⟩,
  ⟨Reg.FBK_ACC_HI, 1, 0x0, 0x0, 0x0, 0x0, 0xFFFF, 0x0⟩,
  ⟨Reg.FBK_RAW_LO, 1, 0x0, 0x0, 0x0, 0x0, 0xFFFF, 0x0⟩,
  ⟨Reg.FBK_RAW_HI, 1, 0x0, 0x0, 0x0, 0x0, 0xFFFF, 0x0⟩,
  ⟨Reg.FBK_CNT, 1, 0x0, 0x0, 0x0, 0x0, 0xFFFF, 0x0⟩,
  ⟨Reg.FBK_CLR, 1, 0x0, 0x0, 0x0, 0x3, 0x0, 0x0⟩,
  ⟨Reg.FBK_CMPCFG, 1, 0x1C00, 0x0, 0x4000, 0x200, 0xA000, 0x0⟩,
  ⟨Reg.FBK_CMPV_LO, 1, 0xFFFF, 0x0, 0x0, 0x0, 0x0, 0x0⟩,
  ⟨Reg.FBK_CMPV_HI, 1, 0xFFFF, 0x0, 0x0, 0x0, 0x0, 0x0⟩,
  ⟨Reg.FBK_SSI_CFG, 1, 0x0, 0xF83F, 0x0, 0x0, 0x0, 0x19⟩,
  ⟨Reg.FBK_SSI_CLK, 1, 0x0, 0xFFFF, 0x0, 0x0, 0x0, 0x32⟩,
  ⟨Reg.FBK_SSI_FMT, 1, 0x0, 0xFF9F, 0x0, 0x0, 0x0, 0x0⟩,
  ⟨Reg.FBK_SSI_POLY, 1, 0x0, 0xFFFF, 0x0, 0x0, 0x0, 0x0⟩,
  ⟨Reg.FBK_SSI_INIT, 1, 0x0, 0xFFFF, 0x0, 0x0, 0x0, 0x0⟩,
  ⟨Reg.FBK_SSI_PER, 1, 0x0, 0xFFFF, 0x0, 0x0, 0x0, 0x64⟩,
  ⟨Reg.FBK_SSI_TMO, 1, 0x0, 0xFFFF, 0x0, 0x0, 0x0, 0xC8⟩,
  ⟨Reg.FBK_SSI_CMD, 1, 0x0, 0x0, 0x0, 0x1, 0x0, 0x0⟩,
  ⟨Reg.FBK_SSI_STAT, 1, 0x0, 0x0, 0x0, 0x0, 0xF8FF, 0x0⟩,
  ⟨Reg.FBK_SSI_D0, 3, 0x0, 0x0, 0x0, 0x0, 0xFFFF, 0x0⟩,
  ⟨Reg.FBK_SSI_T0, 2, 0x0, 0x0, 0x0, 0x0, 0xFFFF, 0x0⟩]

/-- The registers of the IRC_ block. -/
def regRowsIrc : List RegRow := [
  ⟨Reg.IRC_SSEL, 1, 0x1FF, 0x0, 0x0, 0x0, 0x0, 0x0⟩,
  ⟨Reg.IRC_SCFG, 1, 0x8FFF, 0x0, 0x0, 0x0, 0x0, 0x0⟩,
  ⟨Reg.IRC_SSTAT, 1, 0x0, 0x0, 0x4000, 0x0, 0xB0FF, 0x0⟩,
  ⟨Reg.IRC_SET, 1, 0x0, 0x0, 0x0, 0x1FF, 0x0, 0x0⟩,
  ⟨Reg.IRC_ACKSRC, 1, 0x1FF, 0x0, 0x0, 0x0, 0x0, 0x0⟩,
  ⟨Reg.IRC_ACKCNT, 1, 0x0, 0x0, 0x0, 0xFF, 0x0, 0x0⟩,
  ⟨Reg.IRC_HVEC0, 4, 0x0, 0x0, 0x0, 0x0, 0x81FF, 0x0⟩,
  ⟨Reg.IRC_HCNT, 1, 0x0, 0x0, 0x0, 0x0, 0xFF, 0x0⟩,
  ⟨Reg.IRC_TSEL, 1, 0xFF, 0x0, 0x0, 0x0, 0x0, 0x0⟩,
  ⟨Reg.IRC_TCFG, 1, 0xE000, 0x0, 0x0, 0x0, 0x0, 0x0⟩,
  ⟨Reg.IRC_TMOD, 1, 0xFFFF, 0x0, 0x0, 0x0, 0x0, 0x0⟩,
  ⟨Reg.IRC_STRAYT, 1, 0xFFFF, 0x0, 0x0, 0x0, 0x0, 0x99⟩,
  ⟨Reg.IRC_STRAYCNT, 1, 0x0, 0x0, 0x0, 0x8000, 0xFF, 0x0⟩,
  ⟨Reg.IRC_WSEL, 1, 0x3F, 0x0, 0x0, 0x0, 0x0, 0x0⟩,
  ⟨Reg.IRC_WCFG, 1, 0xE000, 0x0, 0x0, 0x0, 0x0, 0x0⟩,
  ⟨Reg.IRC_WCAUSE0, 4, 0x0, 0x0, 0xFFFF, 0x0, 0x0, 0x0⟩,
  ⟨Reg.IRC_FLWR, 1, 0x0, 0x0, 0x0, 0x0, 0x1FF, 0x0⟩,
  ⟨Reg.IRC_FLRD, 1, 0x1FF, 0x0, 0x0, 0x0, 0x0, 0x0⟩,
  ⟨Reg.IRC_FLOST, 1, 0x0, 0x0, 0x0, 0x8000, 0xFF, 0x0⟩,
  ⟨Reg.IRC_PSUM0, 32, 0x0, 0x0, 0x0, 0x0, 0xFFFF, 0x0⟩]

/-- The registers of the DMA_ block. -/
def regRowsDma : List RegRow := [
  ⟨Reg.DMA_CSEL, 1, 0x1F, 0x0, 0x0, 0x0, 0x0, 0x0⟩,
  ⟨Reg.DMA_CCFG, 1, 0x1FF, 0x0, 0x0, 0x0, 0x0, 0x100⟩,
  ⟨Reg.DMA_CPACE, 1, 0xC1FF, 0x0, 0x0, 0x0, 0x0, 0x0⟩,
  ⟨Reg.DMA_CIDX, 1, 0xFF, 0x0, 0x0, 0x0, 0x0, 0x0⟩,
  ⟨Reg.DMA_CCMD, 1, 0x0, 0x0, 0x0, 0x7, 0x0, 0x0⟩,
  ⟨Reg.DMA_CSTAT, 1, 0x0, 0x0, 0x0, 0x0, 0xF8FF, 0x0⟩,
  ⟨Reg.DMA_CPCNT, 1, 0x0, 0x0, 0x0, 0x0, 0xFF, 0x0⟩,
  ⟨Reg.DMA_CERR, 1, 0x0, 0x0, 0x0, 0x0, 0xF0FF, 0x0⟩,
  ⟨Reg.DMA_ACT0, 2, 0x0, 0x0, 0x0, 0x0, 0xFFFF, 0x0⟩,
  ⟨Reg.DMA_CNT, 1, 0x0, 0x0, 0x0, 0x0, 0xFFFF, 0x0⟩,
  ⟨Reg.DMA_CNT_CLR, 1, 0x0, 0x0, 0x0, 0x3, 0x0, 0x0⟩]

/-- The registers of the CMD_ block. -/
def regRowsCmd : List RegRow := [
  ⟨Reg.CMD_STAT0, 2, 0x0, 0x0, 0x0, 0x0, 0xFFFF, 0x4000⟩,
  ⟨Reg.CMD_CNT0, 2, 0x0, 0x0, 0x0, 0x0, 0xFFFF, 0x0⟩,
  ⟨Reg.CMD_CNT_CLR, 1, 0x0, 0x0, 0x0, 0x3, 0x0, 0x0⟩,
  ⟨Reg.CMD_LSEQ0, 2, 0x0, 0x0, 0x0, 0x0, 0xFFFF, 0x0⟩,
  ⟨Reg.CMD_PSEL, 1, 0x1, 0x0, 0x0, 0x0, 0x0, 0x0⟩,
  ⟨Reg.CMD_PROTR_LO, 1, 0x0, 0x0, 0x0, 0x0, 0xFFFF, 0x0⟩,
  ⟨Reg.CMD_PROTR_HI, 1, 0x0, 0x0, 0x0, 0x0, 0x1F, 0x0⟩,
  ⟨Reg.CMD_PROTW_LO, 1, 0x0, 0x0, 0x0, 0x0, 0xFFFF, 0x0⟩,
  ⟨Reg.CMD_PROTW_HI, 1, 0x0, 0x0, 0x0, 0x0, 0x1F, 0x0⟩,
  ⟨Reg.CMD_SRX, 1, 0x0, 0x0, 0x0, 0x0, 0x3FF, 0x0⟩,
  ⟨Reg.CMD_STX, 1, 0x0, 0x0, 0x0, 0x0, 0x3FF, 0x0⟩]

/-- The registers of the TWN_ block. -/
def regRowsTwn : List RegRow := [
  ⟨Reg.TWN_CFG, 1, 0x0, 0xF07, 0x0, 0x0, 0x0, 0x401⟩,
  ⟨Reg.TWN_STAT, 1, 0x0, 0x0, 0x0, 0x0, 0xF700, 0x0⟩,
  ⟨Reg.TWN_OWN, 1, 0x0, 0x0, 0x0, 0x0, 0x7FF, 0x0⟩,
  ⟨Reg.TWN_POWN, 1, 0x0, 0x0, 0x0, 0x0, 0x7FF, 0x0⟩,
  ⟨Reg.TWN_GSNS, 1, 0x0, 0x0, 0x0, 0x0, 0x7FF, 0x0⟩,
  ⟨Reg.TWN_LAST, 1, 0x0, 0x0, 0x0, 0x0, 0xF7FF, 0x0⟩,
  ⟨Reg.TWN_JRES, 1, 0x0, 0x0, 0x0, 0x0, 0xF, 0x0⟩,
  ⟨Reg.TWN_CNT, 1, 0x0, 0x0, 0x0, 0x0, 0xFFFF, 0x0⟩,
  ⟨Reg.TWN_CNT_CLR, 1, 0x0, 0x0, 0x0, 0x3, 0x0, 0x0⟩,
  ⟨Reg.TWN_VDIF, 1, 0x0, 0x0, 0x0, 0x0, 0xFFFF, 0x0⟩,
  ⟨Reg.TWN_TBOFS, 1, 0x0, 0x0, 0x0, 0x0, 0xFFFF, 0x0⟩,
  ⟨Reg.TWN_PAIRID, 1, 0x0, 0x0, 0x0, 0x0, 0xFFFF, 0x0⟩,
  ⟨Reg.TWN_FMT, 1, 0x0, 0x0, 0x0, 0x0, 0xFFFF, 0x0⟩]

/-- The registers of the ELX_ block. -/
def regRowsElx : List RegRow := [
  ⟨Reg.ELX_CFG, 1, 0x0, 0xFF01, 0x0, 0x0, 0x0, 0x0⟩,
  ⟨Reg.ELX_TIM, 1, 0x0, 0xFF0F, 0x0, 0x0, 0x0, 0x6403⟩,
  ⟨Reg.ELX_ID, 1, 0x0, 0x0, 0x0, 0x0, 0xFFFF, 0x0⟩,
  ⟨Reg.ELX_STAT, 1, 0x0, 0x0, 0x0, 0x0, 0xFF1F, 0x1F⟩,
  ⟨Reg.ELX_EPOCH, 1, 0x0, 0x0, 0x0, 0x0, 0xFF, 0x0⟩,
  ⟨Reg.ELX_PORT, 1, 0x0, 0x0, 0x0, 0x0, 0x1F, 0x0⟩,
  ⟨Reg.ELX_PARENT, 1, 0x0, 0x0, 0x0, 0x0, 0x8FFF, 0x0⟩,
  ⟨Reg.ELX_OFS, 1, 0x0, 0x0, 0x0, 0x0, 0xFFFF, 0x0⟩,
  ⟨Reg.ELX_LDLY, 1, 0x0, 0x0, 0x0, 0x0, 0xFFFF, 0x0⟩,
  ⟨Reg.ELX_JOINED, 1, 0x0, 0x0, 0x0, 0x0, 0x1FFF, 0x0⟩,
  ⟨Reg.ELX_CNT, 1, 0x0, 0x0, 0x0, 0x0, 0xFFFF, 0x0⟩,
  ⟨Reg.ELX_CNT_CLR, 1, 0x0, 0x0, 0x0, 0x3, 0x0, 0x0⟩,
  ⟨Reg.ELX_FRWR, 1, 0x0, 0x0, 0x0, 0x0, 0xFF, 0x0⟩,
  ⟨Reg.ELX_FRRD, 1, 0xFF, 0x0, 0x0, 0x0, 0x0, 0x0⟩,
  ⟨Reg.ELX_FRLOST, 1, 0x0, 0x0, 0x0, 0x8000, 0xFF, 0x0⟩]

/-- The registers of the LAT_ block. -/
def regRowsLat : List RegRow := [
  ⟨Reg.LAT_STAT, 1, 0x0, 0x0, 0x0, 0x0, 0xFFFF, 0x0⟩,
  ⟨Reg.LAT_CNT, 1, 0x0, 0x0, 0x0, 0x0, 0xFFFF, 0x0⟩,
  ⟨Reg.LAT_CNT_CLR, 1, 0x0, 0x0, 0x0, 0x3, 0x0, 0x0⟩,
  ⟨Reg.LAT_EADDR_LO, 1, 0x0, 0x0, 0x0, 0x0, 0xFFFF, 0x0⟩,
  ⟨Reg.LAT_EADDR_HI, 1, 0x0, 0x0, 0x0, 0x0, 0x8007, 0x0⟩,
  ⟨Reg.LAT_SPR01, 2, 0x0, 0x0, 0x0, 0x0, 0x1F1F, 0x1010⟩,
  ⟨Reg.LAT_INJ, 1, 0xBF3F, 0x0, 0x0, 0x0, 0x0, 0x3F3F⟩]

/-- The registers of the PWR_ block. -/
def regRowsPwr : List RegRow := [
  ⟨Reg.PWR_DOM, 1, 0x0, 0xFFF, 0x0, 0x0, 0x0, 0xFFF⟩,
  ⟨Reg.PWR_DSTAT, 1, 0x0, 0x0, 0x0, 0x0, 0xFFF, 0xFFF⟩,
  ⟨Reg.PWR_STAT, 1, 0x0, 0x0, 0x0, 0x0, 0xF000, 0x0⟩,
  ⟨Reg.PWR_RCAUSE, 1, 0x0, 0x0, 0x0, 0x0, 0xF, 0x0⟩,
  ⟨Reg.PWR_WAKE, 1, 0x0, 0x0, 0x0, 0x0, 0x7, 0x0⟩,
  ⟨Reg.PWR_CMD, 1, 0x0, 0x0, 0x0, 0x1, 0x0, 0x0⟩,
  ⟨Reg.PWR_CFGSTAT, 1, 0x0, 0x0, 0x0, 0x0, 0x800F, 0x0⟩,
  ⟨Reg.PWR_KTIM_LO, 1, 0xFFFF, 0x0, 0x0, 0x0, 0x0, 0x0⟩,
  ⟨Reg.PWR_KTIM_HI, 1, 0xFFFF, 0x0, 0x0, 0x0, 0x0, 0x0⟩,
  ⟨Reg.PWR_CTL, 1, 0x1, 0x0, 0x0, 0x0, 0x0, 0x0⟩,
  ⟨Reg.PWR_KEEP0, 32, 0xFFFF, 0x0, 0x0, 0x0, 0x0, 0x0⟩]

/-- The registers of the FUS_ block. -/
def regRowsFus : List RegRow := [
  ⟨Reg.FUS_STAT, 1, 0x0, 0x0, 0x0, 0x0, 0xC007, 0x0⟩,
  ⟨Reg.FUS_SEL, 1, 0x7F, 0x0, 0x0, 0x0, 0x180, 0x0⟩,
  ⟨Reg.FUS_VAL, 1, 0x0, 0x0, 0x0, 0x0, 0xFFFF, 0x0⟩,
  ⟨Reg.FUS_PROG, 1, 0x0, 0x0, 0x0, 0xFFFF, 0x0, 0x0⟩,
  ⟨Reg.FUS_FWSTAT, 1, 0x0, 0x0, 0x0, 0x0, 0xF80F, 0x0⟩,
  ⟨Reg.FUS_FWVA, 1, 0x0, 0x0, 0x0, 0x0, 0xFFFF, 0x0⟩,
  ⟨Reg.FUS_FWVB, 1, 0x0, 0x0, 0x0, 0x0, 0xFFFF, 0x0⟩]

/-- The rows of a register block window, by the block's number (address [15:8]): 16_command_ports.md R523. -/
def regRows : Nat → List RegRow
  | 0x00 => regRowsTb
  | 0x01 => regRowsAng
  | 0x02 => regRowsSyn
  | 0x03 => regRowsEvq
  | 0x04 => regRowsArc
  | 0x05 => regRowsCmb
  | 0x06 => regRowsDrv
  | 0x07 => regRowsIgn
  | 0x08 => regRowsVlv
  | 0x09 => regRowsLan
  | 0x0A => regRowsFbk
  | 0x0B => regRowsIrc
  | 0x0C => regRowsDma
  | 0x0D => regRowsCmd
  | 0x0E => regRowsTwn
  | 0x0F => regRowsElx
  | 0x10 => regRowsLat
  | 0x11 => regRowsPwr
  | 0x12 => regRowsFus
  | _ => []

/-- Whether an address lies in a register block window: 0xF0_0000 to 0xF0_12FF (R522). -/
def isRegAddr (a : Nat) : Bool := 0xF00000 ≤ a && a ≤ 0xF012FF

/-- The row that describes a register address; none where its chapter lists no register there. -/
def regRow? (a : Nat) : Option RegRow :=
  if isRegAddr a then (regRows (bits a 15 8)).find? (fun r => r.addr ≤ a && a < r.addr + r.n) else none

/-- The bits a register write may carry without touching a reserved bit (R16). -/
def RegRow.known (r : RegRow) : Nat := r.rw ||| r.rws ||| r.w1c ||| r.wo ||| r.ro

end Sys2Proof
end

