-- ==== Sys2Proof/Machine/StateCmd.lean ====
section
/-! DEFINITION. The state of the command ports (16_command_ports.md). -/

namespace Sys2Proof.Machine

/-- A packet that has completed reception (R500), as it waits in a receive buffer. -/
structure Packet where
  opw    : Nat
  seq    : Nat
  len    : Nat
  params : List Word
  /-- R506: the status and detail the HOST island has decided (checks 1 to 3); none when the packet goes to the supervisors. -/
  host   : Option (Nat × Nat)
  deriving DecidableEq, Repr

/-- One command port (R497 to R509, R519, R526). -/
structure Port where
  /-- R526: CSNLOW; reset false (the pin reads high). -/
  csnLow : Bool := false
  /-- R526: HUNT; reset true. -/
  hunt : Bool := true
  /-- R498: a packet is in reception (its sync word has come); reset false. -/
  inPacket : Bool := false
  /-- R502, R505: the receive buffer: packets waiting, oldest first, at most 2,048 words, and, in the order of completion, those that
  the HOST island answers and whose replies wait for room; reset empty. -/
  rx : List Packet := []
  /-- R505: the reply queue, at most 2,048 words; reset empty. -/
  tx : List Word := []
  /-- R505: the word of the slot in progress, and whether it is the oldest queued reply word; reset 0, false. -/
  outWord : Word := 0
  outReal : Bool := false
  /-- R507: the last reply stored; reset none. -/
  last : List Word := []
  /-- R507: LSEQ, 16 bits; LSEQV; reset 0. -/
  lseq : Nat := 0
  lseqv : Bool := false
  /-- R526: CRC, FRAME, REJECT, LOST, 4 bits each; reset 0. -/
  cCrc : Nat := 0
  cFrame : Nat := 0
  cReject : Nat := 0
  cLost : Nat := 0
  /-- R519: the stream receive and transmit buffers, at most 512 words each; reset empty. -/
  srx : List Word := []
  stx : List Word := []
  deriving DecidableEq, Repr

/-- The command ports and the packet the supervisors execute. -/
structure Cmd where
  p0 : Port := {}
  p1 : Port := {}
  /-- R509: the packet begun and not finished: port, OPW, SEQ; reset none. -/
  cur : Option (Nat × Nat × Nat) := none
  /-- R509: the port whose turn is next; reset CP0. -/
  turn : Nat := 0
  deriving DecidableEq, Repr

end Sys2Proof.Machine
end

