-- ==== Sys2Proof/Machine/State.lean ====
section
/-! DEFINITION. The state of the SD-4812 and the reset state. -/

namespace Sys2Proof.Machine

/-- The reasons the machine would stop with a fault. The block has none: what the spec calls a fault is a report, and its
effect is state; no command answers with this constructor, so it is safe. -/
inductive Fault where
  /-- Raised by nothing; safe. -/
  | none
  deriving DecidableEq, Repr

/-- The reasons a command would have no meaning. -/
inductive Refusal where
  /-- Raised by an arm of `exec` whose command has no meaning yet; safe. -/
  | notModelled (mnemonic : String)
  deriving DecidableEq, Repr

/-- The whole state of the block. -/
structure State where
  /-- The model's own: commands waiting, first in, first out; reset empty. -/
  pending : List Instr := []
  /-- The model's own: free values used so far; reset 0 (note 3). -/
  free : Nat := 0
  /-- R44: the Time Base, 64 bits, never wrapping; reset 0. -/
  tb : Tick := 0
  /-- R15: the values in effect of RW and RWS registers, by register key (address + 2^24 × selected index); unlisted: the reset value. -/
  regs : Tbl Word := []
  /-- R55: the open staged set, by register key; reset empty. -/
  staged : Tbl Word := []
  time : TimeBase := {}
  commit : Commit := {}
  bridge : Bridge := {}
  sup : Sup := {}
  lat : Lattice := {}
  irc : Irc := {}
  fus : Fuse := {}
  pwr : Power := {}
  wheel : Wheel := {}
  sync : Sync := {}
  tan : Tangent := {}
  evq : Events := {}
  cmd : Cmd := {}
  arcs : Arcs := {}
  cmb : Cmb := {}
  fbk : Feedback := {}
  drv : Drive := {}
  lan : Lanes := {}
  dma : Dma := {}
  twn : Twin := {}
  elx : Elrex := {}
  tap : Tap := {}
  /-- The model's own: what has been counted or set in this tick, by register key and field, for the rules by which an increment or a
  set wins over a clear of the same tick (R15); emptied by each tick; reset empty. -/
  hits : List (Nat × Nat) := []
  /-- The work of ticks to come, with the tick of each (R39, R83, R188, R207); reset empty. -/
  agenda : List (Tick × Work) := []
  /-- R569: the image that the PRIMARY of a join captured at B_s; reset none. -/
  image : Option StateImage := none
  deriving DecidableEq, Repr

/-- The machine right after a power-on reset, before the cold boot: what R651 has it report is on its way. -/
def State.reset : State := { irc := { reports := [⟨0x1F40, 1, 0⟩] } }

end Sys2Proof.Machine
end

