-- ==== Sys2Proof/Machine/Ops.lean ====
section
/-! DEFINITION. The shared operations: registers in effect and staged, fault reports and arrivals, the Lattice, free values,
power domains, replicas. -/

namespace Sys2Proof

/-- The value listed in a sparse table at a key, if any. -/
def Tbl.find? {α : Type} (k : Nat) : Tbl α → Option α
  | [] => none
  | (j, v) :: t => if j = k then some v else Tbl.find? k t

end Sys2Proof

namespace Sys2Proof.Machine

/-- The next free value, and the state that has used it (DESIGN CHOICE, note 3). -/
def State.freeVal (s : State) : Nat × State := (Config.freeNat s.free, { s with free := s.free + 1 })

/-! ### Work in ticks to come -/

/-- Work put down for a tick to come. -/
def State.later (s : State) (t : Tick) (w : Work) : State := { s with agenda := s.agenda ++ [(t, w)] }

/-! ### Feedback ports -/

/-- Incremental port 0 (A) or 1 (B). -/
def State.inc (s : State) (n : Nat) : IncPort := if n = 0 then s.fbk.pA else s.fbk.pB
/-- An incremental port set. -/
def State.setInc (s : State) (n : Nat) (p : IncPort) : State :=
  if n = 0 then { s with fbk := { s.fbk with pA := p } } else { s with fbk := { s.fbk with pB := p } }

/-! ### Fuses that registers and identities read -/

/-- The shadow of a fuse field as it is in use (R626, R627) (DESIGN CHOICE, note 8). -/
def State.fuse (s : State) (f : Nat) : Nat :=
  match Tbl.find? f s.fus.shadow with
  | some t => t.value.toNat
  | none => 0

/-- R626: the state of a fuse field in the array: 0 unprogrammed, 1 valid, 2 invalid. -/
def State.fuseKind (s : State) (f : Nat) : Nat :=
  let v := Tbl.get 0 f s.fus.array
  if v = 0 then 0 else if v % 65536 + v / 65536 = 65535 then 1 else 2

/-! ### The twin pair (17_twin.md R528, R531) -/

/-- R528, R627: the device is one of a pair, or its pair ID is invalid, so that it drives only the units it owns (DEDUCED, note 61). -/
def State.isTwin (s : State) : Bool := decide (s.fuse 6 ≠ 0) || decide (s.fuseKind 6 = 2)

/-- R531, R552, R627: the device drives unit n, as far as the pair is concerned. -/
def State.unitHere (s : State) (n : Nat) : Bool := !s.isTwin || bit s.twn.own n

/-- R548: the device is paired, is SHADOW, and its JSTATE is not ALONE. -/
def State.isShadow (s : State) : Bool := s.twn.paired && s.twn.shadow && decide (s.twn.jstate ≠ 0)

/-- R547, R549, R570: this PRIMARY forwards to its SHADOW, which tracks it or joins it (DEDUCED, note 60). -/
def State.mirrors (s : State) : Bool := s.twn.paired && !s.twn.shadow && decide (2 ≤ s.twn.jstate)

/-- R551: this PRIMARY has a partner that is TRACKING (DEDUCED, note 60). -/
def State.tracked (s : State) : Bool := s.mirrors && decide (s.twn.jstate = 5)

/-- R554, R569, R571: what boundary b is to the pair: the measures of the cycle that ends, and in a PRIMARY whose partner has adopted its
state the capture of the image. -/
def Twin.atB (t : Twin) (b : Tick) : Twin :=
  let capture := decide (t.jstate = 4) && !t.shadow && t.bs.isNone && decide (t.joinIn ≠ some 5)
  { t with vdif := min t.vdifNow 0xFFFF, vdifNow := 0, cycles := if capture then 0 else t.cycles + 1
           bs := if capture then some b else t.bs, delta := t.delta && !capture }

/-- R558: a fault code that is a fault of the device's own: class DEVICE_FAULT, or BLOCK_FAULT in a block that R558 names. -/
def ownFault (code : Nat) : Bool :=
  bits code 15 12 == 7 || (bits code 15 12 == 6 && [0, 1, 2, 3, 6, 7].contains (bits code 11 8))

/-- R540: an ordered frame given to the Belith link: it waits for its ACK (DESIGN CHOICE, note 59). -/
def State.twnSend (s : State) (type : Nat) (body : List Word) : State :=
  { s with twn := { s.twn with tx := s.twn.tx ++ [⟨s.twn.txSeq, type, body, s.tb⟩], txSeq := (s.twn.txSeq + 1) % 65536 } }

/-- R538: a frame that is not ordered, given to the Belith link (DESIGN CHOICE, note 59). -/
def State.twnShow (s : State) (type : Nat) (body : List Word) : State :=
  { s with twn := { s.twn with sent := Tbl.insert type body s.twn.sent } }

/-! ### Registers (00_scope.md R15, R16) -/

/-- The key of a register and the index of the entry that its selection register names. -/
def regKey (addr idx : Nat) : Nat := addr + 0x1000000 * idx

/-- The reset value of a register: its row's, except where the spec takes it from the fuses or from the index
(R242 ARC_CALG and ARC_CALO; R475 IRC_SCFG; R608 ELX_CFG). -/
def regReset (s : State) (addr idx : Nat) : Nat :=
  if addr = Reg.ARC_CALG then s.fuse (33 + 2 * idx)
  else if addr = Reg.ARC_CALO then s.fuse (34 + 2 * idx)
  else if addr = Reg.IRC_SCFG then (if 0xA0 ≤ idx && idx ≤ 0xBF then 0x8F04 else 0)
  else if addr = Reg.ELX_CFG then (if bits (s.fuse 7) 15 12 = 0 then 0 else 1)
  else match regRow? addr with
    | some r => r.reset
    | none => 0

/-- The value in effect of an RW or RWS register. -/
def State.cfg (s : State) (addr idx : Nat) : Nat :=
  match Tbl.find? (regKey addr idx) s.regs with
  | some w => w.toNat
  | none => regReset s addr idx

/-- A field of a register's value in effect. -/
def State.fld (s : State) (addr idx hi lo : Nat) : Nat := bits (s.cfg addr idx) hi lo

/-- A one-bit field of a register's value in effect. -/
def State.flag (s : State) (addr idx i : Nat) : Bool := bit (s.cfg addr idx) i

/-- The value in effect of a register set. -/
def State.setCfg (s : State) (addr idx v : Nat) : State :=
  { s with regs := Tbl.insert (regKey addr idx) (toWord v) s.regs }

/-- One bit of a register's value in effect set. -/
def State.setFlag (s : State) (addr idx i : Nat) (b : Bool) : State :=
  s.setCfg addr idx (setBit (s.cfg addr idx) i b)

/-! ### Counts and bits that a clear meets in the same tick (R15) -/

/-- A count incremented, or a bit set, in this tick: the register, its index and the field's lowest bit. -/
def State.hit (s : State) (addr idx lo : Nat) : State := { s with hits := (regKey addr idx, lo) :: s.hits }

/-- How often a count was incremented, or a bit set, in this tick. -/
def State.hitCount (s : State) (addr idx lo : Nat) : Nat := (s.hits.filter (fun h => h == (regKey addr idx, lo))).length

/-- What a cleared count reads: the increments of the same tick win over the clear (R15) (DEDUCED, note 76). -/
def State.kept (s : State) (addr idx lo max : Nat) : Nat := min max (s.hitCount addr idx lo)

/-- R15: a write of 1 clears a bit, but for one that was set in this tick. -/
def State.w1c (s : State) (addr idx cur v : Nat) : Nat :=
  forUpTo (fun i acc => if bit v i && !(decide (0 < s.hitCount addr idx i)) then setBit acc i false else acc) 0 64 cur

/-- What a cleared bit reads: a set of the same tick wins over the clear (R15). -/
def State.keptBit (s : State) (addr idx lo : Nat) : Bool := decide (0 < s.hitCount addr idx lo)

/-- The staged value of a register in the open set or, where none is staged, in the closed set that waits, or else the value in
effect: "as staged or in effect". -/
def State.cfgStaged (s : State) (addr idx : Nat) : Nat :=
  match Tbl.find? (regKey addr idx) s.staged with
  | some w => w.toNat
  | none =>
    match (if s.commit.pending then Tbl.find? (regKey addr idx) s.commit.closed else none) with
    | some w => w.toNat
    | none => s.cfg addr idx

/-- Whether a register is staged in the open set or in the closed set that waits. -/
def State.isStaged (s : State) (addr idx : Nat) : Bool :=
  (Tbl.find? (regKey addr idx) s.staged).isSome ||
    (s.commit.pending && (Tbl.find? (regKey addr idx) s.commit.closed).isSome)

/-- The value that the closed set which waits leaves in effect. -/
def State.cfgClosed (s : State) (addr idx : Nat) : Nat :=
  match (if s.commit.pending then Tbl.find? (regKey addr idx) s.commit.closed else none) with
  | some w => w.toNat
  | none => s.cfg addr idx

/-- R86: the staged value of a register where one is open, and otherwise its value in effect. -/
def State.cfgOpen (s : State) (addr idx : Nat) : Nat :=
  match Tbl.find? (regKey addr idx) s.staged with
  | some w => w.toNat
  | none => s.cfg addr idx

/-- A register has a value in the closed set that waits. -/
def State.inClosed (s : State) (addr idx : Nat) : Bool :=
  s.commit.pending && (Tbl.find? (regKey addr idx) s.commit.closed).isSome

/-! ### Synchronisation and reporting periods (R693) -/

/-- R112: FULL_SYNC, or CRANK_SYNC in two-stroke mode. -/
def State.fullSync (s : State) : Bool :=
  match s.sync.state with
  | .fullSync => true
  | .crankSync => s.flag Reg.SYN_CTL 0 12
  | _ => false

/-- The aligned block of 2^26 ticks that a tick lies in (DEDUCED, note 48). -/
def block26 (t : Tick) : Nat := t / 0x4000000

/-- R693: the reporting period of the present tick: the engine cycle in FULL_SYNC, the aligned block outside it. -/
def State.period (s : State) : Nat × Nat :=
  (s.irc.epoch, if s.fullSync then 0 else block26 s.tb)

/-- The fault report of a code sent to the router (R469). A fault of the device's own is declared in this tick, and starts the
release of R558. -/
def State.report (s : State) (code aux : Nat) : State :=
  { s with irc := { s.irc with reports := s.irc.reports ++ [⟨code, aux % 65536, s.tb⟩] }
           twn := if s.isTwin && ownFault code && !s.twn.fault then
               { s.twn with fault := true, faultAt := some s.tb } else s.twn }

/-- What happens in tick t, on a state that stands in another tick: its reports carry t. -/
def State.inTick (s : State) (t : Tick) (f : State → State) : State := { f { s with tb := t } with tb := s.tb }

/-- A list of limits with the period of one code and subject replaced. -/
def setLimit (k : Nat × Nat) (p : Nat × Nat) (l : List ((Nat × Nat) × (Nat × Nat))) : List ((Nat × Nat) × (Nat × Nat)) :=
  (k, p) :: l.filter (fun e => e.1 != k)

/-- Whether a code has already been reported for a subject in a period (R693) (DEDUCED, note 73). -/
def State.limited (s : State) (code subj : Nat) (p : Nat × Nat) : Bool :=
  s.irc.limits.any (fun e => e.1 == (code, subj) && e.2 == p)

/-- A report allowed once in each period, for a code and subject (R693). -/
def State.reportIn (s : State) (code subj aux : Nat) (p : Nat × Nat) : State :=
  if s.limited code subj p then s
  else { s.report code aux with irc := { (s.report code aux).irc with limits := setLimit (code, subj) p s.irc.limits } }

/-- A report allowed once per engine cycle, or per block of 2^26 ticks outside FULL_SYNC (R693) (DEDUCED, note 73). -/
def State.reportCycle (s : State) (code subj aux : Nat) : State := s.reportIn code subj aux s.period

/-- A report allowed once in each aligned block of 2^26 ticks, whatever the synchronisation state (R693) (DEDUCED, note 48). -/
def State.reportBlock (s : State) (code subj aux : Nat) : State := s.reportIn code subj aux (0, block26 s.tb)

/-- A new reporting period of FULL_SYNC begins: at B, and at a change into or out of FULL_SYNC (R693). -/
def State.newPeriod (s : State) : State := { s with irc := { s.irc with epoch := s.irc.epoch + 1 } }

/-! ### Interrupt arrivals (R456, R457) -/

/-- An arrival sent through an island's gate: it counts when it reaches the router (SOURCE_ARRIVAL). -/
def State.arrive (s : State) (src : Nat) : State :=
  { s with irc := { s.irc with arrivals := s.irc.arrivals ++ [src] } }

/-- A source of the router. -/
def State.source (s : State) (n : Nat) : Source := Tbl.get {} n s.irc.src

/-- A source of the router set. -/
def State.setSource (s : State) (n : Nat) (v : Source) : State :=
  { s with irc := { s.irc with src := Tbl.put {} n v s.irc.src } }

/-- A delivery target of the router. -/
def State.target (s : State) (n : Nat) : Target := Tbl.get {} n s.irc.tgt

/-- A delivery target of the router set. -/
def State.setTarget (s : State) (n : Nat) (v : Target) : State :=
  { s with irc := { s.irc with tgt := Tbl.put {} n v s.irc.tgt } }

/-! ### Power domains (R639, R640) -/

/-- The state of a power domain. -/
def State.dom (s : State) (n : Nat) : Dom := Tbl.get .off n s.pwr.dom

/-- A power domain is ON. -/
def State.domOn (s : State) (n : Nat) : Bool := s.dom n == .on

/-- R640: the power domain of cluster c. -/
def laneDom (c : Nat) : Nat := 4 + c / 2

/-! ### Replicas (R46, R49) -/

/-- An island's replica and launch unit. -/
def State.replica (s : State) (i : Nat) : Replica := Tbl.get {} i s.time.isl

/-- An island's replica and launch unit set. -/
def State.setReplica (s : State) (i : Nat) (r : Replica) : State :=
  { s with time := { s.time with isl := Tbl.put {} i r s.time.isl } }

/-- R46: the lag of an island's replica, 0 or 1; ANGLE (14) has none, and before the boot has locked the replicas the reset value 0 of
TB_LAG stands (R64) (DESIGN CHOICE, note 4). -/
def State.lag (s : State) (i : Nat) : Nat :=
  if 14 ≤ i || s.pwr.booting then 0 else b2n (Config.replicaLag i (s.replica i).locks)

/-- R46, R47: the value an island's replica holds (DESIGN CHOICE, note 4). -/
def State.replicaNow (s : State) (i : Nat) : Nat :=
  (((s.tb : Int) - (s.lag i : Int)) + (s.replica i).ofs).toNat

/-- The tick that the DRIVE island's replica holds, by which it starts, ends and times (R49) (DEDUCED, note 35). -/
def State.drvNow (s : State) : Nat := s.replicaNow 12

/-- The block of the fault codes of an island (R634) (DESIGN CHOICE, note 10). -/
def islandBlock (i : Nat) : Nat :=
  if i = 0 then 0xB else if i = 1 then 0xF else if i = 2 then 0xE else if i ≤ 10 then 0x8
  else if i = 11 then 0x4 else if i = 12 then 0x6 else if i = 13 then 0xD else 0x3

/-- R51, R65: a stale launch is dropped, counted and reported as ACTION_LOST in its island's block, with the tag. -/
def State.stale (s : State) (i aux : Nat) : State :=
  { s with time := { s.time with stale := satInc 255 s.time.stale } }.report (0x40F0 + 0x100 * islandBlock i) aux

/-- A launch sent to an island's gate, whose sender waits where the gate holds 8 messages (R25, R51) (DEDUCED, note 87). -/
def State.sendLaunch (s : State) (i : Nat) (l : Launch) : State :=
  let r := s.replica i
  s.setReplica i (if r.inFlight.length < 8 ∧ r.sending = [] then { r with inFlight := r.inFlight ++ [l] }
    else { r with sending := r.sending ++ [l] })

/-! ### The Lattice (R28 to R33, R618 to R620) -/

/-- What an unlisted twin-word reads as: the fill of the boot (R654 step 4). -/
def latFill : TwinWord := ⟨0#16, 0xFFFF#16⟩

/-- The number of twin-words of the Lattice (R32). -/
def latSize : Nat := 0x80000

/-- A twin-word with one of its 32 stored bits inverted; the check bits 32 to 38 carry no value (R637). -/
def flipBit (t : TwinWord) (i : Nat) : TwinWord :=
  if i < 16 then { t with value := t.value ^^^ BitVec.ofNat 16 (2 ^ i) }
  else if i < 32 then { t with comp := t.comp ^^^ BitVec.ofNat 16 (2 ^ (i - 16)) }
  else t

/-- The code bits in error of a twin-word. -/
def State.latErrs (s : State) (a : Nat) : List Nat := Tbl.get [] a s.lat.errs

/-- R620: the twin-word is uncorrectable (two or more of its 39 code bits are in error). -/
def State.latUnc (s : State) (a : Nat) : Bool := 2 ≤ (s.latErrs a).length

/-- The twin-word a read delivers: corrected where the code corrects it (R619), as stored where it cannot (R620). -/
def State.latRead (s : State) (a : Nat) : TwinWord :=
  let t := Tbl.get latFill a s.lat.mem
  if s.latUnc a then (s.latErrs a).foldl flipBit t else t

/-- R9, R620: the twin-word passes its check. -/
def State.latOk (s : State) (a : Nat) : Bool := (s.latRead a).valid && !(s.latUnc a)

/-- The value half of a twin-word. -/
def State.latVal (s : State) (a : Nat) : Nat := (s.latRead a).value.toNat

/-- The twin-words from a on, n of them. -/
def State.latVals (s : State) (a : Nat) : Nat → List Nat
  | 0 => []
  | n + 1 => s.latVal a :: s.latVals (a + 1) n

/-- Every twin-word of a range passes its check. -/
def State.latOkN (s : State) (a : Nat) : Nat → Bool
  | 0 => true
  | n + 1 => s.latOk a && s.latOkN (a + 1) n

/-- R622: bank and row of a Lattice address, as AUX of R636 gives them. -/
def rowAux (bank row : Nat) : Nat := bank * 512 + row

/-- R622, R625: a hard row is mapped to the next free spare of its bank, or stays (DEDUCED, note 71). -/
def State.mapRow (s : State) (bank row : Nat) : State :=
  let used := (s.lat.maps.filter (fun m => m.bank == bank)).length
  if s.lat.maps.any (fun m => m.bank == bank && m.row == row && m.copying) then s
  else if used < 16 then
    { s with lat := { s.lat with maps := s.lat.maps ++ [RowMap.mk bank row used true 512],
                                 repairLog := s.lat.repairLog ++ [(bank, row)] } }.report 0x3E03 (rowAux bank row)
  else s.report 0x3E04 (rowAux bank row)

/-- R619, R620, R637: what a read does besides delivering: a corrected or uncorrectable error is counted, its address kept,
0x1E01 or 0x5E02 reported, and a correction queued for write-back. -/
def State.latTouch (s : State) (a : Nat) : State :=
  let aux := (a % 4) * 512 + bits a 18 10
  match s.latErrs a with
  | [] => s
  | [_] =>
    { s with lat := { s.lat with ce := satInc 255 s.lat.ce, eaddr := a, eunc := false,
                                  writeBack := if s.lat.writeBack.contains a then s.lat.writeBack else s.lat.writeBack ++ [a] } }.hit
      Reg.LAT_CNT 0 8 |>.report 0x1E01 aux
  | _ =>
    let s1 := { s with lat := { s.lat with ue := satInc 255 s.lat.ue, eaddr := a, eunc := true } }.hit Reg.LAT_CNT 0 0 |>.report 0x5E02 aux
    if s.sup.running then s1.mapRow (a % 4) (bits a 18 10) else s1

/-- The side effects of reading n twin-words from a on. -/
def State.latTouchN (s : State) (a : Nat) : Nat → State
  | 0 => s
  | n + 1 => (s.latTouch a).latTouchN (a + 1) n

/-- R567: an address of the Lattice that a bulk copy carries. -/
def inCopy (a : Nat) : Bool := a < 0x40000 || (0x41000 ≤ a && a < 0x42000) || 0x44000 ≤ a

/-- R567: a write made during a join goes to the newcomer as a DELTA frame: the address's two words and the stored words
(DESIGN CHOICE, note 59). -/
def State.deltaFrame (s : State) (a : Nat) (ws : List Word) : State :=
  if s.twn.delta then s.twnSend 0x09 (toWord a :: toWord (a / 65536) :: ws) else s

/-- A twin-word written whatever its lock: the code word is formed anew, and a correction waiting for it is dropped (R619). -/
def State.latWrite (s : State) (a : Nat) (t : TwinWord) : State :=
  if a < latSize then
    let s1 := { s with lat := { s.lat with mem := Tbl.put latFill a t s.lat.mem
                                           errs := Tbl.erase a s.lat.errs
                                           writeBack := s.lat.writeBack.filter (· != a) } }
    if inCopy a then s1.deltaFrame a [t.value, t.comp] else s1
  else s

/-- A value written as a twin-word. -/
def State.latPut (s : State) (a v : Nat) : State := s.latWrite a (TwinWord.of (toWord v))

/-- Values written from an address on, each as a twin-word. -/
def State.latPuts (s : State) (a : Nat) : List Nat → State
  | [] => s
  | v :: vs => (s.latPut a v).latPuts (a + 1) vs

/-- R33, R182, R205: the twin-word is locked: its event slot's lock is set, or it lies in the active recipe buffer. -/
def State.latLocked (s : State) (a : Nat) : Bool :=
  if a < 0x10000 then (Tbl.find? (a / 8) s.evq.slots).isSome
  else if a < 0x14000 then (if s.evq.rcpActive then 0x12000 ≤ a else a < 0x12000)
  else false

/-- R32: an address lies in the general region. -/
def inGeneral (a n : Nat) : Bool := 0x44000 ≤ a && a + n ≤ 0x80000

end Sys2Proof.Machine
end

