-- ==== Sys2Proof/Machine/Angle.lean ====
section
/-! DEFINITION. The angle of the Tangent and the wheel's geometry: 04_sync.md R104, R105 and 05_tangent.md R136 to R145. -/

namespace Sys2Proof.Machine

/-- One engine cycle in CAU (R5). -/
def cycleCau : Nat := 0x1000000

/-- Division rounded up. -/
def ceilDiv (a b : Nat) : Nat := if b = 0 then 0 else (a + b - 1) / b

/-- Division rounded to the nearest value, ties toward plus infinity (R144). -/
def roundDiv (a : Int) (b : Int) : Int := if b = 0 then 0 else Int.fdiv (2 * a + b) (2 * b)

/-- (a - b) modulo one cycle. -/
def cauSub (a b : Nat) : Nat := (a + cycleCau - b % cycleCau) % cycleCau

/-! ### The wheel (R104, R105) -/

/-- N, the positions per revolution. -/
def State.wheelN (s : State) : Nat := s.fld Reg.SYN_WHEEL 0 8 0
/-- M1, the missing positions of gap 1. -/
def State.wheelM1 (s : State) : Nat := s.fld Reg.SYN_WHEEL 0 11 10
/-- GAPS: 1 for two gaps. -/
def State.wheelGaps (s : State) : Bool := s.flag Reg.SYN_WHEEL 0 12
/-- M2, the missing positions of gap 2. -/
def State.wheelM2 (s : State) : Nat := s.fld Reg.SYN_GAP2 0 11 10
/-- G2POS. -/
def State.wheelG2 (s : State) : Nat := s.fld Reg.SYN_GAP2 0 8 0
/-- STROKE: two-stroke. -/
def State.twoStroke (s : State) : Bool := s.flag Reg.SYN_CTL 0 12
/-- REF in CAU. -/
def State.wheelRef (s : State) : Nat := s.cfg Reg.SYN_REF_LO 0 + 65536 * s.fld Reg.SYN_REF_HI 0 7 0

/-- The missing positions of the gap that ends at a position: 0 where the position is no first tooth after a gap (R104). -/
def State.gapBefore (s : State) (p : Nat) : Nat :=
  if p = 0 then s.wheelM1
  else if s.wheelGaps && p == s.wheelG2 + s.wheelM2 then s.wheelM2 else 0

/-- The next present position (R104). -/
def State.nextPos (s : State) (p : Nat) : Nat :=
  let n := p + 1
  if s.wheelN - s.wheelM1 ≤ n then 0
  else if s.wheelGaps && n == s.wheelG2 then n + s.wheelM2 else n

/-- The present position just below (R131) (DEDUCED, note 16). -/
def State.prevPosOf (s : State) (p : Nat) : Nat :=
  if p = 0 then s.wheelN - s.wheelM1 - 1
  else if s.wheelGaps && p == s.wheelG2 + s.wheelM2 then s.wheelG2 - 1 else p - 1

/-- Whether a position carries a tooth (R104). -/
def State.present (s : State) (p : Nat) : Bool :=
  decide (p < s.wheelN - s.wheelM1) &&
    !(s.wheelGaps && decide (s.wheelG2 ≤ p) && decide (p < s.wheelG2 + s.wheelM2))

/-- The half that follows when the position passes forward from p (R105): it changes at position 0, in four-stroke mode. -/
def State.halfAfter (s : State) (p : Nat) (h : Bool) : Bool :=
  if s.twoStroke then false else if s.nextPos p = 0 then !h else h

/-- R105: the nominal angle of position p in half h. -/
def State.nominal (s : State) (p : Nat) (h : Bool) : Cau :=
  let per := if s.twoStroke then 0x1000000 else 0x800000
  (s.wheelRef + divRoundEven (p * per) s.wheelN + (if h && !s.twoStroke then 0x800000 else 0)) % cycleCau

/-- R145: the cycle index of a segment. -/
def State.cycIndex (s : State) (p : Nat) (h : Bool) : Nat :=
  if s.twoStroke then p else b2n h * s.wheelN + p

/-- R142: the offset of a position in a table of offsets. -/
def offOf (offs : Tbl Int) (p : Nat) : Int := Tbl.get 0 p offs

/-- R142, R616: the anchor angle of position p in half h, corrected by the learned offset unless the offsets are being rebuilt. -/
def State.anchor (s : State) (p : Nat) (h : Bool) : Cau :=
  let o := if s.tan.offsBad then 0 else offOf s.tan.offs p
  (((s.nominal p h : Int) + o) % (cycleCau : Int)).toNat

/-- R142: the offsets derived from an applied geometry table, from position p on with the offset reached there. -/
def State.deriveFrom (s : State) (g : Tbl Int) : Nat → Nat → Int → Tbl Int → Tbl Int
  | 0, _, _, acc => acc
  | n + 1, p, o, acc =>
    let q := s.nextPos p
    if q = 0 then acc
    else
      let nl := cauSub (s.nominal q false) (s.nominal p false)
      let o' := o + roundDiv ((nl : Int) * Tbl.get 0 p g) 1048576
      s.deriveFrom g n q o' (Tbl.put 0 q o' acc)

/-- R142: every offset of a geometry table; the offset of position 0 is 0. -/
def State.derive (s : State) (g : Tbl Int) : Tbl Int := s.deriveFrom g s.wheelN 0 0 []

/-- R144: m of the segment that begins at a position: its pitches. -/
def State.segM (s : State) (p : Nat) : Nat := s.gapBefore (s.nextPos p) + 1

/-- R140: the ripple table is used: FULL_SYNC, or CRANK_SYNC in two-stroke mode. -/
def State.rippleUsed (s : State) : Bool := s.fullSync

/-- R144: the shape factor F of the segment at position p in half h. -/
def State.shapeF (s : State) (p : Nat) (h : Bool) : Nat :=
  let g := Tbl.get 0 p s.tan.g
  let r := if s.rippleUsed then Tbl.get 0 (s.cycIndex p h) s.tan.r else 0
  ((1048576 + g) * (262144 + r)).toNat

/-! ### The angle (R136 to R138, R444) -/

/-- R137: the offset in a segment dt ticks after its vertex, in the 24.24 format. -/
def segOff (g : Segment) (dt : Nat) : Nat := min (dt * g.rate) (g.len * 0x1000000 - 1)

/-- R444: the offset an available position of the port in use gives: floor(delta × 2^35 / TLPR), 2^36 in two-stroke mode; a negative
delta counts as 0. -/
def State.xOffset (s : State) (pos : Nat) : Nat :=
  let tlpr := s.cfg Reg.FBK_TLPR s.tan.x.port
  let d := signedOf 32 ((pos + 0x100000000 - s.tan.x.ref) % 0x100000000)
  if tlpr = 0 || d < 0 then 0
  else d.toNat * (if s.twoStroke then 2 ^ 36 else 2 ^ 35) / tlpr

/-- R444: an update is the latest available of its port in some tick from E + 5 on: no later one of them is available by its own first
tick, or by E + 5. -/
def State.xCounts (s : State) (u : XUpdate) (later : List XUpdate) : Bool :=
  !(later.any (fun v => v.port == u.port && decide (v.from_ ≤ max u.from_ (s.tan.seg.e + 5))))

/-- R444: the largest offset by tick t: that reached before, and those of the updates that have become available. -/
def State.xMax (s : State) (t : Tick) : List XUpdate → Nat → Nat
  | [], o => o
  | u :: l, o =>
    s.xMax t l (if u.port = s.tan.x.port && decide (u.from_ ≤ t) && s.xCounts u l then max o (s.xOffset u.pos) else o)

/-- R442: the latest update of a port that is available in tick t. -/
def State.xLatest (s : State) (port t : Nat) : XUpdate :=
  (s.tan.x.coming.filter (fun u => u.port == port && decide (u.from_ ≤ t))).foldl (fun _ u => u) (Tbl.get {} port s.tan.x.avail)

/-- The offset in tick t of the current segment, from interpolation or from the external source. -/
def State.offAt (s : State) (t : Tick) : Nat :=
  let g := s.tan.seg
  if s.tan.x.act then min (s.xMax t s.tan.x.coming s.tan.x.off) (g.len * 0x1000000 - 1)
  else match s.tan.x.lostAt with
    | some tf => min (s.tan.x.off + (t - tf) * g.rate) (g.len * 0x1000000 - 1)
    | none => segOff g (t - g.e)

/-- R136 to R140: the 48-bit accumulator in tick t. -/
def State.accAt (s : State) (t : Tick) : Nat :=
  match s.tan.ast with
  | .running =>
    if t < s.tan.seg.e + 5 then
      match s.tan.prev with
      | some p => (p.a * 0x1000000 + segOff p (t - p.e)) % 0x1000000000000
      | none => s.tan.hold
    else (s.tan.seg.a * 0x1000000 + s.offAt t) % 0x1000000000000
  | _ => s.tan.hold

/-- R136: the integer angle in tick t. -/
def State.angleAt (s : State) (t : Tick) : Cau := s.accAt t / 0x1000000

/-- R140, R188: the pin time of an angle in a segment. -/
def pinOf (g : Segment) (angle : Cau) : Tick :=
  g.e + max 5 (ceilDiv (cauSub angle g.a * 0x1000000) g.rate)

/-- R188: an angle lies in the current segment, between A and the next anchor minus 1. -/
def State.inSegment (s : State) (angle : Cau) : Bool :=
  s.tan.ast == .running && decide (cauSub angle s.tan.seg.a < s.tan.seg.len)

/-- R185: the lateness term of an angle that a tick's integer angle has passed. -/
def latenessOf (a angle rate : Nat) : Nat := ceilDiv (cauSub a angle * 0x1000000) rate

end Sys2Proof.Machine
end

