-- ==== Sys2Proof/Machine/Reply.lean ====
section
/-! DEFINITION. Replies of the command ports (16_command_ports.md R504, R505, R507). -/

namespace Sys2Proof.Machine

/-- A command port. -/
def State.port (s : State) (p : Nat) : Port := if p = 0 then s.cmd.p0 else s.cmd.p1

/-- A command port set. -/
def State.setPort (s : State) (p : Nat) (v : Port) : State :=
  if p = 0 then { s with cmd := { s.cmd with p0 := v } } else { s with cmd := { s.cmd with p1 := v } }

/-- The words of a reply (R504): sync, OPW with DUP, SEQ, STATUS, DETAIL, RLEN, results, CRC. -/
def replyWords (opw seq status detail : Nat) (dup : Bool) (res : List Word) : List Word :=
  let body := [toWord (bits opw 15 8 * 256 + b2n dup), toWord seq, toWord (status * 256), toWord detail,
               toWord res.length] ++ res
  0xC35A#16 :: (body ++ [toWord (crc16 body)])

/-- A stored reply with DUP set and its CRC formed anew (R508). -/
def dupReply (r : List Word) : List Word :=
  match r with
  | sync :: opw :: rest =>
    let body := (opw ||| 1#16) :: rest.dropLast
    sync :: (body ++ [toWord (crc16 body)])
  | _ => r

/-- A status code counted in CMD_CNTn.REJECT: 0x11 to 0x1C (R526). -/
def isReject (status : Nat) : Bool := 0x11 ≤ status && status ≤ 0x1C

/-- A reply queued; a rejection counts (R505, R526). -/
def Port.push (v : Port) (r : List Word) (status : Nat) : Port :=
  { v with tx := v.tx ++ r, cReject := if isReject status then satInc 15 v.cReject else v.cReject }

/-- The reply of a packet that the HOST island answers itself; REJECT_LENGTH and REJECT_CRC echo OPW and SEQ as received (R504). -/
def Packet.hostReply (k : Packet) (status detail : Nat) : List Word :=
  if status = 0x10 ∨ status = 0x11 then
    let body := [toWord k.opw, toWord k.seq, toWord (status * 256), toWord detail, 0#16]
    0xC35A#16 :: (body ++ [toWord (crc16 body)])
  else replyWords k.opw k.seq status detail false []

/-- R504, R505: the HOST island's replies at the front of a port's order that find room in its queue. -/
def Port.hostReplies : List Packet → Port → Port
  | [], v => { v with rx := [] }
  | k :: ks, v =>
    match k.host with
    | some (st, d) =>
      if v.tx.length + 7 ≤ 2048 then Port.hostReplies ks (v.push (k.hostReply st d) st) else { v with rx := k :: ks }
    | none => { v with rx := k :: ks }

/-- R526: a rejection counted at a port in this tick. -/
def State.hitReject (s : State) (p status : Nat) : State := if isReject status then s.hit (Reg.CMD_CNT0 + p) 0 4 else s

/-- R504, R505: the HOST island's replies that are due at a port: those before the next packet for the supervisors, unless one of this
port is in execution (DESIGN CHOICE, note 51). -/
def State.hostReplies (s : State) (p : Nat) : State :=
  let busy := match s.cmd.cur with
    | some (q, _, _) => decide (q = p)
    | none => false
  if busy then s
  else
    let v := Port.hostReplies (s.port p).rx (s.port p)
    ((s.port p).rx.take ((s.port p).rx.length - v.rx.length)).foldl (fun st k => st.hitReject p (k.host.getD (0, 0)).1) (s.setPort p v)

/-- The packet in execution is finished: its reply is queued and stored as the port's last reply (R507). -/
def State.finishPacket (s : State) (status detail : Nat) (res : List Word) : State :=
  match s.cmd.cur with
  | none => s
  | some (p, opw, seq) =>
    let r := replyWords opw seq status detail false res
    let s1 := { s with cmd := { s.cmd with cur := none } }
    ((s1.setPort p { (s1.port p).push r status with last := r }).hitReject p status).hostReplies p

/-- A value as the two words of a twin-word in a packet (R10). -/
def twinWords (v : Nat) : List Word := [toWord v, ~~~(toWord v)]

/-- Values as twin-words in a packet (R503). -/
def twinList : List Nat → List Word
  | [] => []
  | v :: vs => twinWords v ++ twinList vs

end Sys2Proof.Machine
end

