-- ==== Sys2Proof/Machine/DomainRecords.lean ====
section
/-! DEFINITION. Elrex ports' frames and the domain coalescer: the operations that the router and the domain share
(18_elrex.md R583 to R586, R602 to R605). -/

namespace Sys2Proof.Machine

/-! ### Ports and frames -/

/-- R580: the fused role of this device. -/
def State.fusedRole (s : State) : Nat := bits (s.fuse 7) 15 12
/-- R580: the node ID of this device. -/
def State.nodeId (s : State) : Nat := bits (s.fuse 7) 11 0
/-- The device serial number (R626). -/
def State.serialNo (s : State) : Nat := s.fuse 2 + 65536 * s.fuse 3 + 4294967296 * s.fuse 4 + 281474976710656 * s.fuse 5

/-- An Elrex port: 0 ELX_U, 1 to 4 ELX_D0 to ELX_D3. -/
def State.elxPort (s : State) (p : Nat) : ElxPort := Tbl.get {} p s.elx.port
/-- An Elrex port set. -/
def State.setElxPort (s : State) (p : Nat) (v : ElxPort) : State :=
  { s with elx := { s.elx with port := Tbl.put {} p v s.elx.port } }

/-- R580, R608: the node takes part in the domain. -/
def State.elxOn (s : State) : Bool :=
  decide (s.fusedRole ≠ 0) && s.flag Reg.ELX_CFG 0 0 && s.domOn 11 && !s.elx.refused

/-- R581, R600: the port that leads to the parent: ELX_U, or the one the fused ORIGIN faces its successor on; 5, which is no port,
at the node acting as origin. -/
def State.upPort (s : State) : Nat :=
  if s.elx.arole = 2 then 5
  else if s.elx.reversed then
    (match (List.range 4).find? (fun i => (s.elxPort (i + 1)).up && (s.elxPort (i + 1)).peerRole == 2) with
      | some i => i + 1
      | none => 0)
  else 0

/-- The ports that lead to children. A STANDBY acting as origin has the returned ORIGIN on its ELX_U (R600). -/
def State.downPorts (s : State) : List Nat :=
  (List.range 5).filter (fun p => p ≠ s.upPort ∧ (p ≠ 0 ∨ (s.elx.arole = 2 ∧ s.fusedRole ≠ 2)))

/-- R585: an ordered frame given to a port: it waits for its LACK. -/
def State.elxSend (s : State) (p type : Nat) (body : List Word) : State :=
  let v := s.elxPort p
  s.setElxPort p { v with tx := v.tx ++ [⟨v.txSeq, type, body, s.tb⟩], txSeq := (v.txSeq + 1) % 16 }

/-- R584: a frame that is not ordered, given to a port. -/
def State.elxShow (s : State) (p type : Nat) (body : List Word) : State :=
  let v := s.elxPort p
  s.setElxPort p { v with sent := Tbl.insert type body v.sent }

/-- An ordered frame given to every downstream port that is up. -/
def State.elxSendDown (s : State) (type : Nat) (body : List Word) : State :=
  (s.downPorts.filter (fun p => (s.elxPort p).up)).foldl (fun st p => st.elxSend p type body) s

/-! ### The domain coalescer (R602 to R605) -/

/-- R604: the 16 values of a domain record that closes (DESIGN CHOICE, note 65). -/
def domWords (r : DomRec) (epoch : Nat) : List Nat :=
  [r.code, r.subj, r.count, r.reps.length, nth 0 r.reps 0, nth 0 r.reps 1, nth 0 r.reps 2, nth 0 r.reps 3,
   r.first % 65536, r.first / 65536 % 65536, r.last % 65536, r.last / 65536 % 65536, r.aux, epoch, 0, 0]

/-- R605: a record is lost. -/
def State.domLost (s : State) : State :=
  { s with elx := { s.elx with frlost := satInc 255 s.elx.frlost } }.hit Reg.ELX_FRLOST 0 0 |>.reportBlock 0x4D08 s.nodeId s.nodeId

/-- R603, R605: a closed record goes into the origin's ring, up as a FREP, or waits for an upstream path. -/
def State.domEmit (s : State) (r : DomRec) : State :=
  if s.elx.arole = 2 then
    if (s.elx.frwr + 1) % 256 = s.cfg Reg.ELX_FRRD 0 then s.domLost
    else
      let w := domWords r s.elx.epoch
      let a := 0x43000 + 16 * s.elx.frwr
      let s1 := (s.latPuts (a + 1) (w.drop 1)).latPut a r.code
      { s1 with elx := { s1.elx with frwr := (s1.elx.frwr + 1) % 256 } }.arrive 0x0B0
  else if (s.elxPort s.upPort).up && s.elx.accepted then s.elxSend s.upPort 0x07 (twinList (domWords r s.elx.epoch))
  else if s.elx.held.length < 64 then { s with elx := { s.elx with held := s.elx.held ++ [r] } }
  else s.domLost

/-- The signed difference of two ticks of 32 bits. -/
def diff32 (a b : Nat) : Int := signedOf 32 (a % 0x100000000 + 0x100000000 - b % 0x100000000)

/-- The open record with the oldest FIRST. -/
def oldestDom : List DomRec → Option DomRec
  | [] => none
  | r :: rs => match oldestDom rs with
    | none => some r
    | some x => if diff32 x.first r.first < 0 then some x else some r

/-- R603: an open record closes. -/
def State.domClose (s : State) (r : DomRec) : State :=
  { s with elx := { s.elx with open_ := s.elx.open_.filter (· != r) } }.domEmit r

/-- R603: two records of one key may merge. -/
def DomRec.joins (r x : DomRec) : Bool :=
  r.code == x.code && r.subj == x.subj && decide (-20000 ≤ diff32 r.first x.first) && decide (diff32 r.first x.first ≤ 20000)

/-- R603: the open record r takes in the report or record x (DEDUCED, note 64). -/
def DomRec.merge (r x : DomRec) : DomRec :=
  { r with count := min (r.count + x.count) 4095,
           first := if diff32 x.first r.first < 0 then x.first else r.first,
           last := if 0 < diff32 x.last r.last then x.last else r.last,
           reps := (r.reps ++ x.reps.filter (fun i => !(r.reps.contains i))).take 4 }

/-- R602, R603: a report or an arriving record enters the coalescer. -/
def State.domEnter (s : State) (x : DomRec) : State :=
  if s.elx.open_.any (fun r => r.joins x) then
    match takeFirst (fun r => r.joins x) s.elx.open_ with
    | some (r, _) => { s with elx := { s.elx with open_ := s.elx.open_.map (fun q => if q = r then r.merge x else q) } }
    | none => s
  else
    let s1 := if 32 ≤ s.elx.open_.length then
        (match oldestDom s.elx.open_ with | some r => s.domClose r | none => s)
      else s
    { s1 with elx := { s1.elx with open_ := s1.elx.open_ ++ [x] } }

/-- R602: a report of this node enters its coalescer, where it is a node. -/
def State.domReport (s : State) (code subj aux tick : Nat) : State :=
  if s.fusedRole = 0 then s
  else s.domEnter { code := code, subj := subj % 4096, count := 1, reps := [s.nodeId], first := tick % 0x100000000,
                         last := tick % 0x100000000, aux := aux }

end Sys2Proof.Machine
end

