-- ==== Sys2Proof/Machine/Irc.lean ====
section
/-! DEFINITION. Sources, targets and fault records of the interrupt router: the operations that other blocks share
(14_interrupts.md R457 to R470). The commands of the chapter are in Interrupts.lean. -/

namespace Sys2Proof.Machine

/-- R461, R475: the TGT of a source. -/
def State.srcTgt (s : State) (n : Nat) : Nat := s.fld Reg.IRC_SCFG n 7 0
/-- EN of a source. -/
def State.srcEn (s : State) (n : Nat) : Bool := s.flag Reg.IRC_SCFG n 15
/-- PRIO of a source. -/
def State.srcPrio (s : State) (n : Nat) : Nat := s.fld Reg.IRC_SCFG n 11 8

/-- R467: a target is asleep (DEDUCED, note 47). -/
def State.asleep (s : State) (t : Nat) : Bool :=
  if t < 4 then s.flag Reg.IRC_TCFG t 14
  else if t = 4 then !(s.domOn 1)
  else if t = 5 then !(s.domOn 11)
  else if 0x80 ≤ t then s.dom (laneDom (bits t 6 4)) == .off
  else false

/-- R467, R476: the WAKE bit of a target; it reads 1 for the supervisors. -/
def State.wakeBit (s : State) (t : Nat) : Bool := decide (t = 4) || s.flag Reg.IRC_TCFG t 15

/-- R468: what the conditions of the stray timer of a source make of it in this tick. -/
def State.strayRefresh (s : State) (n : Nat) : State :=
  let v := s.source n
  let t := s.srcTgt n
  let runs := s.srcEn n && decide (v.count ≠ 0) && s.asleep t && !(s.wakeBit t)
  let stray := v.stray && decide (v.count ≠ 0) && s.asleep t
  let from_ := if runs then (match v.strayFrom with | some x => some x | none => some s.tb) else none
  s.setSource n { v with strayFrom := from_, stray := stray }

/-- Every source's stray timer judged again (R468). -/
def State.strayRefreshAll (s : State) : State := s.irc.src.foldl (fun st p => st.strayRefresh p.1) s

/-- R486: a DMA channel is paced by source n (kind 1) or by channel n (kind 2). -/
def State.pacedBy (s : State) (kind n c : Nat) : Bool :=
  decide (s.fld Reg.DMA_CPACE c 15 14 = kind) && decide (s.fld Reg.DMA_CPACE c 8 0 = n)

/-- R486: the credits that a happening at source or channel n sends. -/
def State.paceFrom (s : State) (kind n : Nat) : State :=
  { s with dma := { s.dma with credits := s.dma.credits ++ (List.range 32).filter (s.pacedBy kind n) } }

/-- R457: one arrival counts at a source (DEDUCED, note 49). -/
def State.countArrival (s0 : State) (n : Nat) : State :=
  let s := (s0.paceFrom 1 n).hit Reg.IRC_SSTAT n 0
  let v := s.source n
  if v.count < 255 then (s.setSource n { v with count := v.count + 1 }).strayRefresh n
  else
    let s1 := (s.setSource n { v with ovf := true }).hit Reg.IRC_SSTAT n 14
    if v.ovf then s1 else s1.report 0x2A02 n

/-- R459: the arrivals of this tick at a source, and how many of them found COUNT at 255. -/
def State.newArrivals (s : State) (n : Nat) : Nat := s.hitCount Reg.IRC_SSTAT n 0
def State.lostArrivals (s : State) (n : Nat) : Nat := s.hitCount Reg.IRC_SSTAT n 14

/-- R459, R460: an acknowledge of a count at a source: the arrivals of this tick survive it. -/
def State.ackSource (s : State) (n c : Nat) : State :=
  let v := s.source n
  let a := s.newArrivals n
  let was := v.count - (a - s.lostArrivals n)
  (s.setSource n { v with count := min 255 (was - c + a) }).strayRefresh n

/-! ### Fault records (R469, R470) -/

/-- R470: the eight values of a fault record. -/
def recordWords (r : OpenRec) (isOpen : Bool) : List Nat :=
  [r.code, r.count, r.aux, b2n isOpen * 32768, r.first % 65536, r.first / 65536 % 65536, r.last % 65536, r.last / 65536 % 65536]

/-- R470: a fault record written, twin-word 0 last. -/
def State.putRecord (s : State) (a : Nat) (w : List Nat) : State := (s.latPuts (a + 1) (w.drop 1)).latPut a (nth 0 w 0)

/-- R470: a record closes: it is rewritten at its own index. -/
def State.closeRecord (s : State) (r : OpenRec) : State :=
  let s1 := { s with irc := { s.irc with openRecs := s.irc.openRecs.filter (· != r) } }
  match r.index with
  | some i => s1.putRecord (0x40000 + 8 * i) (recordWords r false)
  | none => s1

/-- R469: the records whose 20,000 ticks are over close. -/
def State.closeDue (s : State) : State :=
  (s.irc.openRecs.filter (fun r => decide (r.first + 20000 ≤ s.tb))).foldl (fun st r => st.closeRecord r) s

/-- R469: the open record with the oldest FIRST. -/
def oldestRec : List OpenRec → Option OpenRec
  | [] => none
  | r :: rs => match oldestRec rs with
    | none => some r
    | some x => if x.first < r.first then some x else some r

/-- R469: a 17th record may open: the one with the oldest FIRST closes (DEDUCED, note 73). -/
def State.roomForRecord (s : State) : State :=
  if 16 ≤ s.irc.openRecs.length then
    match oldestRec s.irc.openRecs with
    | some r => s.closeRecord r
    | none => s
  else s

/-- R469, R470: a new record opens, with one arrival at the class source of its code (DEDUCED, note 73). -/
def State.openRecord (s : State) (code aux tick : Nat) : State :=
  let s1 := s.roomForRecord
  let n := (s1.irc.flwr + 1) % 512
  let lost := decide (n = s1.cfg Reg.IRC_FLRD 0)
  let r : OpenRec := { code := code, count := 1, aux := aux, first := tick, last := tick,
                       index := if lost then none else some s1.irc.flwr }
  let s2 : State := if lost then
      { s1 with irc := { s1.irc with openRecs := s1.irc.openRecs ++ [r], flost := satInc 255 s1.irc.flost } }.hit Reg.IRC_FLOST 0 0
    else
      { s1.putRecord (0x40000 + 8 * s1.irc.flwr) (recordWords r true) with
        irc := { s1.irc with openRecs := s1.irc.openRecs ++ [r], flwr := n } }
  let c := bits code 15 12
  let s3 := s2.countArrival c
  -- R602: a record whose class source is forwarded enters the domain coalescer
  if s3.srcTgt c = 5 ∧ s3.srcEn c = true ∧ bits code 11 8 ≠ 0xD then s3.domReport code s3.nodeId aux tick else s3

/-- R469: a report handled by the router in this tick; true when it opened a record. -/
def State.handleReport (s : State) (r : Report) : State × Bool :=
  let s1 := s.closeDue
  if s1.irc.openRecs.any (fun x => x.code == r.code) then
    ({ s1 with irc := { s1.irc with
        openRecs := s1.irc.openRecs.map (fun x =>
          if x.code = r.code then { x with count := satInc 0xFFFF x.count, last := r.tick } else x) } }, false)
  else (s1.openRecord r.code r.aux r.tick, true)

end Sys2Proof.Machine
end

