-- ==== Sys2Proof/Machine/Combustion.lean ====
section
/-! DEFINITION. The combustion datapath (08_combustion.md), in exact integer arithmetic. -/

namespace Sys2Proof.Machine

/-! ### Parameter blocks (R244 to R247) -/

/-- R244: the address of a channel's parameter block. -/
def cmbParamAddr (c : Nat) : Nat := 0x16000 + 64 * c
/-- R244: the address of entry k of a channel's volume table. -/
def cmbVolAddr (c k : Nat) : Nat := 0x18000 + 4096 * c + k

/-- The value of two words, low part first. -/
def pair32 (w : List Nat) (i : Nat) : Nat := nth 0 w i + 65536 * nth 0 w (i + 1)

/-- R247 check 2: no reserved field or value, KSOC < KEOC, KK0 ≤ KK1. -/
def cmbParamOk (w : List Nat) : Bool :=
  let at_ := fun i => nth 0 w i
  decide (at_ 0 % 16384 = 0) && decide (1 ≤ pair32 w 2) && decide (pair32 w 2 ≤ 0x00FFFFFF) &&
  decide (at_ 4 < 4096) && decide (at_ 5 ≤ 6) && decide (at_ 6 < 4096) &&
  decide (17203 ≤ at_ 7) && decide (at_ 7 ≤ 26214) && decide (17203 ≤ at_ 8) && decide (at_ 8 ≤ 26214) &&
  decide (at_ 9 < 4096) && decide (at_ 10 < 4096) && decide (at_ 9 < at_ 10) &&
  decide (at_ 11 ≠ 0) && decide (pair32 w 12 ≠ 0) && decide (at_ 21 = 0) &&
  decide (at_ 22 < 4096) && decide (at_ 23 < 4096) && decide (at_ 22 ≤ at_ 23) &&
  decide (at_ 29 ≤ 16) && (w.drop 32).all (fun v => v == 0)

/-- R247: one channel's block read and checked for the commit that waits. -/
def State.cmbLoadOne (s : State) (c : Nat) : State :=
  let a := cmbParamAddr c
  let s1 := s.latTouchN a 64
  let w := s1.latVals a 64
  if !(s1.latOkN a 64) then s1.report 0x5501 c
  else if !(cmbParamOk w) then s1.report 0x4505 c
  else { s1 with cmb := { s1.cmb with load := Tbl.insert c (w.take 32) s1.cmb.load } }

/-- Whether a channel's bit is 1 in a CMB_EN register that the set being closed writes. -/
def State.cmbStagedBit (s : State) (c : Nat) : Bool :=
  let a := if c < 16 then Reg.CMB_EN0 else Reg.CMB_EN1
  s.inClosed a 0 && bit (s.cfgClosed a 0) (c % 16)

/-- R247: the LATTICE island reads the blocks before it acknowledges. -/
def State.cmbPrepare (s : State) : State :=
  if s.inClosed Reg.CMB_EN0 0 || s.inClosed Reg.CMB_EN1 0 then
    forUpTo (fun c st => if st.cmbStagedBit c then st.cmbLoadOne c else st) 0 24
      { s with cmb := { s.cmb with load := [], loading := true } }
  else s

/-- CMB_EN bit of a channel in effect. -/
def State.cmbEn (s : State) (c : Nat) : Bool :=
  if c < 16 then s.flag Reg.CMB_EN0 0 c else s.flag Reg.CMB_EN1 0 (c - 16)

/-- R247, R613: a channel is left or made disabled (DEDUCED, note 34). -/
def State.cmbDisable (s : State) (c : Nat) : State :=
  let s1 := if c < 16 then s.setFlag Reg.CMB_EN0 0 c false else s.setFlag Reg.CMB_EN1 0 (c - 16) false
  { s1 with cmb := { s1.cmb with param := Tbl.erase c s1.cmb.param } }

/-- One channel at the commit tick: `w0` and `w1` say which CMB_EN registers the set wrote. -/
def State.cmbApplyOne (w0 w1 : Bool) (c : Nat) (s : State) : State :=
  if !(if c < 16 then w0 else w1) then s
  else if s.cmbEn c then
    match Tbl.find? c s.cmb.load with
    | some p => { s with cmb := { s.cmb with param := Tbl.insert c p s.cmb.param } }
    | none => s.cmbDisable c
  else s.cmbDisable c

/-- R247: the commit tick of a set that wrote CMB_EN. -/
def State.cmbApply (s : State) (w0 w1 : Bool) : State :=
  let s1 := forUpTo (State.cmbApplyOne w0 w1) 0 24 s
  { s1 with cmb := { s1.cmb with load := [], loading := false } }

/-! ### Records (R259 to R261) -/

/-- R261: the next SEQ of a channel and kind. -/
def State.cmbSeq (s : State) (c : Nat) (knock : Bool) : Nat :=
  (Tbl.get 0 c (if knock then s.cmb.seqK else s.cmb.seqP) + 1) % 256

/-- R244: the address of result record i of a channel and kind. -/
def cmbResAddr (c i : Nat) (knock : Bool) : Nat :=
  if knock then 0x16820 + 64 * c + 8 * i else 0x16800 + 64 * c + 16 * i

/-- R259, R260: the figure words of a record without figures. -/
def noFigures (knock : Bool) : List Nat :=
  if knock then [0, 0, 0] else [0, 0x8000, 0, 0, 0, 0x8000, 0x8000, 0x8000]

/-- R259 to R263: a record written in this tick, twin-words 1 upward first and twin-word 0 last, and its result source raised. -/
def State.writeRecord (s : State) (r : CmbRun) : State :=
  let c := r.job.rcd.cyl
  let knock := decide (r.job.rcd.cmb = 2)
  let seq := s.cmbSeq c knock
  let lat := s.tb - r.job.endTick
  let latw := if lat ≤ 0xFFFF then lat else 0xFFFF
  let head := [r.status * 4096 + r.flags + seq, r.tag, r.cyc * 256 + r.job.arc]
  let w := if knock then head ++ r.figs ++ [latw, 0]
    else head ++ [r.stamp % 65536, r.stamp / 65536] ++ r.figs ++ [latw, 0, 0]
  let a := cmbResAddr c (seq % 2) knock
  let s1 := (s.latPuts (a + 1) (w.drop 1)).latPut a (nth 0 w 0)
  let s2 := if knock then
      { s1 with cmb := { s1.cmb with seqK := Tbl.put 0 c seq s1.cmb.seqK, resK := Tbl.insert c w s1.cmb.resK } }
    else { s1 with cmb := { s1.cmb with seqP := Tbl.put 0 c seq s1.cmb.seqP, resP := Tbl.insert c w s1.cmb.resP } }
  s2.countArrival (if knock then 0x48 + c else 0x30 + c)

/-- The record of a frame for which a status other than OK applies (R250). -/
def CmbRun.of (j : CmbJob) (cyc stamp tag status : Nat) (clip : Bool) : CmbRun :=
  { job := j, cyc := cyc, stamp := stamp, tag := tag, status := status, flags := b2n clip * 1024
    figs := noFigures (decide (j.rcd.cmb = 2)), misfire := false }

/-- What the header of a frame says, with a status: CYC, STAMP, TAG and CLIP. -/
def State.runOfHeader (s : State) (j : CmbJob) (status : Nat) : CmbRun :=
  CmbRun.of j (s.latVal (j.base + 2) / 256) (s.latVal (j.base + 4) + 65536 * s.latVal (j.base + 5))
    (s.latVal (j.base + 1)) status (bit (s.latVal (j.base + 2)) 2)

/-! ### Hand-off (R249) -/

/-- R249: a frame in its place of the queue: behind every frame of an earlier tick, and by ascending arc number among those of its own. -/
def cmbInsert (j : CmbJob) : List CmbJob → List CmbJob
  | [] => [j]
  | k :: ks => if k.at_ = j.at_ ∧ j.arc < k.arc then j :: k :: ks else k :: cmbInsert j ks

/-- R249: a frame for which the queue has no room is written as OVERRUN. -/
def State.overrun (s : State) (j : CmbJob) : State :=
  let s1 := { s with cmb := { s.cmb with overrun := satInc 255 s.cmb.overrun } }.hit Reg.CMB_CNT 0 8 |>.report 0x4503 j.rcd.cyl
  s1.writeRecord (s1.runOfHeader j 7)

/-- R249: a frame handed over in this tick is discarded or joins the queue; the frame that is then the ninth, which is one of this tick, is
not processed. -/
def State.handOff (s : State) (j : CmbJob) : State :=
  if !(s.cmbEn j.rcd.cyl) then s
  else
    let q := cmbInsert j s.cmb.queue
    let s1 := { s with cmb := { s.cmb with queue := q.take 8 } }
    match q.drop 8 with
    | k :: _ => s1.overrun k
    | [] => s1

/-! ### Pressure arithmetic (R251 to R257) -/

/-- R252: the conversion of one code. -/
def pressureOf (pofs pgain code : Nat) : Int :=
  clampInt (-2147483648) 2147483647 (roundDiv (((code : Int) - pofs) * pgain) 65536)

/-- R252: the pressures of a frame. -/
def pressures (w codes : List Nat) (pegp : Nat) : List Int :=
  let p := codes.map (pressureOf (nth 0 w 1) (pair32 w 2))
  if bit (nth 0 w 0) 15 then
    let n := 2 ^ nth 0 w 5
    let m := fdiv (((p.drop (nth 0 w 4)).take n).foldl (· + ·) 0) n
    p.map (fun x => clampInt (-2147483648) 2147483647 (x + pegp - m))
  else p

/-- The largest element of a list that begins at index k, with its first index. -/
def maxAt : List Int → Nat → Int → Nat → Int × Nat
  | [], _, m, i => (m, i)
  | x :: xs, k, m, i => if m < x then maxAt xs (k + 1) x k else maxAt xs (k + 1) m i

/-- R254: the frame's sum w. -/
def workSum : List Int → List Nat → Int → Int
  | p :: p' :: ps, v :: v' :: vs, acc => workSum (p' :: ps) (v' :: vs) (acc + (p + p') * ((v' : Int) - v))
  | _, _, acc => acc

/-- R255: the coefficient pair of an exponent: a and b. -/
def expCoeff (g : Nat) : Int × Int :=
  let b := roundDiv ((2 ^ 26 : Nat) : Int) ((g : Int) - 16384)
  (b + 4096, b)

/-- R255: the cumulative heat release from step k on; newest last. -/
def heatSteps (w : List Nat) (k n : Nat) (q : Int) (p : List Int) (v : List Nat) : List Int :=
  match n, p, v with
  | n + 1, p0 :: p1 :: ps, v0 :: v1 :: vs =>
    let (a, b) := if k < nth 0 w 6 then expCoeff (nth 0 w 7) else expCoeff (nth 0 w 8)
    let dq := a * (p0 + p1) * ((v1 : Int) - v0) + b * ((v0 : Int) + v1) * (p1 - p0)
    (q + dq) :: heatSteps w (k + 1) n (q + dq) (p1 :: ps) (v1 :: vs)
  | _, _, _ => []

/-- R253, R256: an angle in a result record. -/
def recAngle (i : Int) : Nat := ofSigned 16 (clampInt (-32767) 32767 i)

/-- R256: the burn-fraction angle of a list of cumulative values that begins with the one at index j - 1. -/
def burnAngle (f qmax : Int) (tdck step : Nat) : Nat → List Int → Nat
  | j, q0 :: q1 :: qs =>
    if f * qmax ≤ 100 * q1 then
      let frac := fdiv (256 * (f * qmax - 100 * q0)) (100 * (q1 - q0))
      recAngle (roundDiv ((256 * ((j : Int) - 1 - tdck) + frac) * step) ((2 ^ 30 : Nat) : Int))
    else burnAngle f qmax tdck step (j + 1) (q1 :: qs)
  | _, _ => 0x8000

/-- R253 to R257: flags, figure words 5 to 12, and MISFIRE, of a pressure frame. -/
def pressureFigures (w codes vols : List Nat) (step pegp : Nat) (clip : Bool) : Nat × List Nat × Bool :=
  let p := pressures w codes pegp
  let tdck := nth 0 w 6
  let (pm, kp) := maxAt p 0 (-2147483649) 0
  let pmax := clampInt 0 65535 pm
  let apmax := roundDiv (((kp : Int) - tdck) * step) ((2 ^ 22 : Nat) : Int)
  let imep := clampInt (-32768) 32767 (roundDiv (workSum p vols 0) (2 * ((nth 0 w 11 : Nat) : Int)))
  let ksoc := nth 0 w 9
  let qc := 0 :: heatSteps w ksoc (nth 0 w 10 - ksoc) 0 (p.drop ksoc) (vols.drop ksoc)
  let (qmax, _) := maxAt qc ksoc (nth 0 qc 0 - 1) ksoc
  let qj := clampInt (-2147483648) 2147483647 (roundDiv (qmax * pair32 w 12) ((2 ^ 41 : Nat) : Int))
  let ang := fun (f : Int) => if 0 < qmax then burnAngle f qmax tdck step (ksoc + 1) qc else 0x8000
  let misfire := bit (nth 0 w 0) 14 && (decide (qj < 16 * ((nth 0 w 14 : Nat) : Int)) || decide (qmax ≤ 0))
  let q32 := ofSigned 32 qj
  (b2n misfire * 2048 + b2n (clip || decide (pm ≠ pmax)) * 1024,
   [pmax.toNat, recAngle apmax, ofSigned 16 imep, q32 % 65536, q32 / 65536, ang 10, ang 50, ang 90], misfire)

/-! ### Knock arithmetic (R258) -/

/-- R258: sat(v, 32767), and whether it limited v. -/
def sat15 (v : Int) : Int × Bool :=
  let c := clampInt (-32768) 32767 v
  (c, decide (c ≠ v))

/-- The memory of a biquad stage: x1, x2, y1, y2. -/
structure Biquad where
  x1 : Int := 0
  x2 : Int := 0
  y1 : Int := 0
  y2 : Int := 0
  deriving DecidableEq, Repr

/-- R258: one sample through a stage whose coefficients B0, B1, B2, A1, A2 are given. -/
def biquadStep (k : List Nat) (m : Biquad) (x : Int) : Biquad × Int × Bool :=
  let c := fun i => signedOf 16 (nth 0 k i)
  let (y, sat) := sat15 (fdiv (c 0 * x + c 1 * m.x1 + c 2 * m.x2 - c 3 * m.y1 - c 4 * m.y2 + 8192) 16384)
  ({ x1 := x, x2 := m.x1, y1 := y, y2 := m.y1 }, y, sat)

/-- R258: the sum e over the samples from index k on, and whether any sat() limited a value. -/
def knockSum (w : List Nat) : Nat → List Nat → Biquad → Biquad → Nat → Bool → Nat × Bool
  | _, [], _, _, e, st => (e, st)
  | k, code :: cs, m1, m2, e, st =>
    let (x, t0) := sat15 ((code : Int) - nth 0 w 15)
    let (m1', y1, t1) := biquadStep (w.drop 16) m1 x
    let (m2', y2, t2) := biquadStep (w.drop 24) m2 y1
    let e' := if nth 0 w 22 ≤ k ∧ k ≤ nth 0 w 23 then e + (y2 * y2).toNat else e
    knockSum w (k + 1) cs m1' m2' e' (st || t0 || t1 || t2)

/-- R258: flags and figure words 3 to 5 of a knock frame. -/
def knockFigures (w codes : List Nat) (clip : Bool) : Nat × List Nat :=
  let (e, st) := knockSum w 0 codes {} {} 0 false
  let kint := min (e / 2 ^ nth 0 w 29) 0xFFFFFFFF
  let ni := min (nth 0 w 23) (codes.length - 1) + 1 - nth 0 w 22
  (b2n (decide (pair32 w 30 < kint)) * 2048 + b2n clip * 1024 + b2n st * 512, [kint % 65536, kint / 65536, ni])

/-! ### Processing (R250) -/

/-- R250: n twin-words are read from an address on, up to the first bad one; whether all were good. -/
def State.readGood (s : State) (a : Nat) : Nat → State × Bool
  | 0 => (s, true)
  | n + 1 => if s.latOk a then (s.latTouch a).readGood (a + 1) n else (s.latTouch a, false)

/-- R250: PARAM. -/
def cmbParamBad (w : List Nat) (j : CmbJob) (ns : Nat) : Bool :=
  if j.rcd.cmb = 2 then decide (ns ≤ nth 0 w 22)
  else j.rcd.timed || decide (ns ≤ max (nth 0 w 10) (nth 0 w 6)) ||
    (bit (nth 0 w 0) 15 && decide (ns < nth 0 w 4 + 2 ^ nth 0 w 5))

/-- R250: the status that the header and the parameters decide, in the order of the table; a twin-word that is bad decides nothing but
INTEGRITY (DEDUCED, note 34). -/
def State.headerStatus (s : State) (w : List Nat) (j : CmbJob) : Nat :=
  let h := fun i => s.latVal (j.base + i)
  let ok := fun i => s.latOk (j.base + i)
  if ok 0 && decide (h 0 / 4096 ≠ 1) then 2
  else if ok 2 && bit (h 2) 1 then 3
  else if ok 3 && cmbParamBad w j (h 3) then 4
  else if !(s.latOkN j.base 8) then 5 else 1

/-- R250: a frame whose processing met a bad twin-word. -/
def State.cmbBad (s : State) (r : CmbRun) : State :=
  { s.report 0x5502 r.job.rcd.cyl with cmb := { s.cmb with run := some { r with status := 5 } } }

/-- R250 to R258: a frame processed: its record's content, and the side effects of the reads, which stop at the first bad twin-word: the
header, the samples, and then the volumes (DEDUCED, note 34). -/
def State.process (s : State) (j : CmbJob) (w : List Nat) : State :=
  let st := s.headerStatus w j
  let s1 := (s.readGood j.base 8).1
  let ns := s1.latVal (j.base + 3)
  let clip := bit (s1.latVal (j.base + 2)) 2
  let r0 := s1.runOfHeader j st
  if st = 5 then s1.cmbBad r0
  else if st ≠ 1 then { s1 with cmb := { s1.cmb with run := some r0 } }
  else
    let (s2, good) := s1.readGood (j.base + 8) ns
    let codes := s2.latVals (j.base + 8) ns
    if !good then s2.cmbBad r0
    else if j.rcd.cmb = 2 then
      let (fl, fg) := knockFigures w codes clip
      { s2 with cmb := { s2.cmb with run := some { r0 with flags := fl, figs := fg } } }
    else
      let (s3, vgood) := s2.readGood (cmbVolAddr j.rcd.cyl 0) ns
      if !vgood then s3.cmbBad r0
      else
        let (fl, fg, mf) := pressureFigures w codes (s3.latVals (cmbVolAddr j.rcd.cyl 0) ns) j.rcd.step (s3.cfg Reg.CMB_PEGP 0) clip
        { s3 with cmb := { s3.cmb with run := some { r0 with flags := fl, figs := fg, misfire := mf } } }

/-- FRAME_PROCESSING: the datapath, idle, takes the next queued frame, checks it and computes its figures (R249 to R258). A
frame whose channel has been disabled since its hand-off has no working copy and is discarded without a record. -/
def execFrameProcessing (s : State) : Host.Outcome State Fault Refusal :=
  .next (match s.cmb.run, s.cmb.queue with
    | none, j :: rest =>
      let s1 := { s with cmb := { s.cmb with queue := rest } }
      match Tbl.find? j.rcd.cyl s1.cmb.param with
      | some w => s1.process j w
      | none => s1
    | _, _ => s)

/-- R250: the header words of CYC and STAMP read again after the last sample: OK stays, or INTEGRITY or OVERWRITTEN follows. -/
def State.readAgain (s : State) (r : CmbRun) : State × CmbRun :=
  let j := r.job
  let (s1, g1) := s.readGood (j.base + 2) 1
  let (s2, g2) := if g1 then s1.readGood (j.base + 4) 2 else (s1, false)
  let same := decide (s2.latVal (j.base + 2) / 256 = r.cyc) &&
    decide (s2.latVal (j.base + 4) + 65536 * s2.latVal (j.base + 5) = r.stamp)
  let void := fun (st : Nat) =>
    { r with status := st, figs := noFigures (decide (j.rcd.cmb = 2)), flags := r.flags / 1024 % 2 * 1024, misfire := false }
  if !g2 then (s2.report 0x5502 j.rcd.cyl, void 5) else if same then (s2, r) else (s2, void 6)

/-- RESULT_RECORD_WRITE: the frame in progress ends: CYC and STAMP are read again, and its record is written (R250, R257, R261,
R263). -/
def execResultRecordWrite (s : State) : Host.Outcome State Fault Refusal :=
  .next (match s.cmb.run with
    | none => s
    | some r =>
      let j := r.job
      let (s0, r1) := if r.status = 1 then s.readAgain r else (s, r)
      let s1 := ({ s0 with cmb := { s0.cmb with run := none } }).writeRecord r1
      if r1.status = 1 then
        if r1.misfire then
          { s1 with cmb := { s1.cmb with misfire := satInc 255 s1.cmb.misfire } }.hit Reg.CMB_CNT 0 0 |>.reportCycle 0x2506 0 j.rcd.cyl
        else s1
      else s1.reportCycle 0x4504 0 j.rcd.cyl)

/-- CMB_CNT_CLR: the named counts become 0; a reserved bit rejects the write (R265). -/
def execCmbCntClr (value : Word) (s : State) : Host.Outcome State Fault Refusal :=
  .next (
    let v := value.toNat
    if 4 ≤ v then s
    else { s with cmb := { s.cmb with overrun := if bit v 1 then s.kept Reg.CMB_CNT 0 8 255 else s.cmb.overrun
                                      misfire := if bit v 0 then s.kept Reg.CMB_CNT 0 0 255 else s.cmb.misfire } })

/-- R613: the working copy of an enabled channel fails its check: the channel is disabled. -/
def State.cmbPairFail (s : State) (c : Nat) : State :=
  if (Tbl.find? c s.cmb.param).isSome then (s.cmbDisable c).report 0x55F2 c else s

end Sys2Proof.Machine
end

