-- ==== Sys2Proof/Machine/Stage.lean ====
section
/-! DEFINITION. The staged set and the supervisors' log of it (02_time_base.md R55, R60). -/

namespace Sys2Proof.Machine

/-- R60: the base of the staging log. -/
def stageLog : Nat := 0x41000

/-- R60: the index of an address among the first n entries of the log. -/
def State.logFind (s : State) (addr : Nat) : Nat → Nat → Option Nat
  | _, 0 => none
  | i, n + 1 =>
    if s.latVal (stageLog + 4 + 4 * i) + 65536 * s.latVal (stageLog + 5 + 4 * i) = addr then some i
    else s.logFind addr (i + 1) n

/-- R60: a staged write entered in the log. -/
def State.logWrite (s : State) (addr v : Nat) : State :=
  let n := s.latVal stageLog
  if s.latVal (stageLog + 1) = 2 then s.latPut (stageLog + 2) (satInc 0xFFFF (s.latVal (stageLog + 2)))
  else
    let s0 := s.latPut (stageLog + 1) 1
    match s0.logFind addr 0 (min n 1023) with
    | some i => s0.latPut (stageLog + 6 + 4 * i) v
    | none =>
      if n < 1023 then
        (s0.latPuts (stageLog + 4 + 4 * n) [addr % 65536, addr / 65536, v, 0]).latPut stageLog (n + 1)
      else s0.latPut (stageLog + 2) (satInc 0xFFFF (s0.latVal (stageLog + 2)))

/-- R55: a value staged for a register, and logged. -/
def State.stage (s : State) (addr idx v : Nat) : State :=
  { s with staged := Tbl.insert (regKey addr idx) (toWord v) s.staged }.logWrite addr (v % 65536)

/-- R60: every staged value of the open set entered in the log. -/
def State.logAll (s : State) : List (Nat × Word) → State
  | [] => s
  | (k, w) :: l => (s.logWrite (k % 0x1000000) w.toNat).logAll l

/-- R60: the set is closed: the log is frozen. -/
def State.logClose (s : State) : State := s.latPut (stageLog + 1) 2

/-- R60: the logged set was applied, refused or cancelled: the log begins afresh with the open set. -/
def State.logRestart (s : State) : State :=
  (s.latPuts stageLog [0, 0, 0]).logAll s.staged

end Sys2Proof.Machine
end

