-- ==== Sys2Proof/Machine/Arcs.lean ====
section
/-! DEFINITION. Arcs and converters (07_arcs.md). -/

namespace Sys2Proof.Machine

/-- An arc. -/
def State.arcOf (s : State) (n : Nat) : Arc := Tbl.get {} n s.arcs.arc
/-- An arc set. -/
def State.setArc (s : State) (n : Nat) (a : Arc) : State :=
  { s with arcs := { s.arcs with arc := Tbl.put {} n a s.arcs.arc } }
/-- A converter. -/
def State.convOf (s : State) (k : Nat) : Conv := Tbl.get {} k s.arcs.conv
/-- A converter set. -/
def State.setConv (s : State) (k : Nat) (c : Conv) : State :=
  { s with arcs := { s.arcs with conv := Tbl.put {} k c s.arcs.conv } }
/-- The Time Base as the ADC island's replica holds it (R46, R49). -/
def State.adcNow (s : State) : Tick := s.replicaNow 11

/-! ### Records and loading (R225 to R229) -/

/-- R226: the stride W of a ring whose frames hold so many samples. -/
def arcStride (count : Nat) : Nat := (8 + count + 7) / 8 * 8

/-- The working copy of a record's sixteen values. -/
def arcRecOf (w : List Nat) : ArcRec :=
  let at_ := fun i => nth 0 w i
  let timed := bit (at_ 0) 15
  { timed := timed, irq := bit (at_ 0) 14, cmb := bits (at_ 0) 13 12, cyl := bits (at_ 0) 9 5, input := bits (at_ 0) 4 0
    start := at_ 1 + 65536 * (at_ 2 % 256)
    step := if timed then at_ 4 else at_ 3 + 65536 * at_ 4 + 4294967296 * (at_ 5 % 256)
    count := at_ 6 % 8192, endA := at_ 7 + 65536 * (at_ 8 % 256)
    rbase := at_ 9 + 65536 * (at_ 10 % 8), frames := at_ 11 % 32, tag := at_ 12 }

/-- R225: no reserved bit or value, and no field that must be 0 holds anything else. -/
def arcFieldsOk (w : List Nat) : Bool :=
  let at_ := fun i => nth 0 w i
  let r := arcRecOf w
  decide (r.cmb ≠ 3) && decide (bits (at_ 0) 11 10 = 0) &&
  (if r.cmb = 0 then decide (r.cyl = 0) else decide (r.cyl < 24)) &&
  decide (at_ 2 < 256) && decide (at_ 5 < 256) && decide (at_ 6 < 8192) && decide (1 ≤ r.count) && decide (r.count ≤ 4096) &&
  decide (at_ 8 < 256) && decide (at_ 10 < 8) && decide (at_ 11 < 32) && decide (1 ≤ r.frames) && decide (r.frames ≤ 16) &&
  decide (at_ 13 = 0) && decide (at_ 14 = 0) && decide (at_ 15 = 0) &&
  (if r.timed then decide (at_ 3 = 0) && decide (at_ 5 = 0) && decide (100 ≤ at_ 4)
   else decide (at_ 7 = 0) && decide (at_ 8 = 0))

/-- R218, R226: a feedback port in SINCOS mode, as the set being closed leaves it, owns converter k (DEDUCED, note 32). -/
def State.fbkOwnsClosed (s : State) (k : Nat) : Bool :=
  (decide (k = 12) || decide (k = 13)) && decide (bits (s.cfgClosed Reg.FBK_CFG 0) 15 14 = 1) ||
  (decide (k = 14) || decide (k = 15)) && decide (bits (s.cfgClosed Reg.FBK_CFG 1) 15 14 = 1)

/-- R226: the four conditions of a valid record. -/
def State.arcValid (s : State) (r : ArcRec) : Bool :=
  (if r.timed then decide (r.endA ≠ r.start) else decide (0x10000 ≤ r.step) && decide ((r.count - 1) * r.step < 2 ^ 40)) &&
  !(s.fbkOwnsClosed (r.input % 16)) &&
  decide (r.rbase % 8 = 0) && inGeneral r.rbase (r.frames * arcStride r.count)

/-- R228: one record read and checked for the commit that waits (DEDUCED, note 32). -/
def State.arcLoadOne (s : State) (n : Nat) : State :=
  let a := 0x15000 + 16 * n
  let s1 := s.latTouchN a 16
  let w := s1.latVals a 16
  let put := fun (st : State) (r : Option ArcRec) => { st with arcs := { st.arcs with load := Tbl.insert n r st.arcs.load } }
  if !(s1.latOkN a 16) then put (s1.report 0x5401 n) none
  else if !(arcFieldsOk w && s1.arcValid (arcRecOf w)) then put (s1.report 0x4408 n) none
  else put s1 (some (arcRecOf w))

/-- R228: the ANGLE island reads, before it acknowledges, every record whose bit is 1 in a staged ARC_EN register (DEDUCED, note 32). -/
def State.arcPrepare (s : State) : State :=
  if (List.range 16).any (fun m => s.inClosed (Reg.ARC_EN0 + m) 0) then
    forUpTo (fun n st =>
        let a := Reg.ARC_EN0 + n / 16
        if st.inClosed a 0 && bit (st.cfgClosed a 0) (n % 16) then st.arcLoadOne n else st) 0 256
      { s with arcs := { s.arcs with load := [], loading := true } }
  else s

/-- ARC_EN bit of an arc in effect. -/
def State.arcEn (s : State) (n : Nat) : Bool := s.flag (Reg.ARC_EN0 + n / 16) 0 (n % 16)

/-! ### Frames (R237 to R240) -/

/-- R237: the header of a frame with its END code (DEDUCED, note 31). -/
def Frame.header (f : Frame) (e : Nat) : List Nat :=
  [e * 4096 + f.arc, f.rcd.tag, f.cyc * 256 + b2n f.clip * 4 + b2n f.missf * 2 + b2n f.dly, f.ns,
   f.stamp % 65536, f.stamp / 65536 % 65536, f.miss * 256 + f.shifts, f.dlymax]

/-- A frame that is being written. -/
def State.frameOf (s : State) (serial : Nat) : Option Frame := s.arcs.frames.find? (fun f => f.serial == serial)

/-- A frame that is being written, set. -/
def State.setFrame (s : State) (f : Frame) : State :=
  { s with arcs := { s.arcs with frames := s.arcs.frames.map (fun g => if g.serial = f.serial then f else g) } }

/-- R238, R240: a frame whose last sample is written gets its final header, raises the arc-end source and is handed over. -/
def State.frameEnd (s : State) (serial : Nat) : State :=
  match s.frameOf serial with
  | none => s
  | some f =>
    match f.total with
    | none => s
    | some (n, e) =>
      if f.ns < n then s
      else
        let s1 := { s.latPuts f.base (f.header e) with
                    arcs := { s.arcs with frames := s.arcs.frames.filter (fun g => g.serial != serial) } }
        let s2 := if f.rcd.irq then s1.arrive (0x100 + f.arc) else s1
        if f.rcd.cmb = 0 then s2 else s2.handOff { arc := f.arc, rcd := f.rcd, base := f.base, endTick := f.endTick, at_ := s2.tb }

/-- A sample's code written as the frame's next sample, with its hold tick; `gone` marks a missing one (R239). -/
def Frame.put (f : Frame) (code hold delay : Nat) (gone : Bool) : Frame :=
  { f with ns := f.ns + 1, last := code, endTick := hold
           clip := f.clip || (!gone && (code == 0 || code == 65535))
           missf := f.missf || gone, miss := if gone then satInc 255 f.miss else f.miss
           dly := f.dly || decide (0 < delay), dlymax := max f.dlymax (min delay 0xFFFF)
           gone := f.gone.filter (· != f.ns) }

/-- The missing samples whose turn has come are written (R239). -/
def State.frameFlush (s : State) (serial hold : Nat) : Nat → State
  | 0 => s
  | n + 1 =>
    match s.frameOf serial with
    | none => s
    | some f =>
      if f.gone.contains f.ns then
        ((s.latPut (f.base + 8 + f.ns) f.last).setFrame (f.put f.last hold 0 true)).frameFlush serial hold n
      else s

/-- R238: a converted sample written into its frame. -/
def State.frameSample (s : State) (serial idx code hold delay : Nat) : State :=
  match s.frameOf serial with
  | none => s
  | some f =>
    ((((s.latPut (f.base + 8 + idx) code).setFrame (f.put code hold delay false)).frameFlush serial hold 4096).frameEnd serial)

/-- R239: a sample found missing: counted, reported, and written with the code before it. -/
def State.frameMissing (s : State) (serial idx hold : Nat) : State :=
  match s.frameOf serial with
  | none => s
  | some f =>
    let s1 := ({ s with arcs := { s.arcs with miss := satInc 255 s.arcs.miss } }.hit Reg.ARC_CNT 0 0).reportCycle 0x4403 0 f.arc
    ((s1.setFrame { f with gone := f.gone ++ [idx] }).frameFlush serial hold 4096).frameEnd serial

/-- The frame of a pass now knows how many samples it will hold, and its END; `tick` is the tick of the ending. -/
def State.frameTotal (s : State) (serial n e tick : Nat) : State :=
  match s.frameOf serial with
  | none => s
  | some f =>
    (s.setFrame { f with total := some (n, e), endTick := if f.ns = n ∧ e ≠ 1 then tick else f.endTick }).frameEnd serial

/-! ### Passes (R230 to R236) -/

/-- The pass of an arc that writes a frame has ended with COMPLETE: its last sample is held or missing. -/
def State.passOver (s : State) (n serial idx : Nat) : State :=
  match (s.arcOf n).run with
  | some r =>
    if r.serial = serial then
      (match s.frameOf serial with
        | some f => if f.total = some (idx + 1, 1) then s.setArc n { s.arcOf n with run := none, lastEnd := 1 } else s
        | none => s.setArc n { s.arcOf n with run := none, lastEnd := 1 })
    else s
  | none => s

/-- R229, R236: a running pass ends in this tick with an END code. -/
def State.arcEnd (s : State) (n e tick : Nat) : State :=
  match (s.arcOf n).run with
  | some r => (s.setArc n { s.arcOf n with run := none, lastEnd := e }).frameTotal r.serial r.next e tick
  | none => s

/-- R236, R641: every running pass ends. -/
def State.arcsEndAll (s : State) (e tick : Nat) : State := s.arcs.arc.foldl (fun st p => st.arcEnd p.1 e tick) s

/-- R227: the angle of sample k of an angle-stepped arc. -/
def ArcRec.angle (r : ArcRec) (k : Nat) : Cau := (r.start + (2 * k * r.step + 65536) / 131072) % cycleCau

/-- The run of an arc set. -/
def State.setRun (s : State) (n : Nat) (r : ArcRun) : State := s.setArc n { s.arcOf n with run := some r }

/-- R232: a sample moved to its commit tick + 64 counts in SHIFTS. -/
def State.frameShift (s : State) (serial : Nat) : State :=
  match s.frameOf serial with
  | some f => s.setFrame { f with shifts := satInc 255 f.shifts }
  | none => s

/-- R233: the samples of a pass are all launched: COUNT reached, or END has committed and the next sample is not before it. -/
def ArcRun.allSent (r : ArcRun) : Bool :=
  decide (r.rcd.count ≤ r.next) ||
    (r.rcd.timed && (match r.endPin with | some t => decide (t ≤ r.s0 + r.next * r.rcd.step) | none => false))

/-- The launch of a pass's next sample is sent with a hold tick (R232). -/
def State.arcSend (s : State) (n : Nat) (r : ArcRun) (hold : Tick) : State :=
  (s.sendLaunch 11 ⟨hold, .sample r.serial r.next⟩).setRun n { r with next := r.next + 1, pin := none }

/-- A sample's launch is on its way, or its request waits at its converter. -/
def State.samplePending (s : State) (serial idx : Nat) : Bool :=
  ((s.replica 11).inFlight ++ (s.replica 11).sending).any (fun l => l.action == .sample serial idx) ||
    s.arcs.conv.any (fun p => p.2.wait.any (fun q => q.serial == serial && q.idx == idx))

/-- R231: the next sample of an arc is considered in the tick after the launch before it. -/
def State.arcNext (s : State) (n : Nat) : State := s.later (s.tb + 1) (.arc n)

/-- R231 to R233: the next sample of a pass considered in commit tick k: one already past is sent at once and the next follows
in the tick after; one that lies ahead is latched. The pass's total is fixed when all are sent. -/
def State.arcAdvance (s : State) (n : Nat) (k : Tick) : State :=
  match (s.arcOf n).run with
  | none => s
  | some r =>
    if r.allSent then
      let s1 := (s.setRun n { r with pin := none }).frameTotal r.serial r.next 1 k
      if s1.samplePending r.serial (r.next - 1) then s1 else s1.passOver n r.serial (r.next - 1)
    else if r.pin.isSome then s
    else if r.rcd.timed then s.setRun n { r with pin := some (r.s0 + r.next * r.rcd.step) }
    else
      let a := r.rcd.angle r.next
      let off := cauSub a s.tan.seg.a
      if s.inSegment a && (decide (s.tan.seg.e ≠ r.segE) || decide (r.segOff ≤ off)) then
        let p := pinOf s.tan.seg a
        let r1 := { r with segE := s.tan.seg.e, segOff := off }
        if p < k + 64 then ((s.frameShift r.serial).arcSend n r1 (k + 64)).arcNext n
        else s.setRun n { r1 with pin := some p }
      else s

/-- A pass begins (R230, R238): its frame's header is written. `p` is the scheduled hold tick of sample 0, `sent` that it was
moved there and is launched at once. -/
def State.arcBegin (s : State) (n : Nat) (rcd : ArcRec) (p : Tick) (stamp off : Nat) : State :=
  let a := s.arcOf n
  let ser := s.arcs.serial
  let base := rcd.rbase + (a.inst % rcd.frames) * arcStride rcd.count
  let f : Frame := { arc := n, serial := ser, rcd := rcd, base := base, cyc := s.tan.cyc, stamp := stamp % 4294967296
                     ns := 0, miss := 0, shifts := 0, clip := false, missf := false, dly := false, dlymax := 0, last := 0
                     gone := [], total := none, endTick := p }
  let r : ArcRun := { serial := ser, rcd := rcd, next := 0, pin := none, moved := false, s0 := p, endPin := none
                      segE := s.tan.seg.e, segOff := off }
  let s1 := s.latPuts base (f.header 0)
  { s1 with arcs := { s1.arcs with serial := ser + 1, frames := s1.arcs.frames ++ [f] } }.setArc n
    { a with run := some r, inst := a.inst + 1 }

/-- R230 to R233: START commits in tick k and the pass begins with sample 0. -/
def State.arcStart (s : State) (n : Nat) (rcd : ArcRec) (k : Tick) : State :=
  let off := cauSub rcd.start s.tan.seg.a
  let p := pinOf s.tan.seg rcd.start
  if p < k + 64 then
    let s1 := (s.arcBegin n rcd (k + 64) (k + 64) off)
    match (s1.arcOf n).run with
    | some r => ((s1.frameShift r.serial).arcSend n r (k + 64)).arcNext n
    | none => s1
  else
    let s1 := s.arcBegin n rcd p p off
    match (s1.arcOf n).run with
    | some r => s1.setRun n { r with pin := some p }
    | none => s1

/-- R230: START commits while the previous pass still runs. -/
def State.arcOverlap (s : State) (n : Nat) : State :=
  ({ s with arcs := { s.arcs with overlap := satInc 255 s.arcs.overlap } }.hit Reg.ARC_CNT 0 8).report 0x4402 n

/-- R230: START has committed in the segment of stamp e. -/
def State.arcSeen (s : State) (n e : Nat) : State := s.setArc n { s.arcOf n with seen := some e }

/-- R233: END of a time-stepped pass commits. -/
def State.arcEndCommit (s : State) (n : Nat) (k : Tick) : State :=
  match (s.arcOf n).run with
  | some r =>
    let off := cauSub r.rcd.endA s.tan.seg.a
    if r.rcd.timed && r.endPin.isNone && s.inSegment r.rcd.endA && (decide (s.tan.seg.e ≠ r.segE) || decide (r.segOff < off)) then
      (s.setRun n { r with endPin := some (pinOf s.tan.seg r.rcd.endA) }).arcAdvance n k
    else s
  | none => s

/-- R230: arcs may start. -/
def State.arcsMayStart (s : State) : Bool := s.fullSync && s.sync.eligible

/-- One arc in E + 6 (R230 to R233). -/
def State.arcAtAnchor (s : State) (n : Nat) (k : Tick) : State :=
  let s1 := (s.arcAdvance n k).arcEndCommit n k
  match (s1.arcOf n).copy with
  | some rcd =>
    if s1.arcsMayStart && s1.inSegment rcd.start then
      let s2 := s1.arcSeen n s1.tan.seg.e
      if (s1.arcOf n).run.isSome then (if (s.arcOf n).run.isSome then s2.arcOverlap n else s2)
      else (s2.arcStart n rcd k).arcEndCommit n k
    else s1
  | none => s1

/-- Every arc in E + 6, in ascending number. -/
def State.arcsAtAnchor (s : State) (k : Tick) : State := s.arcs.arc.foldl (fun st p => st.arcAtAnchor p.1 k) s

/-- R235: the samples of a pass whose angles were skipped are missing (DEDUCED, note 31). -/
def State.arcSkip (s : State) (n from_ a e6 : Nat) : Nat → State
  | 0 => s
  | fuel + 1 =>
    match (s.arcOf n).run with
    | none => s
    | some r =>
      if r.next < r.rcd.count ∧ inRange from_ a (r.rcd.angle r.next) then
        ((s.setRun n { r with next := r.next + 1, pin := none }).frameMissing r.serial r.next e6).arcSkip n from_ a e6 fuel
      else if r.rcd.count ≤ r.next then (s.frameTotal r.serial r.next 1 e6).passOver n r.serial (r.next - 1)
      else s
where
  /-- The angle lies in FROM + 1 to A - 1. -/
  inRange (from_ a x : Nat) : Bool := decide (1 ≤ cauSub x from_) && decide (cauSub x from_ < cauSub a from_)

/-- R235: sample 0 of a time-stepped pass, whose angle START was skipped and whose launch has not been sent, is missing. -/
def State.arcSkipFirst (s : State) (n e6 : Nat) : State :=
  match (s.arcOf n).run with
  | some r =>
    if r.rcd.timed ∧ r.next = 0 then
      ((s.setRun n { r with next := 1, pin := none }).frameMissing r.serial 0 e6).arcAdvance n e6
    else s
  | none => s

/-- R235: END of a time-stepped pass was skipped: it commits in E + 6 with its tick set to E + 6. -/
def State.arcSkipEnd (s : State) (n e6 : Nat) : State :=
  match (s.arcOf n).run with
  | some r => if r.rcd.timed ∧ r.endPin = none then (s.setRun n { r with endPin := some e6 }).arcAdvance n e6 else s
  | none => s

/-- R235: the instance of an arc whose START was skipped and had not committed begins in E + 6 (DEDUCED, note 31). -/
def State.arcStartSkipped (s : State) (n : Nat) (rcd : ArcRec) (from_ a e6 : Nat) : State :=
  if rcd.timed then
    let s1 := (s.arcBegin n rcd (e6 + 64) (e6 + 64) 0).arcSkipFirst n e6
    if decide (cauSub rcd.endA from_ < cauSub a from_) && decide (cauSub rcd.start from_ < cauSub rcd.endA from_) then s1.arcSkipEnd n e6
    else s1
  else
    let (v, s1) := s.freeVal
    (s1.arcBegin n rcd e6 v 0).arcSkip n from_ a e6 4097

/-- R235: one arc in E + 6 of an early anchor after the segment of stamp oldE, before its other work of that tick. A START that committed
in that segment has begun its instance, or been counted, there (DEDUCED, note 31). -/
def State.arcEarly (s : State) (n oldE from_ a e6 : Nat) : State :=
  let skipped := fun x => decide (1 ≤ cauSub x from_) && decide (cauSub x from_ < cauSub a from_)
  let s1 := match (s.arcOf n).run with
    | some r =>
      if r.rcd.timed then
        let s0 := if skipped r.rcd.start && decide ((s.arcOf n).seen = some oldE) then s.arcSkipFirst n e6 else s
        if skipped r.rcd.endA then s0.arcSkipEnd n e6 else s0
      else s.arcSkip n from_ a e6 4097
    | none => s
  match (s1.arcOf n).copy with
  | some rcd =>
    if s1.arcsMayStart && skipped rcd.start && decide ((s.arcOf n).seen ≠ some oldE) then
      let s2 := s1.arcSeen n oldE
      if (s.arcOf n).run.isSome then s2.arcOverlap n else s2.arcStartSkipped n rcd from_ a e6
    else s1
  | none => s1

/-- R235: every arc in E + 6 of an early anchor. -/
def State.arcsEarly (s : State) (oldE from_ a e6 : Nat) : State := s.arcs.arc.foldl (fun st p => st.arcEarly p.1 oldE from_ a e6) s

/-- R231 to R233: at s - 64 the launch of an arc's committed sample is sent, and the arc's next sample commits. -/
def State.arcLaunchSend (s : State) (arc : Nat) : State :=
  match (s.arcOf arc).run with
    | some r =>
      match r.pin with
      | some p => if p ≤ s.tb + 64 then (s.arcSend arc r p).arcNext arc else s
      | none => s
    | none => s

/-! ### At the commit tick (R228, R229) -/

/-- One arc at the commit tick of a set that wrote its ARC_EN register. -/
def State.arcApplyOne (s : State) (n : Nat) : State :=
  let off := fun (st : State) => (st.arcEnd n 3 st.tb).setArc n { (st.arcEnd n 3 st.tb).arcOf n with copy := none }
  if s.arcEn n then
    match Tbl.find? n s.arcs.load with
    | some (some r) => s.setArc n { s.arcOf n with copy := some r, inst := 0 }
    | _ => off (s.setFlag (Reg.ARC_EN0 + n / 16) 0 (n % 16) false)
  else off s

/-- R228, R229: the commit tick; `wrote m` says that the set wrote ARC_ENm. -/
def State.arcApply (s : State) (wrote : Nat → Bool) : State :=
  let s1 := forUpTo (fun n st => if wrote (n / 16) then st.arcApplyOne n else st) 0 256 s
  { s1 with arcs := { s1.arcs with load := [], loading := false } }

/-- R613: the working copy of an arc fails its check. -/
def State.arcPairFail (s : State) (n : Nat) : State :=
  if (s.arcOf n).copy.isSome then
    let s1 := (s.setFlag (Reg.ARC_EN0 + n / 16) 0 (n % 16) false).arcEnd n 3 s.tb
    (s1.setArc n { s1.arcOf n with copy := none }).report 0x54F2 n
  else s

/-! ### Converters (R218 to R224) -/

/-- R218, R428: the sample period of the feedback tracks that converter k converts; 0 where it converts none. -/
def State.trackT (s : State) (k : Nat) : Nat :=
  let n := (k - 12) / 2
  if 12 ≤ k ∧ s.fld Reg.FBK_CFG n 15 14 = 1 then s.fld Reg.FBK_CFG n 7 0 * 100 else 0

/-- R219, R220: the first tick from t on in which converter k is not taken by a feedback conversion, which has it from its hold tick - 40
to its hold tick + 60 (DESIGN CHOICE, note 33). -/
def State.trackFree (s : State) (k t : Nat) : Tick :=
  let p := s.trackT k
  if p = 0 then t else if (t + 40) % p < 100 then t + (100 - (t + 40) % p) else t

/-- R220: the tick at which a waiting request of converter k begins acquisition (DESIGN CHOICE, note 33). -/
def State.convBegins (s : State) (k : Nat) (c : Conv) (r : ConvReq) : Tick := s.trackFree k (max (r.sched - 40) c.freeAt)

/-- R220: a request put in its place: ascending hold tick, then ascending arc number. -/
def reqInsert (r : ConvReq) : List ConvReq → List ConvReq
  | [] => [r]
  | x :: xs => if x.sched < r.sched ∨ (x.sched = r.sched ∧ x.arc ≤ r.arc) then x :: reqInsert r xs else r :: x :: xs

/-- R221: how many requests of a converter wait in this tick: one whose acquisition has begun waits no more. -/
def State.waiting (s : State) (k : Nat) : Nat :=
  let c := s.convOf k
  match c.cur, c.wait with
  | none, r :: rs => if s.convBegins k c r ≤ s.adcNow then rs.length else rs.length + 1
  | _, rs => rs.length

/-- R221, R239: a sample's launch reaches the ADC island: it waits at its converter, or is missing. -/
def State.sampleArrives (s : State) (serial idx : Nat) (v : Tick) : State :=
  match s.frameOf serial with
  | none => s
  | some f =>
    let k := f.rcd.input % 16
    let c := s.convOf k
    if 4 ≤ s.waiting k then (s.frameMissing serial idx v).passOver f.arc serial idx
    else s.setConv k { c with wait := reqInsert ⟨v, f.arc, serial, idx⟩ c.wait }

/-- R51, R239: a stale sample launch is never executed; its sample is missing (DEDUCED, note 31). -/
def State.sampleStale (s : State) (serial idx : Nat) (v : Tick) : State :=
  match s.frameOf serial with
  | none => s
  | some f => (s.frameMissing serial idx v).passOver f.arc serial idx

/-- R222: GAIN of a converter. -/
def State.calGain (s : State) (k : Nat) : Nat := s.cfg Reg.ARC_CALG k
/-- R222: OFS of a converter. -/
def State.calOfs (s : State) (k : Nat) : Int := signedOf 16 (s.cfg Reg.ARC_CALO k)

/-- R219, R220: converter k holds its first waiting request, where its hold tick has come. -/
def State.convHold (k : Nat) (s : State) : State :=
  let c := s.convOf k
  match c.cur, c.wait with
  | none, r :: rest =>
    let h := s.convBegins k c r + 40
    if h ≤ s.adcNow then
      (s.setConv k { c with wait := rest, cur := some { job := .arc r, hold := h, gain := s.calGain k, ofs := s.calOfs k } }).passOver
        r.arc r.serial r.idx
    else s
  | _, _ => s

/-! ### Free slots: calibration and reference check (R220, R223, R224) -/

/-- What a converter would convert in a free slot: the references of a calibration, the 32 low ones first, or the mid reference
(DESIGN CHOICE, note 33). -/
def Conv.freeJob (c : Conv) : Option ConvJob :=
  if c.calFrom.isSome && decide (0 < c.calLeft) then some (.cal (decide (c.calLeft ≤ 32)))
  else if c.refDue then some .mid else none

/-- R220: converter k is free in this tick, and no other request waits. -/
def State.slotFree (s : State) (k : Nat) : Bool :=
  let c := s.convOf k
  c.cur.isNone && c.slot.isNone && c.wait.isEmpty && decide (c.freeAt ≤ s.adcNow) && decide (s.trackFree k s.adcNow = s.adcNow)

/-- R219, R220: converter k, in this tick, begins a conversion in a free slot, or looks again in the next tick. -/
def State.convSlot (s : State) (k : Nat) : State :=
  let c := s.convOf k
  match c.freeJob with
  | none => s
  | some j =>
    if s.slotFree k then
      (s.setConv k { c with slot := some (j, s.adcNow + 40), freeAt := s.adcNow + 100 }).later (s.tb + 40) (.slotHold k)
    else s.later (s.tb + 1) (.slot k)

/-- R222: the hold tick of a conversion in a free slot. -/
def State.convSlotHold (s : State) (k : Nat) : State :=
  let c := s.convOf k
  match c.slot with
  | some (j, h) => s.setConv k { c with slot := none, cur := some { job := j, hold := h, gain := s.calGain k, ofs := s.calOfs k } }
  | none => s

/-- R224: in every tick that is a multiple of 2^20 the reference check of each converter falls due (DESIGN CHOICE, note 33). -/
def State.refsDue (s : State) : State :=
  if s.adcNow % 0x100000 = 0 ∧ s.domOn 8 then
    forUpTo (fun k st => (st.setConv k { st.convOf k with refDue := true }).later s.tb (.slot k)) 0 16 s
  else s

/-- R222: the corrected code of a raw code. -/
def correctCode (raw gain : Nat) (ofs : Int) : Nat := (clampInt 0 65535 (roundDiv (((raw : Int) - ofs) * gain) 32768)).toNat

/-- A converter whose conversion has ended in tick t: it is free, and looks for its next free slot. -/
def State.convFreed (s : State) (k t : Nat) (c : Conv) : State := (s.setConv k { c with cur := none, freeAt := t }).convSlot k

/-- R223: the raw code of a calibration's conversion. -/
def Conv.addCal (c : Conv) (high : Bool) (raw : Nat) : Conv :=
  { c with calLeft := c.calLeft - 1, sumL := if high then c.sumL else c.sumL + raw, sumH := if high then c.sumH + raw else c.sumH }

/-- CONVERSION_RESULT: converter `conv` delivers its raw code at its hold tick + 60; an arc's corrected sample is written, with the
final header and the hand-off where it is the last; a calibration takes its raw code (R219, R222, R223, R238, R240) (DESIGN CHOICE,
note 33). -/
def execConversionResult (conv raw : Nat) (s : State) : Host.Outcome State Fault Refusal :=
  .next (match (s.convOf conv).cur with
    | some u =>
      if u.hold + 60 ≤ s.adcNow ∧ s.adcNow < u.hold + 100 then
        match u.job with
        | .arc r => (s.convFreed conv (u.hold + 60) (s.convOf conv)).frameSample r.serial r.idx
            (correctCode (raw % 65536) u.gain u.ofs) u.hold (u.hold - r.sched)
        | .cal high => s.convFreed conv (u.hold + 60) ((s.convOf conv).addCal high (raw % 65536))
        | .mid => s
      else s
    | none => s)

/-- ARC_FLT bit of a converter set (R224). -/
def State.convFault (s : State) (k : Nat) : State :=
  { s with arcs := { s.arcs with flt := setBit s.arcs.flt k true } }.hit Reg.ARC_FLT 0 k

/-- R224: a conversion of converter k has given no result. -/
def State.convLate (s : State) (k : Nat) : State :=
  ((s.setConv k { s.convOf k with tmo := true }).convFault k).report 0x3407 k

/-- R224, R428: the sample of a feedback track whose result has not come by its hold tick + 100. -/
def State.trackLate (s : State) (k : Nat) : State :=
  let n := (k - 12) / 2
  let p := s.inc n
  if 12 ≤ k ∧ k < 16 ∧ p.holds.any (fun h => decide (h.s + 100 ≤ s.adcNow)) then
    (s.setInc n { p with holds := p.holds.filter (fun h => !(decide (h.s + 100 ≤ s.adcNow))) }).convLate k
  else s

/-- CONVERSION_TIMEOUT: a conversion has given no result by its hold tick + 100: an arc's sample is missing, a reference check or the
conversion of a calibration goes without (R224, R239) (DESIGN CHOICE, note 33). -/
def execConversionTimeout (conv : Nat) (s : State) : Host.Outcome State Fault Refusal :=
  .next (match (s.convOf conv).cur with
    | some u =>
      if u.hold + 100 ≤ s.adcNow then
        let s1 := (s.convFreed conv (u.hold + 100) (s.convOf conv)).convLate conv
        match u.job with
        | .arc r => s1.frameMissing r.serial r.idx u.hold
        | _ => s1
      else s.trackLate conv
    | none => s.trackLate conv)

/-- REFERENCE_CHECK: the conversion of the mid reference in a free slot of converter `conv` reads `raw` at its hold tick + 60 (R220,
R224). -/
def execReferenceCheck (conv raw : Nat) (s : State) : Host.Outcome State Fault Refusal :=
  .next (match (s.convOf conv).cur with
    | some u =>
      if u.job = .mid ∧ u.hold + 60 ≤ s.adcNow ∧ s.adcNow < u.hold + 100 then
        let code := correctCode (raw % 65536) u.gain u.ofs
        let bad := decide (code + 256 < 0x8000) || decide (0x8000 + 256 < code)
        let s1 := s.convFreed conv (u.hold + 60) { s.convOf conv with refDue := false, refBad := bad }
        if bad then (s1.convFault conv).report 0x3405 conv else s1
      else s
    | none => s)

/-- R242: a calibration is in progress on some converter. -/
def State.calibrating (s : State) : Bool := s.arcs.conv.any (fun p => p.2.calFrom.isSome)

/-- CAL: a write of ARC_CMD; CAL = 1 starts a calibration of the converter that ARC_CSEL selects. It is rejected whole with a
reserved bit or while any calibration is in progress (R223, R242). -/
def execCal (value : Word) (s : State) : Host.Outcome State Fault Refusal :=
  .next (
    if 2 ≤ value.toNat ∨ s.calibrating then s
    else if value.toNat = 1 then
      let k := s.cfg Reg.ARC_CSEL 0
      (s.setConv k { s.convOf k with calFrom := some s.tb, calLeft := 64, sumL := 0, sumH := 0 }).later (s.tb + 1) (.slot k)
    else s)

/-- R223: a calibration that fails. -/
def State.calFail (s : State) (k : Nat) : State :=
  (s.setConv k { s.convOf k with calFrom := none, calLeft := 0, calRes := 2 }).report 0x2406 k

/-- CALIBRATION_DONE: the 64 conversions of converter `conv`'s calibration are complete: GAIN and OFS are formed from the sums of their
raw codes, 32 of the low and 32 of the high reference, which the command names (R223; DESIGN CHOICE, note 5). -/
def execCalibrationDone (conv sumL sumH : Nat) (s : State) : Host.Outcome State Fault Refusal :=
  .next (
    let c := s.convOf conv
    match c.calFrom with
    | some t =>
      if t + 0x40000 < s.tb ∨ c.calLeft ≠ 0 ∨ c.sumL ≠ sumL ∨ c.sumH ≠ sumH then s
      else if sumH ≤ sumL then s.calFail conv
      else
        let gain := roundDiv ((0xE000 * 32768 * 32 : Nat) : Int) ((sumH - sumL : Nat) : Int)
        let ofs := roundDiv ((sumL : Int) * gain - ((0x1000 * 32768 * 32 : Nat) : Int)) (32 * gain)
        if 0x6000 ≤ gain ∧ gain ≤ 0xA000 ∧ -2048 ≤ ofs ∧ ofs ≤ 2047 then
          ((s.stage Reg.ARC_CALG conv gain.toNat).stage Reg.ARC_CALO conv (ofSigned 16 ofs)).setConv conv
            { s.convOf conv with calFrom := none, calRes := 1 }
        else s.calFail conv
    | none => s)

/-- CALIBRATION_TIMEOUT: a calibration is not complete within 2^18 ticks of its command (R223). -/
def execCalibrationTimeout (conv : Nat) (s : State) : Host.Outcome State Fault Refusal :=
  .next (match (s.convOf conv).calFrom with
    | some t => if t + 0x40000 < s.tb then s.calFail conv else s
    | none => s)

/-- ARC_CNT_CLR: the named counts become 0; a reserved bit rejects the write (R242). -/
def execArcCntClr (value : Word) (s : State) : Host.Outcome State Fault Refusal :=
  .next (
    let v := value.toNat
    if 4 ≤ v then s
    else { s with arcs := { s.arcs with overlap := if bit v 1 then s.kept Reg.ARC_CNT 0 8 255 else s.arcs.overlap
                                        miss := if bit v 0 then s.kept Reg.ARC_CNT 0 0 255 else s.arcs.miss } })

end Sys2Proof.Machine
end

