-- ==== Sys2Proof/Machine/Crypto.lean ====
section
/-! DEFINITION. SHA-256 and the ECDSA verification over NIST P-256 that 19_integrity_repair.md R631 names. -/

namespace Sys2Proof.Machine

/-! ### SHA-256

The constants are formed, as the standard defines them, from the roots of the first primes, and the functions are written over the list of
the working words. -/

/-- A word of the hash. -/
abbrev ShaWord := BitVec 32

/-- The floor of the k-th root of n, b more bits of it below the part found. -/
def rootBelow (k n : Nat) : Nat → Nat → Nat
  | 0, found => found
  | b + 1, found => rootBelow k n b (if (found + 2 ^ b) ^ k ≤ n then found + 2 ^ b else found)

/-- The first 32 bits of the fractional part of the k-th root of a number below 2^24. -/
def rootFraction (k n : Nat) : ShaWord := BitVec.ofNat 32 (rootBelow k (n * 2 ^ (32 * k)) 56 0)

/-- The first n primes, found below `limit`. -/
def firstPrimes (n limit : Nat) : List Nat :=
  ((List.range limit).filter (fun p => decide (2 ≤ p) && (List.range p).all (fun d => decide (d < 2) || decide (p % d ≠ 0)))).take n

/-- A constant of each round: from the cube roots of the first 64 primes. -/
def shaConstants : List ShaWord := (firstPrimes 64 312).map (rootFraction 3)

/-- The working words at the start: from the square roots of the first 8 primes. -/
def shaStart : List ShaWord := (firstPrimes 8 20).map (rootFraction 2)

/-- The sum, bit by bit, of a word turned right by each of some amounts. -/
def turns (x : ShaWord) (ns : List Nat) : ShaWord := (ns.map x.rotateRight).foldl (· ^^^ ·) 0

/-- The message schedule, newest word first, n words longer. -/
def shaExtend : Nat → List ShaWord → List ShaWord
  | 0, w => w
  | n + 1, w =>
    let near := w.getD 1 0
    let far := w.getD 14 0
    let next := w.getD 15 0 + w.getD 6 0 + (turns far [7, 18] ^^^ (far >>> 3)) + (turns near [17, 19] ^^^ (near >>> 10))
    shaExtend n (next :: w)

/-- One round, with the sum of its constant and its word of the schedule. -/
def shaStep (v : List ShaWord) (k : ShaWord) : List ShaWord :=
  match v with
  | [a, b, c, d, e, f, g, h] =>
    let chosen := g ^^^ (e &&& (f ^^^ g))
    let most := (b &&& c) ||| (a &&& (b ||| c))
    let new := turns e [6, 11, 25] + chosen + h + k
    [new + most + turns a [2, 13, 22], a, b, c, d + new, e, f, g]
  | _ => v

/-- Bytes as a number, the first the highest. -/
def bigBytes (bs : List Nat) : Nat := bs.foldl (fun acc b => acc * 256 + b) 0

/-- The hash of the bytes so far: the working words, and the bytes of the block that has begun, newest first. -/
structure ShaRun where
  words : List ShaWord
  block : List Nat
  deriving DecidableEq, Repr

/-- A whole block taken in. -/
def shaTake (words : List ShaWord) (block : List Nat) : List ShaWord :=
  let message := (List.range 16).map (fun i => BitVec.ofNat 32 (bigBytes ((block.drop (4 * i)).take 4)))
  let schedule := (shaExtend 48 message.reverse).reverse
  List.zipWith (· + ·) words ((List.zipWith (· + ·) shaConstants schedule).foldl shaStep words)

/-- One more byte. -/
def ShaRun.byte (r : ShaRun) (b : Nat) : ShaRun :=
  let block := b :: r.block
  if block.length = 64 then ⟨shaTake r.words block.reverse, []⟩ else ⟨r.words, block⟩

/-- SHA-256 of bytes, as a number of 256 bits. -/
def sha256 (bytes : List Nat) : Nat :=
  let n := bytes.length
  let tail := 0x80 :: List.replicate ((119 - n % 64) % 64) 0 ++ (List.range 8).map (fun i => (8 * n) / 256 ^ (7 - i) % 256)
  let last := tail.foldl ShaRun.byte (bytes.foldl ShaRun.byte ⟨shaStart, []⟩)
  last.words.foldl (fun acc w => acc * 2 ^ 32 + w.toNat) 0

/-! ### ECDSA over NIST P-256 -/

/-- The field prime, the group order, the curve's b and the base point. -/
def p256P : Nat := 2 ^ 256 - 2 ^ 224 + 2 ^ 192 + 2 ^ 96 - 1
def p256N : Nat := 0xFFFFFFFF00000000FFFFFFFFFFFFFFFFBCE6FAADA7179E84F3B9CAC2FC632551
def p256B : Nat := 0x5AC635D8AA3A93E7B3EBBD55769886BC651D06B0CC53B0F63BCE3C3E27D2604B
def p256Gx : Nat := 0x6B17D1F2E12C4247F8BCE6E563A440F277037D812DEB33A0F4A13945D898C296
def p256Gy : Nat := 0x4FE342E2FE1A7F9B8EE7EB4A7C0F9E162BCE33576B315ECECBB6406837BF51F5

/-- b^e modulo m, over the lowest n bits of e. -/
def powMod (m b e : Nat) : Nat → Nat
  | 0 => 1 % m
  | n + 1 =>
    let h := powMod m b (e / 2) n
    if e % 2 = 1 then h * h % m * b % m else h * h % m

/-- The inverse modulo a prime. -/
def invMod (m a : Nat) : Nat := powMod m (a % m) (m - 2) 256

/-- The sum of two points of the curve; none is the point at infinity. -/
def ecAdd (u v : Option (Nat × Nat)) : Option (Nat × Nat) :=
  match u, v with
  | none, q => q
  | q, none => q
  | some (x1, y1), some (x2, y2) =>
    let p := p256P
    if x1 = x2 ∧ (y1 + y2) % p = 0 then none
    else
      let l := if x1 = x2 then (3 * x1 * x1 + (p - 3)) % p * invMod p (2 * y1) % p
        else (y2 + p - y1) % p * invMod p (x2 + p - x1) % p
      let x3 := (l * l + 2 * p - x1 - x2) % p
      some (x3, (l * ((x1 + p - x3) % p) + p - y1) % p)

/-- k times a point, over the lowest n bits of k. -/
def ecMul (q : Option (Nat × Nat)) (k : Nat) : Nat → Option (Nat × Nat)
  | 0 => none
  | n + 1 =>
    let h := ecMul q (k / 2) n
    let d := ecAdd h h
    if k % 2 = 1 then ecAdd d q else d

/-- r and s form a valid signature over a message's hash for the public key (x, y). -/
def ecdsaOk (x y r s hash : Nat) : Bool :=
  let p := p256P
  let n := p256N
  decide (0 < r) && decide (r < n) && decide (0 < s) && decide (s < n) && decide (x < p) && decide (y < p) &&
  decide (y * y % p = (x * x * x + (p - 3) * x + p256B) % p) &&
  (let w := invMod n s
   match ecAdd (ecMul (some (p256Gx, p256Gy)) (hash * w % n) 256) (ecMul (some (x, y)) (r * w % n) 256) with
   | some (rx, _) => decide (rx % n = r)
   | none => false)

end Sys2Proof.Machine
end

