-- ==== Sys2Proof/Machine/Queues.lean ====
section
/-! DEFINITION. The event queues: records, keys, reports, firing, ends (06_events.md R177 to R212). The commands of the chapter
are in Events.lean. -/

namespace Sys2Proof.Machine

/-! ### State of one output -/

/-- An output's queue. -/
def State.queue (s : State) (o : Nat) : List QEntry := Tbl.get [] o s.evq.q

/-- An output's queue set. -/
def State.setQueue (s : State) (o : Nat) (q : List QEntry) : State :=
  { s with evq := { s.evq with q := Tbl.put [] o q s.evq.q } }

/-- An output's active-pulse register. -/
def State.active (s : State) (o : Nat) : Option Pulse := Tbl.get none o s.evq.act

/-- An output's active-pulse register set. -/
def State.setActive (s : State) (o : Nat) (p : Option Pulse) : State :=
  { s with evq := { s.evq with act := Tbl.put none o p s.evq.act } }

/-- The tick of the last firing on an output (R195). -/
def State.lastFired (s : State) (o : Nat) : Option Tick := Tbl.get none o s.evq.lastFire

/-- R195: a firing on an output in tick t. -/
def State.noteFire (s : State) (o t : Nat) : State :=
  { s with evq := { s.evq with lastFire := Tbl.put none o (some t) s.evq.lastFire } }

/-- R125, R126, R129: the output is held. -/
def State.held (s : State) (o : Nat) : Bool :=
  if s.fullSync then decide (o < 56) && !s.sync.eligible
  else match s.sync.state with
    | .crankSync => decide (o < 56)
    | _ => true

/-- R182, R191: the slot of an event is unlocked; a recipe event has none (R209). -/
def State.unlock (s : State) (g : Origin) : State :=
  if g.rcp then s else { s with evq := { s.evq with slots := Tbl.erase g.slot s.evq.slots } }

/-- R182, R216: a slot is locked, in state 1 (queued, or being armed) or 2 (pulse active). -/
def State.lockSlot (s : State) (g : Origin) (st out : Nat) : State :=
  if g.rcp then s else { s with evq := { s.evq with slots := Tbl.insert g.slot (st, out) s.evq.slots } }

/-! ### Reports (R210 to R212) -/

/-- The outcomes that count in DROPS (R216). -/
def isDrop (oc : EvOutcome) : Bool := oc == 3 || oc == 4 || oc == 5 || oc == 0xB || oc == 0xC || oc == 0xD

/-- R216: the counts of an outcome, kept whether or not RPTEN is set (R210). -/
def State.countOutcome (s : State) (oc : EvOutcome) : State :=
  if oc = 2 then { s with evq := { s.evq with lates := satInc 255 s.evq.lates } }.hit Reg.EVQ_CNT 0 0
  else if isDrop oc then { s with evq := { s.evq with drops := satInc 255 s.evq.drops } }.hit Reg.EVQ_CNT 0 8 else s

/-- EVQ_RBASE. -/
def State.rbase (s : State) : Nat := s.cfg Reg.EVQ_RBASE_LO 0 + 65536 * s.fld Reg.EVQ_RBASE_HI 0 2 0
/-- EVQ_GBASE. -/
def State.gbase (s : State) : Nat := s.cfg Reg.EVQ_GBASE_LO 0 + 65536 * s.fld Reg.EVQ_GBASE_HI 0 2 0
/-- R215: the ring size. -/
def State.ringSize (s : State) : Nat := 2 ^ (s.fld Reg.EVQ_RCTL 0 2 0 + 8)

/-- R211: the four twin-word values of a report. -/
def reportWords (g : Origin) (out : Nat) (oc : EvOutcome) (isEnd : Bool) (late : Nat) : List Nat :=
  [g.tag, oc * 4096 + b2n g.guarded * 2048 + b2n g.rcp * 1024 + b2n isEnd * 512 + out,
   (if late ≤ 0xFFFF then late else 0xFFFF), g.slot % 8192]

/-- R211, R212: a report written into the ring, or lost when the ring is full. -/
def State.writeReport (s : State) (g : Origin) (out : Nat) (oc : EvOutcome) (isEnd : Bool) (late : Nat) : State :=
  let n := (s.evq.rwr + 1) % s.ringSize
  if n = s.cfg Reg.EVQ_RRD 0 then
    ({ s with evq := { s.evq with rlost := satInc 255 s.evq.rlost } }.hit Reg.EVQ_RLOST 0 0).reportCycle 0x3308 0 g.tag
  else
    let s1 := s.latPuts (s.rbase + 4 * s.evq.rwr) (reportWords g out oc isEnd late)
    { s1 with evq := { s1.evq with rwr := n } }.arrive 0x020

/-- R210: an outcome counted and, where the rules ask for it, reported in the ring; `always` is an end fired under R204
(DEDUCED, note 28). -/
def State.outcome (s : State) (g : Origin) (out : Nat) (oc : EvOutcome) (isEnd always : Bool) (late : Nat) : State :=
  let s1 := s.countOutcome oc
  let s2 := if oc = 2 then s1.reportCycle 0x2307 0 g.tag
    else if oc == 3 || oc == 4 || oc == 5 || oc == 0xB then s1.reportCycle 0x4305 0 g.tag else s1
  if s2.flag Reg.EVQ_CTL 0 1 && decide (s2.rbase ≠ 0) && (decide (oc ≠ 1) || g.rpt || always) then
    s2.writeReport g out oc isEnd late
  else s2

/-! ### Records (R178 to R180) -/

/-- R179: DUR is in its permitted range for the kind, DUNIT and BACK. -/
def durOk (kind : Nat) (dunit back : Bool) (out angle dur : Nat) : Bool :=
  match kind, dunit, back with
  | 0, false, false => dur == 0 && decide (24 ≤ out)
  | 1, false, false => decide (1 ≤ dur) && decide (dur ≤ 8388607)
  | 1, true, false => decide (1 ≤ dur) && decide (dur ≤ 16777215)
  | 1, true, true => decide (1 ≤ dur) && decide (dur ≤ 16777215) &&
      (decide (24 ≤ out) && decide (out ≤ 47) || decide (56 ≤ out))
  | 2, false, false => decide (1 ≤ cauSub dur angle) && decide (cauSub dur angle ≤ 8388607)
  | _, _, _ => false

/-- R178 to R180: the record holds no reserved bit or value, and no field that must be 0 holds anything else. -/
def recOk (w : List Nat) (gbaseOk rcp : Bool) : Bool :=
  let w0 := nth 0 w 0
  let kind := bits w0 15 14
  let out := bits w0 6 0
  let guard := bit w0 11
  let angle := nth 0 w 1 + 65536 * bits (nth 0 w 2) 7 0
  let dur := nth 0 w 3 + 65536 * bits (nth 0 w 2) 15 8
  let w5 := nth 0 w 5
  let cqmode := bits w5 7 6
  decide (kind ≠ 3) && decide (bits w0 8 7 = 0) && decide (out < 96) &&
  (decide (kind = 0) || !(bit w0 12)) &&
  durOk kind (bit w0 13) (bit w0 9) out angle dur &&
  decide (cqmode < 2) && (decide (cqmode = 1) || decide (bits w5 15 8 = 0)) && (!rcp || decide (cqmode = 0)) &&
  (decide (out < 24) || decide (bits w5 5 0 = 0)) &&
  decide (bits (nth 0 w 7) 15 10 = 0) && (guard || decide (bits (nth 0 w 7) 9 0 = 0)) && (!guard || gbaseOk)

/-- The queue entry of a record's value halves; the guard entry's two offsets are given. -/
def entryOf (w : List Nat) (rcp : Bool) (slot earliest latest t : Nat) : QEntry :=
  let w0 := nth 0 w 0
  { kind := if bits w0 15 14 = 0 then .edge else if bits w0 15 14 = 1 then .pulse else .chord
    dunit := bit w0 13, lvl := bit w0 12, guard := bit w0 11, back := bit w0 9, out := bits w0 6 0
    angle := nth 0 w 1 + 65536 * bits (nth 0 w 2) 7 0
    dur := nth 0 w 3 + 65536 * bits (nth 0 w 2) 15 8
    llim := nth 0 w 4, cqmode := bits (nth 0 w 5) 7 6, cq := bits (nth 0 w 5) 15 8, profile := bits (nth 0 w 5) 5 0
    org := { tag := nth 0 w 6, rpt := bit w0 10, rcp := rcp, slot := slot, guarded := false }
    earliest := earliest, latest := latest, gbase := t
    d := 0, keyed := false, overdue := none, skip := false, pin := none, late0 := 0, past := false, bad := false }

/-- R180: the address of a record's guard entry. -/
def State.guardAddr (s : State) (w : List Nat) : Nat := s.gbase + 4 * bits (nth 0 w 7) 9 0

/-- R180, R215: EVQ_GBASE is a permitted value: set, a multiple of 4, with its 4,096 twin-words in the general region. -/
def State.gbaseOk (s : State) : Bool :=
  decide (s.gbase ≠ 0) && decide (s.gbase % 4 = 0) && inGeneral s.gbase 4096

/-- R183 check 2: the record and, with GUARD = 1, its guard entry are valid. -/
def State.recIntegrity (s : State) (a : Nat) : Bool :=
  s.latOkN a 8 && (!(bit (s.latVal a) 11) || !s.gbaseOk || s.latOkN (s.guardAddr (s.latVals a 8)) 4)

/-- R180: EARLIEST and LATEST of a guard entry. -/
def State.guardOf (s : State) (w : List Nat) : Nat × Nat :=
  let a := s.guardAddr w
  (s.latVal a + 65536 * s.latVal (a + 1), s.latVal (a + 2) + 65536 * s.latVal (a + 3))

/-- R183 check 3: no reserved field or value in the record or its guard entry. -/
def State.recFields (s : State) (a : Nat) (rcp : Bool) : Bool :=
  let w := s.latVals a 8
  recOk w s.gbaseOk rcp && (!(bit (nth 0 w 0) 11) || decide ((s.guardOf w).1 ≤ (s.guardOf w).2))

/-- The entry of the record at a Lattice address that has passed checks 2 and 3. -/
def State.readEntry (s : State) (a : Nat) (rcp : Bool) (slot t : Nat) : QEntry :=
  let w := s.latVals a 8
  let g := if bit (nth 0 w 0) 11 then s.guardOf w else (0, 0)
  entryOf w rcp slot g.1 g.2 t

/-! ### Keys and order (R184 to R187) -/

/-- R184: the target cycle distance, with the integer angle a and the cycle count c. -/
def QEntry.dist (e : QEntry) (a c : Nat) : Nat :=
  if e.cqmode = 0 then (if a < e.angle then 0 else 1) else (e.cq + 256 - c % 256) % 256

/-- The place of an entry in its queue: skipped-range entries, overdue entries, keyed entries in key order, UNKEYED entries
(R184 to R187, R201). -/
def QEntry.rank (e : QEntry) : Nat :=
  if e.skip then (if e.past then 0 else 0x1000000) + e.angle
  else if e.overdue.isSome then 2 ^ 40 + e.angle
  else if e.keyed then 2 * 2 ^ 40 + e.d * 0x1000000 + e.angle
  else 3 * 2 ^ 40

/-- R186: an entry inserted in key order, after entries of an equal key. -/
def qInsert (e : QEntry) : List QEntry → List QEntry
  | [] => [e]
  | x :: xs => if x.rank ≤ e.rank then x :: qInsert e xs else e :: x :: xs

/-- A queue re-sorted by key; entries of an equal key keep their order. -/
def qSort (q : List QEntry) : List QEntry := q.foldl (fun acc e => qInsert e acc) []

/-- R187: an entry is inserted without a key on a held output or while the angle does not run. -/
def State.unkeyedHere (s : State) (o : Nat) : Bool := s.held o || !(s.tan.ast == .running)

/-- An entry inserted into its queue in tick t (R183, R184, R187). -/
def State.insertEntry (s : State) (e : QEntry) (t : Tick) : State :=
  let e' := if s.unkeyedHere e.out then { e with keyed := false }
    else { e with keyed := true, d := e.dist (s.angleAt t) s.tan.cyc }
  (s.setQueue e.out (qInsert e' (s.queue e.out))).lockSlot e.org 1 e.out

/-! ### Removal -/

/-- An entry that left its queue without firing: its outcome is reported and its slot unlocked. -/
def State.dropEntry (s : State) (e : QEntry) (oc : EvOutcome) (late : Nat) : State :=
  (s.outcome e.org e.out oc false false late).unlock e.org

/-- Several entries dropped with one outcome. -/
def State.dropEntries (s : State) (oc : EvOutcome) : List QEntry → State
  | [] => s
  | e :: es => (s.dropEntry e oc 0).dropEntries oc es

/-! ### Fire messages (R36 to R38, R191) -/

/-- R37, R38: where the fire message of an output goes: 0 the DRIVE island, 1 + c cluster c. -/
def fireDest (o : Nat) : Nat := if o < 56 then 0 else 1 + (o - 56) / 5

/-- An item added to the message with its launch value, or a new message. -/
def addItem (dest launch : Nat) (it : FireItem) : List (Nat × Tick × List FireItem) → List (Nat × Tick × List FireItem)
  | [] => [(dest, launch, [it])]
  | (d, l, is) :: ms => if d = dest ∧ l = launch then (d, l, is ++ [it]) :: ms else (d, l, is) :: addItem dest launch it ms

/-- R36 to R38: a fire in tick t, sent with launch value t + 24. -/
def State.sendFire (s : State) (it : FireItem) (t : Tick) : State :=
  { s with evq := { s.evq with
      flight := addItem (fireDest it.out) (t + 24) it s.evq.flight
      lp := if it.out < 56 then some (t + 24) else s.evq.lp } }

/-- R37: the tick in which a fire of an output due in tick t takes place: with the message that has been moved beyond it, in the moved
tick, or in t. -/
def State.fireTick (s : State) (o t : Nat) : Tick :=
  if o < 56 then
    match s.evq.lp with
    | some l => if t + 24 ≤ l then l - 24 else if t + 24 < l + 16 then l - 8 else t
    | none => t
  else t

/-- R188: the fire tick of a latched pin time. -/
def fireOf (p : Tick) : Tick := p - 24

/-- The lateness of an entry that fires in tick t (R189, R196). -/
def QEntry.lateAt (e : QEntry) (t : Tick) : Nat :=
  match e.pin with
  | some p => e.late0 + (t - fireOf p)
  | none => 0

/-- R196: the late limit stops a firing with this lateness. -/
def QEntry.tooLate (e : QEntry) (l : Nat) : Bool := decide (e.llim ≠ 0xFFFF) && decide (16 * e.llim < l)

/-- R192: the active-pulse register of a start that fires in tick t, with its passed end. -/
def State.pulseOf (s : State) (e : QEntry) (t : Tick) : Pulse :=
  let endA : Option Nat :=
    if e.dunit && !e.back then none
    else if e.back then some e.angle
    else match e.kind with
      | .chord => some e.dur
      | _ => some ((e.angle + e.dur) % cycleCau)
  let adv := match endA with
    | some a => if e.back then e.d else if a < e.angle then 1 else 0
    | none => 0
  let gone := e.overdue.isSome || e.past
  let d := if gone then adv - 1 else adv
  let a := s.angleAt t
  let passed := match endA with
    | some x => (gone && adv == 0) || (d == 0 && decide (x ≤ a))
    | none => false
  { out := e.out, org := e.org, profile := e.profile, endAngle := endA, d := d
    pin := if passed then some (t + 25) else none
    late0 := if passed then 1 + latenessOf a (endA.getD 0) s.tan.seg.rate else 0
    start := t + 24, dur := e.dur, awaiting := decide (e.out < 56), bad := false }

/-- The fire item of an entry. -/
def QEntry.item (e : QEntry) (l : Nat) : FireItem :=
  { out := e.out
    kind := match e.kind with | .edge => .edge e.lvl | _ => .pulseStart
    org := e.org, profile := e.profile
    durTicks := if e.dunit && !e.back then some e.dur else none
    late := l, w := if e.llim = 0xFFFF then none else some (16 * e.llim - l), soft := false }

/-- Whether the firing is a start that the DRIVE island answers with a start status (R292, R311): a pulse start, or an EDGE
with LVL = 1, on outputs 0 to 55. -/
def QEntry.answered (e : QEntry) : Bool :=
  decide (e.out < 56) && (match e.kind with | .edge => e.lvl | _ => true)

/-- An entry, already taken from its queue, fires in tick t or is dropped for lateness (R191, R196). -/
def State.fireEntry (s : State) (e : QEntry) (t : Tick) : State :=
  let l := e.lateAt t
  if e.tooLate l then s.dropEntry e 3 l
  else
    let s1 := (s.sendFire (e.item l) t).noteFire e.out t
    let s2 := match e.kind with
      | .edge => s1.unlock e.org
      | _ => (s1.setActive e.out (some (s.pulseOf e t))).lockSlot e.org 2 e.out
    if e.answered then s2
    else s2.outcome e.org e.out (if 0 < l then 2 else 1) false false l

/-- R192, R193, R128: the end in an active-pulse register fires in tick t. `soft` is an end fired by a synchronisation
transition, reported as FIRED with no lateness (R204). -/
def State.fireEnd (s : State) (p : Pulse) (t : Tick) (soft : Bool) : State :=
  let l := match p.pin with
    | some q => if soft then 0 else p.late0 + (t - fireOf q)
    | none => 0
  let it : FireItem := { out := p.out, kind := .pulseEnd, org := p.org, profile := p.profile, durTicks := none,
                         late := l, w := none, soft := soft }
  let s1 := (s.setActive p.out none).noteFire p.out t
  let s2 := (s1.sendFire it t).unlock p.org
  if soft then s2.outcome p.org p.out 1 true true 0
  else if 0 < l then s2.outcome p.org p.out 2 true false l else s2

/-- R192, R293: the end of a PULSE in ticks, which the receiving island times itself, is taken as fired (DEDUCED, note 28). -/
def State.retireEnd (s : State) (p : Pulse) (t : Tick) : State :=
  ((s.setActive p.out none).noteFire p.out t).unlock p.org

/-! ### Commit (R188 to R190, R194, R197) -/

/-- R197: the pin time under a time guard; none when the entry is dropped; true when EARLIEST delayed it. -/
def QEntry.guarded (e : QEntry) (p : Tick) : Option (Tick × Bool) :=
  if e.guard then
    if e.gbase + e.latest < p then none
    else if p < e.gbase + e.earliest then some (e.gbase + e.earliest, true) else some (p, false)
  else some (p, false)

/-- R189: the pin time and the lateness of a commit in tick K with latched pin time p. -/
def commitPin (p k : Nat) (first : Bool) : Tick × Nat :=
  if p < k + 24 then (k + 24, if first then 0 else k + 24 - p) else (p, 0)

/-- R39, R40: tick K is E + 6 of the current segment. -/
def State.firstCommit (s : State) (k : Tick) : Bool := s.tan.ast == .running && decide (k = s.tan.seg.e + 6)

/-- The pin time an uncommitted head would latch in tick K, with its lateness: R185 for an overdue entry, R188 otherwise;
none while it does not commit. `first` is tick E + 6 (DEDUCED, note 25). -/
def State.wouldCommit (s : State) (e : QEntry) (k : Tick) (first : Bool) : Option (Tick × Nat) :=
  if e.pin.isSome || !e.keyed || e.skip || e.bad then none
  else match e.overdue with
    | some (b, l) => some (k + 24, (k - b) + l)
    | none =>
      if e.back then
        if first && decide (e.d < 2) then
          let g := s.tan.seg
          let dist := e.d * cycleCau + cauSub e.angle g.a
          let st : Int := (g.e + 5 + ceilDiv (dist * 0x1000000) g.rate : Nat) - (e.dur : Nat)
          if st < ((g.e + g.phat : Nat) : Int) then
            let m : Nat := g.e + 30
            if st < (m : Int) then some (m, ((m : Int) - st).toNat) else some (st.toNat, 0)
          else none
        else none
      else if e.d = 0 && s.inSegment e.angle then some (pinOf s.tan.seg e.angle, 0) else none

/-- R197: an uncommitted entry has reached G + LATEST - 24. -/
def QEntry.expired (e : QEntry) (t : Tick) : Bool :=
  e.guard && e.pin.isNone && decide (e.gbase + e.latest ≤ t + 24)

/-- The head of a queue commits in this tick K where its conditions hold; a head that its guard drops gives way to the next, which is
considered in K + 1 (R188, R197) (DEDUCED, note 26). -/
def State.commitHead (s : State) (o : Nat) : State :=
  match s.queue o with
  | [] => s
  | e :: rest =>
    let first := s.firstCommit s.tb
    match s.wouldCommit e s.tb first with
    | none => s
    | some (p, l) =>
      match (if e.expired s.tb then none else e.guarded p) with
      | none => ((s.setQueue o rest).dropEntry e 4 0).later (s.tb + 1) (.head o)
      | some (p1, gd) =>
        let (p2, l2) := if e.back || e.overdue.isSome then (p1, 0) else commitPin p1 s.tb first
        s.setQueue o ({ e with pin := some p2, late0 := l + l2, org := { e.org with guarded := gd } } :: rest)

/-- R192: the end in an active-pulse register commits in this tick, where its angle lies in the segment in its target cycle. -/
def State.commitEnd (s : State) (o : Nat) : State :=
  match s.active o with
  | some p =>
    match p.endAngle, p.pin with
    | some a, none =>
      if p.d = 0 && s.inSegment a && !p.bad then
        let (q, l) := commitPin (pinOf s.tan.seg a) s.tb (s.firstCommit s.tb)
        s.setActive o (some { p with pin := some q, late0 := l })
      else s
    | _, _ => s
  | none => s

/-- Head and end of one output considered for commit in this tick (DEDUCED, note 24). -/
def State.commitOut (s : State) (o : Nat) : State := (s.commitEnd o).commitHead o

/-- Every output considered for commit in this tick. -/
def State.commitAll (s : State) : State := forUpTo (fun o st => st.commitOut o) 0 96 s

/-- R188: an output whose queue has changed is considered for commit in the next tick. -/
def State.headNext (s : State) (o : Nat) : State := s.later (s.tb + 1) (.head o)

/-! ### Early anchors (R198 to R200) -/

/-- An angle lies in the skipped range FROM + 1 to A - 1 (R149). -/
def inSkipped (from_ a angle : Nat) : Bool :=
  let span := cauSub a from_
  let x := cauSub angle from_
  decide (1 ≤ x) && decide (x < span)

/-- An end angle lies in the skipped range, or between A and the angle at E + 5 (R200). -/
def inSkippedEnd (from_ to_ angle : Nat) : Bool :=
  let x := cauSub angle from_
  decide (1 ≤ x) && decide (x ≤ cauSub to_ from_)

/-- The end angle of a PULSE in CAU or a CHORD. -/
def QEntry.endOf (e : QEntry) : Option Cau :=
  match e.kind with
  | .edge => none
  | .chord => some e.dur
  | .pulse => if e.dunit then none else some ((e.angle + e.dur) % cycleCau)

/-- R200: the whole pulse was skipped. -/
def QEntry.wholeSkipped (e : QEntry) (from_ a to_ : Nat) : Bool :=
  if e.back then inSkippedEnd from_ to_ e.angle
  else match e.endOf with
    | some x => inSkipped from_ a e.angle && inSkippedEnd from_ to_ x
    | none => false

/-- R198, R201: an entry of the cycle in which an early anchor skipped a range, whose angle lies on the side of 0 CAU that is
judged: `next` is the part of the range past 0 CAU, where a recipe entry can only be one that B re-arms (R207). -/
def QEntry.sideSkipped (e : QEntry) (from_ : Nat) (next : Bool) : Bool :=
  e.keyed && !e.skip && e.overdue.isNone && decide (e.d = 0) && (decide (e.angle ≤ from_) == next) && !(next && e.org.rcp)

/-- R198 to R201: the entries of a queue that an early anchor skipped are set aside at its head, in ascending order from FROM;
those skipped whole are returned apart, to be dropped. `past` says that a boundary stands at E + 5 (DESIGN CHOICE, note 29). -/
def splitSkipped (from_ a to_ e6 rate : Nat) (next past : Bool) (q : List QEntry) : List QEntry × List QEntry :=
  let whole := fun (e : QEntry) => e.sideSkipped from_ next && e.wholeSkipped from_ a to_
  let marked := (q.filter (fun e => !(whole e))).map (fun e =>
    if e.sideSkipped from_ next && !e.back && inSkipped from_ a e.angle then
      { e with skip := true, past := past, pin := some (e6 + 24), late0 := ceilDiv (cauSub a e.angle * 0x1000000) rate }
    else e)
  (q.filter whole, qSort marked)

/-- R198: on one output, the entries set aside are judged in order from tick t: one fires per tick, a dropped one takes no
tick. The first that can fire in tick t fires; the others stay at the head for their own ticks (DESIGN CHOICE, note 29). -/
def State.fireSkipped (s : State) (o t : Nat) : Nat → State
  | 0 => s
  | n + 1 =>
    match s.queue o with
    | [] => s
    | e :: rest =>
      if !e.skip then s
      else if (s.active o).isSome || s.lastFired o == some t || s.held o || decide (s.fireTick o t ≠ t) then s
      else if e.tooLate (e.lateAt t) then ((s.setQueue o rest).dropEntry e 3 (e.lateAt t)).fireSkipped o t n
      else (s.setQueue o rest).fireEntry e t

/-- R199: an end in the active-pulse register whose angle was skipped fires in E + 6 (DESIGN CHOICE, note 29). -/
def State.endSkipped (s : State) (o from_ a e6 rate : Nat) : State :=
  match s.active o with
  | some p =>
    match p.endAngle with
    | some x =>
      if p.d = 0 && inSkipped from_ a x then
        let p' := { p with pin := some (e6 + 24), late0 := ceilDiv (cauSub a x * 0x1000000) rate }
        if s.fireTick o e6 = e6 then s.fireEnd p' e6 false else s.setActive o (some p')
      else s
    | none => s
  | none => s

/-- R201: the entries of a queue in the skipped range are set aside, and those skipped whole leave it, to be dropped in E + 6
(DESIGN CHOICE, note 29). -/
def State.setAside (s : State) (from_ a to_ e6 rate : Nat) (next past : Bool) (o : Nat) : State :=
  s.setQueue o (splitSkipped from_ a to_ e6 rate next past (s.queue o)).2

/-- R200: the entries of every queue that are skipped whole. -/
def State.wholes (s : State) (from_ a to_ e6 rate : Nat) (next : Bool) : List QEntry :=
  ((List.range 96).map (fun o => (splitSkipped from_ a to_ e6 rate next false (s.queue o)).1)).flatten

/-- R198 to R201 in tick E + 6: the pulses skipped whole are dropped, the ends skipped fire, and then the entries set aside
(DEDUCED, note 26; DESIGN CHOICE, note 29). -/
def State.earlyFires (s : State) (from_ a e6 rate : Nat) (whole : List QEntry) : State :=
  let s1 := forUpTo (fun o st => st.endSkipped o from_ a e6 rate) 0 96 (s.dropEntries 5 whole)
  forUpTo (fun o st => st.fireSkipped o e6 16) 0 96 s1

/-! ### The boundary B (R184, R185, R192) -/

/-- R184, R185: an entry at B (DEDUCED, note 24). -/
def QEntry.atB (e : QEntry) (b aB rate : Nat) : QEntry :=
  if e.skip || !e.keyed then e
  else if 1 ≤ e.d then { e with d := e.d - 1 }
  else if e.pin.isSome then { e with past := true }
  else if e.overdue.isSome then e
  else { e with overdue := some (b, latenessOf aB e.angle rate) }

/-- R192: an active-pulse end at B; a passed end fires in B + 1. -/
def Pulse.atB (p : Pulse) (b aB rate : Nat) : Pulse :=
  match p.endAngle with
  | none => p
  | some x =>
    if 1 ≤ p.d then { p with d := p.d - 1 }
    else if p.pin.isSome then p
    else { p with pin := some (b + 25), late0 := 1 + latenessOf aB x rate }

/-- One output at B. -/
def State.outAtB (s : State) (b aB rate o : Nat) : State :=
  let s1 := s.setQueue o (qSort ((s.queue o).map (fun e => e.atB b aB rate)))
  match s1.active o with
  | some p => s1.setActive o (some (p.atB b aB rate))
  | none => s1

/-- R187: the UNKEYED entries of an output that becomes eligible in tick t are keyed; one whose cycle and angle have passed is
removed as DROP_PASSED. -/
def State.keyAll (s : State) (t o : Nat) : State :=
  let a := s.angleAt t
  let c := s.tan.cyc
  let gone := (s.queue o).filter (fun e => !e.keyed && e.cqmode == 1 && e.dist a c == 0 && decide (e.angle ≤ a))
  let rest := (s.queue o).filter (fun e => !(!e.keyed && e.cqmode == 1 && e.dist a c == 0 && decide (e.angle ≤ a)))
  let keyed := rest.map (fun e => if e.keyed then e else { e with keyed := true, d := e.dist a c })
  (s.setQueue o (qSort keyed)).dropEntries 0xB gone

/-- Every output of a range keyed (R187), and considered for commit in the next tick (R188). -/
def State.keyRange (s : State) (t lo n : Nat) : State := (forUpTo (fun o st => st.keyAll t o) lo n s).later (t + 1) .heads

/-! ### Cancels by synchronisation (R127, R128, R204) -/

/-- One output's queue cancelled with CANCEL_SYNC, and its pulse in progress ended in tick t; true when it cancelled or ended
anything. -/
def State.cancelOut (s : State) (t o : Nat) : State × Bool :=
  let q := s.queue o
  let s1 := (s.setQueue o []).dropEntries 7 q
  match s1.active o with
  | some p =>
    if p.endAngle.isNone && decide (o < 56) && !p.awaiting && decide (p.start + p.dur ≤ t + 24) then (s1, !q.isEmpty)
    else (s1.fireEnd p (s1.fireTick o t) true, true)
  | none => (s1, !q.isEmpty)

/-- The outputs of a range cancelled; whether anything was. -/
def State.cancelRange (s : State) (t : Tick) : Nat → Nat → Bool → State × Bool
  | _, 0, b => (s, b)
  | o, n + 1, b =>
    let (s1, c) := s.cancelOut t o
    s1.cancelRange t (o + 1) n (b || c)

/-- R315: the soft end of every ignition output, carried with the transition's ends: an item for output 96, which stands for
all ignition outputs. -/
def State.softAll (s : State) (t : Tick) : State :=
  let it : FireItem := { out := 96, kind := .pulseEnd, org := ⟨0, false, true, 0, false⟩, profile := 0, durTicks := none,
                         late := 0, w := none, soft := true }
  let t' := s.fireTick 24 t
  { s with evq := { s.evq with flight := addItem 0 (t' + 24) it s.evq.flight } }

/-- A pulse skipped whole that waits for E + 6 to be dropped, on an output from lo to lo + n - 1. -/
def goneIn (lo n : Nat) : Tick × Work → List QEntry
  | (_, .early _ _ _ _ gone) => gone.filter (fun e => decide (lo ≤ e.out) && decide (e.out < lo + n))
  | _ => []

/-- The work of E + 6 without the pulses of some outputs. -/
def keepGone (lo n : Nat) : Tick × Work → Tick × Work
  | (t, .early e f a r gone) => (t, .early e f a r (gone.filter (fun e => !(decide (lo ≤ e.out) && decide (e.out < lo + n)))))
  | w => w

/-- R127, R200: a transition in the tick before E + 6 of an early anchor cancels the pulses that were to be dropped there. -/
def State.cancelGone (s : State) (lo n : Nat) : State :=
  { s with agenda := s.agenda.map (keepGone lo n) }.dropEntries 7 (s.agenda.flatMap (goneIn lo n))

/-- R127, R128, R204: a transition in tick t cancels the outputs lo to lo + n - 1; `code` is reported when it cancelled or
ended something (0x4306, or 0x4206 for the phase correction). -/
def State.cancelSync (s : State) (t lo n code aux : Nat) : State :=
  let (s1, any) := (s.cancelGone lo n).cancelRange t lo n (!(s.agenda.flatMap (goneIn lo n)).isEmpty)
  let s2 := if any then s1.report code aux else s1
  if lo = 0 then s2.softAll t else s2

end Sys2Proof.Machine
end

