-- ==== Sys2Proof/Machine/Events.lean ====
section
/-! DEFINITION. The commands of 06_events.md: arms, firings, ends, guards, cancels, recipes. -/

namespace Sys2Proof.Machine

/-! ### Requests (R181, R214, R420, R517) -/

/-- A request put in the line to the ANGLE island (R181). -/
def State.pushReq (s : State) (r : AngReq) : State :=
  { s with evq := { s.evq with reqs := s.evq.reqs ++ [r] } }

/-- R549: a request that came from a host packet goes to the SHADOW, with the tick in which it reached this island. -/
def State.areq (s : State) (vals : List Nat) (t : Tick) : State :=
  if s.mirrors then s.twnSend 0x07 (twinList (vals ++ (wordsOf t 4).map (fun w => w.toNat))) else s

/-- Another arm that the host made waits for its turn (R181, R214, R517). -/
def State.hostArmWaits (s : State) : Bool :=
  s.evq.reqs.any (fun r => match r with
    | .arm _ .host | .arm _ (.port _) => true
    | _ => false)

/-- R214, R517: EVQ_ARM_STAT reports the last arm that the host made: while a later one waits, BUSY stays and RESULT keeps what it was
(DESIGN CHOICE, note 77). -/
def State.armResult (s : State) (res : Nat) : State :=
  if s.hostArmWaits then s else { s with evq := { s.evq with armBusy := false, armRes := res } }

/-- The end of an arm of a slot that reached the island in tick t: its RESULT goes to the requester (R214, R420, R517), and a host's
arm to the SHADOW with the key's cycle distance d (R549) (DEDUCED, note 30). -/
def State.armDone (s : State) (by_ : Requester) (slot t d res : Nat) : State :=
  match by_ with
  | .host => (s.armResult res).areq [0, slot, res, d] t
  | .port _ => ((s.armResult res).areq [0, slot, res, d] t).finishPacket 0x00 0 (twinWords res)
  | .lane id => { s with evq := { s.evq with answers := s.evq.answers ++ [(id, res, 0)] } }
  | .partner => s

/-- The end of a cancel of a tag, with its output selection: DONE and LATE go to the requester (R214, R420, R517), and a host's cancel to
the SHADOW (R549) (DEDUCED, note 30). -/
def State.cancelDone (s : State) (by_ : Requester) (tag sel done late : Nat) : State :=
  let s1 := { s with evq := { s.evq with canDone := done, canLate := late } }
  match by_ with
  | .host => s1.areq [1, tag, sel] s.tb
  | .port _ => (s1.areq [1, tag, sel] s.tb).finishPacket 0x00 0 (twinWords done ++ twinWords late)
  | .lane id => { s with evq := { s.evq with answers := s.evq.answers ++ [(id, done, late)] } }
  | .partner => s

/-- A host arm of a slot (R182, R214, R517). RESULT keeps the value of the arm before it while BUSY is 1 (DESIGN CHOICE, note 77). -/
def State.hostArm (s : State) (slot : Nat) (by_ : Requester) : State :=
  { s with evq := { s.evq with armBusy := true } }.pushReq (.arm slot by_)

/-- EVQ_ARM: a write sends an arm request for a slot; a reserved bit rejects it whole. -/
def execEvqArm (value : Word) (s : State) : Host.Outcome State Fault Refusal :=
  .next (if 8192 ≤ value.toNat then s else s.hostArm value.toNat .host)

/-- ARM_REQUEST: the next request, where it is an arm and none is in progress, reaches the island in this tick: its slot is
locked, or check 1 ends it as BUSY (R182, R183). -/
def execArmRequest (s : State) : Host.Outcome State Fault Refusal :=
  .next (match s.evq.arming, s.evq.reqs with
    | none, .arm slot by_ :: rest =>
      let s1 := { s with evq := { s.evq with reqs := rest } }
      if (Tbl.find? slot s.evq.slots).isSome then s1.armDone by_ slot s.tb 0 2
      else { s1 with evq := { s1.evq with arming := some (slot, by_, s.tb), slots := Tbl.insert slot (1, 0) s1.evq.slots } }
    | _, _ => s)

/-- The arm in progress ended with a failed check: its slot's lock is cleared (R183). -/
def State.armFail (s : State) (slot t res : Nat) (by_ : Requester) : State :=
  { s with evq := { s.evq with arming := none, slots := Tbl.erase slot s.evq.slots } }.armDone by_ slot t 0 res

/-- R183, checks 2 to 5 of an arm of a slot that reached the island in tick t, and its insertion in this tick. -/
def State.armChecks (s : State) (slot t : Nat) (by_ : Requester) : State :=
  let a := 8 * slot
  let s1 := s.latTouchN a 8
  let e := s1.readEntry a false slot s.tb
  if !(s1.recIntegrity a) then (s1.report 0x5301 e.org.tag).armFail slot t 3 by_
  else if !(s1.recFields a false) then s1.armFail slot t 4 by_
  else if 16 ≤ (s1.queue e.out).length then s1.armFail slot t 5 by_
  else if !(s1.held e.out) && decide (e.cqmode = 1) && decide (e.cq = s1.tan.cyc) && decide (e.angle ≤ s1.angleAt s.tb) then
    s1.armFail slot t 6 by_
  else
    ({ s1.insertEntry e s.tb with evq := { (s1.insertEntry e s.tb).evq with arming := none } }.armDone by_ slot t
      (e.dist (s1.angleAt s.tb) s1.tan.cyc) 1).headNext e.out

/-- ARM_RECORD_READ: the reads of the arm in progress return, and it is checked and inserted, or ended with its RESULT. -/
def execArmRecordRead (s : State) : Host.Outcome State Fault Refusal :=
  .next (match s.evq.arming with
    | some (slot, by_, t) => s.armChecks slot t by_
    | none => s)

/-! ### Firing (R191 to R197) -/

/-- R191, R195: the head of an output may fire in this tick. -/
def State.mayFire (s : State) (o : Nat) (e : QEntry) : Bool :=
  match e.pin with
  | some p => decide (fireOf p ≤ s.tb) && (s.active o).isNone && !(s.held o) && !e.bad &&
      decide (s.fireTick o s.tb = s.tb) && (match s.lastFired o with | some t => decide (t < s.tb) | none => true)
  | none => false

/-- The committed head of an output that has reached its fire tick fires, or is dropped for lateness. -/
def State.eventFire (s : State) (out : Nat) : State :=
  match s.queue out with
    | e :: rest =>
      if s.mayFire out e then ((s.setQueue out rest).fireEntry e s.tb).headNext out else s
    | [] => s

/-- R192, R193: the end in an output's active-pulse register that has reached its fire tick fires, as does the end of a PULSE in ticks on a
lane-bound output (R38, R192); that of a PULSE in ticks on outputs 0 to 55, which the DRIVE island times, is taken as fired (R293, R311)
(DEDUCED, note 28). -/
def State.pulseEndFire (s : State) (out : Nat) : State :=
  match s.active out with
    | some p =>
      match p.endAngle with
      | some _ =>
        match p.pin with
        | some q =>
          if fireOf q ≤ s.tb ∧ s.fireTick out s.tb = s.tb ∧ p.bad = false then
            (s.fireEnd p s.tb false).headNext out
          else s
        | none => s
      | none =>
        if 56 ≤ out then
          if p.start + p.dur ≤ s.tb + 24 ∧ s.fireTick out s.tb = s.tb ∧ p.bad = false then
            (s.fireEnd p s.tb false).headNext out
          else s
        else if p.awaiting = false ∧ p.start + p.dur ≤ s.tb + 24 then
          (s.retireEnd p s.tb).headNext out
        else s
    | none => s

/-- GUARD_EXPIRY: the uncommitted guarded entries of an output whose LATEST has come are dropped with DROP_GUARD (DEDUCED, note 26). -/
def execGuardExpiry (out : Nat) (s : State) : Host.Outcome State Fault Refusal :=
  .next (
    let gone := (s.queue out).filter (·.expired s.tb)
    if gone.isEmpty then s
    else (((s.setQueue out ((s.queue out).filter (fun e => !(e.expired s.tb)))).dropEntries 4 gone).headNext out))

/-- START_STATUS: the oldest start status reaches the ANGLE island: the start's report is written, and the active-pulse end of a
dropped start is taken as fired without a report (R292 to R294) (DEDUCED, notes 28, 30). -/
def execStartStatus (s : State) : Host.Outcome State Fault Refusal :=
  .next (match s.evq.status with
    | [] => s
    | (m, g) :: rest =>
      let s0 := { s with evq := { s.evq with status := rest } }
      let mine := match s0.active m.out with
        | some p => if p.org = g && p.awaiting then some p else none
        | none => none
      if m.dropped then
        let s1 := s0.outcome g m.out 0xC false false m.la
        match mine with
        | some p => (s1.retireEnd p s.tb).headNext m.out
        | none => s1
      else
        let l := m.la + m.delta
        let s1 := s0.outcome g m.out (if 0 < l then 2 else 1) false false l
        match mine with
        | some p => s1.setActive m.out (some { p with awaiting := false, start := m.s })
        | none => s1)

/-! ### Cancel (R202, R203) -/

/-- EVQ_CAN_CMD: a write sends a cancel request for the tag in EVQ_CAN_TAG; a reserved value rejects it whole (R214). -/
def execEvqCanCmd (value : Word) (s : State) : Host.Outcome State Fault Refusal :=
  .next (
    let v := value.toNat
    let out := bits v 6 0
    if bits v 15 9 ≠ 0 ∨ bit v 7 = true ∨ (bit v 8 = false ∧ 96 ≤ out) ∨ (bit v 8 = true ∧ out ≠ 0) then s
    else s.pushReq (.cancel (s.cfg Reg.EVQ_CAN_TAG 0) (bit v 8) out .host))

/-- The tick in which a committed entry with latched pin time p is to fire, as far as this tick can tell: not before it may, and moved by
R37 where R37 moves it (R195). -/
def State.fireAhead (s : State) (o p : Nat) : Tick :=
  s.fireTick o (max (max (fireOf p) s.tb) (match s.lastFired o with | some t => t + 1 | none => 0))

/-- R202: a cancel in tick T removes this entry. -/
def State.removable (s : State) (o : Nat) (e : QEntry) : Bool :=
  match e.pin with
  | none => true
  | some p => !e.keyed || (s.active o).isSome || decide (s.tb + 2 ≤ s.fireAhead o p)

/-- One output's matching entries removed; the counts of entries removed and of starts already fired (R202, R203) (DEDUCED, note 26). -/
def State.cancelTag (s : State) (tag o : Nat) : State × Nat × Nat :=
  let hit := fun (e : QEntry) => decide (e.org.tag = tag) && s.removable o e
  let gone := (s.queue o).filter hit
  let late := match s.active o with
    | some p => if p.org.tag = tag then 1 else 0
    | none => 0
  if gone.isEmpty then (s, 0, late)
  else (((s.setQueue o ((s.queue o).filter (fun e => !(hit e)))).dropEntries 6 gone).headNext o, gone.length, late)

/-- A cancel over outputs o to o + n - 1. -/
def State.cancelTags (s : State) (tag : Nat) : Nat → Nat → Nat → Nat → State × Nat × Nat
  | _, 0, d, l => (s, d, l)
  | o, n + 1, d, l =>
    let (s1, d1, l1) := s.cancelTag tag o
    s1.cancelTags tag (o + 1) n (d + d1) (l + l1)

/-- CANCEL_REQUEST: the next request, where it is a cancel and no arm is in progress, executes in this tick. -/
def execCancelRequest (s : State) : Host.Outcome State Fault Refusal :=
  .next (match s.evq.arming, s.evq.reqs with
    | none, .cancel tag all out by_ :: rest =>
      let s1 := { s with evq := { s.evq with reqs := rest } }
      let (s2, d, l) := if all then s1.cancelTags tag 0 96 0 0 else s1.cancelTags tag out 1 0 0
      s2.cancelDone by_ tag (b2n all * 256 + out) (min 255 d) (min 255 l)
    | _, _ => s)

/-! ### Recipes (R205 to R209) -/

/-- R205, R206, R216: a swap request is accepted: no other is pending and its COUNT is not reserved. -/
def State.swapOk (s : State) (v : Nat) : Bool := decide (v ≤ 1024) && s.evq.rcpPend.isNone

/-- R216: EVQ_RCP_STAT. -/
def State.rcpStat (s : State) : Nat :=
  b2n s.evq.rcpPend.isSome * 32768 + b2n s.evq.rcpActive * 16384 + s.evq.rcpCount

/-- A swap request reaches the ANGLE island in this tick. -/
def State.requestSwap (s : State) (count : Nat) : State :=
  { s with evq := { s.evq with rcpPend := some (count, s.tb) } }.areq [2, count] s.tb

/-- EVQ_RCP_CMD: a write requests a recipe buffer swap. -/
def execEvqRcpCmd (value : Word) (s : State) : Host.Outcome State Fault Refusal :=
  .next (if s.swapOk value.toNat then s.requestSwap value.toNat else s)

/-- R206 step 3: the buffers exchange roles. -/
def State.swapNow (s : State) (n : Nat) : State :=
  { s with evq := { s.evq with rcpActive := !s.evq.rcpActive, rcpCount := n, rcpPend := none } }

/-- R550: in tick t + 32 of a pending swap the PRIMARY names the boundary that it takes effect at: the count which that begins. -/
def State.swapNotice (s : State) (cyc : Nat) : State :=
  if s.mirrors then s.twnSend 0x07 (twinList [3, cyc % 256]) else s

/-- R206 step 3: a pending swap that reached the island at least 32 ticks before B takes effect; in a SHADOW the swap whose boundary
notice names the count that B begins (R550) (DEDUCED, note 27). -/
def State.swapAt (s : State) (b : Tick) : State :=
  match s.evq.rcpPend with
  | some (n, t) =>
    if s.isShadow then
      if s.twn.swapAt = some s.tan.cyc then { (s.swapNow n) with twn := { s.twn with swapAt := none } } else s
    else if t + 32 ≤ b then (if s.tb ≤ t + 32 then s.swapNotice s.tan.cyc else s).swapNow n
    else s
  | none => s

/-- R207, R208: entry k of the active buffer re-armed for boundary B, in this tick, B + 8 + 2k; a re-arm stops when ELIGIBLE clears
(DEDUCED, note 27). -/
def State.rearmOne (s : State) (b k : Nat) : State :=
  let a := (if s.evq.rcpActive then 0x12000 else 0x10000) + 8 * k
  let slot := b2n s.evq.rcpActive * 1024 + k
  let s1 := s.latTouchN a 8
  let e := { s1.readEntry a true slot b with keyed := true }
  if !(s1.recIntegrity a) then (s1.reportCycle 0x5302 0 k).outcome e.org (e.out % 128) 8 false false 0
  else if !(s1.recFields a true) then (s1.reportCycle 0x4303 0 k).outcome e.org (e.out % 128) 9 false false 0
  else if 16 ≤ (s1.queue e.out).length then (s1.reportCycle 0x4304 0 k).outcome e.org e.out 0xA false false 0
  else (s1.setQueue e.out (qInsert e (s1.queue e.out))).headNext e.out

/-- R207, R208: the re-arm for boundary B that begins in tick t, where RCPEN = 1 and ELIGIBLE is 1; entry k is armed in t + 8 + 2k
(DEDUCED, note 27). -/
def State.rearmFrom (s : State) (t b : Tick) : State :=
  if s.flag Reg.EVQ_CTL 0 0 && s.sync.eligible then
    forUpTo (fun k st => st.later (t + 8 + 2 * k) (.rearm b k)) 0 s.evq.rcpCount s
  else s

/-- R207: the re-arm of the recipe begins at boundary B. -/
def State.rearm (s : State) (b : Tick) : State := s.rearmFrom b b

/-- R207: the re-arm stops: the entries not yet in their queues are not armed. -/
def State.rearmStop (s : State) : State :=
  { s with agenda := s.agenda.filter (fun w => match w.2 with
      | .rearm _ _ => false
      | _ => true) }

/-! ### Counts and rebuilds -/

/-- EVQ_RLOST_CLR: the lost report count becomes 0 (R215). -/
def execEvqRlostClr (s : State) : Host.Outcome State Fault Refusal :=
  .next { s with evq := { s.evq with rlost := s.kept Reg.EVQ_RLOST 0 0 255 } }

/-- EVQ_CNT_CLR: the named counts become 0; a reserved bit rejects the write (R216). -/
def execEvqCntClr (value : Word) (s : State) : Host.Outcome State Fault Refusal :=
  .next (
    let v := value.toNat
    if 4 ≤ v then s
    else { s with evq := { s.evq with drops := if bit v 1 then s.kept Reg.EVQ_CNT 0 8 255 else s.evq.drops
                                      lates := if bit v 0 then s.kept Reg.EVQ_CNT 0 0 255 else s.evq.lates } })

/-- R614: the Lattice address of an event's source, where there still is one: its locked slot, or its recipe entry while its
buffer is the active one. -/
def State.sourceOf (s : State) (g : Origin) : Option Nat :=
  if g.rcp then
    (if bit g.slot 10 = s.evq.rcpActive then some ((if s.evq.rcpActive then 0x12000 else 0x10000) + 8 * (g.slot % 1024)) else none)
  else if (Tbl.find? g.slot s.evq.slots).isSome then some (8 * g.slot) else none

/-- R614: an event can be restored from its source. -/
def State.restorable (s : State) (g : Origin) : Bool :=
  match s.sourceOf g with
  | some a => s.recIntegrity a && s.recFields a g.rcp
  | none => false

/-- R614: the failed entries of a queue that cannot be restored leave it, with no report-ring entry. -/
def State.dropBad (s : State) : List QEntry → State
  | [] => s
  | e :: es => (s.unlock e.org).dropBad es

/-- R614: one output's failed entries and end are rebuilt, or go: a queued entry is removed, an end fires. -/
def State.rebuildOut (s : State) (o : Nat) : State :=
  let lost := (s.queue o).filter (fun e => e.bad && !(s.restorable e.org))
  let kept := (s.queue o).filter (fun e => !(e.bad && !(s.restorable e.org)))
  let s1 := (s.setQueue o (kept.map (fun e => { e with bad := false }))).dropBad lost
  match s1.active o with
  | some p =>
    if p.bad then (if s.restorable p.org then s1.setActive o (some { p with bad := false })
      else s1.fireEnd { p with bad := false } (s1.fireTick o s.tb) false)
    else s1
  | none => s1

/-- R614: the failed entries of an output are rebuilt; an entry whose fire tick has passed fires. -/
def State.entryRebuilt (s : State) (out : Nat) : State :=
  let s1 := s.rebuildOut out
  match s1.queue out with
  | e :: rest => if s1.mayFire out e then ((s1.setQueue out rest).fireEntry e s.tb).headNext out else s1.headNext out
  | [] => s1

end Sys2Proof.Machine
end

