-- ==== Sys2Proof/Machine/Sync.lean ====
section
/-! DEFINITION. The state changes of the synchronisation machine and what each brings about (04_sync.md R108 to R132;
05_tangent.md R161). The machine's conditions are in Wheel.lean and Tangent.lean. -/

namespace Sys2Proof.Machine

/-- The states in which the position is known and the angle used (R109, R116). -/
def SyncState.runs : SyncState → Bool
  | .crankSync | .fullSync | .reverse => true
  | _ => false

/-- The states of R92 and R140 in which the accumulator runs forward. -/
def SyncState.forward : SyncState → Bool
  | .crankSync | .fullSync => true
  | _ => false

/-- The states with no known position (R111, R695). -/
def SyncState.lost : SyncState → Bool
  | .search | .toothLock | .stall => true
  | _ => false

/-- The state's code (R111). -/
def SyncState.code : SyncState → Nat
  | .search => 0
  | .toothLock => 1
  | .crankSync => 2
  | .fullSync => 3
  | .reverse => 4
  | .stall => 5

/-! ### The gap test (R108), with integer products -/

/-- R108: the period is gap-like for M. -/
def State.gapLike (s : State) (m q p pp : Nat) : Bool :=
  let g := s.fld Reg.SYN_GTOL 0 3 0
  decide (p ≠ 0xFFFFFFFF) && decide (pp ≠ 0xFFFFFFFF) &&
    decide ((16 * (m + 1) - g) * pp ≤ 16 * q * p) && decide (16 * q * p ≤ (16 * (m + 1) + g) * pp)

/-- R108: the period is pitch-like. -/
def State.pitchLike (s : State) (q p pp : Nat) : Bool :=
  decide (p ≠ 0xFFFFFFFF) && decide (pp ≠ 0xFFFFFFFF) && decide (16 * q * p < (32 - s.fld Reg.SYN_GTOL 0 3 0) * pp)

/-- R109: a vertex passes the test of a position before which a gap of m lies (0: none). -/
def State.toothOk (s : State) (m q p pp : Nat) : Bool :=
  if m = 0 then s.pitchLike q p pp else s.gapLike m q p pp

/-! ### A state change -/

/-- R161: the accumulator stops in tick t, B1 and B2 become invalid, and the external source is left. -/
def State.stopTangent (s : State) (t : Tick) (a : Ast) : State :=
  { s with tan := { s.tan with hold := s.accAt t, ast := a, b1 := none, b2 := none, prev := none, wrap := none
                               x := { s.tan.x with act := false, lostAt := none } } }

/-- R207: the re-arm of a recipe stops in the tick in which ELIGIBLE is clear. -/
def State.rearmHeld (s : State) : State := if s.sync.eligible then s else s.rearmStop

/-- R73: the arming thresholds fall back to FLOOR. -/
def State.floorArm (s : State) : State :=
  { s with wheel := { s.wheel with
      inp := Tbl.put {} 1 { Tbl.get {} 1 s.wheel.inp with arm := none }
        (Tbl.put {} 0 { Tbl.get {} 0 s.wheel.inp with arm := none } s.wheel.inp) } }

/-- What a change of state does to the machine's own fields (R110, R111, R121, R123, R126, R154, R695). The counts of consecutive bad cycles
and the mark of a reported cam loss begin afresh with each entry to FULL_SYNC (DESIGN CHOICE, note 78). A phase correction that awaits
its vertex is kept in REVERSE (R122). -/
def Sync.enter (y : Sync) (dst : SyncState) (cause : Nat) (wasFull isFull : Bool) : Sync :=
  let from_ := y.state
  { y with
    state := dst, lastFrom := from_, lastTo := dst, cause := cause
    phaseValid := if dst.lost then false else if dst == .fullSync then (from_ == .crankSync || y.phaseValid) else y.phaseValid
    votes := if dst.lost || dst == .crankSync then 0 else y.votes
    errs := if dst == .crankSync && from_ != .reverse then 0 else y.errs
    pos := if dst == .search || dst == .toothLock then 0x1FF else y.pos
    prevPos := if dst.lost then 0x1FF else y.prevPos
    eligible := if wasFull && !isFull then false else y.eligible
    corr := if dst.lost then false else y.corr
    tlEdges := if dst == .toothLock then 0 else y.tlEdges
    gapCand := if dst == .toothLock then none else y.gapCand
    revOpen := if dst == .reverse then y.revOpen else none
    turned := false, acted := true
    judged := if isFull && wasFull then y.judged else false
    matched := if isFull && wasFull then y.matched else []
    camBadNow := if isFull && wasFull then y.camBadNow else 0
    badRun := if dst == .fullSync && !wasFull then [] else y.badRun
    lossRep := if dst == .fullSync && !wasFull then false else y.lossRep
    ivalNo := if from_.forward != dst.forward then y.ivalNo + 1 else y.ivalNo
    stallByTime := if dst == .stall then decide (cause = 8) else false
    stallCams := 0 }

/-- R113 to R129: the machine changes state in tick t. The Tangent stops where R140 says so, arcs end, and queued events are
cancelled and pulses ended. `fix` is a phase correction (R122, R127) (DEDUCED, note 19). -/
def State.go (s : State) (dst : SyncState) (cause : Nat) (t : Tick) (fix : Bool) : State :=
  let from_ := s.sync.state
  let wasFull := s.fullSync
  let isFull := { s with sync := { s.sync with state := dst } }.fullSync
  let s1 := if dst.lost then s.stopTangent t (if dst == .stall && from_.runs then .frozen else .invalid) else s
  -- R558: with SFLT = 1 the loss of synchronisation is a fault of the device's own while the partner keeps it, in two-stroke mode
  -- in CRANK_SYNC (R112)
  let keeps := decide (s.twn.psyn % 8 = 3) || (s.flag Reg.SYN_CTL 0 12 && decide (s.twn.psyn % 8 = 2))
  let sflt := s.isTwin && s.flag Reg.TWN_CFG 0 1 && decide (s.twn.jstate = 5) && keeps &&
    (dst == .search || dst == .stall) && !s.twn.fault
  let s2 := { s1 with sync := s1.sync.enter dst cause wasFull isFull
                      twn := if sflt then { s1.twn with fault := true, faultAt := some t } else s1.twn }.arrive 0x016
  let s3 := if wasFull && !isFull then
      { s2.arcsEndAll 2 t with tan := { (s2.arcsEndAll 2 t).tan with pcyc := [], revP := [] } } else s2
  let s4 := if wasFull != isFull then s3.newPeriod else s3
  let s5 := (if dst == .search || dst == .stall then s4.floorArm else s4).rearmHeld
  let all := from_.runs && (dst == .search || dst == .stall) || from_.forward && dst == .reverse
  if all then s5.cancelSync t 0 96 0x4306 0
  else if from_ == .fullSync && dst == .crankSync then s5.cancelSync t 0 56 0x4306 0
  else if fix then s5.cancelSync t 56 40 0x4206 s5.sync.pos
  else s5

/-- A state change with its report (R113), whose detail is the position of the latest vertex (R636). -/
def State.goReport (s : State) (dst : SyncState) (cause : Nat) (t : Tick) (code : Nat) : State :=
  (s.report code s.sync.pos).go dst cause t false

/-- R115: a condition of R113 found in this tick. -/
def State.found (s : State) (c : SyncCond) : State := { s with sync := { s.sync with conds := s.sync.conds ++ [c] } }

/-- R110, R113: a tooth-count error or an AMBIGUOUS pulse in this tick; ERRS reaching ERRLIM is a condition of R113. ERRS holds 3 bits. -/
def State.syncErr (s : State) : State :=
  let n := satInc 7 s.sync.errs
  let s1 := { s with sync := { s.sync with errs := n, revClean := false } }
  if s1.fld Reg.SYN_CTL 0 10 8 ≤ n then s1.found .errs else s1.report 0x3201 s1.sync.pos

/-- ERRS has reached ERRLIM (R113). -/
def State.errsFull (s : State) : Bool := decide (s.fld Reg.SYN_CTL 0 10 8 ≤ s.sync.errs)

/-- R107: a wheel write is staged and not yet applied, so the machine does not leave SEARCH or STALL (DEDUCED, note 19). -/
def State.wheelStaged (s : State) : Bool :=
  s.isStaged Reg.SYN_WHEEL 0 || s.isStaged Reg.SYN_GAP2 0 || s.isStaged Reg.SYN_REF_LO 0 || s.isStaged Reg.SYN_REF_HI 0 ||
    (s.isStaged Reg.SYN_CTL 0 && decide (bit (s.cfgStaged Reg.SYN_CTL 0) 12 ≠ s.twoStroke))

/-- R135: SYN_STAT. -/
def State.synStat (s : State) : Nat :=
  let y := s.sync
  y.errs * 1024 + b2n y.half * 512 + b2n y.phaseValid * 256 + y.votes * 32 + b2n y.eligible * 16 + y.state.code

/-- R135: SYN_POS. -/
def State.synPos (s : State) : Nat := s.sync.pos

end Sys2Proof.Machine
end

