-- ==== Sys2Proof/Machine/Lanes.lean ====
section
/-! DEFINITION. The lanes as hardware: counters, compares, captures, pins, vectors, access from outside, spares (11_lanes.md). -/

namespace Sys2Proof.Machine

/-! ### Access -/

/-- A lane, by 8 × cluster + lane. -/
def State.lane (s : State) (l : Nat) : Lane := Tbl.get {} l s.lan.lane

/-- A lane set. -/
def State.setLane (s : State) (l : Nat) (v : Lane) : State :=
  { s with lan := { s.lan with lane := Tbl.put {} l v s.lan.lane } }

/-- The power domain of a lane's cluster is ON. -/
def State.laneOn (s : State) (l : Nat) : Bool := s.domOn (laneDom (l / 8))

/-- The Time Base as a lane's cluster has it (R340). -/
def State.laneClock (s : State) (l : Nat) : Nat := s.replicaNow (3 + l / 8)

/-- R340: this tick is the first of a lane cycle. -/
def State.laneCycle (s : State) (l : Nat) : Bool := decide (s.laneClock l % 4 = 0)

/-- The first tick of the lane cycle that this tick lies in, and of the next one (DESIGN CHOICE, note 43). -/
def State.cycleStart (s : State) (l : Nat) : Tick := s.tb - s.laneClock l % 4
def State.cycleNext (s : State) (l : Nat) : Tick := s.tb + (4 - s.laneClock l % 4)

/-- A general register of a lane, as a word and as a number. -/
def Lane.gw (k : Lane) (n : Nat) : Word := Tbl.get 0 n k.g
def Lane.reg (k : Lane) (n : Nat) : Nat := (k.gw n).toNat

/-- A counter of a lane. -/
def Lane.ctr (k : Lane) (n : Nat) : Counter := if n = 0 then k.ct0 else k.ct1
def Lane.setCtr (k : Lane) (n : Nat) (v : Counter) : Lane := if n = 0 then { k with ct0 := v } else { k with ct1 := v }

/-- A compare of a lane. -/
def Lane.cmp (k : Lane) (n : Nat) : CmpUnit := if n = 0 then k.cmp0 else k.cmp1
def Lane.setCmp (k : Lane) (n : Nat) (v : CmpUnit) : Lane := if n = 0 then { k with cmp0 := v } else { k with cmp1 := v }

/-- A capture FIFO of a lane. -/
def Lane.cap (k : Lane) (n : Nat) : List Nat := if n = 0 then k.cap0 else k.cap1
def Lane.setCap (k : Lane) (n : Nat) (v : List Nat) : Lane := if n = 0 then { k with cap0 := v } else { k with cap1 := v }

/-- R383: the configuration of counter n, and the fields of one compare and one capture. -/
def State.ctCfg (s : State) (l n : Nat) : Nat := s.cfg (Reg.LAN_CTCFG0 + n) l
def State.cmpCfg (s : State) (l n : Nat) : Nat := s.cfg Reg.LAN_CMPCFG l / 2 ^ (8 * n) % 256
def State.capCfg (s : State) (l n : Nat) : Nat := s.cfg Reg.LAN_CAPCFG l / 2 ^ (8 * n) % 256

/-- R357: compare n is in STAGED mode; R354: its counter. -/
def State.cmpStaged (s : State) (l n : Nat) : Bool := bit (s.cmpCfg l n) 7
def State.cmpSrc (s : State) (l n : Nat) : Nat := bits (s.cmpCfg l n) 6 6

/-! ### Pins and ports (R363 to R368) -/

/-- The synchronised level of a GP pin. -/
def State.padLevel (s : State) (pin : Nat) : Bool := (Tbl.get (false, 0) pin s.lan.pads).1

/-- The level of an event line. -/
def State.lineLevel (s : State) (c k : Nat) : Bool := (Tbl.get (false, 0) (5 * c + k) s.lan.lines).1

/-- R363, R384: the port map of a port: its KIND and NUM. -/
def State.portMap (s : State) (l p : Nat) : Nat × Nat :=
  let v := s.cfg (Reg.LAN_PMAP0 + p) l
  (bits v 15 14, bits v 6 0)

/-- R363: the level a port reads, and the tick that level began. -/
def State.portState (s : State) (l p : Nat) : Bool × Tick :=
  match s.portMap l p with
  | (1, n) => Tbl.get (false, 0) n s.lan.pads
  | (2, n) => Tbl.get (false, 0) (5 * (l / 8) + n) s.lan.lines
  | _ => (false, 0)

/-- The level of a port. -/
def State.portLevel (s : State) (l p : Nat) : Bool := (s.portState l p).1

/-- The input levels of p7 to p0 (R347). -/
def State.portLevels (s : State) (l : Nat) : Nat :=
  forUpTo (fun p acc => acc + b2n (s.portLevel l p) * 2 ^ p) 0 8 0

/-- R406: the level a port had in the tick before. -/
def State.portBefore (s : State) (l p : Nat) : Bool :=
  match (s.lane l).remap with
  | some v => bit v p
  | none =>
    let x := s.portState l p
    if x.2 = s.tb then !x.1 else x.1

/-- R364 to R366, R368, R641: what drives a pad in this tick: none is high impedance. A latch that changes in tick X is seen in X + 1:
a lane's own change comes as tick X ends, an outside write leaves the old latches beside it; an event line that changed in this tick is
not yet on the pad. -/
def State.padOut (s : State) (pin : Nat) : Option Bool :=
  let v := s.cfg Reg.LAN_PIN pin
  let c := bits v 14 12
  let lvl :=
    if bit v 11 then
      let x := Tbl.get (false, 0) (5 * c + bits v 10 8) s.lan.lines
      if x.2 = s.tb then !x.1 else x.1
    else
      let k := s.lane (8 * c + bits v 10 8)
      bit (k.old.getD k.latch) (bits v 7 5)
  let out := lvl != bit v 0
  if (s.dom (laneDom c) == .off) || (bit v 15 && !(s.unitHere 10)) then none
  else match bits v 4 3 with
    | 1 => some out
    | 2 => if out then none else some false
    | _ => none

/-! ### Vectors (R369 to R372) -/

/-- R369: a source event of a vector in tick t. -/
def State.vecOne (s : State) (l n t : Nat) : State :=
  let k := s.lane l
  if k.pend.any (fun p => p.1 == n) then ((s.setLane l { k with vov := true }).hit Reg.LAN_CLR l 0).reportCycle 0x2806 0 l
  else s.setLane l { k with pend := k.pend ++ [(n, t)] }

/-- R369, R384: whether vector n of a lane has this source. -/
def State.vecHas (s : State) (l n kind num : Nat) : Bool :=
  let v := s.cfg (Reg.LAN_VSRC0 + n) l
  decide (bits v 11 8 = kind) && (decide (kind < 4) || decide (bits v 3 0 = num))

/-- R369: a source event of a lane in tick t reaches every vector that selects it (DEDUCED, note 44). -/
def State.vecEvent (s : State) (l kind num t : Nat) : State :=
  forUpTo (fun n st => if st.vecHas l n kind num then st.vecOne l n t else st) 0 4 s

/-- R369: a router line of a cluster reaches its lanes' vectors. -/
def State.lineArrive (s : State) (c line : Nat) : State :=
  forUpTo (fun l st => st.vecEvent l 7 line st.tb) (8 * c) 8 s

/-! ### Captures (R360 to R362) -/

/-- R360: the value of a capture's entry, with the Time Base value it would hold. -/
def State.capValue (s : State) (l n tbv : Nat) : Nat :=
  match bits (s.capCfg l n) 1 0 with
  | 0 => (s.lane l).ct0.v
  | 1 => (s.lane l).ct1.v
  | _ => tbv % 0x100000000

/-- R361: an entry appended as tick t ends, or discarded. -/
def State.capAppend (s : State) (l n v t : Nat) : State :=
  let k := s.lane l
  if 2 ≤ (k.cap n).length then
    ((s.setLane l (if n = 0 then { k with cov0 := true } else { k with cov1 := true })).hit Reg.LAN_CLR l (2 - n)).reportCycle 0x2805 0 l
  else (s.setLane l (k.setCap n (k.cap n ++ [v]))).vecEvent l (2 + n) 0 t

/-! ### Edges of ports (R350, R360, R365, R369) -/

/-- R350: the edge modes of a counter. -/
def State.edgeCounts (s : State) (l n p : Nat) (rise : Bool) : Bool :=
  let v := s.ctCfg l n
  let m := bits v 14 12
  bit v 15 && decide (bits v 2 0 = p) && ((rise && decide (m = 3)) || (!rise && decide (m = 4)) || decide (m = 5))

/-- R360: a capture triggers on an edge of a port. -/
def State.edgeTriggers (s : State) (l n p : Nat) (rise : Bool) : Bool :=
  let v := s.capCfg l n
  let t := bits v 7 5
  decide (bits v 4 2 = p) && ((rise && decide (t = 1)) || (!rise && decide (t = 2)) || decide (t = 3))

/-- A port of a lane has changed its level in this tick: edge counters will step, captures are triggered, vectors get their
event. A Time Base capture of a GP edge holds the tick of the pad, 2 ticks before (R360). -/
def State.portEdge (s : State) (l p : Nat) (rise gp : Bool) : State :=
  let k := s.lane l
  let k1 := if s.edgeCounts l 0 p rise then { k with ct0 := { k.ct0 with edge := true } } else k
  let k2 := if s.edgeCounts l 1 p rise then { k1 with ct1 := { k1.ct1 with edge := true } } else k1
  let tbv := if gp then s.tb - 2 else s.tb
  let k3 := { k2 with trig := k2.trig ++ (if s.edgeTriggers l 0 p rise then [(0, tbv)] else []) ++
                                (if s.edgeTriggers l 1 p rise then [(1, tbv)] else []) }
  let s1 := s.setLane l k3
  ((if rise then s1.vecEvent l 4 p s.tb else s1.vecEvent l 5 p s.tb)).vecEvent l 6 p s.tb

/-- Every port of lanes l0 to l0 + n - 1 mapped to a source takes its edge; where a commit changes a lane's port map in this tick, the
tick's levels are compared as it ends. -/
def State.edgeAll (s : State) (kind num l0 n : Nat) (rise : Bool) : State :=
  forUpTo (fun l st =>
    if st.laneOn l && (st.lane l).remap.isNone then
      forUpTo (fun p s2 => if s2.portMap l p = (kind, num) then s2.portEdge l p rise (kind == 1) else s2) 0 8 st
    else st) l0 n s

/-- GP_PIN_EDGE: the synchronised level of a GP pin changes in this tick (R365). -/
def execGpPinEdge (pin : Nat) (level : Bool) (s : State) : Host.Outcome State Fault Refusal :=
  .next (
    if 96 ≤ pin ∨ s.padLevel pin = level then s
    else { s with lan := { s.lan with pads := Tbl.insert pin (level, s.tb) s.lan.pads } }.edgeAll 1 pin 0 64 level)

/-- R367: an event line takes a level in this tick. -/
def State.setLine (s : State) (c k : Nat) (level : Bool) : State :=
  if s.lineLevel c k = level then s
  else { s with lan := { s.lan with lines := Tbl.insert (5 * c + k) (level, s.tb) s.lan.lines } }.edgeAll 2 k (8 * c) 8 level

/-- R367: one start, end or edge of a lane-bound output takes effect in its pin time. -/
def State.laneItemFire (s : State) (it : FireItem) : State :=
  if 56 ≤ it.out ∧ it.out < 96 then
    let o := it.out - 56
    s.setLine (o / 5) (o % 5) (match it.kind with
      | .pulseStart => true
      | .pulseEnd => false
      | .edge l => l)
  else s

/-- R363, R406: as a tick ends in which a commit changed the port map of a lane, each of its ports whose level is not that of the tick
before takes its edge (DEDUCED, note 46). -/
def State.remapEdges (s : State) (l : Nat) : State :=
  if (s.lane l).remap.isNone then s
  else
    let s1 := forUpTo (fun p st =>
      let v := st.portLevel l p
      if st.portBefore l p = v then st
      else st.portEdge l p v (decide ((st.portMap l p).1 = 1) && decide ((st.portState l p).2 = st.tb))) 0 8 s
    s1.setLane l { s1.lane l with remap := none }

/-! ### Counter wraps and compare matches (R351, R354 to R359) -/

/-- R357: the shadow of a compare moves to the live value, unchecked; CI falls when a valid pair arrives, and another invalid one is
reported anew (R359) (DEDUCED, note 44). -/
def CmpUnit.move (c : CmpUnit) : CmpUnit :=
  if c.staged then { c with live := c.shadow, liveBad := c.shadowBad, staged := false, ci := c.ci && c.shadowBad, told := false } else c

/-- R354, R359: the comparison of compare n with the count of its counter after a step in tick t (DEDUCED, note 44). -/
def State.compareOne (s : State) (l n count t : Nat) : State :=
  let k := s.lane l
  let c := k.cmp n
  if c.liveBad then
    (if c.told then s else (s.setLane l (k.setCmp n { c with ci := true, told := true })).report 0x5803 l)
  else if c.live = count then s.setLane l (k.setCmp n { c with hit := true, last := some t }) else s

/-- R350, R351: a counter makes a step. -/
def Counter.step (c : Counter) : Counter :=
  if c.clr then { c with v := 0, clr := false } else { c with v := (c.v + 1) % 0x100000000 }

/-- R351: the next step of a counter wraps. -/
def Counter.wraps (c : Counter) : Bool := c.clr || decide (c.v = 0xFFFFFFFF)

/-- R350: counter n of a lane steps at the end of this tick. -/
def State.stepsNow (s : State) (l n : Nat) : Bool :=
  let v := s.ctCfg l n
  bit v 15 && (match bits v 14 12 with
    | 0 => true
    | 1 => s.portLevel l (bits v 2 0)
    | 2 => !(s.portLevel l (bits v 2 0))
    | _ => ((s.lane l).ctr n).edge)

/-- R352: a load of counter n that lands in this tick replaces the result of its step. -/
def Lane.loads (k : Lane) (n t : Nat) : Bool :=
  k.land.any (fun p => decide (p.1 ≤ t) && (match p.2 with
    | .ctr m _ => m == n
    | .ctrHalf m _ _ => m == n
    | _ => false))

/-- R351, R352: the step of counter n as this tick ends is a wrap (DEDUCED, note 44). -/
def State.wrapsNow (s : State) (l n : Nat) : Bool :=
  let k := s.lane l
  s.stepsNow l n && (k.ctr n).wraps && !(k.loads n s.tb)

/-- COUNTER_WRAP's effect, ahead of the step's comparisons: STAGED shadows of the counter move, a CASC counter steps with it (R350,
R357). Where the counter does not wrap as this tick ends, nothing happens. -/
def State.wrapNow (s : State) (l n : Nat) : State :=
  if !(s.wrapsNow l n) then s
  else
    let mv := fun m (q : Lane) => if s.cmpSrc l m = n ∧ s.cmpStaged l m = true then q.setCmp m (q.cmp m).move else q
    let k := mv 1 (mv 0 (s.lane l))
    s.setLane l (if n = 0 ∧ bits (s.ctCfg l 1) 14 12 = 6 then { k with ct1 := { k.ct1 with edge := true } } else k)

/-- COMPARE_MATCH's effect: the match of compare n in the step of the tick before (R351, R357, R358, R360, R369) (DEDUCED, note 44). -/
def State.matchDone (s : State) (l n : Nat) : State :=
  let k := s.lane l
  let c := k.cmp n
  if !c.hit then s
  else
    let c1 := { c with hit := false }
    let k1 := k.setCmp n (if s.cmpStaged l n then c1.move else c1)
    let clears := fun m => decide (bits (s.ctCfg l m) 11 10 = n + 1)
    let k2 := if clears 0 then { k1 with ct0 := { k1.ct0 with clr := true } } else k1
    let k3 := if clears 1 then { k2 with ct1 := { k2.ct1 with clr := true } } else k2
    let act := bits (s.cmpCfg l n) 2 1
    let k4 := if act = 0 then k3 else { k3 with acts := k3.acts ++ [(bits (s.cmpCfg l n) 5 3, act)] }
    let s1 := s.setLane l k4
    let trg := fun m (st : State) =>
      if bits (st.capCfg l m) 7 5 = 4 + n then st.capAppend l m (st.capValue l m (s.tb - 1)) (s.tb - 1) else st
    (trg 1 (trg 0 s1)).vecEvent l n 0 (s.tb - 1)

/-- All that the matches of the tick before still have to bring at a lane (DEDUCED, note 44). -/
def State.laneSettle (s : State) (l : Nat) : State := (s.matchDone l 0).matchDone l 1

/-- COMPARE_MATCH: the compare of a lane matched in the step of the tick before. -/
def execCompareMatch (lane cmp : Nat) (s : State) : Host.Outcome State Fault Refusal :=
  .next (if cmp < 2 then s.matchDone lane cmp else s)

/-- COUNTER_WRAP: the step of a lane's counter as this tick ends wraps. -/
def execCounterWrap (lane ctr : Nat) (s : State) : Host.Outcome State Fault Refusal :=
  .next (if ctr < 2 then (s.laneSettle lane).wrapNow lane ctr else s)

/-! ### Landing (R341, R352, R356 to R358, R400) -/

/-- One half of a 32-bit value replaced. -/
def withHalf (old : Nat) (high : Bool) (v : Nat) : Nat :=
  if high then v % 65536 * 65536 + old % 65536 else old / 65536 * 65536 + v % 65536

/-- The list with an element replaced. -/
def setNth (l : List Nat) (i v : Nat) : List Nat := mapIdxFrom (fun j x => if j = i then v else x) 0 l

/-- R356, R357: a compare written, its live value or its shadow; a valid write clears CI (R359). -/
def CmpUnit.write (c : CmpUnit) (shadow : Bool) (v : Nat) : CmpUnit :=
  if shadow then { c with shadow := v, staged := true, shadowBad := false }
  else { c with live := v, liveBad := false, ci := false, told := false }

/-- A lane's own field written; `staged` is the mode of the compare concerned. -/
def Lane.landed (k : Lane) (staged : Bool) : LaneWrite → Lane
  | .g n v => { k with g := Tbl.put 0 n (toWord v) k.g }
  | .flags f => { k with fl := f }
  | .ctr n v => k.setCtr n { k.ctr n with v := v % 0x100000000 }
  | .ctrHalf n h v => k.setCtr n { k.ctr n with v := withHalf (k.ctr n).v h v }
  | .cmpHalf n h v => k.setCmp n ((k.cmp n).write staged (withHalf (if staged then (k.cmp n).shadow else (k.cmp n).live) h v))
  | .cmpSet n sh v => k.setCmp n ((k.cmp n).write sh (v % 0x100000000))
  | .latch p v => { k with latch := setBit k.latch p v }
  | .latches v => { k with latch := v % 256 }
  | .pop n => k.setCap n (k.cap n).tail
  | .shHalf h v => { k with sh := withHalf k.sh h v }
  | .sc v => { k with sc := min (v % 64) 32 }
  | .sa v => { k with sa := v % 65536 }
  | .da v => { k with da := v % 65536 }
  | .cnt v => { k with cnt := v % 65536 }
  | .pc v => { k with pc := v % 4096 }
  | .push v => { k with stack := v % 4096 :: k.stack.take 7, depth := min (k.depth + 1) 8 }
  | .popStack => { k with stack := k.stack.drop 1 ++ [0], depth := k.depth - 1 }
  | .high i v => { k with high := Tbl.put 0 i v k.high }
  | .endService => { k with insvc := k.insvc.tail }
  | .halt => { k with st := .halted }
  | .mem _ _ => k
  | .run _ _ => k

/-- A word of a cluster memory, by its address from 0x80_0000. -/
def State.lanWord (s : State) (a : Nat) : Nat := (Tbl.get 0xFFFF#16 a s.lan.mem).toNat

/-- R346: what an outside-port read of a cluster memory word does besides delivering it: 0x5802, whose AUX names the cluster and, there
being no lane, a free lane number (R636). -/
def State.lanTouch (s : State) (a : Nat) : State :=
  if s.lan.parity.contains a then
    let (v, s1) := s.freeVal
    s1.report 0x5802 (8 * (a / 0x2000) + v % 8)
  else s

/-- A word of a cluster memory stored; its parity is formed anew (R346). -/
def State.lanStore (s : State) (a v : Nat) : State :=
  { s with lan := { s.lan with mem := Tbl.put 0xFFFF#16 a (toWord v) s.lan.mem
                               parity := s.lan.parity.filter (· != a) } }.deltaFrame (0x800000 + a) [toWord v]

/-- R343: the address from 0x80_0000 of instruction word i and of data word j of a lane's cluster. -/
def iAddr (l i : Nat) : Nat := 0x2000 * (l / 8) + i % 4096
def dAddr (l j : Nat) : Nat := 0x2000 * (l / 8) + 0x1000 + j

/-- One write of a lane lands (DESIGN CHOICE, note 43). -/
def State.landOne (s : State) (l : Nat) (w : LaneWrite) : State :=
  match w with
  | .mem a v => s.lanStore (dAddr l a) v
  | .run n b => s.setFlag (Reg.LAN_CTCFG0 + n % 2) l 15 b
  | .cmpHalf n h v => s.setLane l ((s.lane l).landed (s.cmpStaged l n) (.cmpHalf n h v))
  | w => s.setLane l ((s.lane l).landed false w)

/-- Writes landed in order (DESIGN CHOICE, note 43). -/
def State.landAll (s : State) (l : Nat) (ws : List LaneWrite) : State := ws.foldl (fun st w => st.landOne l w) s

/-- R358: a compare action on a port latch (DESIGN CHOICE, note 43). -/
def Lane.act (k : Lane) (a : Nat × Nat) : Lane :=
  { k with latch := setBit k.latch a.1 (match a.2 with
      | 1 => true
      | 2 => false
      | _ => !(bit k.latch a.1)) }

/-- R356: the comparisons at the end of this tick for compare n: against the value before the tick's landings, `old`, and after
them. -/
def State.compareTick (s : State) (l n : Nat) (old : CmpUnit) : State :=
  let k := s.lane l
  let count := (k.ctr (s.cmpSrc l n)).v
  if !old.liveBad && decide (old.live = count) && decide (old.live ≠ (k.cmp n).live) then
    s.setLane l (k.setCmp n { k.cmp n with hit := true, last := some s.tb })
  else s.compareOne l n count s.tb

/-- The end of this tick at one lane: counters step, writes land, comparisons are made, compare actions and captures of port
edges follow, and a HALT takes effect as its lane cycle ends. -/
def State.laneTick (s : State) (l : Nat) : State :=
  let s0 := (((s.laneSettle l).remapEdges l).wrapNow l 0).wrapNow l 1
  let step0 := s0.stepsNow l 0
  let step1 := s0.stepsNow l 1
  let k := s0.lane l
  let k1 := if step0 then { k with ct0 := k.ct0.step } else k
  let k2 := if step1 then { k1 with ct1 := k1.ct1.step } else k1
  let due := (k2.land.filter (fun p => decide (p.1 ≤ s.tb))).map (·.2)
  let k3 := { k2 with land := k2.land.filter (fun p => !(decide (p.1 ≤ s.tb)))
                      ct0 := { k2.ct0 with edge := false }, ct1 := { k2.ct1 with edge := false } }
  let s1 := (s0.setLane l k3).landAll l due
  let stepped := fun n => if s1.cmpSrc l n = 0 then step0 else step1
  let s2 := if stepped 0 then s1.compareTick l 0 k.cmp0 else s1
  let s3 := if stepped 1 then s2.compareTick l 1 k.cmp1 else s2
  let k4 := s3.lane l
  let s4 := s3.setLane l { (k4.acts.foldl Lane.act k4) with acts := [], trig := [], old := none }
  let s5 := k4.trig.foldl (fun st t => st.capAppend l t.1 (st.capValue l t.1 t.2) s.tb) s4
  let k5 := s5.lane l
  if k5.stop && decide (s.laneClock l % 4 = 3) then
    s5.setLane l { k5 with stop := false, wait := none, rep := none, st := if k5.st = .running then .halted else k5.st }
  else s5

/-! ### Lane state from outside (R347, R373 to R375, R382) -/

/-- R342: WAITING. -/
def Lane.waiting (k : Lane) (t : Tick) : Bool :=
  match k.wait with
  | some w => decide (w.from_ + 4 ≤ t)
  | none => false

/-- R342: the STATE code of a lane. -/
def Lane.stateCode (k : Lane) (t : Tick) : Nat :=
  match k.st with
  | .halted => 0
  | .faulted => 3
  | .running => if t < k.runFrom then (if k.wasFaulted then 3 else 0) else if k.waiting t then 2 else 1

/-- R347: the value of a lane state item. -/
def State.laneItem (s : State) (l item : Nat) : Nat :=
  let k := s.lane l
  if item < 8 then k.reg item
  else match item with
    | 0x08 => k.ct0.v
    | 0x09 => k.ct1.v
    | 0x0A => k.cmp0.live
    | 0x0B => k.cmp1.live
    | 0x0C => k.cmp0.shadow
    | 0x0D => k.cmp1.shadow
    | 0x0E => k.cap0.headD 0
    | 0x0F => k.cap1.headD 0
    | 0x10 => k.sh
    | 0x11 => k.sc
    | 0x12 => k.sa
    | 0x13 => k.da
    | 0x14 => k.cnt
    | 0x15 => k.fl.word
    | 0x16 => k.depth * 4096 + k.pc
    | 0x17 => k.latch * 256 + s.portLevels l
    | n => nth 0 k.stack (n - 0x18)

/-- The lane that LAN_SEL names (DEDUCED, note 46). -/
def State.laneSel (s : State) : Nat := 8 * s.fld Reg.LAN_SEL 0 6 4 + s.fld Reg.LAN_SEL 0 2 0

/-- R375, R382: a read of LAN_RDL in the tick in which it acts: the item is captured, and LAN_RDH then returns its high half. -/
def State.rdlRead (s : State) (l item : Nat) : State :=
  let s1 := s.laneSettle l
  let v := s1.laneItem l item
  (s1.setCfg Reg.LAN_RDL l (v % 65536)).setCfg Reg.LAN_RDH l (v / 65536)

/-- LAN_RDL_READ: a read of LAN_RDL reaches the cluster island; it acts at the start of the next lane cycle (R375, R382). -/
def execLanRdlRead (s : State) : Host.Outcome State Fault Refusal :=
  .next (
    let l := s.laneSel
    if s.laneOn l then s.later (s.cycleNext l) (.rdlRead l (s.fld Reg.LAN_RSEL l 4 0)) else s)

/-- R374: whether a lane stands still, HALTED or FAULTED. -/
def State.laneStill (s : State) (l : Nat) : Bool := (s.lane l).stateCode s.tb == 0 || (s.lane l).stateCode s.tb == 3

/-- R374, R375: a write of an item from outside in the tick in which it acts; none when it is rejected whole. `v` is 32 bits
(DEDUCED, note 45). -/
def State.outsideWrite (s : State) (l item v : Nat) : Option State :=
  let k := s.lane l
  let now := fun w => some (s.landOne l w)
  let late := fun w => some (s.setLane l { k with land := k.land ++ [(s.tb, w)] })
  let still := fun w => if s.laneStill l then now w else none
  let low := v % 65536
  if item < 8 then now (.g item low)
  else match item with
    | 0x08 => late (.ctr 0 v)
    | 0x09 => late (.ctr 1 v)
    | 0x0A => late (.cmpSet 0 false v)
    | 0x0B => late (.cmpSet 1 false v)
    | 0x0C => late (.cmpSet 0 true v)
    | 0x0D => late (.cmpSet 1 true v)
    | 0x0E => none
    | 0x0F => none
    | 0x10 => if s.laneStill l then some (s.setLane l { k with sh := v % 0x100000000 }) else none
    | 0x11 => still (.sc low)
    | 0x12 => still (.sa low)
    | 0x13 => still (.da low)
    | 0x14 => still (.cnt low)
    | 0x15 => still (.flags (flagsOf low))
    | 0x16 => if low / 4096 = k.depth ∨ low / 4096 = 0 then still (.pc low) else none
    | 0x17 =>
      if low % 256 = 0 ∨ low % 256 = s.portLevels l then
        some (s.setLane l { k with latch := low / 256, old := some (k.old.getD k.latch) })
      else none
    | n => if n < 0x20 ∧ s.laneStill l = true then some (s.setLane l { k with stack := setNth k.stack (n - 0x18) (low % 4096) }) else none

/-- LAN_RDL_WRITE: a write of LAN_RDL, with LAN_RDH as its high half, reaches the cluster island; it acts at the start of the next lane
cycle (R374, R375, R382). -/
def execLanRdlWrite (value : Word) (s : State) : Host.Outcome State Fault Refusal :=
  .next (
    let l := s.laneSel
    if s.laneOn l then
      s.later (s.cycleNext l) (.rdlWrite l (s.fld Reg.LAN_RSEL l 4 0) (value.toNat + 65536 * s.cfg Reg.LAN_RDH l))
    else s)

/-- R373: a lane command with OP in [14:13]; none when it is rejected whole (DEDUCED, note 45). -/
def State.laneCmd (s : State) (v : Nat) : Option State :=
  let l := s.laneSel
  let k := s.lane l
  let code := k.stateCode s.tb
  if bit v 12 || !(s.laneOn l) then none
  else match bits v 14 13 with
    | 1 => if code = 1 ∨ code = 2 then some (s.setLane l { k with stop := true }) else none
    | 2 =>
      if (code = 0 ∨ code = 3) ∧ s.lan.filling.contains (l / 8) = false then
        some (s.setLane l { k with
          st := .running, runFrom := s.cycleNext l, wasFaulted := decide (code = 3), next := s.cycleNext l
          pc := bits v 11 0, stack := List.replicate 8 0, depth := 0, fl := {}, pend := [], insvc := [], rep := none
          wait := none, stop := false
          sh := if bit v 15 then k.sh else 0, sc := if bit v 15 then k.sc else 0 })
      else none
    | 3 =>
      if code = 0 ∧ bits v 11 0 = 0 ∧ bit v 15 = false then
        some (s.setLane l { k with st := .running, runFrom := s.cycleNext l, wasFaulted := false, next := s.cycleNext l
                                   stop := false })
      else none
    | _ => none

/-- LAN_CMD_HALT: LAN_CMD with OP HALT (R373). -/
def execLanCmdHalt (value : Word) (s : State) : Host.Outcome State Fault Refusal :=
  .next (if bits value.toNat 14 13 = 1 then (s.laneCmd value.toNat).getD s else s)

/-- LAN_CMD_START: LAN_CMD with OP START (R344, R373). -/
def execLanCmdStart (value : Word) (s : State) : Host.Outcome State Fault Refusal :=
  .next (if bits value.toNat 14 13 = 2 then (s.laneCmd value.toNat).getD s else s)

/-- LAN_CMD_CONTINUE: LAN_CMD with OP CONTINUE (R373). -/
def execLanCmdContinue (value : Word) (s : State) : Host.Outcome State Fault Refusal :=
  .next (if bits value.toNat 14 13 = 3 then (s.laneCmd value.toNat).getD s else s)

/-- LAN_CLR: the named sticky bits of the selected lane become 0; a reserved bit rejects the write (R382). -/
def execLanClr (value : Word) (s : State) : Host.Outcome State Fault Refusal :=
  .next (
    let v := value.toNat
    let l := s.laneSel
    let k := s.lane l
    if 8 ≤ v ∨ s.laneOn l = false then s
    else s.setLane l { k with cov0 := k.cov0 && (!(bit v 2) || s.keptBit Reg.LAN_CLR l 2)
                              cov1 := k.cov1 && (!(bit v 1) || s.keptBit Reg.LAN_CLR l 1)
                              vov := k.vov && (!(bit v 0) || s.keptBit Reg.LAN_CLR l 0) })

/-- R382: LAN_LSTAT of a lane. -/
def State.laneStat (s : State) (l : Nat) : Nat :=
  let k := s.lane l
  let used := Tbl.get .free (l / 8) s.lan.spare == Spare.used (l % 8)
  k.stateCode s.tb * 16384 + b2n used * 8192 + b2n k.cmp0.ci * 4096 + b2n k.cmp1.ci * 2048 +
    b2n k.cov0 * 1024 + b2n k.cov1 * 512 + b2n k.vov * 256 + k.fcode % 256

/-! ### Spares (R376 to R380, R385) -/

/-- The spare of a cluster. -/
def State.spare (s : State) (c : Nat) : Spare := Tbl.get .free c s.lan.spare

/-- The spare of a cluster set. -/
def State.setSpare (s : State) (c : Nat) (v : Spare) : State :=
  { s with lan := { s.lan with spare := Tbl.put .free c v s.lan.spare } }

/-- R385: LAN_SPSTAT of a cluster. -/
def Spare.word : Spare → Nat
  | .free => 0
  | .idle k => 0x4000 + k
  | .now k => 0x4000 + k
  | .auto k => 0x4000 + k
  | .used k => 0x8000 + k

/-- The lane that a pending takeover names, with its mode. -/
def Spare.pending : Spare → Option Nat
  | .idle k => some k
  | .now k => some k
  | .auto k => some k
  | _ => none

/-- R376: a spare command of the selected cluster; none when it is rejected whole. -/
def State.spareCmd (s : State) (v : Nat) : Option State :=
  let c := s.fld Reg.LAN_SEL 0 6 4
  let k := bits v 2 0
  if bits v 13 3 ≠ 0 ∨ s.domOn (laneDom c) = false then none
  else match bits v 15 14 with
    | 1 => if s.spare c = .free then some (s.setSpare c (.idle k)) else none
    | 2 => if s.spare c = .free then some (s.setSpare c (.now k)) else none
    | 3 => if k = 0 ∧ (s.spare c).pending.isSome = true then some (s.setSpare c .free) else none
    | _ => none

/-- SPARE_IDLE: LAN_SPCMD with OP IDLE (R376). -/
def execSpareIdle (value : Word) (s : State) : Host.Outcome State Fault Refusal :=
  .next (if bits value.toNat 15 14 = 1 then (s.spareCmd value.toNat).getD s else s)

/-- SPARE_NOW: LAN_SPCMD with OP NOW (R376). -/
def execSpareNow (value : Word) (s : State) : Host.Outcome State Fault Refusal :=
  .next (if bits value.toNat 15 14 = 2 then (s.spareCmd value.toNat).getD s else s)

/-- SPARE_CANCEL: LAN_SPCMD with OP CANCEL (R376). -/
def execSpareCancel (value : Word) (s : State) : Host.Outcome State Fault Refusal :=
  .next (if bits value.toNat 15 14 = 3 then (s.spareCmd value.toNat).getD s else s)

/-- The head of a capture FIFO set to 0, where it has one. -/
def zeroHead : List Nat → List Nat
  | [] => []
  | _ :: t => 0 :: t

/-- R379: the lane item whose parity failed set to 0. -/
def Lane.zeroItem (k : Lane) (item : Nat) : Lane :=
  if item < 8 then { k with g := Tbl.put 0 item 0 k.g }
  else match item with
    | 0x08 => { k with ct0 := { k.ct0 with v := 0 } }
    | 0x09 => { k with ct1 := { k.ct1 with v := 0 } }
    | 0x0A => { k with cmp0 := { k.cmp0 with live := 0 } }
    | 0x0B => { k with cmp1 := { k.cmp1 with live := 0 } }
    | 0x0C => { k with cmp0 := { k.cmp0 with shadow := 0 } }
    | 0x0D => { k with cmp1 := { k.cmp1 with shadow := 0 } }
    | 0x0E => { k with cap0 := zeroHead k.cap0 }
    | 0x0F => { k with cap1 := zeroHead k.cap1 }
    | 0x10 => { k with sh := 0 }
    | 0x11 => { k with sc := 0 }
    | 0x12 => { k with sa := 0 }
    | 0x13 => { k with da := 0 }
    | 0x14 => { k with cnt := 0 }
    | 0x15 => { k with fl := {} }
    | 0x16 => { k with pc := 0, depth := 0 }
    | 0x17 => { k with latch := 0, old := some (k.old.getD k.latch) }
    | n => { k with stack := setNth k.stack (n - 0x18) 0 }

/-- R377: the takeover lane cycle of lane k executes no instruction and tests no wait condition. -/
def Lane.takeover (k : Lane) (t : Tick) : Lane :=
  match k.wait with
  | some w => { k with wait := some { w with test := t + 4 } }
  | none => if k.next ≤ t then { k with next := t + 4 } else k

/-- R379: an automatic takeover: the spare starts at LAN_REC. -/
def State.autoStart (s : State) (l : Nat) : State :=
  let k := s.lane l
  let k1 := match k.badItem with
    | some i => { (k.zeroItem i) with badItem := none }
    | none => k
  s.setLane l { k1 with
    st := .running, runFrom := s.cycleNext l, wasFaulted := true, next := s.cycleNext l, pc := s.fld Reg.LAN_REC l 11 0
    wait := none, rep := none
    g := Tbl.put 0 1 0x0040 (Tbl.put 0 0 (toWord k.fpc) k1.g) }

/-- SPARE_TAKEOVER: in this lane cycle of lane k the spare of a cluster takes it over (R376, R377, R379, R380). -/
def execSpareTakeover (cluster : Nat) (s : State) : Host.Outcome State Fault Refusal :=
  .next (
    match s.spare cluster with
    | .idle k =>
      let l := 8 * cluster + k
      let q := s.lane l
      if s.laneCycle l && decide (q.stateCode s.tb ≠ 1) then
        ((s.setLane l (q.takeover s.tb)).setSpare cluster (.used k)).report 0x3804 l
      else s
    | .now k =>
      let l := 8 * cluster + k
      if s.laneCycle l then ((s.setLane l ((s.lane l).takeover s.tb)).setSpare cluster (.used k)).report 0x3804 l else s
    | .auto k =>
      let l := 8 * cluster + k
      if s.laneCycle l then ((s.autoStart l).setSpare cluster (.used k)).report 0x3804 l else s
    | _ => s)

/-! ### Cluster memories (R343 to R346, R407) -/

/-- R343: the cluster and the offset of an address of a lane memory; none where it is reserved. -/
def lanMemAddr (addr : Nat) : Option Nat :=
  if 0x800000 ≤ addr ∧ addr < 0x810000 ∧ (addr - 0x800000) % 0x2000 < 0x1800 then some (addr - 0x800000) else none

/-- R407: a lane of the word's cluster is WAITING in a SHIFT and this is the word at its pc, or, under REP, the SHIFT's (DEDUCED,
note 45). -/
def State.shiftHolds (s : State) (a : Nat) : Bool :=
  (List.range 8).any (fun k =>
    let l := 8 * (a / 0x2000) + k
    let q := s.lane l
    match q.wait with
    | some w =>
      (match w.for_ with
        | .shift _ _ _ _ => q.waiting s.tb && (decide (a = iAddr l q.pc) || q.rep.isSome && decide (a = iAddr l (q.pc + 1)))
        | _ => false)
    | none => false)

/-- MEMORY_FILL_DONE: the memory fill of a cluster ends: every word holds 0xFFFF, and START is accepted (R344). -/
def execMemoryFillDone (cluster : Nat) (s : State) : Host.Outcome State Fault Refusal :=
  .next (
    if s.lan.filling.contains cluster then
      { s with lan := { s.lan with
          mem := s.lan.mem.filter (fun p => decide (p.1 / 0x2000 ≠ cluster))
          parity := s.lan.parity.filter (fun a => decide (a / 0x2000 ≠ cluster))
          filling := s.lan.filling.filter (· != cluster) } }
    else s)

/-- R386, R640: the lanes, spare and event lines of a cluster as after reset; the memories are unchanged. -/
def State.clusterReset (s : State) (c : Nat) : State :=
  { s with lan := { s.lan with
      lane := s.lan.lane.filter (fun p => decide (p.1 / 8 ≠ c))
      spare := Tbl.erase c s.lan.spare
      lines := s.lan.lines.filter (fun p => decide (p.1 / 5 ≠ c)) } }

/-- R382: LAN_PLVL m. -/
def State.padWord (s : State) (m : Nat) : Nat :=
  forUpTo (fun n acc => acc + b2n (s.padLevel (16 * m + n)) * 2 ^ n) 0 16 0

end Sys2Proof.Machine
end

