-- ==== Sys2Proof/Machine/Dma.lean ====
section
/-! DEFINITION. DMA channels and descriptor rings (15_dma.md). -/

namespace Sys2Proof.Machine

/-- A DMA channel. -/
def State.chan (s : State) (c : Nat) : Chan := Tbl.get {} c s.dma.ch
/-- A DMA channel set. -/
def State.setChan (s : State) (c : Nat) (v : Chan) : State := { s with dma := { s.dma with ch := Tbl.put {} c v s.dma.ch } }
/-- The channel that DMA_CSEL names. -/
def State.chanSel (s : State) : Nat := s.cfg Reg.DMA_CSEL 0

/-! ### Descriptors (R478 to R482) -/

/-- R478: the address of descriptor i of channel c. -/
def descAddr (c i : Nat) : Nat := 0x30000 + 2048 * c + 8 * i

/-- R480: DMA may write this range of the Lattice. -/
def dmaWritable (a n : Nat) : Bool :=
  decide (a + n ≤ 0x14800) || (decide (0x15000 ≤ a) && decide (a + n ≤ 0x16000)) ||
    (decide (0x18000 ≤ a) && decide (a + n ≤ 0x30000)) || (decide (0x44000 ≤ a) && decide (a + n ≤ 0x80000))

/-- R480: the range is one that a descriptor of this direction may name. -/
def rangeOk (dirIn : Bool) (a n : Nat) : Bool := if dirIn then dmaWritable a n else decide (a + n ≤ 0x80000)

/-- The fields of twin-word 0 of a descriptor (R479). -/
def dOwn (d : List Nat) : Bool := bit (nth 0 d 0) 15
def dBar (d : List Nat) : Bool := bit (nth 0 d 0) 14
def dIrq (d : List Nat) : Bool := bit (nth 0 d 0) 13
def dSg (d : List Nat) : Bool := bit (nth 0 d 0) 12
def dPace (d : List Nat) : Bool := bit (nth 0 d 0) 11
def dKeep (d : List Nat) : Bool := bit (nth 0 d 0) 10
def dTwin (d : List Nat) : Bool := bit (nth 0 d 0) 9
def dIn (d : List Nat) : Bool := bit (nth 0 d 0) 8
def dPeer (d : List Nat) : Nat := bits (nth 0 d 0) 7 4
def dLaddr (d : List Nat) : Nat := nth 0 d 1 + 65536 * bits (nth 0 d 2) 2 0
def dPaddr (d : List Nat) : Nat := nth 0 d 3 + 65536 * bits (nth 0 d 4) 15 8
def dLen (d : List Nat) : Nat := nth 0 d 5

/-- R480: n words from PADDR on lie within one memory of one cluster (R343). -/
def peerMemOk (p n : Nat) : Bool :=
  match lanMemAddr p with
  | some o => if o % 0x2000 < 0x1000 then decide (o % 0x2000 + n ≤ 0x1000) else decide (o % 0x2000 + n ≤ 0x1800)
  | none => false

/-- R480: the fields of a descriptor. STAT is 0, or 1 in a descriptor that its own DONE write-back left owned (KEEP) (DEDUCED, note 50). -/
def descOk (d : List Nat) : Bool :=
  let st := bits (nth 0 d 6) 15 12
  decide (nth 0 d 0 % 16 = 0) && decide (dPeer d < 4) && decide (nth 0 d 2 < 8) && decide (nth 0 d 4 % 256 = 0) &&
  decide (nth 0 d 6 % 0x800 = 0) && decide (nth 0 d 7 = 0) && (decide (st = 0) || (decide (st = 1) && dKeep d)) &&
  (if dPeer d = 0 then !(dTwin d) else decide (nth 0 d 3 = 0) && decide (nth 0 d 4 = 0)) &&
  (if dSg d then decide (dLen d = 0) && decide (dLaddr d % 4 = 0) && inGeneral (dLaddr d) 4
   else decide (1 ≤ dLen d) && (decide (dPeer d ≠ 0) || peerMemOk (dPaddr d) (dLen d)) && rangeOk (dIn d) (dLaddr d) (dLen d))

/-- R482: the ranges of a list from address a on, at most `fuel` entries; or the status it fails with. -/
def State.sgList (s : State) (dirIn : Bool) (a : Nat) : Nat → List (Nat × Nat) → Nat ⊕ List (Nat × Nat)
  | 0, _ => .inl 3
  | n + 1, acc =>
    if !(inGeneral a 4) then .inl 3
    else if !(s.latOkN a 4) then .inl 4
    else
      let w := s.latVals a 4
      let at_ := nth 0 w 0 + 65536 * bits (nth 0 w 1) 2 0
      let len := nth 0 w 2
      if bits (nth 0 w 1) 14 3 ≠ 0 ∨ nth 0 w 3 ≠ 0 ∨ len = 0 ∨ rangeOk dirIn at_ len = false then .inl 3
      else if bit (nth 0 w 1) 15 then .inr (acc ++ [(at_, len)])
      else s.sgList dirIn (a + 4) n (acc ++ [(at_, len)])

/-- The values of a list of ranges in all. -/
def rangesLen (l : List (Nat × Nat)) : Nat := l.foldl (fun n r => n + r.2) 0

/-! ### Write-back and errors (R489 to R491) -/

/-- R489: the write-back of the descriptor in work with a STAT and a residue: twin-word 7, then 6, then 0 (DEDUCED, note 50). -/
def State.dmaWriteBack (s : State) (c stat residue : Nat) : State :=
  let v := s.chan c
  let a := descAddr c v.idx
  let d0 := nth 0 v.desc 0
  let own := decide (stat = 1) && dKeep v.desc
  let s1 := (s.latPut (a + 7) (residue % 65536)).latPut (a + 6) (stat * 4096 + b2n v.par * 2048)
  let s2 := s1.latPut a (if own then d0 else d0 % 0x8000)
  if stat ≠ 1 ∨ dIrq v.desc = true then s2.countArrival (0x080 + c) else s2

/-- R489, R491: an error status with the values not delivered (DEDUCED, note 50). -/
def State.dmaError (s : State) (c stat residue code : Nat) : State :=
  let s1 := (s.dmaWriteBack c stat residue).report code c
  let v := s1.chan c
  let s2 := s1.setChan c { v with st := .error, fetch := false, stopP := false, kickP := false, abort := false
                                  errStat := stat, errIdx := v.idx }
  { s2 with dma := { s2.dma with errors := satInc 255 s2.dma.errors } }.hit Reg.DMA_CNT 0 8

/-- R483, R486, R489: DONE: the next descriptor is read, or a pending STOP or ABORT stops the channel. -/
def State.dmaDone (s : State) (c : Nat) : State :=
  let s1 := (s.dmaWriteBack c 1 0).paceFrom 2 c
  let v := s1.chan c
  let stop := v.stopP || v.abort
  s1.setChan c { v with st := if stop then .stopped else .idle, fetch := !stop, stopP := false, abort := false
                        kickP := if stop then false else v.kickP
                        idx := (v.idx + 1) % max 1 (s1.cfg Reg.DMA_CCFG c) }

/-- R492, R493: ABORTED with its residue; the channel stops. -/
def State.dmaAborted (s : State) (c residue : Nat) : State :=
  let s1 := s.dmaWriteBack c 2 residue
  let v := s1.chan c
  let s2 := s1.setChan c { v with st := .stopped, fetch := false, stopP := false, kickP := false, abort := false
                                  errStat := 2, errIdx := v.idx }
  { s2 with dma := { s2.dma with aborts := satInc 255 s2.dma.aborts } }.hit Reg.DMA_CNT 0 0

/-- R483: a descriptor that has its credit, or needs none, begins to move. -/
def State.dmaBegin (s : State) (c : Nat) : State :=
  let v := s.chan c
  if dPace v.desc then
    if 1 ≤ v.pcnt then s.setChan c { v with st := .moving, pcnt := v.pcnt - 1, satRep := false }
    else s.setChan c { v with st := .credit }
  else s.setChan c { v with st := .moving }

/-! ### Commands (R492, R493) -/

/-- R492: a channel command is in a state the table allows: IDLE, CREDIT, MOVING or BARRIER. -/
def Chan.working (v : Chan) : Bool :=
  match v.st with
  | .stopped => false
  | .error => false
  | _ => true

/-- R492, R495: a write of DMA_CCMD; none where it is rejected whole. CLRCRED keeps the credits of this tick (DEDUCED, note 76). -/
def State.dmaCmd (s : State) (w : Nat) : Option State :=
  let c := s.chanSel
  let v := s.chan c
  match w with
  | 1 => if v.working then none
      else some (s.setChan c { v with st := .idle, fetch := true, stopP := false, kickP := false, abort := false })
  | 2 =>
    if !v.working then none
    else match v.st with
      | .idle => some (s.setChan c (if v.fetch then { v with kickP := true } else { v with fetch := true }))
      | _ => some (s.setChan c { v with kickP := true })
  | 3 =>
    if !v.working then none
    else match v.st with
      | .idle => some (s.setChan c { v with st := .stopped, fetch := false, kickP := false })
      | .credit => some (s.setChan c { v with st := .stopped, fetch := false, kickP := false })
      | _ => some (s.setChan c { v with stopP := true })
  | 4 =>
    if !v.working then none
    else match v.st with
      | .idle => some (s.setChan c { v with st := .stopped, fetch := false, stopP := false, kickP := false })
      | .credit => some (s.dmaAborted c v.total)
      | _ => some (s.setChan c { v with abort := true })
  | 5 => some (s.setChan c { v with pcnt := min v.pcnt (s.hitCount Reg.DMA_CPCNT c 0), satRep := false })
  | _ => none

/-- DMA_START: DMA_CCMD with OP START (R492). -/
def execDmaStart (value : Word) (s : State) : Host.Outcome State Fault Refusal :=
  .next (if value.toNat = 1 then (s.dmaCmd 1).getD s else s)

/-- KICK: DMA_CCMD with OP KICK (R484) (DEDUCED, note 50). -/
def execKick (value : Word) (s : State) : Host.Outcome State Fault Refusal :=
  .next (if value.toNat = 2 then (s.dmaCmd 2).getD s else s)

/-- STOP: DMA_CCMD with OP STOP (R492). -/
def execStop (value : Word) (s : State) : Host.Outcome State Fault Refusal :=
  .next (if value.toNat = 3 then (s.dmaCmd 3).getD s else s)

/-- ABORT: DMA_CCMD with OP ABORT (R493). -/
def execAbort (value : Word) (s : State) : Host.Outcome State Fault Refusal :=
  .next (if value.toNat = 4 then (s.dmaCmd 4).getD s else s)

/-- CLRCRED: DMA_CCMD with OP CLRCRED (R492). -/
def execClrcred (value : Word) (s : State) : Host.Outcome State Fault Refusal :=
  .next (if value.toNat = 5 then (s.dmaCmd 5).getD s else s)

/-- DMA_CNT_CLR: the named counts become 0; a reserved bit rejects the write (R495). -/
def execDmaCntClr (value : Word) (s : State) : Host.Outcome State Fault Refusal :=
  .next (
    let v := value.toNat
    if 4 ≤ v then s
    else { s with dma := { s.dma with errors := if bit v 1 then s.kept Reg.DMA_CNT 0 8 255 else s.dma.errors
                                      aborts := if bit v 0 then s.kept Reg.DMA_CNT 0 0 255 else s.dma.aborts } })

/-! ### Running a descriptor (R483 to R488) -/

/-- R490: a twin-word of the descriptor is invalid: nothing is written back. -/
def State.dmaBadDesc (s : State) (c : Nat) : State :=
  let v := s.chan c
  let s1 := ((s.setChan c { v with st := .error, fetch := false, stopP := false, kickP := false, errStat := 4, errIdx := v.idx }).countArrival
    (0x080 + c)).report 0x5A11 c
  { s1 with dma := { s1.dma with errors := satInc 255 s1.dma.errors } }.hit Reg.DMA_CNT 0 8

/-- DESCRIPTOR_FETCH: the read of channel `channel`'s descriptor returns and is checked (R483, R484, R490). The residue of a list
that fails is a free value: no total is stated for it. -/
def execDescriptorFetch (channel : Nat) (s : State) : Host.Outcome State Fault Refusal :=
  .next (
    let v := s.chan channel
    if v.fetch = false then s
    else
      let a := descAddr channel v.idx
      let s1 := s.latTouchN a 8
      if !(s1.latOkN a 8) then s1.dmaBadDesc channel
      else
        let d := s1.latVals a 8
        if !(dOwn d) then s1.setChan channel { v with fetch := v.kickP, kickP := false }
        else
          let s2 := s1.setChan channel { v with fetch := false, desc := d, moved := 0, total := dLen d, par := false
                                                ranges := [(dLaddr d, dLen d)] }
          if !(descOk d) then s2.dmaError channel 3 (dLen d) 0x4A13
          else if dSg d then
            let s3 := s2.latTouchN (dLaddr d) 4
            match s3.sgList (dIn d) (dLaddr d) 64 [] with
            | .inl st =>
              let (f, s4) := s3.freeVal
              s4.dmaError channel st f (if st = 4 then 0x5A12 else 0x4A13)
            | .inr l =>
              if 65535 < rangesLen l ∨ (dPeer d = 0 ∧ peerMemOk (dPaddr d) (rangesLen l) = false) then
                let (f, s4) := s3.freeVal
                s4.dmaError channel 3 f 0x4A13
              else (s3.setChan channel { s3.chan channel with ranges := l, total := rangesLen l }).dmaBegin channel
          else s2.dmaBegin channel)

/-- PACING_CREDIT: the oldest credit on its way reaches channel `channel` (R486) (DEDUCED, note 50). -/
def execPacingCredit (channel : Nat) (s : State) : Host.Outcome State Fault Refusal :=
  .next (match takeFirst (· == channel) s.dma.credits with
    | some (c, rest) =>
      let s1 := { s with dma := { s.dma with credits := rest } }
      let v := s1.chan c
      if 255 ≤ v.pcnt then
        (if v.satRep then s1 else (s1.setChan c { v with satRep := true }).report 0x2A14 c)
      else
        let s2 := (s1.setChan c { v with pcnt := v.pcnt + 1, satRep := false }).hit Reg.DMA_CPCNT c 0
        if v.st = .credit then s2.dmaBegin c else s2
    | none => s)

/-- What one value of a burst comes to: moved; no word or no room; an error. -/
inductive MoveResult where
  | moved (s : State)
  | wait
  | bad (stat code : Nat) (s : State)

/-- R483, R489: the peer of channel c is there. -/
def State.peerThere (s : State) (d : List Nat) : Bool :=
  match dPeer d with
  | 0 => (match lanMemAddr (dPaddr d) with | some o => s.domOn (laneDom (o / 0x2000)) | none => false)
  | 3 => s.domOn 11 && s.twn.link
  | _ => true

/-- The words that a peer stream or link has for this device. -/
def State.peerWords (s : State) (peer : Nat) : List Word :=
  if peer = 1 then s.cmd.p0.srx else if peer = 2 then s.cmd.p1.srx else s.twn.dmaRx

/-- The peer's words after n were taken. -/
def State.peerTake (s : State) (peer n : Nat) : State :=
  if peer = 1 then { s with cmd := { s.cmd with p0 := { s.cmd.p0 with srx := s.cmd.p0.srx.drop n } } }
  else if peer = 2 then { s with cmd := { s.cmd with p1 := { s.cmd.p1 with srx := s.cmd.p1.srx.drop n } } }
  else { s with twn := { s.twn with dmaRx := s.twn.dmaRx.drop n } }

/-- R547: a device that is SHADOW discards the words its channels place in a stream transmit buffer. -/
def State.peerPut (s : State) (peer : Nat) (ws : List Word) : Option State :=
  if peer = 3 then some (s.twnSend 0x0B ws)
  else if s.twn.shadow && s.twn.paired then some s
  else
    let p := s.port (peer - 1)
    if 512 < p.stx.length + ws.length then none else some (s.setPort (peer - 1) { p with stx := p.stx ++ ws })

/-- One value of channel c moved between Lattice address a and its peer (R481, R491). -/
def State.moveOne (s : State) (c a : Nat) : MoveResult :=
  let v := s.chan c
  let d := v.desc
  if !(s.peerThere d) then .bad 6 0x4A13 s
  else if dIn d then
    if dPeer d = 0 then
      match lanMemAddr (dPaddr d + v.moved) with
      | none => .bad 5 0x4A13 s
      | some o =>
        if s.latLocked a then .bad 5 0x4A13 s
        else
          let s1 := (s.lanTouch o).latPut a (s.lanWord o)
          .moved (if s.lan.parity.contains o then s1.setChan c { s1.chan c with par := true } else s1)
    else
      match s.peerWords (dPeer d), dTwin d with
      | x :: _, false => if s.latLocked a then .bad 5 0x4A13 s else .moved ((s.peerTake (dPeer d) 1).latPut a x.toNat)
      | x :: y :: _, true =>
        if !((TwinWord.mk x y).valid) then .bad 4 0x5A12 (s.peerTake (dPeer d) 2)
        else if s.latLocked a then .bad 5 0x4A13 s
        else .moved ((s.peerTake (dPeer d) 2).latPut a x.toNat)
      | _, _ => .wait
  else
    let s0 := s.latTouch a
    if !(s0.latOk a) then .bad 4 0x5A12 s0
    else
      let x := toWord (s0.latVal a)
      if dPeer d = 0 then
        match lanMemAddr (dPaddr d + v.moved) with
        | none => .bad 5 0x4A13 s0
        | some o => if s0.shiftHolds o then .bad 5 0x4A13 s0 else .moved (s0.lanStore o x.toNat)
      else match s0.peerPut (dPeer d) (if dTwin d then [x, ~~~x] else [x]) with
        | some s1 => .moved s1
        | none => .wait

/-- R485: a burst of at most n values of channel c. -/
def State.burst (s : State) (c : Nat) : Nat → State
  | 0 => s
  | n + 1 =>
    let v := s.chan c
    match v.ranges with
    | [] => s
    | (a, k) :: rest =>
      if k = 0 then { s with dma := s.dma }.setChan c { v with ranges := rest }
      else match s.moveOne c a with
        | .wait => s
        | .bad st code s1 => s1.dmaError c st (v.total - v.moved) code
        | .moved s1 =>
          let w := s1.chan c
          let s2 := s1.setChan c { w with moved := v.moved + 1, ranges := if k = 1 then rest else (a + 1, k - 1) :: rest }
          if v.moved + 1 = v.total then s2 else s2.burst c n

/-- R483: the last value has moved: the barrier, or the write-back. -/
def State.afterBurst (s : State) (c : Nat) : State :=
  let v := s.chan c
  if v.st = .moving ∧ v.moved = v.total then
    (if dBar v.desc then s.setChan c { v with st := .barrier } else s.dmaDone c)
  else s

/-- R485: the first channel in MOVING from channel k on, in round-robin; one that an ABORT has ended starts no burst. -/
def State.nextBurst (s : State) : Nat → Nat → Option Nat
  | _, 0 => none
  | k, n + 1 => if (s.chan (k % 32)).st = .moving ∧ (s.chan (k % 32)).abort = false then some (k % 32) else s.nextBurst (k + 1) n

/-- DMA_BURST: the next channel in MOVING moves a burst of up to 64 values (R485). -/
def execDmaBurst (s : State) : Host.Outcome State Fault Refusal :=
  .next (match s.nextBurst s.dma.turn 32 with
    | some c => ({ s with dma := { s.dma with turn := (c + 1) % 32 } }.burst c 64).afterBurst c
    | none => s)

/-- BARRIER_END: every write of channel `channel`'s descriptor has landed: it is written back DONE, or, where an ABORT ended it with
values left, ABORTED (R488, R493). -/
def execBarrierEnd (channel : Nat) (s : State) : Host.Outcome State Fault Refusal :=
  .next (
    let v := s.chan channel
    match v.st with
    | .barrier => s.dmaDone channel
    | .moving => if v.abort then (if v.moved < v.total then s.dmaAborted channel (v.total - v.moved) else s.dmaDone channel) else s
    | _ => s)

/-! ### Registers (R495) -/

/-- R495: DMA_CSTAT of a channel. -/
def Chan.statWord (v : Chan) : Nat :=
  (match v.st with | .stopped => 0 | .idle => 1 | .credit => 2 | .moving => 3 | .barrier => 4 | .error => 5) * 8192 +
    b2n v.stopP * 4096 + b2n v.kickP * 2048 + v.idx

/-- DMA_ACT m: channels in MOVING or BARRIER. -/
def State.dmaAct (s : State) (m : Nat) : Nat :=
  forUpTo (fun n acc => acc + b2n ((s.chan (16 * m + n)).st == .moving || (s.chan (16 * m + n)).st == .barrier) * 2 ^ n) 0 16 0

end Sys2Proof.Machine
end

