-- ==== Sys2Proof/Machine/Drive.lean ====
section
/-! DEFINITION. The solenoid drive (09_solenoid_drive.md) with its diagnostics (10_ignition_valves_diagnostics.md R328 to R335).
Commands of one tick are given in the order of R282: ends of pulses, then current results, then timers. -/

namespace Sys2Proof.Machine

/-! ### Access -/

/-- A bank of the DRIVE island. -/
def State.bank (s : State) (b : Nat) : Bank := Tbl.get {} b s.drv.banks

/-- A bank set. -/
def State.setBank (s : State) (b : Nat) (v : Bank) : State :=
  { s with drv := { s.drv with banks := Tbl.put {} b v s.drv.banks } }

/-- A boost controller. -/
def State.boost (s : State) (n : Nat) : Boost := if n = 0 then s.drv.boost0 else s.drv.boost1

/-- A boost controller set. -/
def State.setBoost (s : State) (n : Nat) (v : Boost) : State :=
  if n = 0 then { s with drv := { s.drv with boost0 := v } } else { s with drv := { s.drv with boost1 := v } }

/-- R267: the boost controller of a bank. -/
def boostOf (b : Nat) : Nat := if b < 3 then 0 else 1

/-- R22, R640, R642: DRVA (half 0) or DRVB (half 1) counts as on. -/
def State.drvOn (s : State) (half : Nat) : Bool := s.domOn (9 + half) && s.pwr.vgdok && !(bit s.bridge.silent half)

/-- The phase and gates of a bank now. -/
def Bank.now (b : Bank) : Gates := b.hist.headD {}

/-- The phase of a bank now. -/
def Bank.phase (b : Bank) : Phase := b.now.phase

/-- The gates of a bank as they stood in a tick. -/
def gatesAt (t : Tick) : List Gates → Gates
  | [] => {}
  | g :: gs => if g.tick ≤ t then g else gatesAt t gs

/-- The history a bank still needs: everything newer than a tick, and the entry before it. -/
def keepGates (t : Tick) : List Gates → List Gates
  | [] => []
  | g :: gs => if g.tick ≤ t then [g] else g :: keepGates t gs

/-- A bank's phase and gates from tick t on (R277). -/
def Bank.enter (b : Bank) (t : Tick) (ph : Phase) (hsb hsv : Bool) (ls : Low) : Bank :=
  { b with
    hist := keepGates (t - 40) ({ tick := t, phase := ph, hsb := hsb, hsv := hsv, ls := ls } :: b.hist)
    hsvAt := if b.now.hsv = hsv then b.hsvAt else t
    want := none }

/-- The code of a phase (R277). -/
def Phase.code : Phase → Nat
  | .idle => 0 | .boost => 1 | .peak => 2 | .trans1 => 3 | .hold1 => 4 | .trans2 => 5 | .hold2 => 6 | .decay => 7

/-! ### Profiles (R273 to R275, R328, R329) -/

/-- A value of a profile. -/
def pf (p : List Nat) (i : Nat) : Nat := nth 0 p i
/-- BNR. -/
def pfBnr (p : List Nat) : Nat := bits (pf p 0) 15 14
/-- PKSRC. -/
def pfPksrc (p : List Nat) : Bool := bit (pf p 0) 13
/-- TDN1 and TDN2: a fast transition. -/
def pfTdn1 (p : List Nat) : Bool := bit (pf p 0) 12
def pfTdn2 (p : List Nat) : Bool := bit (pf p 0) 11
/-- H2EN. -/
def pfH2 (p : List Nat) : Bool := bit (pf p 0) 10
/-- ECLMAX. -/
def pfEclmax (p : List Nat) : Nat := pf p 21 + 65536 * pf p 22

/-- R329: the diagnostic limits. -/
def diagOk (p : List Nat) : Bool :=
  let w := pf p 16
  let ol := bit w 15
  let sc := bit w 14
  decide (w % 2048 = 0) && decide (pf p 17 < 4096) && decide (pf p 19 < 4096) && decide (pf p 23 = 0) &&
  (if ol then decide (1 ≤ pf p 17) && decide (pf p 17 < pf p 1) && decide (1 ≤ pf p 18) && decide (pf p 18 ≤ pf p 3)
   else decide (pf p 17 = 0) && decide (pf p 18 = 0)) &&
  (if sc then decide (pf p 1 < pf p 19) && decide (pf p 20 < pf p 3) else decide (pf p 19 = 0) && decide (pf p 20 = 0)) &&
  (bit w 13 || !(bit w 12)) &&
  (if bit w 11 then decide (1 ≤ pfEclmax p) else decide (pfEclmax p = 0))

/-- R274: a profile's 32 values are valid (DEDUCED, note 37). -/
def profileOk (p : List Nat) : Bool :=
  let ip := pf p 1
  let i1 := pf p 5
  let i2 := pf p 8
  let ilo := if pfH2 p then i2 - pf p 9 else i1 - pf p 6
  decide (pf p 0 % 1024 = 0) && decide (pfBnr p ≠ 3) && (!(pfPksrc p) || decide (pfBnr p = 0)) &&
  decide (ip < 4096) && decide (pf p 2 < 4096) && decide (i1 < 4096) && decide (pf p 6 < 4096) && decide (i2 < 4096) &&
  decide (pf p 9 < 4096) && decide (pf p 10 < 256) && decide (pf p 11 < 256) && decide (pf p 12 < 128) &&
  decide (pf p 13 < 4096) && decide (pf p 14 = 0) && decide (pf p 15 = 0) && (p.drop 24).all (fun v => v == 0) &&
  decide (1 ≤ ip) && decide (1 ≤ pf p 2) && decide (pf p 2 < ip) &&
  decide (1 ≤ pf p 6) && decide (pf p 6 < i1) && decide (i1 < ip) &&
  (if pfH2 p then decide (1 ≤ pf p 9) && decide (pf p 9 < i2) && decide (i2 < i1) && decide (1 ≤ pf p 7)
   else decide (pf p 7 = 0) && decide (i2 = 0) && decide (pf p 9 = 0)) &&
  decide (1 ≤ pf p 3) && decide (pf p 3 ≤ pf p 4) &&
  decide (40 ≤ pf p 10) && decide (40 ≤ pf p 11) && decide (20 ≤ pf p 12) && decide (pf p 12 ≤ 95) &&
  decide (1 ≤ pf p 13) && decide (pf p 13 < ilo) && diagOk p

/-- R273: the Lattice address of a profile. -/
def profileAddr (n : Nat) : Nat := 0x14000 + 32 * n

/-- R275: profiles n, n + 1, … (k of them) read and checked: the values, or the first failing profile and whether it failed R9. -/
def State.profRead (s : State) : Nat → Nat → List (List Nat) → Except (Nat × Bool) (List (List Nat))
  | _, 0, acc => .ok acc
  | n, k + 1, acc =>
    let a := profileAddr n
    if !(s.latOkN a 32) then .error (n, true)
    else if !(profileOk (s.latVals a 32)) then .error (n, false)
    else s.profRead (n + 1) k (acc ++ [(s.latVals a 32).take 23])

/-- R275: what the DRIVE island makes of the 64 profiles it has read (DEDUCED, note 37). -/
def State.profTake (s : State) : State :=
  match s.profRead 0 64 [] with
  | .ok l => { s with drv := { s.drv with load := some l } }
  | .error (n, true) => { s with drv := { s.drv with load := none, lres := 2, prof := n } }.report 0x5603 n
  | .error (n, false) => { s with drv := { s.drv with load := none, lres := 3, prof := n } }.report 0x4604 n

/-- R275: before it acknowledges a set that writes DRV_PCTL, the DRIVE island reads all 64 profiles (DEDUCED, note 37). -/
def State.drivePrepare (s : State) : State :=
  if s.inClosed Reg.DRV_PCTL 0 then (s.latTouchN (profileAddr 0) 2048).profTake else s

/-- R275: the commit tick of a set that wrote DRV_PCTL: the profiles that were read become the working copies, or GEN keeps the
value it had. -/
def State.profApply (s : State) (oldGen : Nat) : State :=
  match s.drv.load with
  | some l =>
    { s with drv := { s.drv with profs := mapIdxFrom (fun i p => (i, p)) 0 l, loaded := true, lres := 1, load := none } }
  | none => s.setCfg Reg.DRV_PCTL 0 oldGen

/-! ### Diagnostics (R330, R332) -/

/-- R335: one diagnostic by its KIND, counted. -/
def Drive.countDiag (d : Drive) (kind : Nat) : Drive :=
  if kind = 1 then { d with dgOpen := satInc 255 d.dgOpen }
  else if kind = 2 then { d with dgShort := satInc 255 d.dgShort }
  else if kind = 3 then { d with dgPnr := satInc 255 d.dgPnr }
  else if kind = 4 then { d with dgClamp := satInc 255 d.dgClamp }
  else if kind = 5 then { d with dgBnr := satInc 255 d.dgBnr }
  else { d with dgDec := satInc 255 d.dgDec }

/-- R333: the code of a diagnostic (DEDUCED, note 48). -/
def diagCode (kind : Nat) : Nat :=
  if kind = 1 then 0x3607 else if kind = 2 then 0x3608 else if kind = 3 then 0x2609 else if kind = 4 then 0x260A
  else if kind = 5 then 0x2606 else 0x360B

/-- R332: a diagnostic of an output is counted, its tag and kind kept, its flag set, its code reported. -/
def State.diag (s : State) (kind out tag : Nat) (ph : Phase) : State :=
  if !(s.unitHere (out / 4)) then s else
  let d := s.drv.countDiag kind
  let d1 := { d with dgTag := tag, dgInfo := kind * 4096 + ph.code * 512 + out % 32
                     olFlags := if kind = 1 then setBit d.olFlags out true else d.olFlags
                     scFlags := if kind = 2 then setBit d.scFlags out true else d.scFlags }
  let s1 := { s with drv := d1 }.hit (Reg.DRV_DG_CNT0 + (kind - 1) / 2) 0 (if kind % 2 = 1 then 8 else 0)
  let s2 := if kind = 1 then s1.hit Reg.DRV_DG_OL0 0 out else if kind = 2 then s1.hit Reg.DRV_DG_SC0 0 out else s1
  s2.reportCycle (diagCode kind) 0 tag

/-! ### The end of a pulse (R283, R284, R286) -/

/-- The pulse of a bank enters DECAY in this tick, its end tick (R283, R284). -/
def State.toDecay (s : State) (b : Nat) : State :=
  let k := s.bank b
  let s1 := s.setBank b { (k.enter s.drvNow .decay false false .clamp) with
    endTick := s.drvNow, eb := some s.drvNow, dur := none, olWait := false }
  { s1 with drv := { s1.drv with ec := Tbl.put none (4 * b + k.ch) (some s.drvNow) s1.drv.ec } }

/-- R301: the capture of a bank ends. -/
def State.traceEnd (s : State) (b : Nat) : State :=
  match s.drv.trc with
  | some t => if t.bank = b then ({ s with drv := { s.drv with trc := none, trcDone := true } }).setFlag Reg.DRV_TRC_CTL 0 15 false
    else s
  | none => s

/-- D: the regulator returns to IDLE in this tick (R283, R284, R330, R335). -/
def State.decayDone (s : State) (b : Nat) : State :=
  let k := s.bank b
  let s1 := if bit (pf k.prof 16) 11 && decide (pfEclmax k.prof < k.ecl) then s.diag 4 (4 * b + k.ch) k.org.tag .decay else s
  let s2 := { s1 with drv := { s1.drv with dgEcl := k.ecl } }
  (s2.setBank b { (k.enter s.drvNow .idle false false .off) with idleAt := s.drvNow, ch := 0, batt := false }).traceEnd b

/-- An end that reaches a bank's pulse in progress (R277, R283, R330): in DECAY or IDLE it changes no gate. -/
def State.endPulse (s : State) (b : Nat) : State :=
  match (s.bank b).phase with
  | .idle => s
  | .decay => s
  | _ => s.toDecay b

/-! ### Starts (R285 to R295, R300) -/

/-- A start status on its way to the ANGLE island (R292). -/
def State.tellStart (s : State) (out : Nat) (g : Origin) (dropped : Bool) (st delta la : Nat) : State :=
  { s with evq := { s.evq with
      status := s.evq.status ++ [({ out := out, tag := g.tag, dropped := dropped, s := st, delta := delta, la := la }, g)] } }

/-- R291: the bank's BANK_CONFLICT bit. -/
def State.conflict (s : State) (b : Nat) : State :=
  { s with drv := { s.drv with cflag := setBit s.drv.cflag b true } }.hit Reg.DRV_CFLAG 0 b

/-- A waiting start removed. -/
def State.unwait (s : State) (x : Start) : State :=
  { s with drv := { s.drv with waiting := s.drv.waiting.filter (fun y => y != x) } }

/-- R290, R291: a waiting start is dropped with a reason. -/
def State.dropStart (s : State) (x : Start) (reason : Nat) : State :=
  let s0 := s.unwait x
  let s1 := { s0 with drv := { s0.drv with drops := satInc 255 s0.drv.drops, dropTag := x.org.tag, dropReason := reason,
                                           dropOut := x.out } }.hit Reg.DRV_CNT 0 0
  let s2 := if reason = 1 then s1.conflict (x.out / 4) else s1
  (s2.reportCycle 0x4602 0 x.org.tag).tellStart x.out x.org true 0 0 x.la

/-- R299: READY. -/
def State.boostReady (s : State) (n : Nat) : Bool :=
  decide (s.fld (if n = 0 then Reg.DRV_BST0_RDY else Reg.DRV_BST1_RDY) 0 11 0 ≤ (s.boost n).v)

/-- BSTnEN. -/
def State.boostEn (s : State) (n : Nat) : Bool := s.flag Reg.DRV_CTL 0 (8 + n)

/-- R295: a bank is active. -/
def State.bankActive (s : State) (b : Nat) : Bool :=
  s.flag Reg.DRV_CTL 0 b && s.drvOn (boostOf b) && ((s.bank b).readySeen || !(s.boostEn (boostOf b)))

/-- R286: the tick from which a channel is free. -/
def State.chFree (s : State) (out : Nat) : Tick :=
  match Tbl.get none out s.drv.ec with
  | some t => t + 200 * s.fld (Reg.DRV_OFFT0 + out) 0 10 0
  | none => 0

/-- R286: the tick from which a bank whose regulator is IDLE is free. -/
def State.bankFree (s : State) (b : Nat) : Tick :=
  match (s.bank b).eb with
  | some t => max (s.bank b).idleAt (t + 20 * s.fld Reg.DRV_GUARD 0 9 0)
  | none => (s.bank b).idleAt

/-- R288: a start of the same bank that has reached its pin time is ahead of this one. -/
def State.someAhead (s : State) (x : Start) : Bool :=
  s.drv.waiting.any (fun y =>
    decide (y.out / 4 = x.out / 4) && decide (y.p ≤ s.drvNow) && (decide (y.p < x.p) || (decide (y.p = x.p) && decide (y.out < x.out))))

/-- Conditions 1 to 3 of R287 stop a start in tick t, not after this tick (DEDUCED, note 36). -/
def State.blockedIn (s : State) (x : Start) (t : Tick) : Bool :=
  decide ((s.bank (x.out / 4)).phase ≠ .idle) || decide (t < s.chFree x.out) || decide (t < s.bankFree (x.out / 4)) ||
    s.someAhead x

/-- The working copy of a profile (R275). -/
def State.profile (s : State) (n : Nat) : List Nat := Tbl.get [] n s.drv.profs

/-- R300: a start whose profile uses the boost finds the controller disabled or not READY. -/
def State.boostShort (s : State) (x : Start) : Bool :=
  !(pfPksrc (s.profile x.profile)) && !(s.boostEn (boostOf (x.out / 4)) && s.boostReady (boostOf (x.out / 4)))

/-- R330: BOOST_NOT_READY, counted once for a start. -/
def State.noteBnr (s : State) (x : Start) : State :=
  if x.bnr then s
  else
    let s1 := { s with drv := { s.drv with waiting := s.drv.waiting.map (fun y => if y = x then { y with bnr := true } else y) } }
    s1.diag 5 x.out x.org.tag .idle

/-- R301: an armed capture begins with a start on its bank (DESIGN CHOICE, note 42). -/
def State.traceBegin (s : State) (b ch : Nat) : State :=
  if s.flag Reg.DRV_TRC_CTL 0 15 && decide (s.fld Reg.DRV_TRC_CTL 0 14 12 = b) && s.drv.trc.isNone then
    { s with drv := { s.drv with
        trc := some { bank := b, base := s.cfg Reg.DRV_TRC_BASE_LO 0 + 65536 * s.fld Reg.DRV_TRC_BASE_HI 0 2 0
                      dec := s.fld Reg.DRV_TRC_CTL 0 10 8, len := s.fld Reg.DRV_TRC_LEN 0 12 0, seen := 0 }
        trcCh := ch, trcNs := 0 } }
  else s

/-- A start begins in this tick, S (R277, R287, R291, R292). -/
def State.beginStart (s : State) (x : Start) (batt : Bool) : State :=
  let b := x.out / 4
  let late := decide (x.p < s.drvNow) &&
    (x.blocked || decide (x.p < s.chFree x.out) || decide (x.p < s.bankFree b))
  let s0 := s.unwait x
  let k := s0.bank b
  let k1 := (k.enter s.drvNow .boost (!batt) batt .on)
  let s1 := s0.setBank b { k1 with ch := x.out % 4, s := s.drvNow, org := x.org, prof := s.profile x.profile, dur := x.dur
                                   batt := batt, last := none, olDone := false, olWait := false, ecl := 0 }
  let s2 := if late then
      (({ s1 with drv := { s1.drv with delays := satInc 255 s1.drv.delays } }.hit Reg.DRV_CNT 0 8).conflict b).reportCycle
        0x2601 0 x.org.tag
    else s1
  (s2.tellStart x.out x.org false s.drvNow (s.drvNow - x.p) x.la).traceBegin b (x.out % 4)

/-- A start that conditions 1 to 3 of R287 do not stop: R300 decides (R287 condition 4, R290 reason 0x2). -/
def State.boostDecides (s : State) (x : Start) : State :=
  if s.boostShort x then
    let s1 := s.noteBnr x
    let x1 := { x with bnr := true }
    match pfBnr (s.profile x.profile) with
    | 0 => s1.beginStart x1 true
    | 2 => s1.dropStart x1 2
    | _ => s1
  else s.beginStart x (pfPksrc (s.profile x.profile))

/-- The first waiting start of an output that has reached its pin time. -/
def State.waitingOn (s : State) (out : Nat) : Option Start :=
  s.drv.waiting.find? (fun x => decide (x.out = out) && decide (x.p ≤ s.drvNow))

/-- R290: reasons 0x5 and 0x6, which are ahead of every other. -/
def State.cannotStart (s : State) (x : Start) : Option Nat :=
  if !(s.bankActive (x.out / 4)) then some 5 else if !(s.drv.loaded) then some 6 else none

/-- PULSE_START: the waiting start of an output begins where R287 allows it in this tick, or R290 or R300 drops it
(DEDUCED, note 36). -/
def execPulseStart (out : Nat) (s : State) : Host.Outcome State Fault Refusal :=
  .next (match s.waitingOn out with
    | some x =>
      (match s.cannotStart x with
        | some r => s.dropStart x r
        | none =>
          let inTime := match x.w with
            | some w => decide (s.drvNow ≤ x.p + w)
            | none => true
          if s.blockedIn x s.drvNow || !inTime then s else s.boostDecides x)
    | none => s)

/-- R289, R290: whether a start has waited beyond its allowance. -/
def Start.overdue (x : Start) (t : Tick) : Bool :=
  match x.w with
  | some w => decide (x.p + w + 1 ≤ t)
  | none => false

/-- START_DROP_TIMEOUT: a waiting start reaches p + W + 1 and is dropped: reason 0x3 where only the boost stopped it, else 0x1
(DEDUCED, note 36). -/
def execStartDropTimeout (out : Nat) (s : State) : Host.Outcome State Fault Refusal :=
  .next (match s.waitingOn out with
    | some x =>
      if !(x.overdue s.drvNow) then s
      else if (s.cannotStart x).isSome then s.dropStart x ((s.cannotStart x).getD 5)
      else if s.blockedIn x (s.drvNow - 1) || decide ((s.bank (out / 4)).idleAt = s.drvNow) then s.dropStart x 1
      else if s.boostShort x && decide (pfBnr (s.profile x.profile) = 1) then (s.noteBnr x).dropStart { x with bnr := true } 3
      else s.dropStart x 1
    | none => s)

/-- R290: a start on outputs 0 to 23 reaches its pin time: reasons 0x5 and 0x6; else it waits, and whether conditions 1 to 3 of
R287 stop it in this tick is kept (R291). -/
def State.solenoidPin (s : State) (x : Start) : State :=
  match s.cannotStart x with
  | some r => s.dropStart x r
  | none =>
    if s.blockedIn x s.drvNow then
      { s with drv := { s.drv with waiting := s.drv.waiting.map (fun y => if y = x then { y with blocked := true } else y) } }
    else s

/-- R283, R290, R294: an end on outputs 0 to 23 takes effect: a waiting start is dropped with reason 0x4, a pulse in progress on
the channel enters DECAY. -/
def State.solenoidEnd (s : State) (out : Nat) : State :=
  match s.waitingOn out with
  | some x => s.dropStart x 4
  | none => if (s.bank (out / 4)).ch = out % 4 then s.endPulse (out / 4) else s

/-- R295: a bank becomes inactive in this tick (DEDUCED, note 36). -/
def State.bankStop (s : State) (b : Nat) : State :=
  ((s.drv.waiting.filter (fun x => decide (x.out / 4 = b) && decide (x.p ≤ s.drvNow))).foldl (fun st x => st.dropStart x 5) s).endPulse b

/-! ### The regulator (R277 to R284) -/

/-- R277: TRANS1 and TRANS2 begin. -/
def Bank.trans1 (k : Bank) (t : Tick) : Bank := k.enter t .trans1 false false (if pfTdn1 k.prof then .clamp else .on)
def Bank.trans2 (k : Bank) (t : Tick) : Bank := k.enter t .trans2 false false (if pfTdn2 k.prof then .clamp else .on)

/-- R277, R279: BOOST gives way to PEAK, in its off state, or to TRANS1. -/
def Bank.afterBoost (k : Bank) (t : Tick) : Bank :=
  if k.s + 20 * pf k.prof 4 ≤ t then k.trans1 t else k.enter t .peak false false .on

/-- R280, R281: a chopping decision with level and band. -/
def Bank.chop (k : Bank) (t level band code : Nat) : Bank :=
  let g := k.now
  if g.hsv && decide (level ≤ code) then
    (if k.hsvAt + pf k.prof 10 ≤ t then k.enter t g.phase g.hsb false g.ls else { k with want := some false })
  else if !g.hsv && decide (code ≤ level - band) then
    (if k.hsvAt + pf k.prof 11 ≤ t then k.enter t g.phase g.hsb true g.ls else { k with want := some true })
  else k

/-- R277, R280: what a sample decides in a phase other than DECAY. -/
def Bank.onSample (k : Bank) (t code : Nat) : Bank :=
  let p := k.prof
  match k.phase with
  | .boost => if pf p 1 ≤ code then k.afterBoost t else k
  | .peak => k.chop t (pf p 1) (pf p 2) code
  | .trans1 => if code ≤ pf p 5 - pf p 6 then k.enter t .hold1 false true .on else k
  | .hold1 => k.chop t (pf p 5) (pf p 6) code
  | .trans2 => if code ≤ pf p 8 - pf p 9 then k.enter t .hold2 false true .on else k
  | .hold2 => k.chop t (pf p 8) (pf p 9) code
  | _ => k

/-- R552: in a chopping phase HSVx of a unit that the partner owns follows the net as it is sensed. -/
def Bank.follow (k : Bank) (t : Tick) (net : Bool) : Bank :=
  let g := k.now
  if g.hsv = net then k else { (k.enter t g.phase g.hsb net g.ls) with want := none }

/-- R552: what a sample decides in a bank that this device does not drive. -/
def Bank.onSampleAway (k : Bank) (t code : Nat) (net : Bool) : Bank :=
  match k.phase with
  | .peak | .hold1 | .hold2 => k.follow t net
  | _ => k.onSample t code

/-- R330: peak not reached, when BOOST ends at TBMAX in this tick. -/
def State.peakCheck (s : State) (b : Nat) : State :=
  let k := s.bank b
  if bit (pf k.prof 16) 13 && s.unitHere b then s.diag 3 (4 * b + k.ch) k.org.tag .boost else s

/-- R330: the open-load check with the latest sample acted on; true when it sent the pulse to DECAY. -/
def State.openCheck (s : State) (b : Nat) : State × Bool :=
  let k := s.bank b
  match k.last with
  | some c =>
    if c < pf k.prof 17 then
      let s1 := s.diag 1 (4 * b + k.ch) k.org.tag .boost
      let s2 := if k.s + 20 * pf k.prof 3 ≤ s.drvNow then s1.peakCheck b else s1
      ((s2.setBank b { k with olDone := true, olWait := false }).toDecay b, true)
    else (s.setBank b { k with olDone := true, olWait := false }, false)
  | none => (s.setBank b { k with olDone := true, olWait := true }, false)

/-- R330: the open-load check of a bank is due. -/
def State.openDue (s : State) (b : Nat) : Bool :=
  let k := s.bank b
  decide (k.phase = .boost) && bit (pf k.prof 16) 15 && s.unitHere b && !k.olDone && decide (k.s + 20 * pf k.prof 18 ≤ s.drvNow)

/-- OPEN_LOAD_CHECK: a BOOST phase that has reached S + 20 × TOL is checked (R330). -/
def execOpenLoadCheck (bank : Nat) (s : State) : Host.Outcome State Fault Refusal :=
  .next (if s.openDue bank then (s.openCheck bank).1 else s)

/-- R277, R278: the phase timers. -/
def State.timers (s : State) (b : Nat) : State :=
  let k := s.bank b
  let p := k.prof
  match k.phase with
  | .boost =>
    if k.s + 20 * pf p 3 ≤ s.drvNow then
      let (s1, gone) := if s.openDue b then s.openCheck b else (s, false)
      if gone then s1
      else
        let s2 := s1.peakCheck b
        if bit (pf p 16) 12 && s.unitHere b then s2.toDecay b else s2.setBank b ((s2.bank b).afterBoost s.drvNow)
    else s
  | .peak => if k.s + 20 * pf p 4 ≤ s.drvNow then s.setBank b (k.trans1 s.drvNow) else s
  | .trans1 => if pfH2 p && decide (k.s + 20 * (pf p 4 + pf p 7) ≤ s.drvNow) then s.setBank b (k.trans2 s.drvNow) else s
  | .hold1 => if pfH2 p && decide (k.s + 20 * (pf p 4 + pf p 7) ≤ s.drvNow) then s.setBank b (k.trans2 s.drvNow) else s
  | _ => s

/-- PHASE_TIMER: a phase timer of a bank that has expired takes effect in this tick (DESIGN CHOICE, note 5). -/
def execPhaseTimer (bank : Nat) (s : State) : Host.Outcome State Fault Refusal :=
  .next (s.timers bank)

/-- MIN_SWITCH_TIME_EXPIRY: HSVx has kept its state for TMINON or TMINOFF, and the deferred switch is made (R281). -/
def execMinSwitchTimeExpiry (bank : Nat) (s : State) : Host.Outcome State Fault Refusal :=
  .next (
    let k := s.bank bank
    match k.want with
    | some v =>
      if k.hsvAt + (if v then pf k.prof 11 else pf k.prof 10) ≤ s.drvNow then
        s.setBank bank (k.enter s.drvNow k.now.phase k.now.hsb v k.now.ls)
      else s
    | none => s)

/-- R301: the capture's twin-word for the sample held in tick h. -/
def State.traceSample (s : State) (b h code : Nat) : State :=
  match s.drv.trc with
  | some t =>
    if t.bank ≠ b then s
    else
      let g := gatesAt h (s.bank b).hist
      let s1 := { s with drv := { s.drv with trc := some { t with seen := t.seen + 1 } } }
      if t.seen % 2 ^ t.dec = 0 then
        let s2 := s1.latPut (t.base + s1.drv.trcNs) (g.phase.code * 8192 + b2n (g.hsb || g.hsv) * 4096 + code % 4096)
        let s3 := { s2 with drv := { s2.drv with trcNs := s2.drv.trcNs + 1 } }
        if s3.drv.trcNs = t.len then s3.traceEnd b else s3
      else s1
  | none => s

/-- R330: a sample shows a shorted load. -/
def Bank.shorted (k : Bank) (h code : Nat) : Bool :=
  let p := k.prof
  bit (pf p 16) 14 &&
    (decide (pf p 19 ≤ code) ||
      (decide (k.phase = .boost) && decide (h < k.s + 20 * pf p 20) && decide (pf p 1 ≤ code)))

/-- R331: a sample held in tick h, decided in this tick, enters ECL. -/
def Bank.addEcl (k : Bank) (h code : Nat) : Bank :=
  if (gatesAt h k.hist).ls = .clamp then { k with ecl := min (k.ecl + pf k.prof 12 * code) 0xFFFFFFFF } else k

/-- R272, R277 to R283, R330, R331: the decision of the sample held in tick h, which changes the gates in this tick (DEDUCED, note 35). -/
def State.sampleAct (s : State) (b h code : Nat) (net : Bool) : State :=
  let k := (s.bank b).addEcl h code
  let s1 := (s.setBank b { k with last := some code }).traceSample b h code
  let k1 := s1.bank b
  match k1.phase with
  | .idle => s1
  | .decay =>
    if k1.endTick = s.drvNow then s1
    else if code ≤ pf k1.prof 13 then s1.decayDone b else s1
  | ph =>
    if k1.shorted h code && s.unitHere b then (s1.diag 2 (4 * b + k1.ch) k1.org.tag ph).toDecay b
    else if k1.olWait && decide (ph = .boost) then
      let (s2, gone) := s1.openCheck b
      if gone then s2 else s2.setBank b ((s2.bank b).onSample s.drvNow code)
    else s1.setBank b (if s.unitHere b then k1.onSample s.drvNow code else k1.onSampleAway s.drvNow code net)

/-- BANK_CURRENT_RESULT: the sample that a bank's converter held 17 ticks ago takes its effect in this tick (R271, R272). `net` is the
level sensed on HSVx, which counts only where the partner drives the bank (R552) (DEDUCED, note 35). -/
def execBankCurrentResult (bank code : Nat) (net : Bool) (s : State) : Host.Outcome State Fault Refusal :=
  .next (
    let k := s.bank bank
    if 6 ≤ bank ∨ 4096 ≤ code ∨ s.drvNow % 20 ≠ 17 ∨ k.phase = .idle ∨ s.drvNow < k.s + 17 then s
    else s.sampleAct bank (s.drvNow - 17) code net)

/-- R284: the decay of a bank has lasted 65,536 ticks. -/
def Bank.decayLate (k : Bank) (t : Tick) : Bool := decide (k.phase = .decay) && decide (k.endTick + 65536 ≤ t)

/-- DECAY_TIMEOUT: no sample has read ≤ IZERO within 65,536 ticks of the end (R284, R330). -/
def execDecayTimeout (bank : Nat) (s : State) : Host.Outcome State Fault Refusal :=
  .next (
    let k := s.bank bank
    if k.decayLate s.drvNow then (s.diag 6 (4 * bank + k.ch) k.org.tag .decay).decayDone bank else s)

/-! ### Boost controllers (R296 to R299) -/

/-- TGT, HYST and OVP of a controller. -/
def State.boostTgt (s : State) (n : Nat) : Nat := s.fld (if n = 0 then Reg.DRV_BST0_TGT else Reg.DRV_BST1_TGT) 0 11 0
def State.boostHyst (s : State) (n : Nat) : Nat := s.fld (if n = 0 then Reg.DRV_BST0_SW else Reg.DRV_BST1_SW) 0 7 0
def State.boostOvp (s : State) (n : Nat) : Nat := s.fld (if n = 0 then Reg.DRV_BST0_OVP else Reg.DRV_BST1_OVP) 0 11 0
def State.boostTim (s : State) (n : Nat) : Nat := s.cfg (if n = 0 then Reg.DRV_BST0_TIM else Reg.DRV_BST1_TIM) 0

/-- R297: the switching cycle begins when charging begins and BSTGn is at rest. -/
def Boost.kick (c : Boost) (t : Tick) : Boost :=
  if c.chg && decide (c.fet = .rest) then { c with fet := .on, since := t } else c

/-- R297, step 2: BSTGn turns off. -/
def Boost.turnOff (c : Boost) (t : Tick) : Boost :=
  if c.fet = .on then { c with fet := .off, since := t } else c

/-- R295: READY is noted at every enabled bank of a controller (DEDUCED, note 38). -/
def State.noteReady (s : State) (n : Nat) : State :=
  if s.boostEn n && s.boostReady n then
    forUpTo (fun b st => if st.flag Reg.DRV_CTL 0 b then st.setBank b { st.bank b with readySeen := true } else st) (3 * n) 3 s
  else s

/-- R296 to R299: a result of a boost monitor. Every result at or above OVP turns BSTGn off, inhibits the controller and reports
0x3605, whether the controller is enabled or not (R298). A controller whose gate is held in high impedance does not charge (R22)
(DEDUCED, note 38). -/
def State.boostResult (s : State) (n code : Nat) : State :=
  let c := { s.boost n with v := code }
  let low := decide (code ≤ s.boostTgt n - s.boostHyst n)
  let c1 := if low then { c with ovp := false } else c
  let s1 :=
    if s.boostOvp n ≤ code then (s.setBoost n { (c1.turnOff s.drvNow) with ovp := true, chg := false }).report 0x3605 n
    else if s.boostEn n && s.drvOn n then
      if low then s.setBoost n ({ c1 with chg := true }.kick s.drvNow)
      else if s.boostTgt n ≤ code then s.setBoost n { c1 with chg := false }
      else s.setBoost n c1
    else s.setBoost n c1
  s1.noteReady n

/-- R552: BSTGn of a unit that the partner owns follows the net as it is sensed (DEDUCED, note 38). -/
def State.boostFollow (s : State) (n : Nat) (net : Bool) : State :=
  let c := s.boost n
  if s.unitHere (6 + n) then s
  else s.setBoost n { c with fet := if net then .on else .rest, since := s.drvNow }

/-- BOOST_MONITOR_RESULT: the result of the hold 100 ticks ago of a boost monitor or the battery monitor is received (R296). `net` is
the level sensed on BSTGn, which counts only where the partner drives the unit (R552). -/
def execBoostMonitorResult (monitor code : Nat) (net : Bool) (s : State) : Host.Outcome State Fault Refusal :=
  .next (
    if 4096 ≤ code ∨ s.drvNow % 200 ≠ 100 then s
    else if monitor = 2 then { s with drv := { s.drv with vbat := code } }
    else if monitor < 2 ∧ s.domOn (9 + monitor) = true then (s.boostResult monitor code).boostFollow monitor net
    else s)

/-- BOOST_ILIM_REACHED: the voltage across the inductor shunt reaches ILIM: BSTGn turns off (R297). -/
def execBoostIlimReached (ctl : Nat) (s : State) : Host.Outcome State Fault Refusal :=
  .next (if ctl < 2 then s.setBoost ctl ((s.boost ctl).turnOff s.drvNow) else s)

/-- BOOST_TONMAX_EXPIRY: BSTGn has been on for TONMAX and turns off (R297). -/
def execBoostTonmaxExpiry (ctl : Nat) (s : State) : Host.Outcome State Fault Refusal :=
  .next (
    if ctl < 2 ∧ (s.boost ctl).since + 20 * bits (s.boostTim ctl) 15 8 ≤ s.drvNow then s.setBoost ctl ((s.boost ctl).turnOff s.drvNow)
    else s)

/-- BOOST_TOFF_EXPIRY: the off-time of BSTGn is over and the shunt voltage is below 5 mV: the next cycle begins while charging,
else the cycle has ended (R297). -/
def execBoostToffExpiry (ctl : Nat) (s : State) : Host.Outcome State Fault Refusal :=
  .next (
    let c := s.boost ctl
    if ctl < 2 ∧ c.fet = .off ∧ c.since + 20 * bits (s.boostTim ctl) 7 0 ≤ s.drvNow then
      s.setBoost ctl (if c.chg && s.drvOn ctl then { c with fet := .on, since := s.drvNow } else { c with fet := .rest, since := s.drvNow })
    else s)

/-! ### The gates (R270) -/

/-- The states of a gate driver (R270). -/
inductive GatePin where | off | on | clamp | highZ
  deriving DecidableEq, Repr

/-- R22, R270, R641, R642: the drivers of a unit of DRVA (half 0) or DRVB (half 1) are in high impedance. -/
def State.gateFloats (s : State) (unit half : Nat) : Bool := !(s.unitHere unit) || !(s.drvOn half)

/-- A gate with two states, as its driver holds it. -/
def gateOf (floats on : Bool) : GatePin := if floats then .highZ else if on then .on else .off

/-- R270, R277: HSBx, HSVx of a bank. -/
def State.hsbPin (s : State) (b : Nat) : GatePin := gateOf (s.gateFloats b (boostOf b)) (s.bank b).now.hsb
def State.hsvPin (s : State) (b : Nat) : GatePin := gateOf (s.gateFloats b (boostOf b)) (s.bank b).now.hsv

/-- R270, R277: the low-side gate of an output 0 to 23; only the channel in use leaves off. -/
def State.lsPin (s : State) (out : Nat) : GatePin :=
  let k := s.bank (out / 4)
  if s.gateFloats (out / 4) (boostOf (out / 4)) then .highZ
  else if k.ch ≠ out % 4 then .off
  else match k.now.ls with
    | .off => .off
    | .on => .on
    | .clamp => .clamp

/-- R22, R270, R297: BSTGn. -/
def State.bstPin (s : State) (n : Nat) : GatePin := gateOf (s.gateFloats (6 + n) n) (decide ((s.boost n).fet = .on))

/-! ### Registers -/

/-- The trace base (R302, R307). -/
def State.traceBase (s : State) : Nat := s.cfg Reg.DRV_TRC_BASE_LO 0 + 65536 * s.fld Reg.DRV_TRC_BASE_HI 0 2 0

/-- R302, R307: a value of DRV_TRC_CTL is accepted. -/
def State.traceCtlOk (s : State) (v : Nat) : Bool :=
  decide (v % 256 = 0) && !(bit v 11) && decide (bits v 14 12 < 6) && s.drv.trc.isNone &&
    (!(bit v 15) || decide (s.traceBase ≠ 0)) && (s.domOn 9 || s.domOn 10)

/-- A write of DRV_TRC_CTL that has been accepted (DESIGN CHOICE, note 42). -/
def State.traceArm (s : State) (v : Nat) : State :=
  let s1 := s.setCfg Reg.DRV_TRC_CTL 0 v
  if bit v 15 then { s1 with drv := { s1.drv with trcDone := false } } else s1

/-- DRV_TRC_CTL: a write arms a current trace capture; a reserved value, a capture in progress or an unset base rejects it. -/
def execDrvTrcCtl (value : Word) (s : State) : Host.Outcome State Fault Refusal :=
  .next (if s.traceCtlOk value.toNat then s.traceArm value.toNat else s)

/-- DRV_CNT_CLR: the named counts become 0; a reserved bit rejects the write (R305). -/
def execDrvCntClr (value : Word) (s : State) : Host.Outcome State Fault Refusal :=
  .next (
    let v := value.toNat
    if 4 ≤ v then s
    else { s with drv := { s.drv with delays := if bit v 1 then s.kept Reg.DRV_CNT 0 8 255 else s.drv.delays
                                      drops := if bit v 0 then s.kept Reg.DRV_CNT 0 0 255 else s.drv.drops } })

/-- DRV_DG_CLR: the named counts become 0; a reserved bit rejects the write (R335). -/
def execDrvDgClr (value : Word) (s : State) : Host.Outcome State Fault Refusal :=
  .next (
    let v := value.toNat
    if 64 ≤ v then s
    else { s with drv := { s.drv with
        dgOpen := if bit v 5 then s.kept Reg.DRV_DG_CNT0 0 8 255 else s.drv.dgOpen
        dgShort := if bit v 4 then s.kept Reg.DRV_DG_CNT0 0 0 255 else s.drv.dgShort
        dgPnr := if bit v 3 then s.kept (Reg.DRV_DG_CNT0 + 1) 0 8 255 else s.drv.dgPnr
        dgClamp := if bit v 2 then s.kept (Reg.DRV_DG_CNT0 + 1) 0 0 255 else s.drv.dgClamp
        dgBnr := if bit v 1 then s.kept (Reg.DRV_DG_CNT0 + 2) 0 8 255 else s.drv.dgBnr
        dgDec := if bit v 0 then s.kept (Reg.DRV_DG_CNT0 + 2) 0 0 255 else s.drv.dgDec } })

/-- R305: DRV_BSTAT_x. -/
def State.bankStat (s : State) (b : Nat) : Nat :=
  let k := s.bank b
  let g := k.now
  let w := fun c => b2n (s.drv.waiting.any (fun x => decide (x.out = 4 * b + c)))
  b2n (s.bankActive b) * 32768 + g.phase.code * 4096 + (if g.phase = .idle then 0 else k.ch) * 1024 +
    w 3 * 512 + w 2 * 256 + w 1 * 128 + w 0 * 64 + b2n k.batt * 32 + b2n g.hsb * 16 + b2n g.hsv * 8 +
    b2n (g.ls == .on) * 4 + b2n (g.ls == .clamp) * 2

/-- R306: DRV_BSTST. -/
def State.boostStat (s : State) : Nat :=
  b2n s.drv.boost1.ovp * 64 + b2n s.drv.boost1.chg * 32 + b2n (s.boostReady 1) * 16 +
    b2n s.drv.boost0.ovp * 4 + b2n s.drv.boost0.chg * 2 + b2n (s.boostReady 0)

/-- R615: both copies of a working profile fail: the set is unloaded and every pulse in progress enters DECAY. -/
def State.profilesLost (s : State) : State :=
  forUpTo (fun b st => st.endPulse b) 0 6 { s with drv := { s.drv with loaded := false, profs := [] } }

/-- The commit tick: DRV_CTL and DRV_PCTL as they were before it (R275, R295, R297). -/
def State.driveApply (s : State) (oldCtl oldGen : Nat) (wroteGen : Bool) : State :=
  let s1 := if wroteGen then s.profApply oldGen else s
  let ctl := s1.cfg Reg.DRV_CTL 0
  let s2 := forUpTo (fun b st =>
    if bit oldCtl b && !(bit ctl b) then (st.bankStop b).setBank b { (st.bankStop b).bank b with readySeen := false }
    else if !(bit oldCtl b) && bit ctl b then st.setBank b { st.bank b with readySeen := false } else st) 0 6 s1
  forUpTo (fun n st => if bit oldCtl (8 + n) && !(bit ctl (8 + n)) then st.setBoost n { st.boost n with chg := false } else st) 0 2 s2

end Sys2Proof.Machine
end

