-- ==== Sys2Proof/Machine/Ignition.lean ====
section
/-! DEFINITION. Ignition outputs and proportional valves (10_ignition_valves_diagnostics.md). -/

namespace Sys2Proof.Machine

/-! ### Ignition outputs (R309 to R318) -/

/-- An ignition output, 0 to 23. -/
def State.ign (s : State) (n : Nat) : Ign := Tbl.get {} n s.drv.ign

/-- An ignition output set. -/
def State.setIgn (s : State) (n : Nat) (v : Ign) : State :=
  { s with drv := { s.drv with ign := Tbl.put {} n v s.drv.ign } }

/-- An ignition output enters a state in tick t. -/
def Ign.enter (g : Ign) (st : IgnState) (t : Tick) : Ign := { g with st := st, since := t, found := none }

/-- R315: the state in tick t: DWELL until the tick in which the ramp begins. -/
def Ign.now (g : Ign) (t : Tick) : IgnState := if g.st = .ramp ∧ t < g.since then .dwell else g.st

/-- R310, R316: an end reaching the output in tick t makes the spark: in DWELL, and in the tick in which a soft end reaches it too. -/
def Ign.sparks (g : Ign) (t : Tick) : Bool := g.st == .dwell || (g.st == .ramp && decide (t ≤ g.since))

/-- IGN_EN of an output. -/
def State.ignEn (s : State) (n : Nat) : Bool := if n < 16 then s.flag Reg.IGN_EN0 0 n else s.flag Reg.IGN_EN1 0 (n - 16)

/-- R316: a soft end of an output in DWELL, whose ramp begins in tick t. -/
def State.softEnd (s : State) (n t : Nat) : State :=
  let g := s.ign n
  if g.st = .dwell then
    s.setIgn n { (g.enter .ramp t) with rampEnd := t + s.fld Reg.IGN_RAMP 0 7 0 * 20000, dwellFrom := g.since }
  else s

/-- R315: a soft end of every ignition output in DWELL. -/
def State.softEndAll (s : State) (t : Tick) : State := forUpTo (fun n st => st.softEnd n t) 0 24 s

/-- R310, R314, R316: an end reaches an ignition output: the spark, where it is in DWELL. -/
def State.ignEnd (s : State) (n : Nat) : State :=
  let g := s.ign n
  if g.sparks s.drvNow then
    let s1 := s.setIgn n { (g.enter .low s.drvNow) with dur := none }
    let m := s.cfg Reg.IGN_DWMIN 0
    if m ≠ 0 ∧ s.drvNow - (if g.st = .dwell then g.since else g.dwellFrom) < m * 200 then
      { s1 with drv := { s1.drv with shortdwell := satInc 15 s1.drv.shortdwell } }.hit Reg.IGN_CNT 0 4 |>.report 0x2702 (24 + n)
    else s1
  else s

/-- R312: a start on outputs 24 to 55 is dropped with a reason. -/
def State.dropIgn (s : State) (it : FireItem) (reason : Nat) : State :=
  let s1 := { s with drv := { s.drv with ignDrops := satInc 15 s.drv.ignDrops, ignDropTag := it.org.tag,
                                         ignDropReason := reason, ignDropOut := it.out } }.hit Reg.IGN_CNT 0 0
  (s1.reportCycle 0x4704 0 it.org.tag).tellStart it.out it.org true 0 0 it.late

/-- R310 to R312: a start on an ignition output in its pin time (DEDUCED, notes 36, 39). -/
def State.ignStart (s : State) (it : FireItem) : State :=
  let n := it.out - 24
  let g := s.ign n
  if g.now s.drvNow = .ramp then s.dropIgn it 1
  else if !(s.ignEn n) || bit s.drv.ignFlt n || !(s.drvOn 1) then s.dropIgn it 2
  else
    let g1 := if g.st = .low then g.enter .dwell s.drvNow else g
    let g2 := match it.durTicks with
      | some d => { g1 with dur := some (s.drvNow, d) }
      | none => g1
    (s.setIgn n g2).tellStart it.out it.org false s.drvNow 0 it.late

/-- OVERDWELL: an output has been in DWELL for IGN_DWMAX and a soft end begins (R313). -/
def execOverdwell (out : Nat) (s : State) : Host.Outcome State Fault Refusal :=
  .next (
    let n := out - 24
    let g := s.ign n
    if 24 ≤ out ∧ out < 48 ∧ g.st = .dwell ∧ g.since + s.cfg Reg.IGN_DWMAX 0 * 200 ≤ s.drvNow then
      let s1 := s.softEnd n s.drvNow
      { s1 with drv := { s1.drv with overdwell := satInc 255 s1.drv.overdwell } }.hit Reg.IGN_CNT 0 8 |>.report 0x2701 out
    else s)

/-- RAMP_END: the ramp of an output is over and it enters LOW (R316). -/
def execRampEnd (out : Nat) (s : State) : Host.Outcome State Fault Refusal :=
  .next (
    let g := s.ign (out - 24)
    if 24 ≤ out ∧ out < 48 ∧ g.st = .ramp ∧ g.rampEnd ≤ s.drvNow then s.setIgn (out - 24) { (g.enter .low s.drvNow) with dur := none } else s)

/-- SOFT: a write of IGN_CMD; SOFT begins a soft end of every output in DWELL in the next tick (R315); a reserved bit rejects
the write. -/
def execSoft (value : Word) (s : State) : Host.Outcome State Fault Refusal :=
  .next (if value.toNat = 1 ∧ s.domOn 10 = true then s.softEndAll (s.drvNow + 1) else s)

/-- R318: 400 consecutive ticks of this stay, since the latest fault found in it, lie behind. -/
def Ign.runLong (g : Ign) (t : Tick) : Bool :=
  match g.found with
  | some f => decide (f + 400 ≤ t)
  | none => decide (g.since + 399 ≤ t)

/-- IGN_OUTPUT_FAULT: an output in DWELL or LOW has read wrong for 400 consecutive ticks (R318) (DEDUCED, note 39). -/
def execIgnOutputFault (out : Nat) (s : State) : Host.Outcome State Fault Refusal :=
  .next (
    let n := out - 24
    let g := s.ign n
    if 24 ≤ out ∧ out < 48 ∧ (g.st = .dwell ∨ g.st = .low) ∧ s.unitHere 8 = true ∧ g.runLong s.drvNow = true then
      let g1 := if g.st = .dwell then { (g.enter .low s.drvNow) with dur := none } else { g with found := some s.drvNow }
      let s1 := (s.setIgn n g1).hit Reg.IGN_FLT0 0 n
      if bit s.drv.ignFlt n then s1.reportCycle 0x3703 out out
      else { s1 with drv := { s1.drv with ignFlt := setBit s1.drv.ignFlt n true } }.report 0x3703 out
    else s)

/-- IGN_CNT_CLR: the named counts become 0; a reserved bit rejects the write (R336). -/
def execIgnCntClr (value : Word) (s : State) : Host.Outcome State Fault Refusal :=
  .next (
    let v := value.toNat
    if 8 ≤ v then s
    else { s with drv := { s.drv with overdwell := if bit v 2 then s.kept Reg.IGN_CNT 0 8 255 else s.drv.overdwell
                                      shortdwell := if bit v 1 then s.kept Reg.IGN_CNT 0 4 15 else s.drv.shortdwell
                                      ignDrops := if bit v 0 then s.kept Reg.IGN_CNT 0 0 15 else s.drv.ignDrops } })

/-- The bits of the ignition outputs in a state (R336: IGN_DWL, IGN_RMP). -/
def State.ignBits (s : State) (st : IgnState) : Nat :=
  forUpTo (fun n acc => if (s.ign n).now s.drvNow = st then acc + 2 ^ n else acc) 0 24 0

/-- R309, R552: the state that an output's pin shows: HIGH_Z on the inactive twin, whose machine goes on without driving it. -/
def State.ignShown (s : State) (n : Nat) : IgnState :=
  if s.gateFloats 8 1 then .highZ else (s.ign n).now s.drvNow

/-- R309, R316: the level of IGNnn in 64ths of its high level, none in high impedance; in RAMP it falls in 64 equal steps
(DESIGN CHOICE, note 41). -/
def State.ignLevel (s : State) (n : Nat) : Option Nat :=
  match s.ignShown n with
  | .highZ => none
  | .low => some 0
  | .dwell => some 64
  | .ramp => some (64 - 64 * (s.drvNow - (s.ign n).since) / ((s.ign n).rampEnd - (s.ign n).since))

/-- R317: every ignition output goes to high impedance without a soft end; no ramp or dwell goes on. -/
def State.ignFloat (s : State) : State :=
  forUpTo (fun n st => st.setIgn n { ((st.ign n).enter .highZ s.drvNow) with dur := none }) 0 24 s

/-- The ignition outputs leave high impedance, LOW (R309). -/
def State.ignRelease (s : State) : State :=
  forUpTo (fun n st => if (st.ign n).st = .highZ then st.setIgn n ((st.ign n).enter .low s.drvNow) else st) 0 24 s

/-! ### Valves (R319 to R327) -/

/-- A valve, 0 to 7. -/
def State.valve (s : State) (n : Nat) : Valve := Tbl.get {} n s.drv.valves

/-- A valve set. -/
def State.setValve (s : State) (n : Nat) (v : Valve) : State :=
  { s with drv := { s.drv with valves := Tbl.put {} n v s.drv.valves } }

/-- R321: MODE in effect. -/
def State.vlvMode (s : State) (n : Nat) : Nat := s.fld Reg.VLV_CFG n 1 0

/-- R321, R323: the valve runs the loop. -/
def State.vlvLoop (s : State) (n : Nat) : Bool :=
  decide (s.vlvMode n = 2) || (decide (s.vlvMode n = 3) && s.flag Reg.VLV_CFG n 2)

/-- R322: the on-time of a period of `per` × 800 ticks at duty d; 0 stands for off throughout, the whole period for on throughout. -/
def tonOf (per d : Nat) : Nat :=
  let ton := per * 800 * d / 65536
  if ton < 40 then 0 else if per * 800 - ton < 40 then per * 800 else ton

/-- R324: iset_d of a period. -/
def State.isetD (s : State) (n dith : Nat) : Nat :=
  let i := s.cfg Reg.VLV_ISET n
  let dp := s.fld Reg.VLV_CFG n 7 4
  let da := s.fld Reg.VLV_CFG n 15 8
  if s.flag Reg.VLV_CFG n 3 then
    (if (if dp = 0 then 0 else dith / dp) % 2 = 0 then min 4095 (i + da) else i - da)
  else i

/-- R322 to R324: a period of a valve begins in tick t; `loop` is the loop's duty. -/
def State.vlvBegin (s : State) (n t loop dith : Nat) : State :=
  let v := s.valve n
  let dmax := s.cfg Reg.VLV_DMAX n
  let d := min (if s.vlvLoop n then loop else s.cfg Reg.VLV_DUTY n) dmax
  let per := s.fld Reg.VLV_PER n 11 0
  s.setValve n { v with run := true, start := t, per := per, dmax := dmax, d := d, gate := decide (tonOf per d ≠ 0)
                        ocOff := none, iset := s.isetD n dith, sum := 0, dith := dith }

/-- A valve's periods stop and its gate is off. -/
def State.vlvStop (s : State) (n : Nat) : State :=
  s.setValve n { s.valve n with run := false, gate := false, ocOff := none, pulse := false, dur := none, d := 0 }

/-- R323, R324: the first period after a mode takes effect, or of an angle pulse, begins in tick t. -/
def State.vlvFirst (s : State) (n t : Nat) : State := s.vlvBegin n t ((s.valve n).integ / 256) 0

/-- R22, R640: the valves' periods run: DRVB is on and not silent. While VGD is low their gates alone are in high impedance (R642)
(DEDUCED, note 39). -/
def State.vlvLive (s : State) : Bool := s.domOn 10 && !(bit s.bridge.silent 1)

/-- R321, R323: MODE takes effect in this tick. -/
def State.vlvModeChange (s : State) (n : Nat) : State :=
  let s1 := s.vlvStop n
  let s2 := s1.setValve n { s1.valve n with integ := 0, ocRun := 0, olRun := 0, satRun := 0 }
  if (s2.vlvMode n = 1 ∨ s2.vlvMode n = 2) ∧ (s2.valve n).latch = false ∧ s2.vlvLive = true then s2.vlvFirst n s.drvNow else s2

/-- R311, R312, R325: a start on a valve in its pin time (DEDUCED, note 39). -/
def State.vlvStart (s : State) (it : FireItem) : State :=
  let n := it.out - 48
  let v := s.valve n
  if v.latch || !(s.drvOn 1) then s.dropIgn it 2
  else if s.vlvMode n ≠ 3 then s.dropIgn it 3
  else
    let timed := it.durTicks.map (fun d => (s.drvNow, d))
    let s1 := if v.pulse then s.setValve n { v with dur := timed.or v.dur } else
      let s0 := s.vlvFirst n s.drvNow
      s0.setValve n { s0.valve n with pulse := true, dur := timed }
    s1.tellStart it.out it.org false s.drvNow 0 it.late

/-- R325: an end reaches a valve: the gate of an angle pulse turns off. -/
def State.vlvEnd (s : State) (n : Nat) : State := if (s.valve n).pulse then s.vlvStop n else s

/-- VALVE_CURRENT_RESULT: the sample held in this tick enters the period's sum and is checked for overcurrent (R320, R323,
R326). A sample belongs to the period in which it is held; its decision turns the gate off in tick hold + 40 (DEDUCED, note 35). -/
def execValveCurrentResult (valve code : Nat) (s : State) : Host.Outcome State Fault Refusal :=
  .next (
    let v := s.valve valve
    if 8 ≤ valve ∨ 4096 ≤ code ∨ s.drvNow % 800 ≠ 100 * valve + 50 ∨ v.run = false ∨ s.drvNow < v.start then s
    else
      let oc := decide (s.fld Reg.VLV_IOC valve 11 0 ≤ code) && s.unitHere 9
      s.setValve valve { v with
        sum := v.sum + code
        ocOff := if oc then (match v.ocOff with | some t => some t | none => some (s.drvNow + 40)) else v.ocOff })

/-- VALVE_TON_EXPIRY: the on-time of a period ends and the gate turns off (R322). -/
def execValveTonExpiry (valve : Nat) (s : State) : Host.Outcome State Fault Refusal :=
  .next (
    let v := s.valve valve
    if v.run = true ∧ v.gate = true ∧ v.start + tonOf v.per v.d ≤ s.drvNow then s.setValve valve { v with gate := false } else s)

/-- R323: imean, the mean of the period's samples, ties rounded up. -/
def Valve.mean (v : Valve) : Nat := if v.per = 0 then 0 else (2 * v.sum + v.per) / (2 * v.per)

/-- R323: the loop at the end of a period: the new integ, u, and whether u is at its limit. -/
def Valve.loop (v : Valve) (kp ki : Nat) : Nat × Nat :=
  let e : Int := (v.iset : Int) - v.mean
  let top : Int := (v.dmax * 256 : Nat)
  let i := clampInt 0 top ((v.integ : Int) + ki * e)
  (i.toNat, (clampInt 0 top (i + kp * e)).toNat)

/-- R326: the open-load diagnostic at the end of a period. -/
def State.vlvOpen (s : State) (n m : Nat) : State :=
  let v := s.valve n
  let iol := s.fld Reg.VLV_IOL n 11 0
  let low := decide (iol ≠ 0) && decide (0x2000 ≤ v.d) && decide (m < iol)
  let run := if low then min 8 (v.olRun + 1) else 0
  if iol ≤ m then s.setValve n { v with olRun := run, ol := false }
  else if run = 8 && !v.ol then
    let s1 := s.setValve n { v with olRun := run, ol := true }
    { s1 with drv := { s1.drv with opens := satInc 255 s1.drv.opens } }.hit Reg.VLV_CNT 0 0 |>.reportCycle 0x3705 0 (48 + n)
  else s.setValve n { v with olRun := run }

/-- R326: loop saturation at the end of a period. -/
def State.vlvSat (s : State) (n u : Nat) : State :=
  let v := s.valve n
  let full := decide (u = v.dmax * 256)
  let run := if full then min 64 (v.satRun + 1) else 0
  if !full then s.setValve n { v with satRun := run, sat := false }
  else if run = 64 && !v.sat then (s.setValve n { v with satRun := run, sat := true }).reportCycle 0x2707 0 (48 + n)
  else s.setValve n { v with satRun := run }

/-- R326: overcurrent at the end of a period; true when the valve is latched off (DEDUCED, note 35). -/
def State.vlvOver (s : State) (n : Nat) : State × Bool :=
  let v := s.valve n
  let run := if v.ocOff.isSome then v.ocRun + 1 else 0
  if 4 ≤ run then
    let s1 := s.vlvStop n
    let s2 := s1.setValve n { s1.valve n with latch := true, integ := 0, ocRun := 0 }
    let s3 := ({ s2 with drv := { s2.drv with latches := satInc 255 s2.drv.latches } }.hit Reg.VLV_CNT 0 8).hit Reg.VLV_STAT n 15
    (s3.reportCycle 0x3706 0 (48 + n), true)
  else (s.setValve n { v with ocRun := run }, false)

/-- R322, R323, R326: a period of a valve is over; the next begins where it ends. -/
def State.vlvPeriodEnd (s : State) (n : Nat) : State :=
  let v := s.valve n
  let next := v.start + v.per * 800
  let m := v.mean
  let s0 := s.setValve n { v with imean := m }
  let s1 := if s0.unitHere 9 then s0.vlvOpen n m else s0
  let (s2, u) :=
    if s1.vlvLoop n then
      let (i, u) := (s1.valve n).loop (s1.cfg Reg.VLV_KP n) (s1.cfg Reg.VLV_KI n)
      let t := s1.setValve n { s1.valve n with integ := i }
      (if t.unitHere 9 then t.vlvSat n u else t, u)
    else (s1, 0)
  let (s3, latched) := s2.vlvOver n
  if latched then s3 else s3.vlvBegin n next (u / 256) (v.dith + 1)

/-- VALVE_PERIOD_END: a PWM period ends and the next begins (R322 to R326). -/
def execValvePeriodEnd (valve : Nat) (s : State) : Host.Outcome State Fault Refusal :=
  .next (
    let v := s.valve valve
    if v.run = true ∧ v.start + v.per * 800 ≤ s.drvNow then s.vlvPeriodEnd valve else s)

/-- R327: the latch of a valve is cleared, but for one set in this tick (R15); in DUTY or CURRENT mode its periods start in the next tick (DEDUCED, note 39). -/
def State.vlvUnlatch (s : State) (n : Nat) : State :=
  let v := s.valve n
  if v.latch && !(s.keptBit Reg.VLV_STAT n 15) then
    let s1 := s.setValve n { v with latch := false }
    if (s1.vlvMode n = 1 ∨ s1.vlvMode n = 2) ∧ s1.vlvLive = true then s1.vlvBegin n (s.drvNow + 1) 0 v.dith else s1
  else s

/-- LATCH: a write of VLV_STAT; LATCH clears the selected valve's latch (R327, R337). -/
def execLatch (value : Word) (s : State) : Host.Outcome State Fault Refusal :=
  .next (if bit value.toNat 15 = true ∧ value.toNat % 1024 = 0 ∧ s.domOn 10 = true then s.vlvUnlatch (s.fld Reg.VLV_SEL 0 2 0) else s)

/-- VLV_CNT_CLR: the named counts become 0; a reserved bit rejects the write (R337). -/
def execVlvCntClr (value : Word) (s : State) : Host.Outcome State Fault Refusal :=
  .next (
    let v := value.toNat
    if 4 ≤ v then s
    else { s with drv := { s.drv with latches := if bit v 1 then s.kept Reg.VLV_CNT 0 8 255 else s.drv.latches
                                      opens := if bit v 0 then s.kept Reg.VLV_CNT 0 0 255 else s.drv.opens } })

/-- R270, R319, R322, R326, R642: VLVn. -/
def State.vlvPin (s : State) (n : Nat) : GatePin :=
  let v := s.valve n
  gateOf (s.gateFloats 9 1)
    (v.gate && decide (v.start ≤ s.drvNow) && (match v.ocOff with | some t => decide (s.drvNow < t) | none => true))

/-- The gate of a valve is on in this tick. -/
def State.vlvGate (s : State) (n : Nat) : Bool := s.vlvPin n == .on

/-- R337: VLV_STAT of a valve. -/
def State.vlvStat (s : State) (n : Nat) : Nat :=
  let v := s.valve n
  b2n v.latch * 32768 + b2n v.ol * 16384 + b2n v.sat * 8192 + b2n (s.vlvGate n) * 4096 + s.vlvMode n * 1024

/-- The commit tick: ignition enables that fell, and valve modes that changed (R315, R321). -/
def State.ignVlvApply (s : State) (oldEn0 oldEn1 : Nat) (oldModes : List Nat) : State :=
  let s1 := forUpTo (fun n st =>
    if (if n < 16 then bit oldEn0 n else bit oldEn1 (n - 16)) && !(st.ignEn n) then st.softEnd n s.drvNow else st) 0 24 s
  forUpTo (fun n st => if nth 0 oldModes n ≠ st.vlvMode n then st.vlvModeChange n else st) 0 8 s1

/-! ### Launched items (R23, R49, R310 to R312) -/

/-- One start, end or edge takes effect at the DRIVE island in its launch tick. A start on outputs 0 to 23 is already among the
waiting starts since its message came. -/
def State.driveItem (s : State) (p : Tick) (it : FireItem) : State :=
  if it.out < 24 then
    match it.kind with
    | .pulseStart =>
      (match s.drv.waiting.find? (fun x => decide (x.out = it.out) && decide (x.p = p)) with
        | some x => s.solenoidPin x
        | none => s)
    | .pulseEnd => s.solenoidEnd it.out
    | .edge _ => s
  else if it.out < 48 then
    match it.kind with
    | .pulseStart => s.ignStart it
    | .edge true => s.ignStart it
    | .edge false => s.ignEnd (it.out - 24)
    | .pulseEnd => if it.soft then s.softEnd (it.out - 24) s.drvNow else s.ignEnd (it.out - 24)
  else if it.out < 56 then
    match it.kind with
    | .pulseStart => s.vlvStart it
    | .edge true => s.vlvStart it
    | .edge false => s.vlvEnd (it.out - 48)
    | .pulseEnd => s.vlvEnd (it.out - 48)
  else if it.out = 96 then s.softEndAll s.drvNow
  else s

/-- The items of a fire message, in order (R50); an end is applied before a soft end (R316). -/
def State.driveItems (s : State) (p : Tick) (l : List FireItem) : State :=
  (l.filter (fun it => !it.soft) ++ l.filter (·.soft)).foldl (fun st it => st.driveItem p it) s

/-- R285: the starts on outputs 0 to 23 of a message that reaches the DRIVE island. -/
def startsOf (p : Tick) (l : List FireItem) : List Start :=
  (l.filter (fun it => decide (it.out < 24) && decide (it.kind = .pulseStart))).map (fun it =>
    { out := it.out, org := it.org, profile := it.profile, p := p, w := it.w, la := it.late, dur := it.durTicks,
      blocked := false, bnr := false })

/-- The end of a PULSE in ticks that the DRIVE island times itself has come (R293). -/
def durOver (d : Option (Tick × Nat)) (t : Tick) : Bool :=
  match d with
  | some (s0, n) => decide (s0 + n ≤ t)
  | none => false

/-- PULSE_DUR_EXPIRY: a PULSE in ticks on outputs 0 to 55 reaches S + DUR (R293, R311). -/
def execPulseDurExpiry (out : Nat) (s : State) : Host.Outcome State Fault Refusal :=
  .next (
    if out < 24 then
      let k := s.bank (out / 4)
      if k.ch = out % 4 ∧ durOver (k.dur.map (fun d => (k.s, d))) s.drvNow = true then s.endPulse (out / 4) else s
    else if out < 48 then
      if durOver (s.ign (out - 24)).dur s.drvNow then s.ignEnd (out - 24) else s
    else if out < 56 then
      if durOver (s.valve (out - 48)).dur s.drvNow then s.vlvEnd (out - 48) else s
    else s)

/-! ### Domains (R22, R295, R641) -/

/-- R295, R642: DRVA (half 0) or DRVB (half 1) counts as off from this tick: its banks become inactive and its gates are in high
impedance (DEDUCED, note 39). -/
def State.driveFloat (s : State) (half : Nat) : State :=
  let s1 := forUpTo (fun b st => st.bankStop b) (3 * half) 3 s
  let s2 := s1.setBoost half { s1.boost half with chg := false, fet := .rest }
  if half = 1 then s2.ignFloat else s2

/-- DRVA (half 0) or DRVB (half 1) is switched off in this tick: its banks become inactive; with DRVB the ignition outputs and
valves stop. -/
def State.driveOff (s : State) (half : Nat) : State :=
  if half = 1 then forUpTo (fun n st => st.vlvStop n) 0 8 (s.driveFloat half) else s.driveFloat half

end Sys2Proof.Machine
end

