-- ==== Sys2Proof/Machine/Tangent.lean ====
section
/-! DEFINITION. The Tangent: anchors, prediction, learning, the cycle boundary, tables (05_tangent.md), and what the
synchronisation machine judges at a boundary (04_sync.md R123, R124, R126). -/

namespace Sys2Proof.Machine

/-! ### Cam patterns (R120) -/

/-- Entries used for a cam. -/
def State.camNum (s : State) (n : Nat) : Nat :=
  let a := Reg.SYN_CPNUM01 + n / 2
  if n % 2 = 0 then s.fld a 0 5 0 else s.fld a 0 13 8

/-- CAMPH bit of a cam. -/
def State.camPhase (s : State) (n : Nat) : Bool := s.flag Reg.SYN_CAM_CTL 0 n

/-- The distance of two angles, modulo one cycle. -/
def cauDist (a b : Nat) : Nat := min (cauSub a b) (cauSub b a)

/-- R120: entry i of cam n matches an edge at angle a with a level. -/
def State.camMatch (s : State) (n a : Nat) (lvl : Bool) (i : Nat) : Bool :=
  decide (s.flag Reg.SYN_CPLVL (32 * n + i) 0 = lvl) &&
    decide (cauDist a (s.cfg Reg.SYN_CPANG (32 * n + i) * 256) ≤ s.cfg Reg.SYN_CAMTOL 0 * 256)

/-- The entries of cam n that match an edge. -/
def State.camMatches (s : State) (n a : Nat) (lvl : Bool) : List Nat :=
  (List.range (s.camNum n)).filter (s.camMatch n a lvl)

/-- R123: a cam error. -/
def State.camError (s : State) (n : Nat) : State :=
  { s with sync := { s.sync with camErr := satInc 255 s.sync.camErr, camBadNow := setBit s.sync.camBadNow n true } }.hit Reg.SYN_CNT 0 0

/-- R123: the entries of cam n that no edge matched in the cycle that ends are cam errors. -/
def State.camUnmatched (s : State) (n : Nat) : State :=
  if s.camPhase n then
    ((List.range (s.camNum n)).filter (fun i => !(s.sync.matched.contains (32 * n + i)))).foldl (fun x _ => x.camError n) s
  else s

/-- R123, R124: the bad-cycle count of cam n at a boundary that ends a judged cycle. -/
def State.camJudge (s : State) (n : Nat) : State :=
  if s.camPhase n then
    let c := if bit s.sync.camBadNow n then Tbl.get 0 n s.sync.badRun + 1 else 0
    { s with sync := { s.sync with badRun := Tbl.put 0 n c s.sync.badRun } }
  else s

/-- R124: every phase cam has reached CAMBAD consecutive bad cycles; with no phase cam there is no cam loss (DEDUCED, note 17;
DESIGN CHOICE, note 78). -/
def State.camLost (s : State) : Bool :=
  decide (s.fld Reg.SYN_CAM_CTL 0 3 0 ≠ 0) &&
    (List.range 4).all (fun n => !(s.camPhase n) || decide (s.fld Reg.SYN_CAM_CTL 0 10 8 ≤ Tbl.get 0 n s.sync.badRun))

/-- R123, R124: the cams judged at a boundary, in FULL_SYNC; a cam loss with CAMHOLD = 0 is a condition of R113 (DEDUCED, note 17). -/
def State.camAtB (s : State) : State :=
  let s1 := if s.sync.judged then
      let u := forUpTo (fun n st => st.camUnmatched n) 0 4 s
      let v := if u.sync.camBadNow ≠ 0 then u.reportCycle 0x3203 0 u.sync.pos else u
      forUpTo (fun n st => st.camJudge n) 0 4 v
    else s
  let s2 := { s1 with sync := { s1.sync with judged := true, matched := [], camBadNow := 0 } }
  if s1.sync.judged && s2.camLost then
    if s2.flag Reg.SYN_CTL 0 13 then
      if s2.sync.lossRep then s2
      else { s2 with sync := { s2.sync with lossRep := true } }.report 0x3204 s2.sync.pos
    else s2.found .camLoss
  else if s1.sync.judged then { s2 with sync := { s2.sync with lossRep := false } }
  else s2

/-! ### The cycle boundary (R139) -/

/-- R157: the error statistics of the cycle that ends at b. ELIGIBLE counts as it stands at b (DEDUCED, notes 17, 18; DESIGN CHOICE,
note 79). -/
def State.errorsAtB (s : State) (elig : Bool) : State :=
  let t := s.tan
  let mx := t.curMax.getD (0, 0x1FF)
  let mn := t.curMin.getD (0, 0x1FF)
  let s1 := { s with tan := { t with errMax := clampInt (-32768) 32767 mx.1, errPMax := mx.2
                                     errMin := clampInt (-32768) 32767 mn.1, errPMin := mn.2
                                     curMax := none, curMin := none } }.arrive 0x017
  let lim : Int := s.cfg Reg.ANG_ERR_LIM 0
  if elig && (decide (lim < mx.1) || decide (mn.1 < -lim)) then
    s1.report 0x2105 mx.2
  else s1

/-- R55, R57, R58: an armed set is applied at B + 32 where it was armed in an earlier tick; in a SHADOW, the set whose boundary
notice names the count that B begins (R550). -/
def State.commitAtB (s : State) (b : Tick) : State :=
  let mayApply := if s.isShadow then decide (s.twn.setAt = some s.tan.cyc)
    else s.commit.armed && decide (s.commit.armTick < b)
  if s.commit.pending && s.commit.mode == .cycle && !s.commit.cSent && mayApply then
    { s with twn := { s.twn with setAt := none },
             commit := { s.commit with c := b + 32, cSent := true } }
  else s

/-- R569: the working state that a PRIMARY captures at B_s. -/
def State.imageAt (s : State) (b : Tick) : StateImage :=
  { bs := b, evq := s.evq, g := s.tan.g, gl := s.tan.gl, gPend := s.tan.gPend, offs := s.tan.offs, r := s.tan.r, arc := s.arcs.arc
    drv := s.drv, lane := s.lan.lane, spare := s.lan.spare, ch := s.dma.ch, src := s.irc.src, openRecs := s.irc.openRecs }

/-- R569: the PRIMARY captures the image at B_s, and it goes to the newcomer in a JOIN frame (DESIGN CHOICE, note 59). -/
def State.captureImage (s : State) (b : Tick) : State :=
  { s with image := some (s.imageAt b) }.twnSend 0x0A (twinList [4])

/-- R139: the boundary B of tick b: the cycle count, the queues, the recipe, the statistics, the cams and a commit (DEDUCED, note 24;
DESIGN CHOICE, note 13). -/
def State.boundary (s : State) (b : Tick) : State :=
  let full := s.fullSync
  let aB := s.angleAt b
  let s1 := { (if full then s.newPeriod else s) with
    tan := { s.tan with cyc := (s.tan.cyc + 1) % 256, wrap := none
                        cyct := match s.tan.lastB with
                          | some x => min (b - x) 0xFFFFFFFF
                          | none => 0xFFFFFFFF
                        lastB := some b
                        ripCycs := if full && s.flag Reg.ANG_TCTL 0 13 then satInc 65535 s.tan.ripCycs else s.tan.ripCycs }
    sync := { s.sync with ivalNo := s.sync.ivalNo + 1 }
    twn := s.twn.atB b }
  let s2 := forUpTo (fun o st => st.outAtB b aB s.tan.seg.rate o) 0 96 s1
  let newly := full && !s.sync.eligible
  let s3 := if newly then ({ s2 with sync := { s2.sync with eligible := true } }).keyRange b 0 56 else s2
  let s4 := (s3.swapAt b).rearm b
  let s5 := s4.errorsAtB s.sync.eligible
  let s6 := if full then s5.commitAtB b else s5
  let s7 := s6.later (b + 1) .heads
  let s8 : State := if s.sync.state == .fullSync then s7.camAtB else s7
  if s8.twn.bs = some b then s8.captureImage b else s8

/-- R139: the tick of a forward wrap of the integer angle inside a segment after tick t, if the segment passes 0 CAU. -/
def wrapTick (g : Segment) (t : Tick) : Option Tick :=
  let left := cycleCau - g.a
  if left < g.len then
    let w := g.e + ceilDiv (left * 0x1000000) g.rate
    if t < w then some w else none
  else none

/-- R444, R445: the first of some ticks, up to tick t, in which the angle formed from a feedback port has passed 0 CAU. -/
def State.xWrapOf (s : State) (t : Tick) : List XUpdate → Option Tick
  | [] => none
  | u :: l => if u.from_ ≤ t ∧ s.tan.seg.e + 5 ≤ u.from_ ∧ s.angleAt u.from_ < s.tan.seg.a then some u.from_ else s.xWrapOf t l

/-- R138: the last tick, not after tick t, in which the current segment gives the angle: a vertex whose E + 5 has come takes it over. -/
def State.segUntil (s : State) (t : Tick) : Tick :=
  s.agenda.foldl (fun m w => match w.2 with
    | .vertex _ _ _ => min m (w.1 - 1)
    | _ => m) t

/-- R139: the tick B, not after tick t, in which the angle passed 0 CAU in the current segment, where B has not been counted. -/
def State.wrapBy (s : State) (t0 : Tick) : Option Tick :=
  let t := s.segUntil t0
  if !(s.tan.ast == .running) then none
  else match s.tan.wrap with
    | none => none
    | some w =>
      if s.tan.x.act then s.xWrapOf t s.tan.x.coming
      else match s.tan.x.lostAt with
        | some tf =>
          let b := tf + ceilDiv ((cycleCau - s.tan.seg.a) * 0x1000000 - s.tan.x.off) s.tan.seg.rate
          if s.angleAt t < s.tan.seg.a then some (min t b) else none
        | none => if w ≤ t then some w else none

/-- A boundary that lies before tick t, not yet taken, is taken first, with its own tick (DESIGN CHOICE, note 13). -/
def State.catchUp (s : State) (t : Tick) : State :=
  match s.wrapBy t with
  | some b => s.inTick b (fun st => st.boundary b)
  | none => s

/-- CYCLE_BOUNDARY: the angle wraps forward through 0 CAU inside a segment (R139). The wrap of an anchor belongs to
CRANK_EDGE (DESIGN CHOICE, note 13). -/
def execCycleBoundary (s : State) : Host.Outcome State Fault Refusal := .next (s.catchUp s.tb)

/-! ### Prediction (R144 to R148) -/

/-- R146: B1 of a measured period, held to the 40 bits of its format (DESIGN CHOICE, note 80). -/
def baseOf (p m f : Nat) : Nat := min (roundDiv ((p * 2 ^ 46 : Nat) : Int) ((m * f : Nat) : Int)).toNat (2 ^ 40 - 1)

/-- R146: the predicted period from B1, B2 and the new segment's m and F; Bp holds 40 bits (R144) (DEDUCED, note 18; DESIGN CHOICE,
note 80). -/
def State.predict (s : State) (b1 : Nat) (b2 : Option Nat) (m f : Nat) : Nat :=
  let acc : Int := match b2 with
    | some x => roundDiv ((s.fld Reg.ANG_TCTL 0 3 0 : Nat) * ((b1 : Int) - x)) 8
    | none => 0
  let bp := min (clampInt (roundDiv b1 2) (2 * b1) (b1 + acc)) (2 ^ 40 - 1)
  max 1 (min (roundDiv (bp * ((m * f : Nat) : Int)) ((2 ^ 46 : Nat) : Int)).toNat 0xFFFFFFFF)

/-- R146: RATE of a length and a predicted period (DEDUCED, note 18). -/
def rateOf (len phat : Nat) : Nat :=
  max 1 (min (roundDiv ((len * 0x1000000 : Nat) : Int) (phat : Int)).toNat 0xFFFFFFFF)

/-- The feedback port that ANG_TCTL.XSRC selects, if any. -/
def State.xPort (s : State) : Option (Nat × IncPort) :=
  match s.fld Reg.ANG_TCTL 0 15 14 with
  | 1 => some (0, s.fbk.pA)
  | 2 => some (1, s.fbk.pB)
  | _ => none

/-- R442: the conditions under which the Tangent uses the selected port. -/
def State.xOk (s : State) : Bool :=
  match s.xPort with
  | some (n, p) => decide (1 ≤ s.fld Reg.FBK_CFG n 15 14) && decide (s.cfg Reg.FBK_TLPR n ≠ 0) && p.posok && !p.sigloss
  | none => false

/-- R433: SPD of a port: w in 1/256 line/s, a signed 32-bit number that saturates. -/
def IncPort.spd (p : IncPort) : Int :=
  if p.still then 0 else clampInt (-2147483648) 2147483647 (roundDiv p.w ((2 ^ 56 : Nat) : Int))

/-- R443: RATE and the predicted period from the external source, where the latest speed available in this tick is valid and positive
(DEDUCED, note 23). -/
def State.xRate (s : State) (len : Nat) : Option (Nat × Nat) :=
  let u := s.xLatest s.tan.x.port s.tb
  if u.sval && decide (0 < u.spd) then
    let k : Nat := if s.twoStroke then 2 ^ 40 else 2 ^ 39
    let rate := max 1 (min (roundDiv (u.spd * k) ((s.cfg Reg.FBK_TLPR s.tan.x.port * 200000000 : Nat) : Int)).toNat 0xFFFFFFFF)
    some (rate, max 1 (min (roundDiv ((len * 0x1000000 : Nat) : Int) (rate : Int)).toNat 0xFFFFFFFF))
  else none

/-- R442, R444: the external source taken up or not at the anchor of a vertex with stamp e (DEDUCED, note 23). -/
def State.xAnchor (s : State) (e : Tick) : State :=
  let n := match s.xPort with
    | some p => p.1
    | none => s.tan.x.port
  { s with tan := { s.tan with x := { s.tan.x with act := s.xOk, port := n, ref := (s.xLatest n e).pos, off := 0, lostAt := none } } }

/-- The segment that begins at a vertex with stamp e, position p and half h, with anchor angle a, base periods b1 and b2
(DEDUCED, note 23). -/
def State.segmentAt (s : State) (e p a : Nat) (h : Bool) (b1 : Nat) (b2 : Option Nat) : Segment :=
  let m := s.segM p
  let f := s.shapeF p h
  let q := s.nextPos p
  let len := cauSub (s.anchor q (s.halfAfter p h)) (s.anchor p h)
  let ph := s.predict b1 b2 m f
  let (rate, phat) := if s.tan.x.act then (s.xRate len).getD (rateOf len ph, ph) else (rateOf len ph, ph)
  { e := e, a := a, len := len, rate := rate, phat := phat, m := m, f := f, pos := p, half := h }

/-! ### Learning (R153 to R155) -/

/-- R153: sat(v, L), and whether it limited v. -/
def satSym (v l : Int) : Int × Bool :=
  let c := clampInt (-l) l v
  (c, decide (c ≠ v))

/-- The teeth, and so the segments, of one revolution (R104). -/
def State.teeth (s : State) : Nat := s.wheelN - s.wheelM1 - (if s.wheelGaps then s.wheelM2 else 0)

/-- R174: a vertex that updates neither table. -/
def State.noLearn (s : State) : State := { s with tan := { s.tan with learnG := false, learnR := false } }

/-- R153: the learning update for the closed segment, whose measured period is p. A segment closed by the vertex that carries the phase
correction of R122 has the half assumed for it before (DEDUCED, note 18; DESIGN CHOICE, note 81). -/
def State.learn (s : State) (g : Segment) (p : Nat) : State :=
  if !s.fullSync then s
  else
    let j := s.cycIndex g.pos g.half
    let revP := (p :: s.tan.revP).take s.teeth
    let trev := revP.foldl (· + ·) 0
    let ok := (match Tbl.find? j s.tan.pcyc with
      | some v => decide (((p : Int) - v).natAbs * 65536 ≤ s.cfg Reg.ANG_LBAND 0 * p)
      | none => false) && s.tan.saving.isNone
    let s1 := { s with tan := { s.tan with pcyc := Tbl.insert j p s.tan.pcyc, revP := revP } }
    if !ok then s1
    else
      let x := roundDiv ((p * s.wheelN * 1048576 : Nat) : Int) ((trev * g.m : Nat) : Int) - 1048576
      let gl := Tbl.get 0 g.pos s.tan.gl
      let r := Tbl.get 0 j s.tan.r
      let ap := Tbl.get 0 g.pos s.tan.g
      let geo := s.flag Reg.ANG_TCTL 0 12
      let rip := s.flag Reg.ANG_TCTL 0 13
      let (gl', t1) := satSym (gl + fdiv (x - 4 * r - gl) ((2 ^ s.fld Reg.ANG_TCTL 0 7 4 : Nat) : Int)) 31457
      let (r', t2) := satSym (r + fdiv (x - ap - 4 * r) ((2 ^ (s.fld Reg.ANG_TCTL 0 11 8 + 2) : Nat) : Int)) 32767
      let s2 := { s1 with tan := { s1.tan with
          gl := if geo then Tbl.put 0 g.pos gl' s.tan.gl else s.tan.gl
          r := if rip then Tbl.put 0 j r' s.tan.r else s.tan.r
          learnG := geo, learnR := rip } }
      if (geo && t1) || (rip && t2) then s2.reportCycle 0x2106 0 0 else s2

/-- R155: S over the segments of one revolution, from position p on. -/
def State.geoSum (s : State) (gl : Tbl Int) : Nat → Nat → Int → Int
  | 0, _, acc => acc
  | n + 1, p, acc =>
    let acc' := acc + (s.segM p : Nat) * Tbl.get 0 p gl
    if s.nextPos p = 0 then acc' else s.geoSum gl n (s.nextPos p) acc'

/-- R155 step 2: every present entry less the mean, limited; whether any was limited. -/
def State.geoShift (s : State) (d : Int) : Nat → Nat → Tbl Int → Bool → Tbl Int × Bool
  | 0, _, gl, t => (gl, t)
  | n + 1, p, gl, t =>
    let (v, lim) := satSym (Tbl.get 0 p gl - d) 31457
    let gl' := Tbl.put 0 p v gl
    if s.nextPos p = 0 then (gl', t || lim) else s.geoShift d n (s.nextPos p) gl' (t || lim)

/-- R155 steps 1 and 2: a learning copy normalised. -/
def State.normalise (s : State) (gl : Tbl Int) : Tbl Int × Bool :=
  s.geoShift (roundDiv (s.geoSum gl s.wheelN 0 0) (s.wheelN : Int)) s.wheelN 0 gl false

/-- R155: the work of a vertex at position 0. The applied copy and the offsets take effect at the next vertex (DEDUCED, note 34). -/
def State.learnRev (s : State) (p : Nat) : State :=
  if p = 0 && s.fullSync && s.flag Reg.ANG_TCTL 0 12 then
    let (gl, lim) := s.normalise s.tan.gl
    let s1 := { s with tan := { s.tan with gl := gl, gPend := some gl, geoRevs := satInc 65535 s.tan.geoRevs } }
    if lim then s1.reportCycle 0x2106 0 0 else s1
  else s

/-- R155: an applied copy that waits takes effect, with the offsets derived from it (DEDUCED, note 18). -/
def State.applyGeo (s : State) : State :=
  match s.tan.gPend with
  | some g => { s with tan := { s.tan with g := g, offs := s.derive g, gPend := none } }
  | none => s

/-! ### Anchors (R137 to R149, R156 to R158, R168) -/

/-- R156 to R158: the prediction error of the closed segment whose measured period is p (DEDUCED, note 18). -/
def State.predError (s : State) (g : Segment) (p : Nat) : State :=
  let e := roundDiv (((g.phat : Int) - p) * g.rate) 0x1000000
  let pm := b2n g.half * 512 + g.pos
  let lim : Int := s.cfg Reg.ANG_ERR_LIM 0
  let t := s.tan
  { s with tan := { t with
      curMax := match t.curMax with
        | some m => if m.1 < e then some (e, pm) else some m
        | none => some (e, pm)
      curMin := match t.curMin with
        | some m => if e < m.1 then some (e, pm) else some m
        | none => some (e, pm)
      early := if lim < e then satInc 255 t.early else t.early
      late := if e < -lim then satInc 255 t.late else t.late } }

/-- R168: ANG_RPM of a closed segment. -/
def State.rpmOf (s : State) (len p : Nat) : Nat :=
  min (roundDiv ((len * 12000000000 * 65536 : Nat) : Int) (((if s.twoStroke then 0x1000000 else 0x800000) * p : Nat) : Int)).toNat
    0xFFFFFFFF

/-- R138: the segment that the angle followed through E + 4, by which the ticks before E + 5 are read once the new one stands; none where
it was formed from an external source, and then the angle of E + 4 stands for them. -/
def State.prevSeg (s : State) : Option Segment :=
  if s.tan.ast == .running && !s.tan.x.act && s.tan.x.lostAt.isNone then some s.tan.seg else none

/-- The new segment installed, the old one followed through E + 4 (R138). -/
def State.install (s : State) (g : Segment) : State :=
  { s with tan := { s.tan with ast := .running, hold := s.accAt (g.e + 4)
                               prev := s.prevSeg, seg := g } }

/-- R39: tick E + 6 is put down: the commits of the new segment, and before them the skipped range of an early anchor. -/
def State.anchorNext (s : State) (early : Bool) (oldE from_ a : Nat) (gone : List QEntry) : State :=
  let s1 := if early then s.later (s.tb + 1) (.early oldE from_ a s.tan.seg.rate gone) else s
  s1.later (s1.tb + 1) .commits

/-- The forward anchor of a vertex with stamp e, period p, position and half, in CRANK_SYNC or FULL_SYNC, in this tick, E + 5 (R39, R137 to
R162). `fix` is the phase correction of R122: the half has been toggled, and 2^23 CAU comes with it. -/
def State.anchorAt (s : State) (e p pos : Nat) (half fix : Bool) : State :=
  let old := s.tan.seg
  let a4 := s.angleAt (e + 4)
  let s1 := ((s.predError old p).learn old p).applyGeo.learnRev pos
  let b1 := baseOf p old.m old.f
  let s2 := s1.xAnchor e
  let a := s2.anchor pos half
  let seg := s2.segmentAt e pos a half b1 s.tan.b1
  let s3 := { s2 with tan := { s2.tan with
      b1 := if p = 0xFFFFFFFF then none else some b1, b2 := s.tan.b1, rpm := s.rpmOf old.len p
      prev := s.prevSeg, hold := s.accAt (e + 4), seg := seg, ast := .running } }
  let a5 := s3.angleAt (e + 5)
  -- the angle without the correction, compared with the tick before (R122, R139)
  let u5 := if fix then (a5 + 0x800000) % cycleCau else a5
  let atB := decide (u5 < a4) && decide (cauSub u5 a4 < 0x800000)
  let d := cauSub a a4
  let early := !fix && decide (2 ≤ d) && decide (d < 0x800000)
  let s4 := { s3 with tan := { s3.tan with wrap := if atB then none else if seg.a ≤ a5 then wrapTick seg (e + 5) else none } }
  let s5 := if early then
      let j := { s4 with tan := { s4.tan with jmpFrom := a4, jmpTo := a5, jumps := satInc 255 s4.tan.jumps } }
      forUpTo (fun o st => st.setAside a4 a a5 (e + 6) seg.rate false atB o) 0 96 j
    else s4
  let s6 := if atB then s5.boundary s5.tb else s5
  let gone := if early then
      s4.wholes a4 a a5 (e + 6) seg.rate false ++ (if atB then s6.wholes a4 a a5 (e + 6) seg.rate true else [])
    else []
  let s7 := if early && atB then forUpTo (fun o st => st.setAside a4 a a5 (e + 6) seg.rate true false o) 0 96 s6 else s6
  s7.anchorNext early old.e a4 a gone

/-- R147, R160: the Tangent starts in tick t at a vertex with stamp e, position and half; B1 is formed from its period p, and B2
from the period pp before it where there is one. -/
def State.startAt (s : State) (e p pos : Nat) (half : Bool) (pp : Option Nat) (t : Tick) : State :=
  let q := s.prevPosOf pos
  let hq := if pos = 0 && !s.twoStroke then !half else half
  let q2 := s.prevPosOf q
  let hq2 := if q = 0 && !s.twoStroke then !hq else hq
  let s1 := (s.applyGeo).xAnchor e
  let b1 := baseOf p (s1.segM q) (s1.shapeF q hq)
  let b2 := match pp with
    | some x => if x = 0xFFFFFFFF then none else some (baseOf x (s1.segM q2) (s1.shapeF q2 hq2))
    | none => none
  let seg := s1.segmentAt e pos (s1.anchor pos half) half b1 b2
  let s2 := s1.install seg
  { s2 with tan := { s2.tan with
      b1 := if p = 0xFFFFFFFF then none else some b1, b2 := b2
      rpm := s.rpmOf (cauSub (s1.anchor pos half) (s1.anchor q hq)) p
      wrap := if seg.a ≤ s2.angleAt t then wrapTick seg t else none } }

/-- R159: a step to the anchor of a position in REVERSE (DEDUCED, note 14). -/
def State.stepAngle (s : State) (pos : Nat) (half : Bool) : State :=
  let a := s.anchor pos half
  let old := s.tan.hold / 0x1000000
  let down := decide (old < 0x800000) && decide (0x800000 ≤ a) && decide (cauSub old a < 0x800000)
  { s with tan := { s.tan with ast := .stepped, hold := a * 0x1000000
                               cyc := if down then (s.tan.cyc + 255) % 256 else s.tan.cyc } }

/-! ### Tables (R164 to R167) -/

/-- R164: the exchange area. -/
def tanArea : Nat := 0x14800

/-- R164: the first eight values of a save taken now. -/
def State.tanHead (s : State) : List Nat :=
  [1, s.wheelN + 1024 * s.wheelM1 + 4096 * b2n s.wheelGaps + 8192 * b2n s.twoStroke, s.wheelG2 + 1024 * s.wheelM2, s.wheelN,
   (if s.twoStroke then s.wheelN else 2 * s.wheelN), s.tan.geoRevs, s.tan.ripCycs,
   16 * s.fld Reg.ANG_TCTL 0 7 4 + s.fld Reg.ANG_TCTL 0 11 8]

/-- A table of signed 16-bit entries as n values from index i on. -/
def tblVals (t : Tbl Int) : Nat → Nat → List Nat
  | _, 0 => []
  | i, n + 1 => ofSigned 16 (Tbl.get 0 i t) :: tblVals t (i + 1) n

/-- n values as a table of signed 16-bit entries from index i on. -/
def valsTbl : List Nat → Nat → Tbl Int → Tbl Int
  | [], _, t => t
  | v :: vs, i, t => valsTbl vs (i + 1) (Tbl.put 0 i (signedOf 16 v) t)

/-- One bit of the CRC-32 of R165. -/
def crc32Bit (c : Nat) : Nat := if c % 2 = 1 then (c / 2) ^^^ 0xEDB88320 else c / 2

/-- R165: one value, low byte first. -/
def crc32Val (c v : Nat) : Nat := iter crc32Bit 8 (iter crc32Bit 8 (c ^^^ (v % 256)) ^^^ (v / 256 % 256))

/-- R165: the CRC-32 of values. -/
def crc32 (vs : List Nat) : Nat := (vs.foldl crc32Val 0xFFFFFFFF) ^^^ 0xFFFFFFFF

/-- R166, R173: the save of the tables as they stand is begun. -/
def State.beginSave (s : State) : State :=
  { s with tan := { s.tan with saving := some s.tb, savedG := s.tan.g, savedR := s.tan.r, savedHead := s.tanHead } }

/-- R173: a save or a reload is in progress. -/
def State.tanBusy (s : State) : Bool := s.tan.saving.isSome || s.tan.loading.isSome

/-- SAVE: ANG_TCMD.SAVE commands a save (R166); rejected while a save or reload is in progress (R173). -/
def execSave (s : State) : Host.Outcome State Fault Refusal :=
  .next (if s.tanBusy then s else s.beginSave)

/-- R164, R166: the exchange area written. -/
def State.writeTables (s : State) : State :=
  let gv := tblVals s.tan.savedG 0 400
  let rv := tblVals s.tan.savedR 0 800
  let c := crc32 (s.tan.savedHead ++ gv ++ rv)
  let s1 := s.latPuts tanArea (s.tan.savedHead ++ [c % 65536, c / 65536, 0, 0, 0, 0, 0, 0] ++ gv ++ rv)
  forUpTo (fun i st => st.latPut (tanArea + i) 0) 0x4C0 0x340 s1

/-- TABLE_SAVE_DONE: a save completes (R166). -/
def execTableSaveDone (s : State) : Host.Outcome State Fault Refusal :=
  .next (match s.tan.saving with
    | some _ =>
      let s1 := s.writeTables
      { s1 with tan := { s1.tan with saving := none, lres := 1, savedG := [], savedR := [], savedHead := [] } }.arrive 0x018
    | none => s)

/-- R167: the states in which tables may be replaced or cleared. -/
def State.tablesFree (s : State) : Bool := s.sync.state.lost

/-- LOAD: ANG_TCMD.LOAD commands a reload (R167, R173). -/
def execLoad (s : State) : Host.Outcome State Fault Refusal :=
  .next (if s.tanBusy || !s.tablesFree then s else { s with tan := { s.tan with loading := some s.tb } })

/-- R167 check 4. -/
def State.rangesOk (s : State) (gv rv : List Nat) (nrip : Nat) : Bool :=
  (mapIdxFrom (fun p v => decide ((signedOf 16 v).natAbs ≤ 31457) && (s.present p || v == 0)) 0 gv).all id &&
  (mapIdxFrom (fun j v => decide ((signedOf 16 v).natAbs ≤ 32767) && (decide (j < nrip) || v == 0)) 0 rv).all id

/-- R167: a reload that failed a check, with its LRES. -/
def State.loadFail (s : State) (lres code : Nat) : State :=
  { s with tan := { s.tan with lres := lres, loading := none } }.report code 0 |>.arrive 0x018

/-- R167: the checks of a reload whose values have been read, and what it loads. -/
def State.takeTables (s1 : State) : State :=
  let w := s1.latVals tanArea 10
  let gv := s1.latVals (tanArea + 0x10) 400
  let rv := s1.latVals (tanArea + 0x1A0) 800
  let hd := s1.tanHead
  if !(s1.latOkN tanArea 10 && s1.latOkN (tanArea + 0x10) 0x4B0) then s1.loadFail 3 0x5107
  else if w.take 5 ≠ hd.take 5 then s1.loadFail 4 0x2108
  else if crc32 (w.take 8 ++ gv ++ rv) ≠ nth 0 w 8 + 65536 * nth 0 w 9 then s1.loadFail 5 0x2108
  else if !(s1.rangesOk gv rv (nth 0 hd 4)) then s1.loadFail 6 0x2108
  else
    let (g, lim) := s1.normalise (valsTbl gv 0 [])
    let s2 := { s1 with tan := { s1.tan with g := g, gl := g, offs := s1.derive g, gPend := none, r := valsTbl rv 0 []
                                             geoRevs := 0, ripCycs := 0, lres := 2, loading := none } }
    (if lim then s2.reportCycle 0x2106 0 0 else s2).arrive 0x018

/-- R167: a reload reads the head and both tables, checks them and loads them. -/
def State.readTables (s : State) : State := ((s.latTouchN tanArea 10).latTouchN (tanArea + 0x10) 0x4B0).takeTables

/-- TABLE_RELOAD_DONE: a reload completes (R167). -/
def execTableReloadDone (s : State) : Host.Outcome State Fault Refusal :=
  .next (match s.tan.loading with
    | some _ => s.readTables
    | none => s)

/-- R173: both geometry copies and the offsets set to 0. -/
def State.clearGeo (s : State) : State :=
  { s with tan := { s.tan with g := [], gl := [], offs := [], gPend := none } }

/-- CLRGEO: ANG_TCMD.CLRGEO (R167, R173). -/
def execClrgeo (s : State) : Host.Outcome State Fault Refusal :=
  .next (if s.tanBusy || !s.tablesFree then s else s.clearGeo)

/-- CLRRIP: ANG_TCMD.CLRRIP sets every ripple entry to 0 (R167, R173). -/
def execClrrip (s : State) : Host.Outcome State Fault Refusal :=
  .next (if s.tanBusy || !s.tablesFree then s else { s with tan := { s.tan with r := [] } })

/-- CLRCNT: ANG_TCMD.CLRCNT sets ANG_CNT_T and ANG_CNT_J to 0 (R173). -/
def execClrcnt (s : State) : Host.Outcome State Fault Refusal :=
  .next (if s.tanBusy then s else { s with tan := { s.tan with early := 0, late := 0, jumps := 0 } })

/-- OFFSET_REBUILD_DONE: the offsets are rebuilt from the applied geometry table, and anchors leave nominal angles (R616). -/
def execOffsetRebuildDone (s : State) : Host.Outcome State Fault Refusal :=
  .next (if s.tan.offsBad then { s with tan := { s.tan with offs := s.derive s.tan.g, offsBad := false } } else s)

/-! ### Captures and the SD-1608 window (R168 to R170, R175, R176) -/

/-- The low and high words of a 32-bit value. -/
def words2 (v : Nat) : List Word := [toWord v, toWord (v / 65536)]

/-- R175: the words that a read of ANG_ACC_LO captures, from offset 0x46 on. -/
def State.accCap (s : State) : List Word :=
  toWord (s.tan.cyc * 256 + s.angleAt s.tb / 65536) :: (words2 s.tan.seg.rate ++ words2 s.tan.seg.phat ++ words2 s.tan.rpm)

/-- ANG_ACC_LO_READ: a read of ANG_ACC_LO captures angle, cycle count, RATE, predicted period and speed in one clock (R175). -/
def execAngAccLoRead (s : State) : Host.Outcome State Fault Refusal :=
  .next { s with tan := { s.tan with cap := s.accCap } }

/-- R176: ANG_S16_STAT. -/
def State.s16Stat (s : State) : Nat := 4 * b2n s.tan.s16Stop + 2 * b2n s.tan.s16Ovf + b2n s.tan.s16New

/-- ANG_S16_PERL_READ: a read of ANG_S16_PERL captures the window and clears NEW (R170) (DEDUCED, note 34). -/
def execAngS16PerlRead (s : State) : Host.Outcome State Fault Refusal :=
  .next { s with tan := { s.tan with s16Cap := words2 s.tan.s16Per ++ [toWord s.tan.s16T, toWord s.s16Stat], s16New := false } }

/-- R169, R176: the window after an accepted edge of its input with stamp e and period p. The mean is over the periods held, the
0xFFFF_FFFF of a first edge among them; the periods, TCNT and the last stamp go on when SRC or ACT names another input (DESIGN CHOICE,
note 82). -/
def State.s16Edge (s : State) (e p : Nat) : State :=
  let n := 2 ^ s.fld Reg.ANG_S16_CTL 0 3 0
  let ps := (p :: s.tan.s16P).take 16
  let use := ps.take n
  let per := (roundDiv ((use.foldl (· + ·) 0 : Nat) : Int) ((10 * use.length : Nat) : Int)).toNat
  { s with tan := { s.tan with
      s16P := ps, s16Per := min per 0xFFFFFF, s16T := (s.tan.s16T + 1) % 65536, s16Stop := false
      s16Ovf := decide (0xFFFFFF < per), s16New := true, s16Last := e } }

/-- R169: the crank input that the window follows. -/
def State.s16Input (s : State) : Nat :=
  if s.flag Reg.ANG_S16_CTL 0 4 then 1 - s.fld Reg.ANG_IN_CTL 0 6 6 else s.fld Reg.ANG_IN_CTL 0 6 6

/-- SPEED_WINDOW_STOPPED: the window's input has accepted no edge for STALL_T × 65,536 ticks (R176). -/
def execSpeedWindowStopped (s : State) : Host.Outcome State Fault Refusal :=
  .next (if s.tan.s16Last + s.cfg Reg.SYN_STALL_T 0 * 65536 ≤ s.tb then { s with tan := { s.tan with s16Stop := true } } else s)

end Sys2Proof.Machine
end

