-- ==== Sys2Proof/Machine/Digest.lean ====
section
/-! DEFINITION. Vertex digests of a twin pair (17_twin.md R553 to R555) and the operations on a pair's state that other blocks
share (R566, R571, R576). -/

namespace Sys2Proof.Machine

/-- A fault code of the twin block, at most once per cycle (R576), with the units concerned (R636). -/
def State.twnReport (s : State) (code units : Nat) : State := s.reportCycle code 0 units

/-- R566, R575: JSTATE changes. -/
def State.setJstate (s : State) (j : Nat) : State :=
  if s.twn.jstate = j then s else { s with twn := { s.twn with jstate := j } }.arrive 0x0A4

/-- R571: the join is complete: the pair is TRACKING. -/
def State.joinDone (s : State) : State :=
  ({ s with twn := { s.twn with jres := 1, joinIn := none, bs := none, applied := false, delta := false, adopting := false, rejoinAt := none } }).setJstate 5

/-- R571: a join ends without completing, with a value of TWN_JRES. With AUTOJ = 1 the PRIMARY starts a new one 2^20 ticks later. -/
def State.joinFail (s : State) (res : Nat) : State :=
  let s1 := { s with twn := { s.twn with jres := res, joinIn := none, delta := false, adopting := false, applied := false, bs := none
                                         rejoinAt := if !s.twn.shadow && s.flag Reg.TWN_CFG 0 0 then some (s.tb + 0x100000) else none } }
  let s2 := (s1.setJstate 0).twnReport 0x4C08 0
  if s2.twn.link then s2.twnSend 0x0A (twinList [6, res]) else s2

/-- A join is in progress: COPY, ADOPT or IMAGE (R566). -/
def State.joining (s : State) : Bool := decide (2 ≤ s.twn.jstate) && decide (s.twn.jstate ≤ 4)

/-! ### The digest (R553) -/

/-- R553, item 4: one output's values. -/
def State.digestOut (s : State) (o : Nat) : List Nat :=
  let q := s.queue o
  let h := match q with
    | e :: _ => [e.org.tag, b2n e.pin.isSome]
    | [] => [0, 0]
  q.length :: (h ++ [b2n (s.active o).isSome])

/-- R553, item 5: one bank's values. -/
def State.digestBank (s : State) (b : Nat) : List Nat :=
  let k := s.bank b
  if k.phase = .idle then [0xFFFF, 0xFFFF] else [k.ch, k.org.tag]

/-- R309: the state code of an ignition output. -/
def IgnState.code : IgnState → Nat
  | .low => 0
  | .dwell => 1
  | .ramp => 2
  | .highZ => 3

/-- R553: the values a digest is taken over, in order. One value of 16 bits each, an angle two (DESIGN CHOICE, note 40). -/
def State.digestVals (s : State) : List Nat :=
  let a := if s.sync.state.forward then s.tan.seg.a else s.tan.hold / 0x1000000
  [s.sync.pos, b2n s.sync.half, s.tan.cyc, s.sync.state.code, b2n s.sync.eligible, b2n s.sync.phaseValid] ++
  [a % 65536, a / 65536, s.rcpStat] ++
  (List.range 96).flatMap s.digestOut ++ (List.range 6).flatMap s.digestBank ++
  (List.range 24).map (fun n => (s.ign n).st.code) ++
  (List.range 8).flatMap (fun n => [s.vlvMode n, b2n (s.valve n).latch])

/-- R553: the digest (DESIGN CHOICE, note 40). -/
def State.digest (s : State) : Nat := crc32 s.digestVals

/-! ### Matching (R554, R555, R571) -/

/-- R555: a vertex mismatches (DEDUCED, note 63). -/
def State.digestBad (s : State) : State :=
  let run := s.twn.misRun + 1
  let s1 := { s with twn := { s.twn with dmis := satInc 255 s.twn.dmis, misRun := run } }.hit Reg.TWN_CNT 0 8 |>.twnReport 0x2C01 0
  if run = s.fld Reg.TWN_CFG 0 11 8 then (s1.twnReport 0x3C02 0).arrive 0x0A3 else s1

/-- R554: the difference of two stamps of 32 bits. -/
def stampDiff (a b : Nat) : Nat :=
  let d := (a + 0x100000000 - b % 0x100000000) % 0x100000000
  min d (0x100000000 - d)

/-- R554, R571: this device's digest m and the partner's digest p of one vertex (DEDUCED, note 63). -/
def State.digestPair (s : State) (m p : VertexDigest) : State :=
  if m.digest = p.digest then
    let s1 := { s with twn := { s.twn with misRun := 0, vdifNow := max s.twn.vdifNow (stampDiff m.stamp p.stamp) } }
    if s1.twn.jstate = 4 && s1.twn.applied && m.atB then s1.joinDone else s1
  else s.digestBad

/-- R554: two digests are of the same vertex (DESIGN CHOICE, note 40). -/
def VertexDigest.same (m p : VertexDigest) : Bool := m.pos == p.pos && m.half == p.half && m.cyc == p.cyc

/-- R554: a digest of this device, matched with the partner's where that has come. -/
def State.digestMine (s : State) (m : VertexDigest) : State :=
  match takeFirst (fun p => m.same p) s.twn.theirs with
  | some (p, rest) => { s with twn := { s.twn with theirs := rest } }.digestPair m p
  | none => { s with twn := { s.twn with mine := s.twn.mine ++ [m] } }

/-- R554: a digest of the partner, matched with this device's where that has been formed. At most 64 are kept. -/
def State.digestTheirs (s : State) (p : VertexDigest) : State :=
  match takeFirst (fun m => m.same p) s.twn.mine with
  | some (m, rest) => { s with twn := { s.twn with mine := rest } }.digestPair m p
  | none => { s with twn := { s.twn with theirs := (s.twn.theirs ++ [p]).drop (s.twn.theirs.length + 1 - 64) } }

/-- R553, R554: in tick E + 6 of an accepted vertex of the active input, in CRANK_SYNC, FULL_SYNC or REVERSE, a paired device forms
its digest and sends it (DESIGN CHOICE, note 40). -/
def State.formDigest (s : State) (e : Tick) : State :=
  if s.twn.paired && s.sync.state.runs then
    let m : VertexDigest := { pos := s.sync.pos, half := s.sync.half, cyc := s.tan.cyc, stamp := e % 0x100000000
                              digest := s.digest, atB := decide (s.twn.digCyc ≠ some s.tan.cyc) && s.twn.digCyc.isSome
                              due := e + 6 + 2048 }
    let s1 := { s with twn := { s.twn with digCyc := some s.tan.cyc } }.twnShow 0x03
      (twinList [m.pos + b2n m.half * 512, m.cyc, m.stamp % 65536, m.stamp / 65536, m.digest % 65536, m.digest / 65536])
    s1.digestMine m
  else s

end Sys2Proof.Machine
end

