-- ==== Sys2Proof/Machine/TwinOps.lean ====
section
/-! DEFINITION. Ownership, roles and the state of the Belith link: the operations that commits, resets and the commands of
17_twin.md share (R531, R540, R556 to R563). -/

namespace Sys2Proof.Machine

/-- The units of a mask that are not in another. -/
def unitsMinus (a b : Nat) : Nat := a &&& (0x7FF ^^^ (b % 0x800))

/-- R561: the first driven state of a unit: BSTGn is off and the cycle goes on at step 3. The other units run on from the state this
device has tracked. -/
def State.firstDriven (s : State) (u : Nat) : State :=
  if u = 6 ∨ u = 7 then s.setBoost (u - 6) { s.boost (u - 6) with fet := .off, since := s.tb } else s

/-- R575, R577: the units this device owns change, with the cause that TWN_LAST shows. -/
def State.setOwn (s : State) (units cause : Nat) : State :=
  let ch := (s.twn.own ^^^ units) % 0x800
  if ch = 0 then s
  else
    let s1 := { s with twn := { s.twn with own := units, lastCause := cause, lastUnits := ch } }.arrive 0x0A1
    forUpTo (fun u st => if bit ch u && bit units u then st.firstDriven u else st) 0 11 s1

/-- R575: the role changes; true is SHADOW. -/
def State.setRole (s : State) (shadow : Bool) : State :=
  if s.twn.shadow = shadow then s else { s with twn := { s.twn with shadow := shadow } }.arrive 0x0A0

/-- R556: the power domain of a unit; GP has none. -/
def unitDom (u : Nat) : Option Nat :=
  if u < 3 ∨ u = 6 then some 9 else if u < 10 then some 10 else none

/-- R556: the units of a mask whose domain is on. -/
def State.unitsOn (s : State) (units : Nat) : Nat :=
  forUpTo (fun u acc => if bit units u && (match unitDom u with | some d => s.domOn d | none => true) then acc + 2 ^ u else acc) 0 11 0

/-- R556: the device may take units: it is PRIMARY, or SHADOW and TRACKING, and has declared no fault of its own. -/
def State.mayTake (s : State) : Bool := !s.twn.fault && (!s.twn.shadow || decide (s.twn.jstate = 5))

/-- R566: the pair is no longer one: JSTATE is ALONE. -/
def State.unpair (s : State) : State :=
  { s with twn := { s.twn with paired := false, mine := [], theirs := [], misRun := 0, digCyc := none
                               adopting := false, delta := false, rejoinAt := none } }.setJstate 0

/-- R540, R571: the Belith link goes down. Drive and role stand until heartbeat loss is declared (R559). -/
def State.linkDown (s : State) : State :=
  if s.twn.link then
    let s1 := ({ s with twn := { s.twn with link := false, tx := [], resends := 0, rxSeq := none } }.arrive 0x0A5).twnReport 0x2C07 0
    if s1.joining then s1.joinFail 4 else s1
  else s

/-- R544, R557, R559, R560: the units found UNDRIVEN are driven from this tick on; roles and reports follow the cause: 1 partner
fault, 2 heartbeat loss, 3 TAKEOVER, 4 RELEASE, 5 pairing or SOLO. -/
def State.takeUnits (s : State) (units cause : Nat) : State :=
  let u := s.unitsOn units
  let wasShadow := s.twn.shadow
  let all := decide (unitsMinus s.twn.pown u = 0)
  let s1 := (s.setOwn (s.twn.own ||| u) cause)
  let s2 := { s1 with twn := { s1.twn with pown := unitsMinus s1.twn.pown u } }
  match cause with
  | 1 =>
    let s3 := if u ≠ 0 then s2.twnReport 0x3C04 u else s2
    if wasShadow then s3.setRole false else s3
  | 2 =>
    let s3 := if u ≠ 0 then s2.twnReport 0x3C04 u else s2
    (if wasShadow && all then s3.setRole false else s3).unpair
  | 5 => s2.setRole false
  | _ =>
    let s3 := if u ≠ 0 then s2.twnReport 0x1C05 u else s2
    match s3.twn.hand with
    | some h => { s3 with twn := { s3.twn with hand := some { h with done := h.done ||| units } } }
    | none => s3

/-- R560, R574: a handover in which every named unit has moved or been refused is over; with ROLE = 1 the roles exchange
(DEDUCED, note 62). -/
def State.handEnd (s : State) : State :=
  match s.twn.hand with
  | some h =>
    if unitsMinus h.units h.done = 0 && h.back.isEmpty then
      let s1 := { s with twn := { s.twn with hand := none } }
      let s2 := if h.role then s1.setRole (!s1.twn.shadow) else s1
      if h.reply then s2.finishPacket 0x00 0 (twinWords s2.twn.own) else s2
    else s
  | none => s

/-- R563: a fault release or a heartbeat loss cancels the handover of every unit whose release tick has not come; the units already
released complete theirs. Roles do not exchange, as the last named unit is never driven (DEDUCED, note 62). -/
def State.cancelHand (s : State) : State :=
  match s.twn.hand with
  | some h =>
    if unitsMinus h.units (h.released ||| h.done) = 0 then s
    else { s with twn := { s.twn with hand := some { h with units := h.released ||| h.done, role := false } } }.handEnd
  | none => s

/-- R563: a device that has declared a fault of its own drives nothing from a probe that was under way. -/
def State.dropTakes (s : State) : State :=
  let units := s.twn.takes.foldl (fun acc p => if p.2.2 = 3 ∨ p.2.2 = 4 then acc ||| p.1 else acc) 0
  let s1 := { s with twn := { s.twn with takes := [] } }
  match s1.twn.hand with
  | some h => { s1 with twn := { s1.twn with hand := some { h with done := h.done ||| units } } }.handEnd
  | none => s1

end Sys2Proof.Machine
end

