-- ==== Sys2Proof/Machine/ElrexOps.lean ====
section
/-! DEFINITION. The state of an Elrex node: ports going down, alignment, holdover, notices (18_elrex.md R585 to R601): the
operations that resets, power domains and the commands of the chapter share. -/

namespace Sys2Proof.Machine

/-- A fault code of block 0xD with its SUBJ (R607, R636). -/
def State.elxReport (s : State) (code subj : Nat) : State := s.reportBlock code subj subj

/-- R591, R606: ALIGNED changes (DEDUCED, note 64). -/
def State.setAligned (s : State) (b : Bool) : State :=
  if s.time.aligned = b then s else { s with time := { s.time with aligned := b } }.arrive 0x0B1

/-- R591, R606: HOLDOVER is set from this tick, or cleared. -/
def State.setHoldover (s : State) (on : Bool) : State :=
  if s.elx.holdFrom.isSome = on then s
  else { s with elx := { s.elx with holdFrom := if on then some s.tb else none } }.arrive 0x0B1

/-- R606: the acting role or the EPOCH changes. -/
def State.setActing (s : State) (role epoch : Nat) : State :=
  if s.elx.arole = role ∧ s.elx.epoch = epoch then s
  else { s with elx := { s.elx with arole := role, epoch := epoch } }.arrive 0x0B3

/-- R587: this node sends JOIN upstream. -/
def State.sendJoin (s : State) : State :=
  { s with elx := { s.elx with joinAt := some s.tb } }.elxSend s.upPort 0x09
    (twinList ([s.nodeId, s.fusedRole] ++ (List.range 4).map (fun i => s.fuse (2 + i)) ++ [s.elx.depth]))

/-- R599, R601: a NOTICE to every child: kind 1 ORIGIN, 2 UPLOST. -/
def State.sendNotice (s : State) (kind subj : Nat) : State := s.elxSendDown 0x08 (twinList [kind, subj, s.elx.epoch])

/-- R585, R591, R601: a port goes down: a lost child is reported; a lost parent starts holdover and, at a node that is not the
STANDBY, is reported and told to the children. -/
def State.elxDown (s : State) (p : Nat) : State :=
  let v := s.elxPort p
  if v.up then
    let up := decide (p = s.upPort)
    let s1 := (s.setElxPort p { v with up := false, lock := false, sentHello := 0, seenHello := 0, helloAt := none, tx := [], resends := 0
                                       rxSeq := none }).arrive 0x0B2
    if up then
      let s2 := { s1 with elx := { s1.elx with accepted := false, mark := none, t3 := none, placed := false, good := 0 } }
      let s3 := if s2.time.aligned then s2.setHoldover true else s2
      if s3.elx.arole = 3 then s3 else (s3.elxReport 0x2D01 v.peer).sendNotice 2 v.peer
    else s1.elxReport 0x2D03 v.peer
  else s.setElxPort p { v with lock := false, sentHello := 0, seenHello := 0, helloAt := none }

/-- Every port goes down (R641, R645). -/
def State.elxAllDown (s : State) : State := forUpTo (fun p st => st.elxDown p) 0 5 s

/-- R611: the state of a node after a reset; the ring in the Lattice stands. -/
def State.elxReset (s : State) : State :=
  { s with elx := { arole := if s.fusedRole = 2 then 2 else 0, depth := if s.fusedRole = 2 then 0 else 31 }
           time := { s.time with aligned := decide (s.fusedRole = 2) } }

end Sys2Proof.Machine
end

