-- ==== Sys2Proof/Machine/Feedback.lean ====
section
/-! DEFINITION. Position and speed feedback (13_feedback.md). -/

namespace Sys2Proof.Machine

/-- SSI port 0 or 1. -/
def State.ssi (s : State) (n : Nat) : SsiPort := if n = 0 then s.fbk.s0 else s.fbk.s1
/-- An SSI port set. -/
def State.setSsi (s : State) (n : Nat) (p : SsiPort) : State :=
  if n = 0 then { s with fbk := { s.fbk with s0 := p } } else { s with fbk := { s.fbk with s1 := p } }

/-- MODE of a port in effect: 0 OFF, 1 SINCOS, 2 QUAD (R424). -/
def State.fbkMode (s : State) (n : Nat) : Nat := s.fld Reg.FBK_CFG n 15 14
/-- R428: the sample period T in ticks. -/
def State.fbkT (s : State) (n : Nat) : Nat := s.fld Reg.FBK_CFG n 7 0 * 100
/-- R428, R433: this tick of the ADC island is an update tick kT + 80. -/
def State.updateTick (s : State) (n : Nat) : Bool :=
  decide (80 ≤ s.adcNow) && decide (0 < s.fbkT n) && decide ((s.adcNow - 80) % s.fbkT n = 0)

/-! ### The Tangent's use of a port (R442 to R445) -/

/-- R445: the source is lost in this tick: the offset goes on from the value given, and 0x3908 is reported with the port. -/
def State.xLose (s : State) (off : Nat) : State :=
  { s with tan := { s.tan with x := { s.tan.x with off := off, act := false, lostAt := some s.tb } } }.reportBlock
    0x3908 s.tan.x.port s.tan.x.port

/-- R445: a port has changed: where it is the one in use and the conditions of R442 no longer hold, the source is lost. -/
def State.xCheck (s : State) (port : Nat) : State :=
  if s.tan.x.act && decide (s.tan.x.port = port) && !s.xOk then s.xLose (s.offAt s.tb) else s

/-- R442: an update of a port in this tick U, with the position, SPD and SVALID it leaves, is available to the ANGLE island from U + 16.
Updates that have long been available are folded into the offset and into `avail`. -/
def State.xUpdate (s : State) (n : Nat) : State :=
  let x := s.tan.x
  let p := s.inc n
  let u : XUpdate := { from_ := s.adcNow + 16, port := n, pos := p.pos, spd := p.spd, sval := p.svalid }
  let old := x.coming.filter (fun c => decide (c.from_ + 16 ≤ s.tb))
  let young := x.coming.filter (fun c => !(decide (c.from_ + 16 ≤ s.tb)) && !(c.port == n && c.from_ == u.from_))
  { s with tan := { s.tan with x := { x with
      off := if x.act then s.xMax s.tb x.coming x.off else x.off
      avail := old.foldl (fun t c => Tbl.put {} c.port c t) x.avail
      coming := young ++ [u] } } }

/-! ### Standstill and crossings (R432, R435, R436) -/

/-- R436: a port enters STILL. -/
def IncPort.enterStill (p : IncPort) : IncPort :=
  { p with still := true, svalid := false, crossings := 0, starting := none, w := 0, a := 0 }

/-- R435, R436: a crossing with its stamp, in update tick u (DEDUCED, note 21). -/
def IncPort.crossing (p : IncPort) (stamp u : Tick) : IncPort :=
  let raw := match p.cross with
    | some c => if c < stamp then min (12800000000 / (stamp - c)) 0xFFFFFFFF else 0xFFFFFFFF
    | none => 0
  let q := { p with cross := some stamp, raw := raw, quietFrom := stamp, crossings := p.crossings + 1 }
  if p.still && decide (2 ≤ q.crossings) && !p.sigloss then { q with still := false, starting := some u } else q

/-! ### Position compares (R438 to R441) -/

/-- A compare of a port. -/
def IncPort.cmpOf (p : IncPort) (k : Nat) : Compare := Tbl.get {} k p.cmp
/-- A compare of a port set. -/
def IncPort.setCmp (p : IncPort) (k : Nat) (c : Compare) : IncPort := { p with cmp := Tbl.put {} k c p.cmp }

/-- V of a compare. -/
def Compare.v (c : Compare) : Nat := c.lo.value.toNat + 65536 * c.hi.value.toNat

/-- (a - b) modulo 2^32. -/
def sub32 (a b : Nat) : Nat := (a + 0x100000000 - b % 0x100000000) % 0x100000000

/-- R439: an update from p0 to p1 crosses V; dir 0 UP, 1 DOWN, 2 EITHER. -/
def cmpCrossed (dir v p0 p1 : Nat) : Bool :=
  let d := signedOf 32 (sub32 p1 p0)
  let up := decide (0 < d) && decide (1 ≤ sub32 v p0) && decide ((sub32 v p0 : Int) ≤ d)
  let down := decide (d < 0) && decide (1 ≤ sub32 p0 v) && decide ((sub32 p0 v : Int) ≤ -d)
  if dir = 0 then up else if dir = 1 then down else up || down

/-- R440: at arming, V lies behind (DEDUCED, note 21). -/
def cmpBehind (dir v pos : Nat) : Bool :=
  if dir = 0 then decide (sub32 v pos = 0) || decide (0x80000000 ≤ sub32 v pos)
  else if dir = 1 then decide (sub32 pos v = 0) || decide (0x80000000 ≤ sub32 pos v)
  else decide (v = pos)

/-- R438: compare k of port n as an update in this tick sees it: as it was before the writes of this tick. -/
def State.cmpSeen (s : State) (n k : Nat) : CmpBefore :=
  let c := (s.inc n).cmpOf k
  let now : CmpBefore := { at_ := s.adcNow, lo := c.lo, hi := c.hi, armed := c.armed, ciLo := c.ciLo, ciHi := c.ciHi
                           behind := c.behind, dir := s.fld Reg.FBK_CMPCFG (4 * n + k) 12 11, rearm := false }
  match c.before with
  | some b => if b.at_ = s.adcNow then b else now
  | none => now

/-- R438: a compare that is about to be written in this tick; `arm` says that the write arms it. -/
def State.cmpStash (s : State) (n k : Nat) (arm : Bool) : Compare :=
  { (s.inc n).cmpOf k with before := some { s.cmpSeen n k with rearm := (s.cmpSeen n k).rearm || arm } }

/-- R438 to R441: one armed compare of port n judged for an update from p0 to the present position (DEDUCED, note 21). One that was armed in
this tick takes effect after the update. -/
def State.cmpJudge (s : State) (n p0 k : Nat) : State :=
  let p := s.inc n
  let i := 4 * n + k
  let b := s.cmpSeen n k
  let v := b.lo.value.toNat + 65536 * b.hi.value.toNat
  let c0 := p.cmpOf k
  let c := if b.rearm then { c0 with behind := s.flag Reg.FBK_CMPCFG i 10 && cmpBehind (s.fld Reg.FBK_CMPCFG i 12 11) c0.v p.pos } else c0
  if !b.armed then (if b.rearm then s.setInc n (p.setCmp k c) else s)
  else if !(b.lo.valid && b.hi.valid) then
    let c1 := if b.rearm then c else { c with ciLo := c.ciLo || !b.lo.valid, ciHi := c.ciHi || !b.hi.valid, behind := false }
    let s1 := s.setInc n (p.setCmp k c1)
    let s2 := if !b.lo.valid && !b.ciLo then s1.report 0x5903 n else s1
    if !b.hi.valid && !b.ciHi then s2.report 0x5903 n else s2
  else if b.behind || cmpCrossed b.dir v p0 p.pos then
    let c1 := if b.rearm then { c with fired := true } else { c with fired := true, armed := false, behind := false }
    ((s.setInc n (p.setCmp k c1)).hit Reg.FBK_CMPCFG i 14).arrive (0x060 + n)
  else if b.rearm then s.setInc n (p.setCmp k c) else s

/-- R439: the four compares of a port judged for an update from p0. -/
def State.cmpJudgeAll (s : State) (n p0 : Nat) : State := forUpTo (fun k st => st.cmpJudge n p0 k) 0 4 s

/-- FBK_CMPV_LO: the selected compare takes the value HI:LO and is armed (R438, R440); rejected while the ADC domain is not ON. -/
def execFbkCmpvLo (value : Word) (s : State) : Host.Outcome State Fault Refusal :=
  .next (
    if !(s.domOn 8) then s
    else
      let n := s.fld Reg.FBK_SEL 0 0 0
      let k := s.fld Reg.FBK_SEL 0 3 2
      let i := 4 * n + k
      let s1 := s.setCfg Reg.FBK_CMPV_LO i value.toNat
      let p := s1.inc n
      let v := value.toNat + 65536 * s1.cfg Reg.FBK_CMPV_HI i
      s1.setInc n (p.setCmp k { s.cmpStash n k true with
        lo := TwinWord.of value, hi := TwinWord.of (toWord (s1.cfg Reg.FBK_CMPV_HI i)), armed := true, ciLo := false, ciHi := false
        behind := s1.flag Reg.FBK_CMPCFG i 10 && cmpBehind (s1.fld Reg.FBK_CMPCFG i 12 11) v p.pos }))

/-- R452: FBK_CMPCFG of a compare. -/
def State.cmpCfgWord (s : State) (n k : Nat) : Nat :=
  let c := (s.inc n).cmpOf k
  b2n c.armed * 0x8000 + b2n c.fired * 0x4000 + b2n (c.ciLo || c.ciHi) * 0x2000 + (s.fld Reg.FBK_CMPCFG (4 * n + k) 12 10) * 1024

/-- R452: a write of FBK_CMPCFG; none where it is rejected: DIR 3, a reserved bit, the ADC domain not ON. -/
def State.cmpCfgWrite (s : State) (v : Nat) : Option State :=
  let n := s.fld Reg.FBK_SEL 0 0 0
  let k := s.fld Reg.FBK_SEL 0 3 2
  if bits v 12 11 = 3 ∨ bits v 8 0 ≠ 0 ∨ s.domOn 8 = false then none
  else
    let s1 := s.setCfg Reg.FBK_CMPCFG (4 * n + k) (bits v 12 10 * 1024)
    let p := s1.inc n
    let c := s.cmpStash n k false
    some (s1.setInc n (p.setCmp k { c with fired := c.fired && (!(bit v 14) || s.keptBit Reg.FBK_CMPCFG (4 * n + k) 14)
                                           armed := c.armed && !(bit v 9), behind := c.behind && !(bit v 9) }))

/-- DISARM: a write of FBK_CMPCFG with DISARM = 1 (R438, R452). -/
def execDisarm (value : Word) (s : State) : Host.Outcome State Fault Refusal :=
  .next (if bit value.toNat 9 then (s.cmpCfgWrite value.toNat).getD s else s)

/-! ### Sin/cos interpolation (R428 to R430) -/

/-- The angles atan(2^-i) in units of 2^-64 of 1/4,096 turn. -/
def atanTable : List Nat := [
  9444732965739290427392, 5575551435304440587625, 2945968253259288731124, 1495419484264537896953, 750611625956535618573,
  375671727276180342122, 187881703353192978509, 93946584787971664428, 46974009131318603721, 23487094160901766035,
  11743558279952316031, 5871780539916841081, 2935890444951099797, 1467945244349637739, 733972624909079941,
  366986312796322607, 183493156440884133, 91746578225782420, 45873289113558754, 22936644556862820,
  11468322278441840, 5734161139222224, 2867080569611275, 1433540284805658, 716770142402831,
  358385071201416, 179192535600708, 89596267800354, 44798133900177, 22399066950089,
  11199533475044, 5599766737522, 2799883368761, 1399941684381, 699970842190,
  349985421095, 174992710548, 87496355274, 43748177637, 21874088818,
  10937044409, 5468522205, 2734261102, 1367130551, 683565276,
  341782638, 170891319, 85445659, 42722830, 21361415]

/-- One step that turns (x, y) towards the x axis and adds the angle turned through. -/
def turnStep (i : Nat) (t : Nat) (v : Int × Int × Int) : Int × Int × Int :=
  let (x, y, z) := v
  let k : Int := (2 ^ i : Nat)
  if 0 ≤ y then (x + fdiv y k, y - fdiv x k, z + t) else (x - fdiv y k, y + fdiv x k, z - t)

/-- The turn steps from step i on. -/
def turnSteps : Nat → List Nat → Int × Int × Int → Int × Int × Int
  | _, [], v => v
  | i, t :: ts, v => turnSteps (i + 1) ts (turnStep i t v)

/-- R429: round(atan2(s, c) × 4,096 / 2π) mod 4,096 (DESIGN CHOICE, note 20). -/
def fracOf (sn cs : Int) : Nat :=
  let sc : Int := (2 ^ 80 : Nat)
  let z := fun (x y : Int) => (turnSteps 0 atanTable (x * sc, y * sc, 0)).2.2
  let a := if 0 ≤ cs then z cs sn else ((2048 * 2 ^ 64 : Nat) : Int) + z (-cs) (-sn)
  (roundDiv a ((2 ^ 64 : Nat) : Int) % 4096).toNat

/-- R429: a track's corrected value, times 2^15 (DESIGN CHOICE, note 20). -/
def trackOf (code : Nat) (ofs : Int) (gain : Nat) : Int := ((code : Int) - 32768 - ofs) * gain

/-- R430: amp lies in the limits of FBK_AMP; the two tracks stand at 2^15 times their values. -/
def ampOk (sn cs : Int) (amp : Nat) : Bool :=
  let m := (sn * sn + cs * cs).toNat
  let lim := fun x => (x * 256 * 32768) * (x * 256 * 32768)
  decide (lim (bits amp 7 0) ≤ m) && decide (m ≤ lim (bits amp 15 8))

/-- R430: a sample that is not usable. -/
def State.sampleBad (s : State) (n : Nat) : State :=
  let p := s.inc n
  let q := { p with sig := satInc 15 p.sig, bad := min (p.bad + 1) 4 }
  if p.bad + 1 = 4 then
    (((s.setInc n { q.enterStill with sigloss := true, posok := false }).hit Reg.FBK_CNT n 8).reportBlock 0x3901 n n).xCheck n
  else (s.setInc n q).hit Reg.FBK_CNT n 8

/-- R426, R430: a usable sample with its FRAC; `inv` is DIRINV. -/
def State.sampleGood (s : State) (n frac : Nat) (inv : Bool) : State :=
  let p := { s.inc n with bad := 0, sigloss := false, fprev := frac }
  let d : Int := (((frac + 4096 - (s.inc n).fprev + 2048) % 4096 : Nat) : Int) - 2048
  if p.first then
    let q := { p with first := false, pos := frac, fast := false }
    s.setInc n (if q.pos / 1024 = p.pos / 1024 then q else q.crossing s.adcNow s.adcNow)
  else if d = -2048 then
    (((s.setInc n { p with trk := satInc 15 p.trk, posok := false, fast := true }).hit Reg.FBK_CNT n 12).reportBlock 0x3902 n n).xCheck n
  else
    let d' := if inv then -d else d
    let q := { p with pos := ofSigned 32 ((p.pos : Int) + d'), fast := decide (1366 ≤ d.natAbs) }
    s.setInc n (if q.pos / 1024 = p.pos / 1024 then q else q.crossing s.adcNow s.adcNow)

/-- R428: in a tick s of the ADC island that is a multiple of T both tracks of a port in SINCOS mode are held, under the values in effect
(R56, R222). -/
def State.trackHold (s : State) (n : Nat) : State :=
  if s.fbkMode n = 1 ∧ s.domOn 8 = true ∧ 0 < s.fbkT n ∧ s.adcNow % s.fbkT n = 0 then
    let k := 12 + 2 * n
    let h : FbkHold := {
      s := s.adcNow, cfg := s.cfg Reg.FBK_CFG n, amp := s.cfg Reg.FBK_AMP n
      calGS := s.calGain k, calOS := s.calOfs k, calGC := s.calGain (k + 1), calOC := s.calOfs (k + 1)
      gainS := s.cfg Reg.FBK_GAINS n, ofsS := signedOf 16 (s.cfg Reg.FBK_OFSS n)
      gainC := s.cfg Reg.FBK_GAINC n, ofsC := signedOf 16 (s.cfg Reg.FBK_OFSC n) }
    s.setInc n { s.inc n with holds := (s.inc n).holds.filter (fun x => x.s != h.s) ++ [h] }
  else s

/-- FBK_SINCOS_SAMPLE: in update tick U of port `port`, the raw codes of its two tracks held in U - 80 are interpolated, under the values
of the hold tick (R56, R222, R428 to R430); the signal checks, POS, the crossing and the compares follow (R432, R439). -/
def execFbkSincosSample (port sin cos : Nat) (s : State) : Host.Outcome State Fault Refusal :=
  .next (
    if 2 ≤ port ∨ s.fbkMode port ≠ 1 ∨ s.domOn 8 = false then s
    else match (s.inc port).holds.find? (fun h => h.s + 80 == s.adcNow) with
      | none => s
      | some h =>
        let sn := trackOf (correctCode (sin % 65536) h.calGS h.calOS) h.ofsS h.gainS
        let cs := trackOf (correctCode (cos % 65536) h.calGC h.calOC) h.ofsC h.gainC
        let p0 := (s.inc port).pos
        let s0 := s.setInc port { s.inc port with holds := (s.inc port).holds.filter (fun x => decide (h.s < x.s)) }
        let s1 := if ampOk sn cs h.amp then
            let (v, s2) := s0.freeVal
            s2.sampleGood port ((fracOf sn cs + 4095 + v % 3) % 4096) (bit h.cfg 13)
          else s0.sampleBad port
        (s1.cmpJudgeAll port p0).xUpdate port)

/-! ### Quadrature (R431) -/

/-- R431: the place of a pair of track levels in the forward order 00, 10, 11, 01. -/
def quadIndex (a b : Bool) : Nat := if a then (if b then 2 else 1) else (if b then 3 else 0)

/-- R431: an edge of a track lies fewer than QMINSP ticks after the last accepted edge of that track (DEDUCED, note 21). -/
def quadTooClose (last : Option Tick) (stamp minsp : Nat) : Bool :=
  match last with
  | some t => decide (stamp < t + minsp)
  | none => false

/-- R431: an edge rejected by its spacing (DEDUCED, note 21). -/
def State.quadReject (s : State) (n : Nat) : State :=
  let p := s.inc n
  ((s.setInc n { p with qrej := satInc 15 p.qrej }).hit Reg.FBK_CNT n 0).reportBlock 0x2904 n n

/-- QUAD_EDGE: the ADC clock of this tick first sees the comparators of port `port` at levels `a` and `b`, which accepts or rejects
the edges (R431, R432, R439) (DEDUCED, note 21). -/
def execQuadEdge (port : Nat) (a b : Bool) (s : State) : Host.Outcome State Fault Refusal :=
  .next (
    if 2 ≤ port ∨ s.fbkMode port ≠ 2 ∨ s.domOn 8 = false then s
    else
      let p := s.inc port
      let stamp := s.adcNow - 5
      let minsp := s.cfg Reg.FBK_QMINSP port
      let chA := a != p.lvA
      let chB := b != p.lvB
      let rejA := chA && quadTooClose p.edgeA stamp minsp
      let rejB := chB && quadTooClose p.edgeB stamp minsp
      let s1 := s.setInc port { p with lvA := a, lvB := b }
      let s2 := if rejA then s1.quadReject port else s1
      let s3 := if rejB then s2.quadReject port else s2
      if chA && chB then
        let q := s3.inc port
        (((s3.setInc port { q with qerr := satInc 15 q.qerr, posok := false }).hit Reg.FBK_CNT port 4).reportBlock 0x3902 port port).xCheck port
      else if (chA && !rejA) || (chB && !rejB) then
        let fwd := decide ((quadIndex p.lvA p.lvB + 1) % 4 = quadIndex a b)
        let step : Int := if fwd != s.flag Reg.FBK_CFG port 13 then 1024 else -1024
        let q := s3.inc port
        let q1 := { q with pos := ofSigned 32 ((q.pos : Int) + step)
                           edgeA := if chA then some stamp else q.edgeA, edgeB := if chB then some stamp else q.edgeB }
        ((s3.setInc port (q1.crossing stamp s.adcNow)).cmpJudgeAll port p.pos).xUpdate port
      else s3)

/-! ### The tracking observer (R433, R436) -/

/-- The circle constant in units of 2^-64. -/
def piFix : Int := 57952155664616982739

/-- R433: a value carried with at least 48 significant bits: the exact one, off by at most 2^-48 of itself (DESIGN CHOICE, note 20). -/
def about48 (v : Int) (free : Nat) : Int :=
  let k := v.natAbs / 2 ^ 48
  v + ((free % (2 * k + 1) : Nat) : Int) - (k : Int)

/-- 2^20 lines, with 64 fraction bits. -/
def lineWrap : Int := ((2 ^ 84 : Nat) : Int)

/-- R433: wrap(): a difference of lines taken into -2^19 to 2^19. -/
def wrapLines (d : Int) : Int :=
  let r := d % lineWrap
  if 2 * r < lineWrap then r else r - lineWrap

/-- R433: one update of th, w and a (64 fraction bits) from POS, for bandwidth bw in Hz and period t in ticks (DESIGN CHOICE, note 20). -/
def observe (p : IncPort) (bw t : Nat) : Int × Int × Int :=
  let tt : Int := t
  let thm : Int := (p.pos : Int) * ((2 ^ 52 : Nat) : Int)
  let x := roundDiv (2 * piFix * bw * tt) 200000000
  let tp := p.th + roundDiv (p.w * tt) 200000000 + roundDiv (p.a * tt * tt) (2 * 200000000 * 200000000)
  let wp := p.w + roundDiv (p.a * tt) 200000000
  let e := wrapLines (thm - tp)
  let one : Int := ((2 ^ 64 : Nat) : Int)
  ((tp + roundDiv (3 * x * e) one) % lineWrap,
   wp + roundDiv (3 * x * x * e * 200000000) (one * one * tt),
   p.a + roundDiv (x * x * x * e * 200000000 * 200000000) (one * one * one * tt * tt))

/-- OBSERVER_UPDATE: the tracking observer of port `port` updates in tick kT + 80, after the sample of that tick (R433, R436). -/
def execObserverUpdate (port : Nat) (s : State) : Host.Outcome State Fault Refusal :=
  .next (
    if 2 ≤ port ∨ s.fbkMode port = 0 ∨ s.domOn 8 = false ∨ s.updateTick port = false then s
    else
      let p := s.inc port
      if p.still || (match p.starting with | some u => decide (s.adcNow ≤ u) | none => false) then
        (s.setInc port { p with th := ((p.pos : Int) * ((2 ^ 52 : Nat) : Int)) % lineWrap, w := 0, a := 0 }).xUpdate port
      else
        let (th, w, a) := observe p (s.cfg Reg.FBK_BW port) (s.fbkT port)
        let (f1, s1) := s.freeVal
        let (f2, s2) := s1.freeVal
        let (f3, s3) := s2.freeVal
        (s3.setInc port { p with th := about48 th f1, w := about48 w f2, a := about48 a f3, svalid := true, starting := none }).xUpdate port)

/-- FBK_STILL_TIMEOUT: no crossing of port `port` has occurred for STILL_T × 65,536 ticks (R436). -/
def execFbkStillTimeout (port : Nat) (s : State) : Host.Outcome State Fault Refusal :=
  .next (
    if 2 ≤ port ∨ s.fbkMode port = 0 ∨ s.domOn 8 = false then s
    else
      let p := s.inc port
      if !p.still && decide (p.quietFrom + s.cfg Reg.FBK_STILL port * 65536 ≤ s.adcNow) then (s.setInc port p.enterStill).xUpdate port else s)

/-- R426: a new MODE of a port takes effect at a commit point (DEDUCED, note 21). -/
def State.fbkNewMode (s : State) (n : Nat) : State :=
  let p := s.inc n
  (s.setInc n { p.enterStill with
    holds := [], pos := 0, posok := true, first := true, bad := 0, edgeA := none, edgeB := none
    cmp := p.cmp.map (fun (k, c) => (k, { c with armed := false, behind := false })) }).xUpdate n

/-! ### Registers of the incremental ports (R451, R452) -/

/-- R433: ACC of a port. -/
def IncPort.acc (p : IncPort) : Int :=
  if p.still then 0 else clampInt (-2147483648) 2147483647 (roundDiv p.a ((2 ^ 64 : Nat) : Int))

/-- R451: POS, SPD, ACC and RAW of one update, low word first (DESIGN CHOICE, note 20). -/
def IncPort.figures (p : IncPort) : List Word :=
  words2 p.pos ++ words2 (ofSigned 32 p.spd) ++ words2 (ofSigned 32 p.acc) ++ words2 (if p.still then 0 else p.raw)

/-- R452: FBK_STAT of a port. -/
def State.fbkStat (s : State) (n : Nat) : Nat :=
  let p := s.inc n
  b2n p.svalid * 0x8000 + b2n p.still * 0x4000 + b2n p.posok * 0x2000 + b2n p.sigloss * 0x1000 + b2n p.fast * 0x800 +
    b2n (s.tan.x.act && s.tan.x.port == n) * 0x400

/-- R452: FBK_CNT of a port. -/
def IncPort.cntWord (p : IncPort) : Nat := p.trk * 4096 + p.sig * 256 + p.qerr * 16 + p.qrej

/-- FBK_POS_LO_READ: a read of FBK_POS_LO captures the selected port's figures (R451). -/
def execFbkPosLoRead (s : State) : Host.Outcome State Fault Refusal :=
  .next (
    let n := s.fld Reg.FBK_SEL 0 0 0
    if s.domOn 8 then s.setInc n { s.inc n with cap := (s.inc n).figures } else s)

/-- R452: a write of FBK_CLR: the selected port's POSOK and counts; none where it is rejected. -/
def State.fbkClear (s : State) (v : Nat) : Option State :=
  let n := s.fld Reg.FBK_SEL 0 0 0
  let p := s.inc n
  if 4 ≤ v ∨ s.domOn 8 = false then none
  else
    let q := if bit v 1 then { p with posok := true } else p
    let kept := fun lo => s.kept Reg.FBK_CNT n lo 15
    some (s.setInc n (if bit v 0 then { q with trk := kept 12, sig := kept 8, qerr := kept 4, qrej := kept 0 } else q))

/-- CLRPOK: a write of FBK_CLR with CLRPOK = 1 sets POSOK to 1 (R430, R452). -/
def execClrpok (value : Word) (s : State) : Host.Outcome State Fault Refusal :=
  .next (if bit value.toNat 1 then (s.fbkClear value.toNat).getD s else s)

/-- FBK_CLRCNT: a write of FBK_CLR with CLRCNT = 1 clears the counts (R452). -/
def execFbkClrcnt (value : Word) (s : State) : Host.Outcome State Fault Refusal :=
  .next (if bit value.toNat 0 then (s.fbkClear value.toNat).getD s else s)

/-! ### Serial absolute encoders (R446 to R449) -/

/-- The values of a port in effect, under which a frame that begins in this tick runs to its end (R56, R447, R448). -/
def State.ssiNow (s : State) (n : Nat) : SsiFrame :=
  { f := s.adcNow, cfg := s.cfg Reg.FBK_SSI_CFG n, half := s.fld Reg.FBK_SSI_CLK n 7 0, tmo := s.cfg Reg.FBK_SSI_TMO n * 20
    fmt := s.cfg Reg.FBK_SSI_FMT n, poly := s.cfg Reg.FBK_SSI_POLY n, init := s.cfg Reg.FBK_SSI_INIT n }
/-- R447: N = LEAD + NBITS. -/
def SsiFrame.n (g : SsiFrame) : Nat := bits g.cfg 13 11 + bits g.cfg 5 0
/-- R447: the end tick of a frame. -/
def SsiFrame.endTick (g : SsiFrame) : Tick := g.f + (2 * g.n + 1) * g.half

/-- R447: the level of SSIn_CLK in a tick. -/
def State.ssiClk (s : State) (n : Nat) (t : Tick) : Bool :=
  match (s.ssi n).phase with
  | .running g => if t < g.f || g.endTick ≤ t || g.half = 0 then true else decide ((t - g.f) / g.half % 2 = 1)
  | _ => true

/-- R446: a frame trigger, with SSIn_DAT at a level (DEDUCED, note 22). -/
def State.ssiTrigger (s : State) (n : Nat) (high : Bool) : State :=
  let p := s.ssi n
  match p.phase with
  | .idle => s.setSsi n { p with phase := if high then .running (s.ssiNow n) else .waiting s.adcNow (s.ssiNow n).tmo }
  | _ => s.setSsi n { p with skip := satInc 255 p.skip }

/-- SSI_PERIODIC_TRIGGER: a tick that is a multiple of PER × 100, for an enabled port with TRG = 0; `high` is the level of SSIn_DAT
(R446). -/
def execSsiPeriodicTrigger (port : Nat) (high : Bool) (s : State) : Host.Outcome State Fault Refusal :=
  .next (
    let per := s.cfg Reg.FBK_SSI_PER port * 100
    if 2 ≤ port ∨ s.domOn 8 = false ∨ s.flag Reg.FBK_SSI_CFG port 15 = false ∨ s.flag Reg.FBK_SSI_CFG port 14 = true ∨
        s.adcNow % per ≠ 0 ∨ (s.ssi port).lastTrig = some s.adcNow then s
    else (s.setSsi port { s.ssi port with lastTrig := some s.adcNow }).ssiTrigger port high)

/-- START: a write of FBK_SSI_CMD, with SSIn_DAT of the selected port at level `high`: START = 1 triggers a frame; with TRG = 0 the
write is rejected (R446, R453). A port that is not enabled starts no frame (DEDUCED, note 22). -/
def execStart (value : Word) (high : Bool) (s : State) : Host.Outcome State Fault Refusal :=
  .next (
    let n := s.fld Reg.FBK_SEL 0 4 4
    if 2 ≤ value.toNat ∨ value.toNat = 0 ∨ s.domOn 8 = false ∨ s.flag Reg.FBK_SSI_CFG n 14 = false then s
    else if s.flag Reg.FBK_SSI_CFG n 15 then s.ssiTrigger n high else s)

/-- SSI_FRAME_BEGIN: SSIn_DAT reads high while a triggered frame waits for it; this tick is F (R446). -/
def execSsiFrameBegin (port : Nat) (s : State) : Host.Outcome State Fault Refusal :=
  .next (
    match (s.ssi port).phase with
    | .waiting since tmo =>
      if port < 2 ∧ s.adcNow ≤ since + tmo then s.setSsi port { s.ssi port with phase := .running (s.ssiNow port) } else s
    | _ => s)

/-- One bit into the CRC of R448. -/
def ssiCrcBit (cw poly c : Nat) (b : Bool) : Nat :=
  let top := bit c (cw - 1)
  let sh := (c * 2) % 2 ^ cw
  if top != b then sh ^^^ (poly % 2 ^ cw) else sh

/-- The CRC of the lowest n bits of a number, most significant bit first. -/
def ssiCrc (cw poly data : Nat) : Nat → Nat → Nat
  | 0, c => c
  | n + 1, c => ssiCrc cw poly data n (ssiCrcBit cw poly c (bit data n))

/-- R448, R449: a frame that ran under the values of its start is complete, its N bits read being `rd`, the first the most significant; `late` says that SSIn_DAT did not
read high in time (DEDUCED, note 22). -/
def State.ssiDone (s : State) (n : Nat) (g : SsiFrame) (rd : Nat) (late : Bool) : State :=
  let nb := bits g.cfg 5 0
  let fmt := g.fmt
  let cw := bits fmt 4 0
  let body := rd % 2 ^ nb
  let data := body / 2 ^ cw
  let inv := if bit fmt 7 then 2 ^ cw - 1 else 0
  let crc := ssiCrc cw g.poly data (nb - cw) g.init ^^^ inv
  let res := if late then 3 else if cw ≠ 0 ∧ crc ≠ body % 2 ^ cw then 2 else 1
  let eb := bit fmt 15 && bit data (bits fmt 13 8) == bit fmt 14
  let s1 := (s.setSsi n { s.ssi n with phase := .idle, data := data, f := g.f % 0x100000000, new := true, res := res, ebit := eb }).arrive
    (0x062 + n)
  let s2 := if res = 2 then s1.reportBlock 0x4905 (2 + n) (2 + n)
    else if res = 3 then s1.reportBlock 0x3906 (2 + n) (2 + n) else s1
  if eb then s2.reportBlock 0x2907 (2 + n) (2 + n) else s2

/-- SSI_TIMEOUT: SSIn_DAT has not read high within TMO × 20 ticks: of the trigger, and the frame ends without a clock; or of the end
tick, and the frame whose bits read are `rd` completes with RES timeout (R446, R449) (DEDUCED, note 22). -/
def execSsiTimeout (port rd : Nat) (s : State) : Host.Outcome State Fault Refusal :=
  .next (
    if 2 ≤ port then s
    else match (s.ssi port).phase with
    | .waiting since tmo =>
      if since + tmo ≤ s.adcNow then
        (s.setSsi port { s.ssi port with phase := .idle, res := 3 }).reportBlock 0x3906 (2 + port) (2 + port)
      else s
    | .running g => if g.endTick + g.tmo ≤ s.adcNow then s.ssiDone port g rd true else s
    | .idle => s)

/-- SSI_FRAME_COMPLETE: after the end tick SSIn_DAT reads high; `rd` is the N bits read, the first the most significant (R447 to
R449). -/
def execSsiFrameComplete (port rd : Nat) (s : State) : Host.Outcome State Fault Refusal :=
  .next (
    match (s.ssi port).phase with
    | .running g =>
      if port < 2 ∧ g.endTick ≤ s.adcNow ∧ s.adcNow ≤ g.endTick + g.tmo then s.ssiDone port g rd false else s
    | _ => s)

/-- R453: FBK_SSI_STAT. RES and EBIT are those of the latest frame. -/
def State.ssiStat (s : State) (n : Nat) : Nat :=
  let p := s.ssi n
  b2n p.new * 0x8000 + (match p.phase with | .idle => 0 | _ => 0x4000) + p.res * 4096 + b2n p.ebit * 2048 + p.skip

/-- FBK_SSI_D0_READ: a read of FBK_SSI_D0 captures D0 to D2, T0, T1 and STAT of one frame and clears NEW (R451). -/
def execFbkSsiD0Read (s : State) : Host.Outcome State Fault Refusal :=
  .next (
    let n := s.fld Reg.FBK_SEL 0 4 4
    let p := s.ssi n
    if s.domOn 8 then
      s.setSsi n { p with cap := toWord (s.ssiStat n) :: (wordsOf p.data 3 ++ words2 p.f), new := false }
    else s)

/-- R453: FBK_SSI_STAT as it reads: NEW, BUSY and SKIP as they stand, RES and EBIT of the captured frame once one is captured
(DEDUCED, note 22). -/
def State.ssiStatRead (s : State) (n : Nat) : Nat :=
  match (s.ssi n).cap with
  | w :: _ => s.ssiStat n / 0x4000 * 0x4000 + bits w.toNat 13 11 * 2048 + (s.ssi n).skip
  | [] => s.ssiStat n

end Sys2Proof.Machine
end

