-- ==== Sys2Proof/Machine/Interrupts.lean ====
section
/-! DEFINITION. The commands of the interrupt router and the wake latches (14_interrupts.md). -/

namespace Sys2Proof.Machine

/-- SOURCE_ARRIVAL: an arrival sent to source `src` reaches the router and counts (R456, R457) (DEDUCED, note 49). -/
def execSourceArrival (src : Nat) (s : State) : Host.Outcome State Fault Refusal :=
  .next (match takeFirst (· == src) s.irc.arrivals with
    | some (n, rest) => { s with irc := { s.irc with arrivals := rest } }.countArrival n
    | none => s)

/-- IRC_SET: a write gives one arrival at the source it names, in this tick (R458). -/
def execIrcSet (value : Word) (s : State) : Host.Outcome State Fault Refusal :=
  .next (if 512 ≤ value.toNat then s else s.countArrival value.toNat)

/-- R459, R463: an acknowledge of source n with a count: a host line that holds it is released (DEDUCED, note 47). -/
def State.acknowledge (s : State) (n c : Nat) : State :=
  let s1 := s.ackSource n c
  match (s1.source n).dlv with
  | some t =>
    if t < 4 && (s1.target t).held == some n then
      (s1.setTarget t { s1.target t with held := none, released := some s.tb }).setSource n { s1.source n with dlv := none }
    else s1
  | none => s1

/-- IRC_ACKCNT: a write acknowledges that count at the source in IRC_ACKSRC (R459, R475). -/
def execIrcAckcnt (value : Word) (s : State) : Host.Outcome State Fault Refusal :=
  .next (if value.toNat = 0 ∨ 256 ≤ value.toNat then s else s.acknowledge (s.cfg Reg.IRC_ACKSRC 0) value.toNat)

/-- IRC_HVEC_READ: a read of IRC_HVECn captures the held source's COUNT into IRC_HCNT; with no source held it stays (R464)
(DEDUCED, note 47). -/
def execIrcHvecRead (line : Nat) (s : State) : Host.Outcome State Fault Refusal :=
  .next (match (s.target line).held with
    | some n => if line < 4 then { s with irc := { s.irc with hcnt := (s.source n).count } } else s
    | none => s)

/-- R461, R475: a value IRC_SCFG accepts for a source. -/
def scfgOk (n v : Nat) : Bool :=
  let t := bits v 7 0
  decide (bits v 14 12 = 0) && (decide (t < 4) || decide (t = 5) || decide (0x80 ≤ t) || (decide (t = 4) && decide (0xA0 ≤ n) && decide (n ≤ 0xBF)))

/-- IRC_SCFG: a write retargets, reprioritises or enables the source in IRC_SSEL (R466, R468, R475). -/
def execIrcScfg (value : Word) (s : State) : Host.Outcome State Fault Refusal :=
  .next (
    let n := s.cfg Reg.IRC_SSEL 0
    if scfgOk n value.toNat then
      let s1 := s.setCfg Reg.IRC_SCFG n value.toNat
      (if s.srcTgt n = bits value.toNat 7 0 then s1
        else s1.setSource n { s1.source n with stray := false, strayFrom := none }).strayRefresh n
    else s)

/-! ### Delivery (R462 to R467) -/

/-- R465: a target is idle (DEDUCED, note 47). -/
def State.targetIdle (s : State) (t : Nat) : Bool :=
  if t < 4 then (s.target t).held.isNone && (s.target t).hs.isNone && s.flag Reg.IRC_TCFG t 13
  else if t = 4 then true
  else if t = 5 then !((s.elxPort s.upPort).tx.any (fun f => f.type == 0x07))
  else
    let c := bits t 6 4
    let line := t % 16
    s.domOn (laneDom c) && (List.range 8).all (fun k =>
      let l := 8 * c + k
      (List.range 4).all (fun n => !(s.vecHas l n 7 line) ||
        (!((s.lane l).pend.any (fun p => p.1 == n)) && !((s.lane l).insvc.contains n))))

/-- R465: the target's moderation holds a selection back in this tick. -/
def State.moderated (s : State) (t : Nat) : Bool :=
  let m := s.cfg Reg.IRC_TMOD t * 200
  match (s.target t).lastSel with
  | some x => decide (0 < m) && decide (s.tb < x + m) && !(s.targetIdle t)
  | none => false

/-- R462: a source that takes part in the arbitration for target t. -/
def State.candidate (s : State) (t n : Nat) : Bool :=
  let v := s.source n
  s.srcEn n && decide (v.count ≠ 0) && !v.stray && v.dlv.isNone && decide (s.srcTgt n = t)

/-- R462: the source selected among those listed: the highest PRIO, then the lowest number (DEDUCED, note 47). -/
def State.select (s : State) (t : Nat) : List (Nat × Source) → Option Nat
  | [] => none
  | (n, _) :: l =>
    if s.candidate t n then
      match s.select t l with
      | some m => if s.srcPrio n < s.srcPrio m ∨ (s.srcPrio m = s.srcPrio n ∧ m < n) then some m else some n
      | none => some n
    else s.select t l

/-- R467: the wake of a sleeping target is requested (DEDUCED, note 47). -/
def State.wakeTarget (s : State) (t : Nat) : State :=
  let dom := if t = 5 then 11 else if 0x80 ≤ t then laneDom (bits t 6 4) else 1
  if s.pwr.rung ≠ 0 then { s with pwr := { s.pwr with wake := true } }
  else if s.dom dom = .off ∧ s.pwr.rising.all (fun r => r.1 ≠ dom) then
    { s.setFlag Reg.PWR_DOM 0 dom true with pwr := { s.pwr with rising := s.pwr.rising ++ [(dom, s.tb)] } }
  else s

/-- R462: target t selects source n and the handshake starts. -/
def State.startDelivery (s : State) (t n : Nat) : State :=
  let s1 := (s.setTarget t { s.target t with hs := some n, lastSel := some s.tb }).setSource n { s.source n with dlv := some t }
  if t < 4 then (s1.setFlag Reg.IRC_TCFG t 13 false).setFlag Reg.IRC_TCFG t 14 false else s1

/-- DELIVERY_SELECTION: target `tgt` holds no source and is neither moderated nor asleep, and selects its pending source of
highest priority (R462, R465); a pending source of a sleeping target with WAKE = 1 requests its wake, and on a host line is
delivered (R467). HIRQ3 is not taken during the READY pulse (R655). -/
def execDeliverySelection (tgt : Nat) (s : State) : Host.Outcome State Fault Refusal :=
  .next (
    if 256 ≤ tgt ∨ s.pwr.rung ≠ 0 ∨ (s.target tgt).hs.isSome ∨ (s.target tgt).held.isSome ∨ s.moderated tgt = true ∨
        (tgt = 3 ∧ s.pwr.readyPulse.isSome) then s
    else match s.select tgt s.irc.src with
    | none => s
    | some n =>
      if s.asleep tgt then
        (if s.wakeBit tgt then (if tgt < 4 then (s.startDelivery tgt n).strayRefreshAll else s.wakeTarget tgt) else s)
      else s.startDelivery tgt n)

/-- R462: the handshake of target t with source n ends (DEDUCED, note 47). -/
def State.endDelivery (s : State) (t n : Nat) : State :=
  let s1 := s.setTarget t { s.target t with hs := none }
  if t < 4 then s1.setTarget t { s1.target t with held := some n }
  else
    let s2 := s1.setSource n { s1.source n with dlv := none }
    let s3 := if 0x80 ≤ t then s2.lineArrive (bits t 6 4) (t % 16) else s2
    s3.ackSource n (s3.source n).count

/-- HANDSHAKE_END: the delivery handshake of target `tgt` ends (R462, R463); HIRQn is not asserted again within 4 ticks of its
release. The supervisors' firmware acknowledges the whole COUNT as it takes a source. -/
def execHandshakeEnd (tgt : Nat) (s : State) : Host.Outcome State Fault Refusal :=
  .next (match (s.target tgt).hs with
    | some n =>
      if tgt < 4 ∧ (match (s.target tgt).released with | some r => decide (s.tb < r + 4) | none => false) = true then s
      else s.endDelivery tgt n
    | none => s)

/-- R463, R653, R655: the level of HIRQn (active low). -/
def State.hirq (s : State) (n : Nat) : Bool :=
  !((s.target n).held.isSome || (n == 3 && (match s.pwr.readyPulse with | some t => decide (s.tb < t) | none => false)))

/-- STRAY_TIMEOUT: the stray timer of source `src` reaches IRC_STRAYT × 65,536 ticks (R468) (DEDUCED, note 48). -/
def execStrayTimeout (src : Nat) (s : State) : Host.Outcome State Fault Refusal :=
  .next (
    let v := s.source src
    match v.strayFrom with
    | some x =>
      if v.stray = false ∧ x + s.cfg Reg.IRC_STRAYT 0 * 65536 ≤ s.tb then
        let s1 := s.setSource src { v with stray := true }
        let s2 := { s1 with irc := { s1.irc with strayCnt := satInc 255 s1.irc.strayCnt } }.hit Reg.IRC_STRAYCNT 0 0 |>.report 0x2A01 src
        if s2.domOn 1 then s2 else s2.wakeTarget 4
      else s
    | none => s)

/-- IRC_STRAYCNT_CLR: a write of IRC_STRAYCNT; CLR = 1 sets the stray count to 0 (R476). -/
def execIrcStraycntClr (value : Word) (s : State) : Host.Outcome State Fault Refusal :=
  .next (if bits value.toNat 14 8 = 0 ∧ bit value.toNat 15 = true then { s with irc := { s.irc with strayCnt := s.kept Reg.IRC_STRAYCNT 0 0 255 } } else s)

/-- IRC_FLOST_CLR: a write of IRC_FLOST; CLR = 1 sets the lost record count to 0 (R476). -/
def execIrcFlostClr (value : Word) (s : State) : Host.Outcome State Fault Refusal :=
  .next (if bits value.toNat 14 8 = 0 ∧ bit value.toNat 15 = true then { s with irc := { s.irc with flost := s.kept Reg.IRC_FLOST 0 0 255 } } else s)

/-! ### Fault records (R469, R470, R602) -/

/-- FAULT_REPORT: the oldest report of block `block` on its way reaches the router (R469); a code of block 0xD also enters the
domain coalescer (R602) (DEDUCED, note 49). -/
def execFaultReport (block : Nat) (s : State) : Host.Outcome State Fault Refusal :=
  .next (match takeFirst (fun r => bits r.code 11 8 == block) s.irc.reports with
    | some (r, rest) =>
      let s1 := ({ s with irc := { s.irc with reports := rest } }.handleReport r).1
      if block = 0xD then s1.domReport r.code r.aux 0 r.tick else s1
    | none => s)

/-- FAULT_RECORD_CLOSE: the open records whose FIRST + 20,000 has come close and are rewritten (R469, R470). -/
def execFaultRecordClose (s : State) : Host.Outcome State Fault Refusal := .next s.closeDue

/-! ### Wake latches (R471 to R473) -/

/-- R471: the latch watches an edge of this direction. -/
def State.latchSees (s : State) (w : Nat) (rise : Bool) : Bool :=
  match s.fld Reg.IRC_WCFG w 14 13 with
  | 1 => rise
  | 2 => !rise
  | 3 => true
  | _ => false

/-- R472, R650: a latch sets: with the LATTICE domain on it gives an arrival and clears; otherwise it holds and, with WEN = 1, requests a
wake, with which PWREN returns high. -/
def State.latchSet (s : State) (w : Nat) : State :=
  if s.pwr.rung = 0 ∧ s.domOn 2 = true then s.arrive (0x0C0 + w)
  else if s.irc.latches.contains w then s
  else
    let s1 := { s with irc := { s.irc with latches := s.irc.latches ++ [w] } }
    if s1.flag Reg.IRC_WCFG w 15 then
      { s1 with irc := { s1.irc with wcause := setBit s1.irc.wcause w true }, pwr := { s1.pwr with wake := true, pwren := true } }.hit
        Reg.IRC_WCAUSE0 0 w
    else s1

/-- WAKE_LATCH_EDGE: the input of latch `latch` makes an edge and holds its new level for 20 ns or more (R471 to R473). Latch 15 is
reserved, and latch 14 is the keep timer's. -/
def execWakeLatchEdge (latch : Nat) (rise : Bool) (s : State) : Host.Outcome State Fault Refusal :=
  .next (if 64 ≤ latch ∨ latch = 15 ∨ latch = 14 ∨ s.latchSees latch rise = false ∨ (16 ≤ latch ∧ s.pwr.pwren = false) then s
    else s.latchSet latch)

/-- R475: IRC_SSTAT of a source. -/
def State.srcStat (s : State) (n : Nat) : Nat :=
  let v := s.source n
  b2n (decide (v.count ≠ 0)) * 0x8000 + b2n v.ovf * 0x4000 + b2n v.stray * 0x2000 + b2n v.dlv.isSome * 0x1000 + v.count

/-- R475: IRC_HVECn. -/
def State.hvec (s : State) (n : Nat) : Nat := match (s.target n).held with | some x => 0x8000 + x | none => 0

/-- R476: IRC_TCFG of a target code. -/
def State.tcfg (s : State) (t : Nat) : Nat :=
  if t < 4 then s.cfg Reg.IRC_TCFG t
  else b2n (s.wakeBit t) * 0x8000 + b2n (s.asleep t) * 0x4000 + b2n (s.targetIdle t) * 0x2000

/-- IRC_PSUM m. -/
def State.psum (s : State) (m : Nat) : Nat :=
  forUpTo (fun b acc => acc + b2n (decide ((s.source (16 * m + b)).count ≠ 0)) * 2 ^ b) 0 16 0

end Sys2Proof.Machine
end

