-- ==== Sys2Proof/Machine/Domains.lean ====
section
/-! DEFINITION. Power domains: what they hold, and switching them off and on (20_power_reset_boot.md R639 to R642). -/

namespace Sys2Proof.Machine

/-- R639, R640: the switched domains that hold a register; it is lost when all of them are off. A register of the domains 0 to 3,
which are ON in Run, has none (DEDUCED, note 46). -/
def regDoms (addr idx : Nat) : List Nat :=
  let o := addr % 256
  match bits addr 15 8 with
  | 0x04 => if o = 0x13 ∨ o = 0x14 ∨ o = 0x16 ∨ o = 0x19 then [8] else []
  | 0x06 =>
    if (0x04 ≤ o ∧ o < 0x10) ∨ (0x1C ≤ o ∧ o < 0x1F) ∨ (0x28 ≤ o ∧ o < 0x2E) then [9]
    else if (0x10 ≤ o ∧ o < 0x1C) ∨ (0x1F ≤ o ∧ o < 0x22) ∨ (0x2E ≤ o ∧ o < 0x34) then [10]
    else [9, 10]
  | 0x07 => [10]
  | 0x08 => [10]
  | 0x09 =>
    if o = 0x1E ∨ o = 0x1F ∨ o = 0x20 then [laneDom idx]
    else if o = 0x00 ∨ o = 0x06 ∨ 0x21 ≤ o then []
    else [laneDom (idx / 8)]
  | 0x0A => [8]
  | 0x0E => [11]
  | 0x0F => [11]
  | _ => []

/-- R640: a register is held by domains that are all off (DESIGN CHOICE, note 53). -/
def State.regOff (s : State) (addr idx : Nat) : Bool :=
  let l := regDoms addr idx
  !l.isEmpty && l.all (fun d => !(s.domOn d))

/-- The registers that domain d alone held, or held with domains that are off too, take their reset values (DEDUCED, note 66). -/
def State.loseRegs (s : State) (d : Nat) : State :=
  { s with regs := s.regs.filter (fun p =>
      let l := regDoms (p.1 % 0x1000000) (p.1 / 0x1000000)
      !(l.contains d && l.all (fun x => !(s.domOn x)))) }

/-- A power domain takes a state. -/
def State.setDom (s : State) (d : Nat) (v : Dom) : State := { s with pwr := { s.pwr with dom := Tbl.insert d v s.pwr.dom } }

/-- R641: the ADC domain goes off: every running pass of an arc ends, both feedback ports enter STILL, the SSI ports stop; what the
island held is lost. -/
def State.adcOff (s : State) : State :=
  let s1 := s.arcsEndAll 3 s.tb
  { s1 with fbk := {}, arcs := { s1.arcs with conv := [], frames := [], flt := 0 } }

/-- R640, R641: a domain goes off in this tick (DEDUCED, note 66). -/
def State.domainOff (s : State) (d : Nat) : State :=
  let s0 := { s with pwr := { s.pwr with rising := s.pwr.rising.filter (fun p => p.1 ≠ d) } }
  let s1 : State :=
    if 4 ≤ d ∧ d < 8 then (s0.clusterReset (2 * (d - 4))).clusterReset (2 * (d - 4) + 1)
    else if d = 8 then s0.adcOff
    else if d = 9 then s0.driveOff 0
    else if d = 10 then s0.driveOff 1
    else if d = 11 then s0.linkDown.elxAllDown
    else s0
  let s2 := (s1.setDom d .off).loseRegs d
  if (d = 9 ∨ d = 10) ∧ s2.domOn 9 = false ∧ s2.domOn 10 = false then
    { s2 with drv := { s2.drv with profs := [], loaded := false, lres := 0, prof := 0 } }
  else s2

/-- R640, R344: a domain comes on with every register at its reset value; a LANE domain runs its memory fills. -/
def State.domainOn (s : State) (d : Nat) : State :=
  let s0 := if d = 9 ∨ d = 10 then { s with bridge := { s.bridge with silent := setBit s.bridge.silent (d - 9) false } } else s
  let s1 := (s0.loseRegs d).setDom d .on
  let s2 := { s1 with pwr := { s1.pwr with rising := s1.pwr.rising.filter (fun p => p.1 ≠ d) } }
  if 4 ≤ d ∧ d < 8 then
    let c := 2 * (d - 4)
    let s3 := (s2.clusterReset c).clusterReset (c + 1)
    { s3 with lan := { s3.lan with filling := s3.lan.filling.filter (fun x => x ≠ c ∧ x ≠ c + 1) ++ [c, c + 1] } }
  else if d = 10 ∧ s2.drvOn 1 = true then s2.ignRelease
  else if d = 11 then s2.elxReset
  else s2

/-- DOMAIN_ON: a domain that a commit switched on, or that woke under R466, is ON, at the latest 2,000 ticks after the commit
tick (R640). -/
def execDomainOn (domain : Nat) (s : State) : Host.Outcome State Fault Refusal :=
  .next (if s.pwr.rising.any (fun p => p.1 == domain) then s.domainOn domain else s)

/-- R640, R56: a commit changes PWR_DOM: domains switched off go off, those switched on begin to rise (DEDUCED, note 66). -/
def State.domApply (s : State) (old : Nat) : State :=
  let v := s.cfg Reg.PWR_DOM 0
  forUpTo (fun d st =>
    if bit old d && !(bit v d) then st.domainOff d
    else if !(bit old d) && bit v d then { st with pwr := { st.pwr with rising := st.pwr.rising ++ [(d, st.tb)] } }
    else st) 4 8 s

/-- VGD_LOW: VGD falls below its good threshold: the drive domains count as OFF for R295 and R312, and 0x3F45 is reported once per
episode (R642). -/
def execVgdLow (s : State) : Host.Outcome State Fault Refusal :=
  .next (
    if s.pwr.vgdok || !s.pwr.vgdRep then
      let s1 := (s.driveFloat 0).driveFloat 1
      let s2 := { s1 with pwr := { s1.pwr with vgdok := false, vgdRep := true } }
      if s.pwr.vgdRep then s2 else s2.report 0x3F45 0
    else s)

/-- VGD_GOOD: VGD rises above its good threshold; VGDOK reads 1, and the episode is over (R642). -/
def execVgdGood (s : State) : Host.Outcome State Fault Refusal :=
  .next (
    let s1 := { s with pwr := { s.pwr with vgdok := true, vgdRep := false } }
    if s1.drvOn 1 then s1.ignRelease else s1)

end Sys2Proof.Machine
end

