-- ==== Sys2Proof/Machine/TimeBase.lean ====
section
/-! DEFINITION. The Time Base, launches, commits, the die bridge and the supervisors (02_time_base.md; 01_architecture.md). -/

namespace Sys2Proof.Machine

/-! ### Replicas (R46 to R48) -/

/-- R48: a replica mismatch of an island is recorded; the second within 16 full-value messages stops its launches or, in the DRIVE
island, puts the outputs in high impedance (DEDUCED, note 56). -/
def State.mismatch (s : State) (i : Nat) : State :=
  let r := s.replica i
  let again := match r.lastBad with
    | some m => decide (r.msgs < m + 16)
    | none => false
  let s0 := s.setReplica i { r with reload := true, lastBad := some r.msgs, stopped := r.stopped || (again && decide (i ≠ 12)) }
  let s1 := { s0 with time := { s0.time with rfault := setBit s.time.rfault i true } }.hit Reg.TB_RFAULT 0 i |>.report 0x5001 i
  if again then
    if i = 12 then
      let s2 := { s1 with bridge := { s1.bridge with silent := 3 } }.report 0x7003 12
      (s2.driveOff 0).driveOff 1
    else s1.report 0x6002 i
  else s1

/-- FULL_VALUE_MESSAGE: an island receives the full value sent in the latest tick whose low 12 bits are zero (R47). -/
def execFullValueMessage (island value : Nat) (s : State) : Host.Outcome State Fault Refusal :=
  .next (
    if 14 ≤ island then s
    else
      let r := s.replica island
      let m : Int := ((s.tb / 4096 * 4096 : Nat) : Int)
      let s1 := s.setReplica island { r with msgs := r.msgs + 1 }
      if r.reload then
        s1.setReplica island { s1.replica island with ofs := (value : Int) - m, reload := false, locks := r.locks + 1 }
      else if (value : Int) = m + r.ofs then s1
      else s1.mismatch island)

/-- GRAY_CODE_PARITY_FAILURE: a gray-coded word fails its parity check at an island (R47). -/
def execGrayCodeParityFailure (island : Nat) (s : State) : Host.Outcome State Fault Refusal :=
  .next (if 14 ≤ island then s else s.mismatch island)

/-! ### The die bridge (R20 to R23) -/

/-- R25: the first launch of an island's gate leaves it, and a sender that waits sends. -/
def State.gateTake (s : State) (i : Nat) : State :=
  let r := s.replica i
  s.setReplica i { r with inFlight := r.inFlight.drop 1 ++ r.sending.take 1, sending := r.sending.drop 1 }

/-- R74: the oldest VR peak record on its way is lost. -/
def State.dropPeak (s : State) : State :=
  let p := fun (i : Nat) => ((Tbl.get {} i s.wheel.inp).peakRec.head?.map Prod.fst).getD (2 ^ 64)
  let i := if p 1 < p 0 then 1 else 0
  let v := Tbl.get {} i s.wheel.inp
  { s with wheel := { s.wheel with inp := Tbl.put {} i { v with peakRec := v.peakRec.drop 1 } s.wheel.inp } }

/-- A valid message has come over a lane (R20 to R22): 0 the fire lane, 1 the shared lane, both to the DRIVE island, 2 the message channel
to the digital die. -/
def State.bridgeGood (s : State) (lane : Nat) : State :=
  { s with bridge := { s.bridge with retrying := setBit s.bridge.retrying lane false
                                     lastRx := if lane < 2 then s.tb else s.bridge.lastRx } }

/-- R20, R21: the first message on a lane has failed twice and is not received: the oldest fire message, the oldest launch for the DRIVE
island, or the oldest start status and, with none, the oldest peak record; a keepalive where nothing else waits (DEDUCED, note 56). -/
def State.bridgeDrop (s : State) (lane : Nat) : State :=
  match lane with
  | 0 => match takeFirst (fun m => m.1 == 0) s.evq.flight with
    | some (_, rest) => { s with evq := { s.evq with flight := rest } }
    | none => s
  | 1 => s.gateTake 12
  | _ => match s.evq.status with
    | _ :: rest => { s with evq := { s.evq with status := rest } }
    | [] => s.dropPeak

/-- BRIDGE_MESSAGE: a message that is not received by a command of its own, a keepalive among them, crosses a lane of the die bridge; or,
where its CRC fails, the first message on the lane is asked for once more, and discarded when it fails again (R20, R21)
(DEDUCED, note 56). -/
def execBridgeMessage (lane : Nat) (crcOk : Bool) (s : State) : Host.Outcome State Fault Refusal :=
  .next (
    if crcOk then s.bridgeGood lane
    else if bit s.bridge.retrying lane then
      { s.bridgeDrop lane with bridge := { s.bridge with retrying := setBit s.bridge.retrying lane false } }.report 0x4004 12
    else { s with bridge := { s.bridge with retrying := setBit s.bridge.retrying lane true } })

/-- BRIDGE_SILENCE: the DRIVE island has received no valid message for 48 DRIVE clocks, 60 ticks (R22) (DEDUCED, note 56). -/
def execBridgeSilence (s : State) : Host.Outcome State Fault Refusal :=
  .next (
    if s.bridge.lastRx + 60 ≤ s.tb ∧ s.bridge.silent ≠ 3 ∧ (s.domOn 9 = true ∨ s.domOn 10 = true) then
      let s1 := { s with bridge := { s.bridge with silent := 3 } }.report 0x7005 12
      (s1.driveOff 0).driveOff 1
    else s)

/-! ### The supervisors (R42, R43) -/

/-- SUPERVISOR_LOCKSTEP_MISMATCH: both cores stop and a restart begins (R42). -/
def execSupervisorLockstepMismatch (s : State) : Host.Outcome State Fault Refusal :=
  .next (if s.sup.running then { s with sup := { s.sup with running := false } }.report 0x6F01 0 else s)

/-- SUPERVISOR_RESTART_DONE: the cores run again from the verified image (R42). -/
def execSupervisorRestartDone (s : State) : Host.Outcome State Fault Refusal :=
  .next (if !s.sup.running && !s.pwr.booting && !s.sup.rom then { s with sup := { s.sup with running := true } } else s)

/-! ### Launches (R49 to R51, R23, R285) -/

/-- R210: an action of a stale fire message is DROP_STALE; a start that awaits its status is over, as one that the island dropped. -/
def State.dropStale (s : State) (it : FireItem) : State :=
  if 96 ≤ it.out then s
  else
    let isEnd := it.kind == .pulseEnd
    let s1 := s.outcome it.org it.out 0xD isEnd false 0
    match s1.active it.out with
    | some p => if !isEnd && decide (p.org = it.org) && p.awaiting then (s1.retireEnd p s1.tb).headNext it.out else s1
    | none => s1

/-- A launch that reaches its island too late: each action is dropped with its tag; a sample is missing (R51, R23, R239)
(DEDUCED, note 56; DESIGN CHOICE, note 10). -/
def State.staleLaunch (s : State) (i : Nat) (l : Launch) : State :=
  match l.action with
  | .fire items => items.foldl (fun st it => (st.stale i it.org.tag).dropStale it) s
  | .sample serial idx => (s.stale i ((s.frameOf serial).elim 0 (fun f => f.arc))).sampleStale serial idx l.value
  | .other tag => s.stale i tag

/-- A launch in its island's launch unit; a fire message's starts on outputs 0 to 23 wait at their banks (R285). -/
def State.holdLaunch (s : State) (i : Nat) (l : Launch) : State :=
  let r := s.replica i
  let s1 := s.setReplica i { r with held := r.held ++ [l] }
  match l.action with
  | .fire items => if i = 12 then { s1 with drv := { s1.drv with waiting := s1.drv.waiting ++ startsOf l.value items } } else s1
  | .sample serial idx => s1.sampleArrives serial idx l.value
  | .other _ => s1

/-- R51: a launch reaches its island: it is stale where the replica equals or exceeds its value. -/
def State.launchReaches (s : State) (i : Nat) (l : Launch) : State :=
  if l.value ≤ s.replicaNow i then s.staleLaunch i l else s.holdLaunch i l

/-- LAUNCH_ARRIVAL: the first launch on its way to an island reaches it (R25, R51), over the shared lane of the bridge where it is the DRIVE
island (R20). -/
def execLaunchArrival (island : Nat) (s : State) : Host.Outcome State Fault Refusal :=
  .next (match (s.replica island).inFlight with
    | [] => s
    | l :: _ =>
      let s1 := (s.gateTake island).launchReaches island l
      if island = 12 then s1.bridgeGood 1 else s1)

/-- The island of a fire message's destination (R37, R38) (DESIGN CHOICE, note 10). -/
def destIsland (dest : Nat) : Nat := if dest = 0 then 12 else 2 + dest

/-- FIRE_MESSAGE: the oldest fire message on its way to a destination reaches it and waits for its launch value (R285), or is
stale (R23); the DRIVE island has it over the fire lane of the bridge (R20). -/
def execFireMessage (dest : Nat) (s : State) : Host.Outcome State Fault Refusal :=
  .next (match takeFirst (fun m => m.1 == dest) s.evq.flight with
    | none => s
    | some ((_, p, items), rest) =>
      let s1 := { s with evq := { s.evq with flight := rest } }.launchReaches (destIsland dest) ⟨p, .fire items⟩
      if dest = 0 then s1.bridgeGood 0 else s1)

/-- R49, R50: a launch executes in its island. A converter looks for its next request itself (R219); an action with a command of its
own acts through it. -/
def State.runLaunch (s : State) (i : Nat) (l : Launch) : State :=
  match l.action with
  | .fire items => if i = 12 then s.driveItems l.value items else items.foldl (fun st it => st.laneItemFire it) s
  | .sample _ _ => s
  | .other _ => s

/-- LAUNCH_EXECUTE: every launch of an island whose value its replica has reached executes, in order of arrival (R49, R50); in the
ADC island the converters hold the samples that are due (R219). An island stopped under R48 executes none (DESIGN CHOICE, note 5). -/
def execLaunchExecute (island : Nat) (s : State) : Host.Outcome State Fault Refusal :=
  .next (
    let r := s.replica island
    if r.stopped then s
    else
      let now := s.replicaNow island
      let due := r.held.filter (fun l => decide (l.value ≤ now))
      let s1 := s.setReplica island { r with held := r.held.filter (fun l => !(decide (l.value ≤ now))) }
      let s2 := due.foldl (fun st l => st.runLaunch island l) s1
      if island = 11 then forUpTo State.convHold 0 16 s2 else s2)

/-- R45: no launch is pending in any island, a domain action that waits for its launch value among them (R594). -/
def State.noLaunch (s : State) : Bool :=
  s.evq.flight.isEmpty && s.drv.waiting.isEmpty && s.elx.queued.isEmpty && s.time.isl.all (fun p => p.2.inFlight.isEmpty && p.2.sending.isEmpty && p.2.held.isEmpty)

/-- R45: every drive output counts as disabled (DEDUCED, note 39). -/
def State.drivesDisabled (s : State) : Bool :=
  let here := fun n => s.unitHere n
  (List.range 6).all (fun b => !(here b) || !(s.bankActive b)) &&
  (!(here 8) || (List.range 24).all (fun n => (s.ign n).st == .low || (s.ign n).st == .highZ)) &&
  (!(here 9) || (List.range 8).all (fun n => decide (s.vlvMode n = 0)))

/-- R45: the Time Base steps; a tick that the state holds stays the Time Base value it was taken as, but for the work of ticks to come and
the latest slew, which keep their distance (R63) (DEDUCED, note 55). -/
def State.stepTime (s : State) (v : Tick) : State :=
  let moved := fun (t : Tick) => t + v - s.tb
  { s with tb := v, agenda := s.agenda.map (fun w => (moved w.1, w.2)), time := { s.time with lastSlew := s.time.lastSlew.map moved } }

/-- R45: a slew may be made: at most one in 1,024 ticks. -/
def State.maySlew (s : State) : Bool :=
  match s.time.lastSlew with
  | some t => decide (t + 1024 ≤ s.tb)
  | none => true

/-- R45: a slew: 1 doubles the next increment, -1 omits it (DEDUCED, note 55). -/
def State.slewTime (s : State) (d : Int) : State :=
  if s.maySlew then { s with time := { s.time with slew := d, lastSlew := some s.tb } } else s

/-! ### Commit points (R55 to R60) -/

/-- R24, R57: the island (number of R64; ANGLE 14) that owns a register's shadow; a pin-table entry is its owning cluster's
(DESIGN CHOICE, notes 10, 57). -/
def shadowIsland (addr idx value : Nat) : Nat :=
  let o := addr % 256
  match bits addr 15 8 with
  | 0x04 => if o = 0x13 ∨ o = 0x14 then 11 else 14
  | 0x05 => 2
  | 0x06 => 12
  | 0x07 => 12
  | 0x08 => 12
  | 0x09 => if o = 0x22 then 3 + bits value 14 12 else if o = 0x1E then 3 + idx else 3 + idx / 8
  | 0x0A => 11
  | 0x0E => 13
  | 0x0F => 13
  | 0x11 => 1
  | _ => 14

/-- The address of a register key. -/
def keyAddr (k : Nat) : Nat := k % 0x1000000
/-- The index of a register key. -/
def keyIdx (k : Nat) : Nat := k / 0x1000000

/-- The islands that hold a shadow of a set, each once, rising (DESIGN CHOICE, note 57). -/
def setIslands (c : Tbl Word) : List Nat :=
  (List.range 15).filter (fun i => c.any (fun p => shadowIsland (keyAddr p.1) (keyIdx p.1) p.2.toNat == i))

/-- R55, R57, R60, R67, R68: the open set is closed and a commit begins; in launch mode `c` is C. A PRIMARY counts its TRACKING
SHADOW as island 15 and tells it (R551) (DEDUCED, note 58). -/
def State.closeSet (s : State) (mode : CommitMode) (c : Tick) : State :=
  let isl := setIslands s.staged ++ (if s.tracked then [15] else [])
  let s1 := { s with staged := []
                     commit := { mode := mode, pending := true, c := if mode == CommitMode.launch then c else s.commit.c
                                 prepares := isl, waiting := isl, closed := s.staged, bad := s.commit.bad } }.logClose
  if s.mirrors then s1.twnSend 0x07 (twinList ([5, if mode == CommitMode.launch then 2 else 1] ++
    (wordsOf c 4).map (fun w => w.toNat))) else s1

/-- R59, R60: the pending set ends without applying: RESULT 2 cancelled, 3 refused. The islands drop what they read for it. -/
def State.dropSet (s : State) (result : Nat) : State :=
  let s1 := { s with commit := { s.commit with result := result, pending := false, armed := false, stands := false, cSent := false
                                               prepares := [], acks := [], waiting := [], closed := [], bad := []
                                               standing := false }
                     arcs := { s.arcs with load := [], loading := false }
                     cmb := { s.cmb with load := [], loading := false }
                     drv := { s.drv with load := none } }.logRestart
  let s2 := if s.commit.standing then { s1 with pwr := { s1.pwr with cfgRes := 9 } } else s1
  if s.mirrors then s2.twnSend 0x07 (twinList [6, result]) else s2

/-- R617: the code of an invalid shadow, in the block of its register (DEDUCED, note 58). -/
def shadowCode (addr : Nat) : Nat :=
  let b := bits addr 15 8
  0x50F1 + 0x100 * (if b ≤ 7 then b else if b ≤ 0x0B then b - 1 else if b ≤ 0x10 then b - 2 else 0xF)

/-- R57, R617: an island has the prepare message: it checks its shadows, reads the copies that the set loads, and acknowledges
(DESIGN CHOICE, note 57). -/
def State.prepare (s : State) (i : Nat) : State :=
  let mine := s.commit.closed.filter (fun p => shadowIsland (keyAddr p.1) (keyIdx p.1) p.2.toNat == i)
  let badOnes := mine.filter (fun p => s.commit.bad.contains p.1)
  if badOnes.isEmpty then
    let s1 := if i = 14 then s.arcPrepare else if i = 2 then s.cmbPrepare else if i = 12 then s.drivePrepare else s
    { s1 with commit := { s1.commit with acks := s1.commit.acks ++ [i] } }
  else badOnes.foldl (fun st p => st.report (shadowCode (keyAddr p.1)) (keyAddr p.1 % 256)) s

/-- ISLAND_PREPARE: the prepare message of the pending commit reaches an island; 15 is the partner (R57, R551). -/
def execIslandPrepare (island : Nat) (s : State) : Host.Outcome State Fault Refusal :=
  .next (
    if s.commit.pending && s.commit.prepares.contains island then
      { s with commit := { s.commit with prepares := s.commit.prepares.filter (· ≠ island) } }.prepare island
    else s)

/-- ISLAND_ACK: an island's acknowledgement reaches SUP; the last one arms the set; in launch-value mode one that comes after tick C - 128 does
not count (R57). A PRIMARY then names the boundary of a
cycle-boundary commit to its SHADOW (R550); a SHADOW then acknowledges to its PRIMARY (R551). -/
def execIslandAck (island : Nat) (s : State) : Host.Outcome State Fault Refusal :=
  .next (
    let c := s.commit
    if c.pending && c.acks.contains island then
      let w := if c.mode == .launch && decide (c.c < s.tb + 128) then c.waiting else c.waiting.filter (· ≠ island)
      let s1 := { s with commit := { c with acks := c.acks.filter (· ≠ island), waiting := w, armed := w.isEmpty
                                            armTick := if w.isEmpty then s.tb else c.armTick } }
      if w.isEmpty && c.mode == .cycle && s.mirrors then s1.twnSend 0x07 (twinList [4, (s.tan.cyc + 1) % 256])
      else if w.isEmpty && s.isShadow then s1.twnSend 0x07 (twinList [7])
      else s1
    else s)

/-- COMMIT_DECISION: the end of tick C - 128 of a launch-value commit (R57). A SHADOW follows its PRIMARY's decision (R551). -/
def execCommitDecision (s : State) : Host.Outcome State Fault Refusal :=
  .next (
    let c := s.commit
    if c.pending && c.mode == .launch && !c.stands && decide (c.c ≤ s.tb + 128) then
      if c.armed || s.isShadow then { s with commit := { c with stands := true } } else s.dropSet 3
    else s)

/-- A register that a set writes. -/
def wroteIn (c : Tbl Word) (addr idx : Nat) : Bool := (Tbl.find? (regKey addr idx) c).isSome

/-- A register that a set writes at any index. -/
def wroteAny (c : Tbl Word) (addr : Nat) : Bool := c.any (fun p => keyAddr p.1 == addr)

/-- R426: a commit that changes MODE of a feedback port. -/
def State.fbkApply (s : State) (oldMode n : Nat) : State := if s.fbkMode n = oldMode then s else s.fbkNewMode n

/-- R442 to R445: a commit that changes what the Tangent takes from the feedback ports, on the state `old` before it. The source is lost
where the port in use is no longer the one selected and usable; what the offset reached before stays. -/
def State.tanApply (s old : State) : State :=
  if old.tan.x.act then
    let x := s.tan.x
    let s1 := { s with tan := { s.tan with x := { x with off := old.xMax (s.tb - 1) x.coming x.off } } }
    let kept := match s1.xPort with
      | some (n, _) => s1.xOk && decide (n = x.port)
      | none => false
    if kept then s1 else s1.xLose (old.offAt s.tb)
  else s

/-- R142: a commit that changes the wheel. The geometry table stays as it is, its entries at positions that are now missing too; the offsets
are derived from it again (DESIGN CHOICE, note 86). -/
def State.wheelApply (s : State) (c : Tbl Word) : State :=
  if wroteIn c Reg.SYN_WHEEL 0 || wroteIn c Reg.SYN_GAP2 0 || wroteIn c Reg.SYN_CTL 0 || wroteIn c Reg.SYN_REF_LO 0 ||
      wroteIn c Reg.SYN_REF_HI 0 then
    { s with tan := { s.tan with offs := s.derive s.tan.g, offsBad := false } }
  else s

/-- R363, R406: a lane whose port map a commit changes keeps the port levels of the tick before until this tick ends. -/
def State.pmapApply (s old : State) (c : Tbl Word) : State :=
  (c.filter (fun p => decide (Reg.LAN_PMAP0 ≤ keyAddr p.1) && decide (keyAddr p.1 < Reg.LAN_PMAP0 + 8))).foldl (fun st p =>
    let l := keyIdx p.1
    if (st.lane l).remap.isSome then st
    else st.setLane l { st.lane l with remap := some (forUpTo (fun p acc => acc + b2n (old.portBefore l p) * 2 ^ p) 0 8 0) }) s

/-- R608: a commit that ends the node's part in the domain takes its ports down (DEDUCED, note 64). -/
def State.elxApply (s : State) (oldEn : Bool) : State := if oldEn && !(s.flag Reg.ELX_CFG 0 0) then s.elxAllDown else s

/-- R56: shadows become the values in effect, and what follows from each in the commit tick. -/
def State.applySet (s : State) (c : Tbl Word) : State :=
  let modes := (List.range 8).map (fun n => s.vlvMode n)
  let s0 := forUpTo (fun l st => st.laneSettle l) 0 64 s
  let s1 := { s0 with regs := c.foldl (fun (t : Tbl Word) (p : Nat × Word) => Tbl.insert p.1 p.2 t) s0.regs }
  let s2 := s1.arcApply (fun m => wroteIn c (Reg.ARC_EN0 + m) 0)
  let s3 := s2.cmbApply (wroteIn c Reg.CMB_EN0 0) (wroteIn c Reg.CMB_EN1 0)
  let s4 := s3.driveApply (s.cfg Reg.DRV_CTL 0) (s.cfg Reg.DRV_PCTL 0) (wroteIn c Reg.DRV_PCTL 0)
  let s5 := s4.ignVlvApply (s.cfg Reg.IGN_EN0 0) (s.cfg Reg.IGN_EN1 0) modes
  let s6 := (s5.fbkApply (s.fbkMode 0) 0).fbkApply (s.fbkMode 1) 1
  let s7 := ((s6.tanApply s).wheelApply c).pmapApply s c
  (s7.domApply (s.cfg Reg.PWR_DOM 0)).elxApply (s.flag Reg.ELX_CFG 0 0)

/-- The island of a shadow reaches tick C a tick after the ANGLE count, its replica lagging by one (R46, R49). -/
def State.shadowLags (s : State) (p : Nat × Word) : Bool :=
  decide (s.lag (shadowIsland (keyAddr p.1) (keyIdx p.1) p.2.toNat) = 1)

/-- R56: the shadows of the closed set, but for those that fail their check (R617), become the values in effect in each island's own
tick C: in this tick, and in the next where the island's replica lags. -/
def State.applyShadows (s : State) : State :=
  let c := s.commit.closed.filter (fun p => !(s.commit.bad.contains p.1))
  let late := c.filter s.shadowLags
  let s1 := s.applySet (c.filter (fun p => !(s.shadowLags p)))
  if late.isEmpty then s1 else s1.later (s1.tb + 1) (.applyLag late)

/-- R56, R60, R67, R660: the pending set applies in this tick. -/
def State.applyCommit (s : State) : State :=
  let s1 := s.applyShadows
  let s2 := { s1 with commit := { s1.commit with result := 1, pending := false, armed := false, stands := false, cSent := false
                                                 prepares := [], acks := [], waiting := [], closed := [], bad := []
                                                 standing := false } }.logRestart
  if s.commit.standing then { s2 with pwr := { s2.pwr with limited := true, limFrom := s.tb, cfgRes := 1 } } else s2

/-- R56, R57: the tick C of a set that stands, or whose boundary has come, is here. -/
def State.commitDue (s : State) : Bool :=
  s.commit.pending && decide (s.commit.c ≤ s.tb) && (match s.commit.mode with
    | .launch => s.commit.stands
    | .cycle => s.commit.cSent
    | .none => false)

/-- R56: a set whose tick C is here applies at the start of the tick. -/
def State.commitNow (s : State) : State := if s.commitDue then s.applyCommit else s

/-- COMMIT_APPLY: commit tick C of a set that stands, or whose boundary has come (R56, R57). The tick itself applies the set that stands
when it begins (DESIGN CHOICE, note 5). -/
def execCommitApply (s : State) : Host.Outcome State Fault Refusal := .next s.commitNow

/-! ### Registers of the block (R61, R65) -/

/-- TB_NOW0_READ: the 64-bit SUP replica is captured (R61). -/
def execTbNow0Read (s : State) : Host.Outcome State Fault Refusal :=
  .next { s with time := { s.time with cap := s.replicaNow 1 % 18446744073709551616 } }

/-- TB_STALE_CLR: COUNT := 0 (R65). -/
def execTbStaleClr (s : State) : Host.Outcome State Fault Refusal :=
  .next { s with time := { s.time with stale := 0 } }

end Sys2Proof.Machine
end

