-- ==== Sys2Proof/Machine/Integrity.lean ====
section
/-! DEFINITION. Held pairs, the scrubber and row repair, the fuse array, and the LAT_ commands (19_integrity_repair.md). -/

namespace Sys2Proof.Machine

/-! ### The background walk (R612 to R617) -/

/-- The i-th entry of a list changed. -/
def changeAt {α : Type} (f : α → α) : Nat → List α → List α
  | _, [] => []
  | 0, a :: l => f a :: l
  | i + 1, a :: l => a :: changeAt f i l

/-- The i-th entry of a list left out. -/
def dropAt {α : Type} : Nat → List α → List α
  | _, [] => []
  | 0, _ :: l => l
  | i + 1, a :: l => a :: dropAt i l

/-- R614: the i-th queue entry of an output fails its check: it waits for its rebuild, or goes. -/
def State.entryFails (s : State) (out i : Nat) : State :=
  match (s.queue out)[i]? with
  | none => s
  | some e =>
    let s1 := if s.restorable e.org then s.setQueue out (changeAt (fun x => { x with bad := true }) i (s.queue out))
      else ((s.setQueue out (dropAt i (s.queue out))).unlock e.org).headNext out
    s1.report 0x53F2 e.org.tag

/-- R614: the active-pulse end of an output fails its check: it waits for its rebuild, or fires in this tick. -/
def State.endFails (s : State) (out : Nat) : State :=
  match s.active out with
  | none => s
  | some p =>
    let s1 := if s.restorable p.org then s.setActive out (some { p with bad := true }) else s.fireEnd p (s.fireTick out s.tb) false
    s1.report 0x53F2 p.org.tag

/-- R615: one copy of a working profile is rewritten from the other; with both gone the set is unloaded. -/
def State.profileFails (s : State) (n : Nat) (both : Bool) : State :=
  if !s.drv.loaded then s else if both then s.profilesLost.report 0x56F2 n else s.report 0x56F2 n

/-- R626, R627: the value in use of a fuse field that holds `v`, and the code reported where the field is invalid
(DESIGN CHOICE, note 8). -/
def fuseUse (f v : Nat) : Nat × Option Nat :=
  if v = 0 then
    (if f = 8 ∨ f = 10 ∨ f = 12 ∨ f = 14 then 0xFFFF else if f = 9 ∨ f = 11 ∨ f = 13 ∨ f = 15 then 0x1F else 0, none)
  else if v % 65536 + v / 65536 = 65535 then (v % 65536, none)
  else if f ≤ 6 ∨ (17 ≤ f ∧ f ≤ 32) then (0, some 0x7F04)
  else if 81 ≤ f then (0, none)
  else if f = 16 then (7, some 0x5F03)
  else if 33 ≤ f ∧ f ≤ 64 then (if f % 2 = 1 then 0x8000 else 0, some 0x5F03)
  else (0, some 0x5F03)

/-- R627: the shadow of a field taken from the array. -/
def State.fuseShadow (s : State) (f : Nat) : State :=
  let u := fuseUse f (Tbl.get 0 f s.fus.array)
  let s1 := { s with fus := { s.fus with shadow := Tbl.insert f (TwinWord.of (toWord u.1)) s.fus.shadow } }
  match u.2 with
  | some code => s1.report code f
  | none => s1

/-- A held pair fails its check (R613). -/
def State.pairFails (s : State) : HeldPair → State
  | .entry out i => s.entryFails out i
  | .pulseEnd out => s.endFails out
  | .profile n both => s.profileFails n both
  | .arc n => s.arcPairFail n
  | .combustion c => s.cmbPairFail c
  | .geometry i learning =>
    (if learning then { s with tan := { s.tan with gl := Tbl.put 0 i 0 s.tan.gl } }
      else { s with tan := { s.tan with g := Tbl.put 0 i 0 s.tan.g } }).report 0x51F2 0
  | .ripple i => { s with tan := { s.tan with r := Tbl.put 0 i 0 s.tan.r } }.report 0x51F2 0
  | .offset _ => { s with tan := { s.tan with offsBad := true } }.report 0x51F2 0
  | .staged addr idx =>
    if s.isStaged addr idx then { s with commit := { s.commit with bad := regKey addr idx :: s.commit.bad } } else s
  | .fuse f => { s with fus := { s.fus with shadow := Tbl.erase f s.fus.shadow } }.fuseShadow f |>.report 0x5F02 f
  | .laneCompare l c shadow =>
    let u := (s.lane l).cmp c
    s.setLane l ((s.lane l).setCmp c (if shadow then { u with shadowBad := true } else { u with liveBad := true }))
  | .feedbackCompare n c high =>
    let p := s.inc n
    let u := Tbl.get {} c p.cmp
    let u1 := if high then { u with hi := ⟨u.hi.value, u.hi.value⟩ } else { u with lo := ⟨u.lo.value, u.lo.value⟩ }
    s.setInc n { p with cmp := Tbl.put {} c u1 p.cmp }
  | .laneMemory a => { s with lan := { s.lan with parity := if s.lan.parity.contains a then s.lan.parity else a :: s.lan.parity } }
  | .laneItem l item => s.setLane l { s.lane l with badItem := some item }

/-- PAIR_WALK_CHECK: a held pair is checked, in the background or at its use; `ok` says whether it passes (R612, R613)
(DEDUCED, note 71). -/
def execPairWalkCheck (pair : HeldPair) (ok : Bool) (s : State) : Host.Outcome State Fault Refusal :=
  .next (if ok then s else s.pairFails pair)

/-! ### The scrubber (R618 to R625) -/

/-- A bank's scrub pass. -/
def State.scrubOf (s : State) (b : Nat) : Scrub := Tbl.get {} b s.lat.scrub
/-- A bank's scrub pass set. -/
def State.setScrub (s : State) (b : Nat) (v : Scrub) : State :=
  { s with lat := { s.lat with scrub := Tbl.put {} b v s.lat.scrub } }

/-- R621: twin-words in a pass of one bank: its own and those of its 16 spare rows. -/
def scrubLen : Nat := 135168

/-- R621: the pass of a bank goes on to its next twin-word, or begins again. -/
def State.scrubNext (s : State) (b : Nat) : State :=
  let p := s.scrubOf b
  if p.pos + 1 < scrubLen then s.setScrub b { p with pos := p.pos + 1 }
  else s.setScrub b { pos := 0, start := s.tb, passes := p.passes + 1, late := false, seen := [], seenOld := p.seen }

/-- R621, R622: the scrubber reads and judges the next twin-word of a bank (DEDUCED, note 71). -/
def State.scrubWord (s : State) (b : Nat) : State :=
  let p := s.scrubOf b
  if 131072 ≤ p.pos then s.scrubNext b
  else
    let a := 4 * p.pos + b
    let row := bits a 18 10
    match s.latErrs a with
    | [] => (if (s.latRead a).valid then s else s.report 0x5E06 (rowAux b row)).scrubNext b
    | [e] =>
      let s1 := (s.latTouch a).setScrub b { p with seen := (a, e) :: p.seen }
      (if p.seenOld.contains (a, e) then s1.mapRow b row else s1).scrubNext b
    | _ => (s.latTouch a).scrubNext b

/-- R623: one scrubber clock of a bank's copy in progress, the oldest first: one twin-word read or written. -/
def copyClock (b : Nat) : List RowMap → List RowMap
  | [] => []
  | m :: ms => if m.bank = b ∧ 0 < m.left then { m with left := m.left - 1 } :: ms else m :: copyClock b ms

/-- R29, R619, R621, R623: one scrubber clock of a bank: a correction is written back, or a copy goes on, or the scrubber reads. -/
def State.scrubClock (b : Nat) (s : State) : State :=
  match s.lat.writeBack.find? (fun a => a % 4 == b) with
  | some a => { s with lat := { s.lat with errs := Tbl.erase a s.lat.errs, writeBack := s.lat.writeBack.filter (· != a) } }
  | none =>
    if s.lat.maps.any (fun m => m.bank == b && decide (0 < m.left)) then
      { s with lat := { s.lat with maps := copyClock b s.lat.maps } }
    else if s.sup.running then s.scrubWord b else s

/-- SCRUB_READ: one scrubber clock of each bank (R621). -/
def execScrubRead (s : State) : Host.Outcome State Fault Refusal := .next (forUpTo State.scrubClock 0 4 s)

/-- SCRUB_PASS_TIMEOUT: the pass of a bank is not complete 10,000,000 ticks after its start (R621). -/
def execScrubPassTimeout (bank : Nat) (s : State) : Host.Outcome State Fault Refusal :=
  .next (
    let p := s.scrubOf bank
    if bank < 4 ∧ p.start + 10000000 ≤ s.tb ∧ p.late = false then (s.setScrub bank { p with late := true }).report 0x2E05 (rowAux bank 0)
    else s)

/-- R624: the words of a copied row: corrected ones are right in the spare; an uncorrectable one fails its check from now on. -/
def State.copiedWord (bank row : Nat) (k : Nat) (s : State) : State :=
  let a := row * 1024 + 4 * k + bank
  if s.latUnc a then
    let v := (s.latRead a).value
    { s with lat := { s.lat with mem := Tbl.put latFill a ⟨v, v⟩ s.lat.mem, errs := Tbl.erase a s.lat.errs } }
  else { s with lat := { s.lat with errs := Tbl.erase a s.lat.errs } }

/-- ROW_COPY_DONE: the copy of a row of a bank is complete and the bank steers the row to its spare (R623). -/
def execRowCopyDone (bank : Nat) (s : State) : Host.Outcome State Fault Refusal :=
  .next (match s.lat.maps.find? (fun m => m.bank == bank && m.copying && decide (m.left = 0)) with
    | some m =>
      let s1 := { s with lat := { s.lat with maps := s.lat.maps.map (fun x => if x = m then { x with copying := false } else x)
                                             writeBack := s.lat.writeBack.filter (fun a => !(a % 4 == bank && bits a 18 10 == m.row)) } }
      forUpTo (State.copiedWord bank m.row) 0 256 s1
    | none => s)

/-! ### The fuse array (R626 to R629) -/

/-- R628: PROGLOCK, CFGLOCK, DBGLOCK in effect. -/
def State.locks (s : State) : Nat := s.fuse 16 % 8

/-- FUS_PROG: a write programs the field that FUS_SEL selects, where R629 accepts it. -/
def State.fusProg (s : State) (v : Nat) : Option State :=
  let f := s.fld Reg.FUS_SEL 0 6 0
  if bit s.locks 2 = false ∧ 6 ≤ f ∧ f ≤ 16 ∧ s.fuseKind f = 0 ∧ s.fus.prog = none then
    some { s with fus := { s.fus with prog := some (f, v % 65536) } }
  else none

/-- FUS_PROG: a write of the register (R629). -/
def execFusProg (value : Word) (s : State) : Host.Outcome State Fault Refusal := .next ((s.fusProg value.toNat).getD s)

/-- FUSE_PROGRAM_DONE: the field is programmed and its shadow takes it (R629). A new Elrex field begins the node afresh
(DEDUCED, note 71). -/
def execFuseProgramDone (s : State) : Host.Outcome State Fault Refusal :=
  .next (match s.fus.prog with
    | none => s
    | some (f, v) =>
      let s1 := { s with fus := { s.fus with prog := none, array := Tbl.insert f (v + 65536 * (65535 - v)) s.fus.array } }
      let s2 := s1.fuseShadow f
      if f = 7 then s2.elxAllDown.elxReset else s2)

/-! ### The LAT_ commands (R637) -/

/-- LAT_CNT_CLR: the named counts become 0; a reserved bit rejects the write. -/
def execLatCntClr (value : Word) (s : State) : Host.Outcome State Fault Refusal :=
  .next (
    let v := value.toNat
    if 4 ≤ v then s
    else { s with lat := { s.lat with ce := if bit v 1 then s.kept Reg.LAT_CNT 0 8 255 else s.lat.ce
                                      ue := if bit v 0 then s.kept Reg.LAT_CNT 0 0 255 else s.lat.ue } })

/-- R637: LAT_INJ's bit fields are 0 to 38, or 63. -/
def injOk (v : Nat) : Bool :=
  let ok := fun n => decide (n ≤ 38) || decide (n = 63)
  decide (bit v 14 = false) && decide (bits v 7 6 = 0) && ok (bits v 13 8) && ok (bits v 5 0)

/-- LAT_INJ: the injection is armed or set; a reserved value rejects the write. -/
def execLatInj (value : Word) (s : State) : Host.Outcome State Fault Refusal :=
  .next (if injOk value.toNat then s.setCfg Reg.LAT_INJ 0 value.toNat else s)

/-- R637: the Lattice write of a WR packet takes an armed injection (DEDUCED, note 71). -/
def State.inject (s : State) (a : Nat) : State :=
  let v := s.cfg Reg.LAT_INJ 0
  if bit v 15 then
    let b1 := bits v 13 8
    let b0 := bits v 5 0
    let l := if b1 = b0 then [] else [b0, b1].filter (fun n => decide (n ≤ 38))
    { s with lat := { s.lat with errs := Tbl.put [] a l s.lat.errs } }.setCfg Reg.LAT_INJ 0 (v - 32768)
  else s

/-- LAT_STAT (R637). -/
def State.latStat (s : State) : Nat :=
  b2n (!s.sup.running) * 32768 + b2n (s.lat.maps.any (fun m => m.copying)) * 16384 + (s.scrubOf 0).passes % 16384

/-- R637: the free spare rows of a bank. -/
def State.freeSpares (s : State) (b : Nat) : Nat := 16 - (s.lat.maps.filter (fun m => m.bank == b)).length

end Sys2Proof.Machine
end

