-- ==== Sys2Proof/Machine/Firmware.lean ====
section
/-! DEFINITION. The flash and the firmware images in it (19_integrity_repair.md R630, R631, R633). -/

namespace Sys2Proof.Machine

/-- A word of the flash; an erased one reads 0xFFFF. -/
def State.flashWord (s : State) (a : Nat) : Nat := (Tbl.get 0xFFFF#16 a s.fus.flash).toNat

/-- n words of the flash from a on. -/
def State.flashWords (s : State) (a : Nat) : Nat → List Nat
  | 0 => []
  | n + 1 => s.flashWord a :: s.flashWords (a + 1) n

/-- A word of the flash programmed. -/
def State.flashPut (s : State) (a v : Nat) : State :=
  { s with fus := { s.fus with flash := Tbl.put 0xFFFF#16 a (toWord v) s.fus.flash } }

/-- Words programmed from an address on. -/
def State.flashPuts (s : State) (a : Nat) : List Nat → State
  | [] => s
  | v :: vs => (s.flashPut a v).flashPuts (a + 1) vs

/-- A range of the flash erased (DEDUCED, note 69). -/
def State.flashErase (s : State) (a n : Nat) : State :=
  { s with fus := { s.fus with flash := s.fus.flash.filter (fun p => !(decide (a ≤ p.1) && decide (p.1 < a + n))) } }

/-- The words of an image slot, and where slot A (false) and slot B (true) begin. -/
def slotSize : Nat := 0xC0000
def slotBase (b : Bool) : Nat := if b then slotSize else 0

/-- The slot holds Tirore's image (DESIGN CHOICE, note 7). -/
def State.slotFactory (s : State) (b : Bool) : Bool := if b then s.fus.factoryB else s.fus.factoryA

/-- Word i of the image in a slot (DESIGN CHOICE, note 7). -/
def State.slotWord (s : State) (b : Bool) (i : Nat) : Nat :=
  if s.slotFactory b then Config.factoryWord i % 65536 else s.flashWord (slotBase b + i)

/-- The bytes of words, high byte first. -/
def highFirst : List Nat → List Nat
  | [] => []
  | w :: ws => w / 256 :: w % 256 :: highFirst ws

/-- A number from words, the first the highest. -/
def bigWords (ws : List Nat) : Nat := ws.foldl (fun acc w => acc * 65536 + w) 0

/-- R627: every field that the ROM needs to accept an image is valid. -/
def State.romAccepts (s : State) : Bool :=
  ((List.range 6) ++ (List.range 16).map (· + 17)).all (fun f => decide (s.fuseKind f = 1))

/-- R631: VRES of an image of which `received` words have been received (DEDUCED, note 69). -/
def State.imageVres (s : State) (b : Bool) (received : Nat) : Nat :=
  let w := fun a n => s.flashWords (slotBase b + a) n
  let body := s.slotWord b 5 + 65536 * s.slotWord b 6
  if !(s.slotWord b 0 == 0x5344 && s.slotWord b 1 == 1 && s.slotWord b 7 == 0) then 2
  else if body < 1 ∨ 786360 < body ∨ body + 72 ≠ received then 3
  else if sha256 (4 :: highFirst (w 8 32)) ≠ bigWords ((List.range 16).map (fun i => s.fuse (17 + i))) then 4
  else if ecdsaOk (bigWords (w 8 16)) (bigWords (w 24 16)) (bigWords (w 40 16)) (bigWords (w 56 16))
      (sha256 (highFirst (w 0 40 ++ w 72 body))) then 1
  else 5

/-- R631, R633: the image in a slot verifies; with no words just received, BODYLEN need only be in range (DESIGN CHOICE, note 7). -/
def State.slotOk (s : State) (b : Bool) : Bool :=
  s.romAccepts && (s.slotFactory b || decide (s.imageVres b (s.slotWord b 5 + 65536 * s.slotWord b 6 + 72) = 1))

/-- R637: FUS_FWVA and FUS_FWVB. -/
def State.slotVersion (s : State) (b : Bool) : Nat := if s.slotOk b then s.slotWord b 3 else 0

/-- R573, R577: TWN_FMT, the state format of the firmware that runs. -/
def State.stateFormat (s : State) : Nat := s.slotWord s.fus.bootB 2

end Sys2Proof.Machine
end

