-- ==== Sys2Proof/Machine/RegCheck.lean ====
section
/-! DEFINITION. Which values a register takes: check 10 of 16_command_ports.md R692 (reserved bits of 00_scope.md R16, and values that a
field's register table marks reserved or places outside its range), and the relations that chapters check at execution. -/

namespace Sys2Proof.Machine

/-! ### The entry that a selection register names -/

/-- The index of the register at an address: what its block's selection registers name. -/
def State.regIdx (s : State) (a : Nat) : Nat :=
  let o := a % 256
  match bits a 15 8 with
  | 0x02 => if o = 0x0A ∨ o = 0x0B then s.cfg Reg.SYN_CPSEL 0 else 0
  | 0x04 => if o = 0x13 ∨ o = 0x14 then s.cfg Reg.ARC_CSEL 0 else 0
  | 0x08 => if 1 ≤ o ∧ o ≤ 9 then s.cfg Reg.VLV_SEL 0 else 0
  | 0x09 =>
    if o = 0x1E ∨ o = 0x1F ∨ o = 0x20 then s.fld Reg.LAN_SEL 0 6 4
    else if o = 0x22 then s.cfg Reg.LAN_PSEL 0
    else if 1 ≤ o ∧ o ≤ 0x1D then s.laneSel
    else 0
  | 0x0A =>
    if 0x16 ≤ o ∧ o ≤ 0x18 then 4 * s.fld Reg.FBK_SEL 0 0 0 + s.fld Reg.FBK_SEL 0 3 2
    else if 0x19 ≤ o ∧ o ≤ 0x26 then s.fld Reg.FBK_SEL 0 4 4
    else if 1 ≤ o ∧ o < 0x16 then s.fld Reg.FBK_SEL 0 0 0
    else 0
  | 0x0B =>
    if o = 1 ∨ o = 2 then s.cfg Reg.IRC_SSEL 0
    else if o = 0x0C ∨ o = 0x0D then s.cfg Reg.IRC_TSEL 0
    else if o = 0x11 then s.cfg Reg.IRC_WSEL 0
    else 0
  | 0x0C => if 1 ≤ o ∧ o ≤ 7 then s.cfg Reg.DMA_CSEL 0 else 0
  | _ => 0

/-! ### Check 10 (R692): what needs no other register and no state -/

/-- A value lies in a range. -/
def within (lo hi v : Nat) : Bool := decide (lo ≤ v) && decide (v ≤ hi)

/-- R66. -/
def tbFields (o v : Nat) : Bool := if o = 0x08 then decide (2000 ≤ v) else true

/-- R96, R98, R99, R103, R172, R176. -/
def angFields (o v : Nat) : Bool :=
  if o = 0x01 ∨ o = 0x02 then decide (bits v 8 6 ≠ 0) && decide (bits v 5 0 ≠ 0)
  else if o = 0x06 then decide (v ≤ 48)
  else if o = 0x08 ∨ o = 0x09 ∨ o = 0x41 then decide (v ≠ 0)
  else if o = 0x14 then decide (bits v 10 8 < 6)
  else if o = 0x40 then decide (bits v 15 14 ≠ 3) && within 2 10 (bits v 11 8) && within 2 10 (bits v 7 4)
  else if o = 0x74 then decide (bits v 3 0 ≤ 4)
  else true

/-- R134. -/
def synFields (o v : Nat) : Bool :=
  if o = 0x00 then decide (bits v 10 8 ≠ 0) && decide (2 ≤ bits v 7 4) && decide (2 ≤ bits v 3 0)
  else if o = 0x01 then decide (bits v 11 10 ≠ 0) && within 8 400 (bits v 8 0)
  else if o = 0x02 then decide (bits v 11 10 ≠ 0)
  else if o = 0x03 then within 1 12 v
  else if o = 0x06 ∨ o = 0x08 then decide (v ≠ 0)
  else if o = 0x07 then decide (bits v 10 8 ≠ 0) && decide (bits v 6 4 ≠ 0)
  else if o = 0x0C ∨ o = 0x0D then decide (bits v 13 8 ≤ 32) && decide (bits v 5 0 ≤ 32)
  else true

/-- R214 to R216. -/
def evqFields (o v : Nat) : Bool :=
  if o = 0x04 then (if bit v 8 then decide (bits v 6 0 = 0) else decide (bits v 6 0 < 96))
  else if o = 0x0A then decide (v ≤ 4)
  else if o = 0x0E then decide (v ≤ 1024)
  else if o = 0x10 then decide (v < 96)
  else true

/-- R242. -/
def arcFields (o v : Nat) : Bool :=
  if o = 0x13 then within 0x6000 0xA000 v
  else if o = 0x14 then decide (-2048 ≤ signedOf 16 v) && decide (signedOf 16 v ≤ 2047)
  else true

/-- R304, R306, R307. -/
def drvFields (o v : Nat) : Bool :=
  if o = 0x03 then within 10 1000 v
  else if 0x04 ≤ o ∧ o ≤ 0x1B then within 20 2000 v
  else if o = 0x2B ∨ o = 0x31 then decide (bits v 13 8 ≠ 0) && decide (4 ≤ bits v 7 0)
  else if o = 0x2C ∨ o = 0x32 then decide (bits v 15 8 ≠ 0) && decide (bits v 7 0 ≠ 0)
  else if o = 0x35 then decide (bits v 14 12 ≤ 5)
  else if o = 0x38 then within 1 4096 v
  else true

/-- R336. -/
def ignFields (o v : Nat) : Bool :=
  if o = 0x02 then within 20 200 v else if o = 0x03 then decide (100 ≤ v) else true

/-- R337. -/
def vlvFields (o v : Nat) : Bool :=
  if o = 0x01 then (if bit v 3 then decide (bits v 7 4 ≠ 0) else decide (bits v 15 8 = 0) && decide (bits v 7 4 = 0))
  else if o = 0x02 then within 12 2500 v
  else if o = 0x07 ∨ o = 0x09 then decide (v ≠ 0)
  else true

/-- R382 to R385. -/
def lanFields (o v : Nat) : Bool :=
  if o = 0x01 then decide (bits v 14 13 ≠ 0)
  else if o = 0x09 ∨ o = 0x0A then decide (bits v 11 10 ≠ 3) && (decide (o = 0x0A) || decide (bits v 14 12 ≠ 6)) && decide (bits v 14 12 ≠ 7)
  else if o = 0x0C then
    let trg := fun t p x => decide (t ≤ 5) && decide (x ≠ 3) && (decide (p = 0) || within 1 3 t)
    trg (bits v 15 13) (bits v 12 10) (bits v 9 8) && trg (bits v 7 5) (bits v 4 2) (bits v 1 0)
  else if 0x0D ≤ o ∧ o ≤ 0x10 then
    let kind := bits v 11 8
    let num := bits v 3 0
    decide (kind ≤ 7) && (if kind ≤ 3 then decide (num = 0) else if kind ≤ 6 then decide (num ≤ 7) else true)
  else if 0x15 ≤ o ∧ o ≤ 0x1C then
    match bits v 15 14 with
    | 0 => decide (bits v 6 0 = 0)
    | 1 => decide (bits v 6 0 < 96)
    | 2 => decide (bits v 6 0 ≤ 4)
    | _ => false
  else if o = 0x1F then decide (bits v 15 14 ≠ 0) && (decide (bits v 15 14 ≠ 3) || decide (bits v 2 0 = 0))
  else if o = 0x21 then decide (v < 96)
  else if o = 0x22 then
    decide (bits v 4 3 ≠ 3) && decide (bits v 2 1 ≠ 3) && (!(bit v 11) || decide (bits v 7 5 = 0) && decide (bits v 10 8 ≤ 4))
  else true

/-- R452, R453. -/
def fbkFields (o v : Nat) : Bool :=
  if o = 0x01 then decide (bits v 15 14 ≠ 3) && decide (2 ≤ bits v 7 0)
  else if o = 0x02 then within 10 5000 v
  else if o = 0x03 ∨ o = 0x04 then decide (-4096 ≤ signedOf 16 v) && decide (signedOf 16 v ≤ 4095)
  else if o = 0x05 ∨ o = 0x06 then within 0x6000 0xA000 v
  else if o = 0x07 then decide (bits v 7 0 ≠ 0) && decide (bits v 7 0 < bits v 15 8)
  else if o = 0x09 ∨ o = 0x1E ∨ o = 0x1F then decide (v ≠ 0)
  else if o = 0x16 then decide (bits v 12 11 ≠ 3)
  else if o = 0x19 then within 1 48 (bits v 5 0)
  else if o = 0x1A then decide (10 ≤ bits v 7 0)
  else if o = 0x1B then decide (bits v 4 0 ≤ 16)
  else true

/-- R461, R475, R476. -/
def ircFields (o v : Nat) : Bool :=
  if o = 0x01 then decide (bits v 7 0 ≤ 5) || decide (0x80 ≤ bits v 7 0)
  else if o = 0x05 then decide (v ≠ 0)
  else if o = 0x0E then decide (v ≠ 0)
  else if o = 0x10 then decide (v ≠ 15)
  else true

/-- R492, R495. -/
def dmaFields (o v : Nat) : Bool :=
  if o = 0x01 then within 1 256 v
  else if o = 0x02 then
    match bits v 15 14 with
    | 0 => decide (bits v 8 0 = 0)
    | 1 => true
    | 2 => decide (bits v 8 0 < 32)
    | _ => false
  else if o = 0x04 then within 1 5 v
  else true

/-- R577, R608. -/
def linkFields (a v : Nat) : Bool :=
  if a = Reg.TWN_CFG then decide (bits v 11 8 ≠ 0)
  else if a = Reg.ELX_TIM then decide (bits v 15 8 ≠ 0) && decide (2 ≤ bits v 3 0)
  else true

/-- R16, R523, R692: check 10 of a register value. -/
def fieldOk (a v : Nat) : Bool :=
  match regRow? a with
  | none => decide (v = 0)
  | some r =>
    decide (v &&& (0xFFFF ^^^ r.known) = 0) &&
    (let o := a % 256
     match bits a 15 8 with
     | 0x00 => tbFields o v
     | 0x01 => angFields o v
     | 0x02 => synFields o v
     | 0x03 => evqFields o v
     | 0x04 => arcFields o v
     | 0x06 => drvFields o v
     | 0x07 => ignFields o v
     | 0x08 => vlvFields o v
     | 0x09 => lanFields o v
     | 0x0A => fbkFields o v
     | 0x0B => ircFields o v
     | 0x0C => dmaFields o v
     | 0x10 => decide (o ≠ 0x07) || injOk v
     | 0x11 => decide (o ≠ 0x00) || decide (v % 16 = 15)
     | _ => linkFields a v)

/-! ### Relations to other values (R86, R106, R107, R112, R306, R336, R427, R434, R453) -/

/-- The value that a register would have, as staged or in effect, once `v` is written at address a, index i. -/
def State.would (s : State) (a i v : Nat) (a' : Nat) : Nat := if a' = a then v else s.cfgStaged a' i

/-- R106: the wheel that a write would leave. -/
def State.wheelOk (s : State) (a v : Nat) : Bool :=
  let w := s.would a 0 v Reg.SYN_WHEEL
  let w2 := s.would a 0 v Reg.SYN_GAP2
  let n := bits w 8 0
  let m1 := bits w 11 10
  let m2 := bits w2 11 10
  let g := bits w2 8 0
  !(bit w 12) ||
    (decide (3 ≤ g) && decide (g + m2 + m1 + 3 ≤ n) && (decide (m1 ≠ m2) || decide (g ≠ n - m1 - m2 - g)) &&
     (decide (m1 = m2) || decide (s.would a 0 v Reg.SYN_GTOL ≤ 7)))

/-- The synchronisation state is SEARCH or STALL. -/
def State.searching (s : State) : Bool :=
  match s.sync.state with
  | .search => true
  | .stall => true
  | _ => false

/-- R112: STROKE = 1 is staged or in effect. -/
def State.strokeAny (s : State) : Bool :=
  s.flag Reg.SYN_CTL 0 12 || bit (s.cfgClosed Reg.SYN_CTL 0) 12 || bit (s.cfgStaged Reg.SYN_CTL 0) 12

/-- R86: the direction settings that a write would leave, beside the other registers' open staged values, or else those in effect. -/
def State.dirOk (s : State) (a v : Nat) : Bool :=
  let g := fun k => if k = a then v else s.cfgOpen k 0
  let hall := fun n => bit (g (Reg.ANG_CRK0_AFE + n)) 11
  if a = Reg.ANG_DIR_FWD ∨ a = Reg.ANG_DIR_REV then decide (g Reg.ANG_DIR_FWD < g Reg.ANG_DIR_REV)
  else (List.range 2).all (fun n => !(bit (g Reg.ANG_DIR_CFG) n) || hall n)

/-- R306: the settings of boost controller n that a write would leave. -/
def State.boostOk (s : State) (n a v : Nat) : Bool :=
  let g := fun k => s.would a 0 v (Reg.DRV_BST0_TGT + 6 * n + k)
  let tgt := g 0
  let rdy := g 1
  let ovp := g 2
  let hyst := bits (g 3) 7 0
  within 960 3840 tgt && decide (tgt < ovp) && decide (ovp ≤ 4000) && within 1 tgt rdy && decide (hyst + 960 < tgt)

/-- R336: the dwell limits that a write would leave. -/
def State.dwellOk (s : State) (a v : Nat) : Bool :=
  let lo := s.would a 0 v Reg.IGN_DWMIN
  decide (lo = 0) || decide (lo < s.would a 0 v Reg.IGN_DWMAX)

/-- The INPUT of an arc: its working copy's or, for one not loaded, its record's in the Lattice. -/
def State.arcInput (s : State) (n : Nat) : Nat :=
  match (s.arcOf n).copy with
  | some r => r.input
  | none => (arcRecOf (s.latVals (0x15000 + 16 * n) 16)).input

/-- R427: no arc that the next commit leaves enabled uses the converters of feedback port p. -/
def State.convsFree (s : State) (p : Nat) : Bool :=
  (List.range 256).all (fun n =>
    !(bit (s.cfgStaged (Reg.ARC_EN0 + n / 16) 0) (n % 16)) || decide (s.arcInput n % 16 / 2 ≠ 6 + p))

/-- R453: the settings of SSI port n that a write would leave. -/
def State.ssiOk (s : State) (n a v : Nat) : Bool :=
  let g := s.would a n v
  let nbits := bits (g Reg.FBK_SSI_CFG) 5 0
  let fmt := g Reg.FBK_SSI_FMT
  let cw := bits fmt 4 0
  decide (cw < nbits) && decide (bits fmt 13 8 + cw < nbits) && decide (g Reg.FBK_SSI_POLY < 2 ^ cw) && decide (g Reg.FBK_SSI_INIT < 2 ^ cw) &&
  (decide (cw ≠ 0) || !(bit fmt 7)) && decide (bits (g Reg.FBK_SSI_CLK) 15 8 < 2 * bits (g Reg.FBK_SSI_CLK) 7 0)

/-- R640: the open or closed staged set switches off a domain that holds the register, leaving none of its domains on. -/
def State.stagedOff (s : State) (a idx : Nat) : Bool :=
  let l := regDoms a idx
  !l.isEmpty && l.all (fun d => !(bit (s.cfgStaged Reg.PWR_DOM 0) d))

/-- The relations that a staged write must keep; true where its chapter names none. -/
def State.relationOk (s : State) (a i v : Nat) : Bool :=
  let o := a % 256
  match bits a 15 8 with
  | 0x01 =>
    if a = Reg.ANG_IN_CTL then s.searching || bit v 6 == s.flag Reg.ANG_IN_CTL 0 6
    else if o = 0x01 ∨ o = 0x02 ∨ (0x07 ≤ o ∧ o ≤ 0x09) then s.dirOk a v
    else true
  | 0x02 =>
    if a = Reg.SYN_CTL then s.searching || bit v 12 == s.flag Reg.SYN_CTL 0 12
    else if a = Reg.SYN_WHEEL ∨ a = Reg.SYN_GAP2 then s.searching && s.wheelOk a v
    else if a = Reg.SYN_GTOL then s.wheelOk a v
    else if a = Reg.SYN_REF_LO ∨ a = Reg.SYN_REF_HI then s.searching
    else if a = Reg.SYN_CAM_CTL then decide (bits v 3 0 = 0) || !s.strokeAny
    else true
  | 0x06 =>
    if 0x28 ≤ o ∧ o ≤ 0x2B then s.boostOk 0 a v else if 0x2E ≤ o ∧ o ≤ 0x31 then s.boostOk 1 a v else true
  | 0x07 => if a = Reg.IGN_DWMAX ∨ a = Reg.IGN_DWMIN then s.dwellOk a v else true
  | 0x0A =>
    if a = Reg.FBK_CFG then
      decide (s.would a i v Reg.FBK_BW * bits v 7 0 ≤ 63662) && (decide (bits v 15 14 ≠ 1) || s.convsFree i)
    else if a = Reg.FBK_BW then decide (v * bits (s.would a i v Reg.FBK_CFG) 7 0 ≤ 63662)
    else if 0x19 ≤ o ∧ o ≤ 0x1F then s.ssiOk i a v
    else true
  | 0x0F => decide (a ≠ Reg.ELX_CFG) || !(bit v 0) || decide (s.fusedRole ≠ 0)
  | _ => true

end Sys2Proof.Machine
end

