-- ==== Sys2Proof/Machine/Wheel.lean ====
section
/-! DEFINITION. The wheel inputs and the conditions of the synchronisation machine (03_wheel_inputs.md; 04_sync.md R113 to
R132). -/

namespace Sys2Proof.Machine

/-- A wheel input. -/
def State.input (s : State) (i : Nat) : Input := Tbl.get {} i s.wheel.inp
/-- A wheel input set. -/
def State.setInput (s : State) (i : Nat) (v : Input) : State :=
  { s with wheel := { s.wheel with inp := Tbl.put {} i v s.wheel.inp } }
/-- The active crank input (R95). -/
def State.activeCrank (s : State) : Nat := s.fld Reg.ANG_IN_CTL 0 6 6
/-- The input is in Hall mode (R69, R96). -/
def State.hall (s : State) (i : Nat) : Bool := s.flag (Reg.ANG_CRK0_AFE + i) 0 11
/-- R639, R648: the wheel-input synchronisers run: the ANGLE domain is ON, or the device is in Poise or Nap; an edge of those rungs is judged
after the exit. -/
def State.angleOn (s : State) : Bool := s.domOn 3 || decide (s.pwr.rung = 1) || decide (s.pwr.rung = 2)
/-- R82: direction is decoded on a crank input. -/
def State.decodes (s : State) (i : Nat) : Bool := s.hall i && s.flag Reg.ANG_DIR_CFG 0 i

/-- The newest vertex record of an input changed. -/
def State.onHead (s : State) (i : Nat) (f : Vertex → Vertex) : State :=
  match (s.input i).hist with
  | v :: vs => s.setInput i { s.input i with hist := f v :: vs }
  | [] => s

/-! ### Rejections (R93, R94) -/

/-- R93, R94, R102: a rejection in this tick of an edge with stamp e, with its reason (1 spacing, 2 noise). -/
def State.rejectEdge (s : State) (i reason e : Nat) : State :=
  let v := s.input i
  let v' := if reason = 1 then { v with spacing := satInc (if i < 2 then 255 else 15) v.spacing }
    else { v with noise := satInc 255 v.noise }
  let s1 := (s.setInput i v').hit Reg.ANG_CNT_CRK0 i reason
  ({ s1 with wheel := { s1.wheel with rejT := e, rejInput := i, rejReason := reason } }.arrive (0x010 + i)).reportCycle
    (0x2100 + reason) i i

/-! ### Acceptance (R75 to R81) -/

/-- R80, R91: the shorter of the last two accepted periods; none when both are 0xFFFF_FFFF. -/
def Input.shorter (v : Input) : Option Nat :=
  if v.per1 = 0xFFFFFFFF ∧ v.per2 = 0xFFFFFFFF then none else some (min v.per1 v.per2)

/-- R80, R91: the period P of the noise window; none where the window is not applied (DEDUCED, note 16). -/
def State.noiseP (s : State) (i : Nat) : Option Nat :=
  if i = s.activeCrank then
    match s.sync.state with
    | .crankSync | .fullSync | .reverse => some s.tan.seg.phat
    | .toothLock => (s.input i).shorter
    | _ => none
  else (s.input i).shorter

/-- R77: the edge fails the spacing check. -/
def tooClose (v : Input) (minsp e : Nat) : Bool :=
  match v.lastV with
  | some x => decide (e - x < minsp)
  | none => false

/-- R79: the edge fails the noise window. -/
def State.noisy (s : State) (i e : Nat) : Bool :=
  match (s.input i).lastV, s.noiseP i with
  | some x, some p => decide (e - x < p * s.fld Reg.ANG_NWIN 0 5 0 / 64)
  | _, _ => false

/-- R87, R88: an accepted edge becomes a vertex; `depth` is the depth of the history (DESIGN CHOICE, note 11; DEDUCED,
note 19). -/
def State.accept (s : State) (i e depth : Nat) (lvl : Bool) (pos : Nat) : State :=
  let v := s.input i
  let p := match v.lastV with
    | some x => min (e - x) 0xFFFFFFFF
    | none => 0xFFFFFFFF
  s.setInput i { v with
    hist := ({ stamp := e, period := p, lvl := lvl, pos := pos, seq := (v.seq + 1) % 256 } :: v.hist).take depth
    lastV := some e, per1 := p, per2 := v.per1, seq := v.seq + 1 }

/-! ### Reverse rotation (R131, R132, R159, R160) -/

/-- The half when the position passes downward from p (R131). -/
def State.halfBefore (s : State) (p : Nat) (h : Bool) : Bool := if p = 0 && !s.twoStroke then !h else h

/-- The position and half of the newest vertex of the active input written into its record. -/
def State.place (s : State) (pos : Nat) (half gap : Bool) : State :=
  { s.onHead s.activeCrank (fun v => { v with pos := pos, half := half, gap := gap }) with
    sync := { s.sync with pos := pos, half := half, prevPos := s.sync.pos } }

/-- R131, R159: a REVERSE decision in CRANK_SYNC or FULL_SYNC (DEDUCED, note 15). -/
def State.enterReverse (s : State) : State :=
  let pos := s.prevPosOf s.sync.pos
  let half := s.halfBefore s.sync.pos s.sync.half
  let clean := decide (s.sync.errs = 0)
  let frm := s.sync.state
  let s1 := { s with tan := { s.tan with hold := s.accAt s.tb, x := { s.tan.x with act := false, lostAt := none }, wrap := none } }
  let s2 := s.goReport .reverse 7 s.tb 0x2207
  let s3 := { s2 with tan := { s2.tan with hold := s1.tan.hold, x := s1.tan.x, wrap := none }
                      sync := { s2.sync with revFrom := frm, revClean := clean, fwdRun := 0, revOpen := none } }
  (s3.place pos half false).stepAngle pos half

/-- R122, R162: the half with the phase correction that awaits this vertex. -/
def State.corrected (s : State) (half : Bool) : Bool := half != s.sync.corr

/-- R131, R132, R109: a vertex of REVERSE takes a position and a half, and is tested or not; an error that reaches ERRLIM leaves the
angle to the change of state (DEDUCED, note 15). -/
def State.reversePlace (s : State) (pos : Nat) (half gap ok clears : Bool) : State :=
  let h := s.corrected half
  let s1 := s.place pos h gap
  let s2 := { s1 with sync := { s1.sync with revOpen := none, corr := false, errs := if ok && clears then 0 else s1.sync.errs } }
  let s3 := if ok then s2 else s2.syncErr
  if ok || !s3.errsFull then s3.stepAngle pos h else s3

/-- R131: a REVERSE decision in REVERSE (DEDUCED, notes 15, 16). -/
def State.reverseStep (s : State) : State :=
  match s.sync.revOpen with
  | none => s
  | some _ =>
    let v := s.input s.activeCrank
    let p0 := s.sync.pos
    let pos := s.prevPosOf p0
    let m := s.gapBefore p0
    let ok := s.toothOk m (s.segM p0) v.per1 v.per2
    { s with sync := { s.sync with fwdRun := 0, turned := false } }.reversePlace pos (s.halfBefore p0 s.sync.half) false ok
      (decide (m ≠ 0))

/-- R129, R187: the outputs that a running angle makes usable again outside ELIGIBLE are keyed in tick t, and heads commit in
tick t + 1. -/
def State.resumeAngle (s : State) (t : Tick) : State := s.keyRange t 56 40

/-- R132, R160: a FORWARD decision in REVERSE. The first FORWARD vertex after a REVERSE one takes its position and is not tested; each
later one takes the next and is, also after an AMBIGUOUS one, which ends only the run. -/
def State.reverseForward (s : State) : State :=
  match s.sync.revOpen with
  | none => s
  | some e =>
    let v := s.input s.activeCrank
    let p0 := s.sync.pos
    let run := s.sync.fwdRun + 1
    let later := s.sync.turned
    let pos := if later then s.nextPos p0 else p0
    let half := if later then s.halfAfter p0 s.sync.half else s.sync.half
    let m := s.gapBefore pos
    let ok := !later || s.toothOk m (s.gapBefore p0 + 1) v.per1 v.per2
    let s1 := { s with sync := { s.sync with fwdRun := run, turned := true } }.reversePlace pos half (later && decide (m ≠ 0)) ok
      (later && decide (m ≠ 0))
    if s1.fld Reg.SYN_CTL 0 7 4 ≤ run then s1.found (.back e v.per1 (if 3 ≤ run then some v.per2 else none) m) else s1

/-- R132, R160: REVERSE is left after LOCKN consecutive FORWARD decisions, the last for the vertex with stamp e. -/
def State.leaveReverse (s : State) (e p : Nat) (pp : Option Nat) (m : Nat) : State :=
  if s.flag Reg.SYN_CTL 0 14 && s.sync.revClean then
    let s1 := s.go s.sync.revFrom 0x0A s.tb false
    let s2 := { s1 with sync := { s1.sync with prevGap := m } }
    (s2.startAt e p s2.sync.pos s2.sync.half pp s.tb).resumeAngle s.tb
  else s.go .toothLock 0x0A s.tb false

/-- R84, R113, R114: a direction decision (1 FORWARD, 2 REVERSE, 3 AMBIGUOUS) of the active input reaches the machine. -/
def State.syncDirection (s : State) (code : Nat) : State :=
  match s.sync.state with
  | .search => if code = 1 then s else { s with sync := { s.sync with lockCount := 0 } }
  | .toothLock => if code = 1 then s else s.found (.dir code)
  | .crankSync | .fullSync => if code = 2 then s.found (.dir code) else if code = 3 then s.syncErr else s
  | .reverse =>
    if code = 1 then s.reverseForward
    else if code = 2 then s.reverseStep
    else { s with sync := { s.sync with fwdRun := 0, revOpen := none } }.syncErr
  | .stall => s

/-- R83, R84: a direction decision on an input enters its vertex record and, on the active input, the machine (DEDUCED, note 15). -/
def State.directionDecided (s : State) (i code : Nat) : State :=
  let s1 := s.onHead i (fun v => { v with dir := code })
  let v := s1.input i
  let s2 := s1.setInput i { v with dirOpen := none, lastDir := code, ambig := if code = 3 then satInc 15 v.ambig else v.ambig }
  let s3 := if code = 3 then (s2.hit Reg.ANG_CNT_CRK0 i 3).reportCycle 0x2103 i i else s2
  if i = s3.activeCrank then s3.syncDirection code else s3

/-- R82, R83: a direction decision of input i is on its way, or a trailing transition before tick t that is still to be judged. -/
def State.dirComing (s : State) (i : Nat) (t : Tick) : Bool :=
  s.agenda.any (fun w => match w.2 with
    | .trail j u => j == i && decide (u < t)
    | .dir j _ => j == i
    | _ => false)

/-- R83, R85: an active edge has arrived, two ticks after its crossing, with the direction of the one before it still open and no
trailing transition before it on its way; the decision takes effect in the next tick (DEDUCED, note 19). -/
def State.closeDir (s : State) (i : Nat) : State :=
  if (s.input i).dirOpen.isSome && !(s.dirComing i (s.tb - 2)) then s.later (s.tb + 1) (.dir i 3) else s

/-- R82, R83: a trailing transition of tick t is judged in T + 4; the decision takes effect in the next tick. -/
def State.trailCheck (s : State) (i t : Nat) : State :=
  match (s.input i).dirOpen with
  | some e =>
    let w := t - e
    s.later (s.tb + 1) (.dir i (if w < 20 * s.cfg Reg.ANG_DIR_FWD 0 then 1 else if w < 20 * s.cfg Reg.ANG_DIR_REV 0 then 3 else 2))
  | none => s

/-- R82, R83, R100: the trailing transition of a direction pulse crosses its threshold in this tick, to a level. -/
def State.trailing (s : State) (i : Nat) (high : Bool) : State :=
  (s.later (s.tb + 2) (.level i high)).later (s.tb + 4) (.trail i s.tb)

/-- DIR_TRAILING_EDGE: the trailing transition of a direction pulse crosses its threshold in this tick (R82, R83). -/
def execDirTrailingEdge (input : Nat) (s : State) : Host.Outcome State Fault Refusal :=
  .next (if input < 2 ∧ s.angleOn = true then s.trailing input (s.flag (Reg.ANG_CRK0_AFE + input) 0 10) else s)

/-- DIR_REVERSE_DECISION: the width of an open direction pulse reaches REV_TH, its trailing transition not having come before (R82); the
decision takes effect in the next tick (R83). -/
def execDirReverseDecision (input : Nat) (s : State) : Host.Outcome State Fault Refusal :=
  .next (match (s.input input).dirOpen with
    | some e =>
      let t := e + 20 * s.cfg Reg.ANG_DIR_REV 0
      if input < 2 ∧ t ≤ s.tb ∧ s.dirComing input t = false then s.later (s.tb + 1) (.dir input 2) else s
    | none => s)

/-! ### The active crank input's vertices (R109, R113, R114, R118, R119) -/

/-- R109, R110, R122: a vertex with stamp e and periods p and pp in CRANK_SYNC or FULL_SYNC. One whose error reaches ERRLIM sets no
anchor: the machine leaves in this tick (R113). -/
def State.forwardVertex (s : State) (e p pp : Nat) : State :=
  let pos := s.nextPos s.sync.pos
  let m := s.gapBefore pos
  let ok := s.toothOk m (s.sync.prevGap + 1) p pp
  let fix := s.sync.corr
  let half := s.corrected (s.halfAfter s.sync.pos s.sync.half)
  let s1 := s.place pos half (decide (m ≠ 0))
  let s2 := { s1 with sync := { s1.sync with prevGap := m, corr := false, errs := if ok && decide (m ≠ 0) then 0 else s1.sync.errs } }
  let s3 := if ok then s2 else s2.syncErr
  if ok || !s3.errsFull then s3.anchorAt e p pos half fix else s3

/-- R118: the position and gap that a vertex in TOOTH_LOCK identifies, with `n` the edges since the candidate (DEDUCED, note 19). -/
def State.identify (s : State) (p pp : Nat) (n : Option Nat) : Option (Nat × Nat) :=
  let g1 := s.gapLike s.wheelM1 1 p pp
  if !s.wheelGaps then (if g1 then some (0, s.wheelM1) else none)
  else if s.wheelM1 ≠ s.wheelM2 then
    (if g1 then some (0, s.wheelM1)
     else if s.gapLike s.wheelM2 1 p pp then some (s.wheelG2 + s.wheelM2, s.wheelM2) else none)
  else if g1 then
    match n with
    | some c =>
      if c = s.wheelG2 then some (s.wheelG2 + s.wheelM2, s.wheelM2)
      else if c = s.wheelN - s.wheelM1 - s.wheelM2 - s.wheelG2 then some (0, s.wheelM1) else none
    | none => none
  else none

/-- R118: a vertex in TOOTH_LOCK. -/
def State.lockVertex (s : State) (e p pp : Nat) : State :=
  let n := s.sync.tlEdges + 1
  let c := s.sync.gapCand.map (· + 1)
  match s.identify p pp c with
  | some (pos, m) => s.found (.gap e p pp pos m)
  | none =>
    let cand := if s.wheelGaps && decide (s.wheelM1 = s.wheelM2) && s.gapLike s.wheelM1 1 p pp then some 0 else c
    let s1 := { s with sync := { s.sync with tlEdges := n, gapCand := cand } }
    if 2 * s.wheelN ≤ n then s1.found .noGap else s1

/-- R119: the machine enters CRANK_SYNC with the vertex that identified the gap. -/
def State.enterCrank (s : State) (e p pp pos m : Nat) : State :=
  let s1 := s.go .crankSync 4 s.tb false
  let s2 := s1.place pos false true
  let s3 := { s2 with sync := { s2.sync with prevGap := m, prevPos := 0x1FF, phaseValid := false } }
  (s3.startAt e p pos false (some pp) s.tb).resumeAngle s.tb

/-- R113, R114: a vertex of the active input reaches the machine. -/
def State.syncVertex (s : State) (e p pp : Nat) : State :=
  match s.sync.state with
  | .stall => { s with sync := { s.sync with stallByTime := false } }.found .edge
  | .search => { s with sync := { s.sync with lockCount := s.sync.lockCount + 1 } }.found .locked
  | .toothLock => s.lockVertex e p pp
  | .crankSync | .fullSync => s.forwardVertex e p pp
  | .reverse => { s with sync := { s.sync with revOpen := some e } }

/-- R39: tick E + 5 of an accepted crank edge of the active input: the vertex reaches the machine, and its digest is formed in E + 6
(R553). -/
def State.vertexWork (s : State) (e p pp : Nat) : State := ((s.noLearn).syncVertex e p pp).later (s.tb + 1) (.digest e)

/-! ### VR thresholds (R72 to R74) -/

/-- R72, R73: the arming threshold in eighths of 50 mV, in this tick. FLOOR counts as it stands at the comparison, ARM_FRAC as it stood at
the crossing that set the threshold (DESIGN CHOICE, note 83). -/
def State.armLevel (s : State) (i : Nat) : Nat :=
  let floor := 8 * s.fld (Reg.ANG_CRK0_AFE + i) 0 5 0
  match (s.input i).arm with
  | some t => if (s.input i).lastCross + 0x4000000 ≤ s.tb then floor else max floor t
  | none => floor

/-- R72, R74: a zero crossing after a positive peak: the threshold for the next tooth, and the peak record, which is on its way. -/
def State.zeroCross (s : State) (i peak : Nat) : State :=
  let pk := min peak 255
  let v := s.input i
  s.setInput i { v with arm := some (pk * s.fld (Reg.ANG_CRK0_AFE + i) 0 8 6), lastCross := s.tb, peakRec := v.peakRec ++ [(s.tb, pk)] }

/-- R73: a zero crossing before a positive peak. -/
def State.noteCross (s : State) (i : Nat) : State := s.setInput i { s.input i with lastCross := s.tb }

/-! ### Edges in their ticks (R39, R75 to R92) -/

/-- R39: an active edge of crank input i in tick E = s.tb is put down for its checks in E + 4; it closes a direction that is still open
when it arrives (R85). -/
def State.crankEdge (s : State) (i : Nat) : State :=
  let s1 := if (s.input i).dirOpen.isSome then s.later (s.tb + 2) (.closeDir i) else s
  s1.later (s.tb + 4) (.check i s.tb)

/-- R75 to R81, R87: the checks of a crank edge with stamp e, in tick E + 4, under the configuration of this tick (R76). -/
def State.edgeCheck (s : State) (i e : Nat) : State :=
  if s.flag Reg.ANG_IN_CTL 0 i = false then s
  else if tooClose (s.input i) (s.cfg (Reg.ANG_CRK0_MINSP + i) 0) e then s.rejectEdge i 1 e
  else if s.noisy i e then s.rejectEdge i 2 e
  else
    let s0 := if (s.input i).dirOpen.isSome then s.directionDecided i 3 else s
    let s1 := s0.accept i e 64 false 0x1FF
    let v := s1.input i
    let s2 := if s1.decodes i then s1.setInput i { v with dirOpen := some e } else s1
    let s3 := if i = s2.s16Input then s2.s16Edge e v.per1 else s2
    if i = s3.activeCrank then s3.later (s3.tb + 1) (.vertex e v.per1 v.per2) else s3

/-- VR_PEAK_RECORD: the oldest peak record on its way whose crossing has been judged enters the PEAK field of the vertex which that
crossing produced, if any (R74). -/
def execVrPeakRecord (input : Nat) (s : State) : Host.Outcome State Fault Refusal :=
  .next (match (s.input input).peakRec with
    | (t, pk) :: rest =>
      if input < 2 ∧ t + 4 ≤ s.tb then
        let v := s.input input
        s.setInput input { v with peakRec := rest, hist := v.hist.map (fun x => if x.stamp = t then { x with peak := pk } else x) }
      else s
    | [] => s)

/-- ARM_THRESHOLD_TIMEOUT: no zero crossing has occurred for 2^26 ticks: the threshold falls back to FLOOR (R73). -/
def execArmThresholdTimeout (input : Nat) (s : State) : Host.Outcome State Fault Refusal :=
  .next (
    if input < 2 ∧ (s.input input).lastCross + 0x4000000 ≤ s.tb then s.setInput input { s.input input with arm := none } else s)

/-- CRANK_EDGE: the comparator of crank input `input` changes in this tick to a level (R39, R69 to R74, R100): in Hall mode that of the P
pin, in VR mode that of P - N, with the positive peak since the last crossing. POL names the active transition in Hall mode and exchanges
P and N in VR mode (R70); there the edge is the negative-going crossing of a tooth whose peak passed the arming threshold. The opposite
transition in Hall mode ends a direction pulse (DESIGN CHOICE, note 11). -/
def execCrankEdge (input : Nat) (crossing : Crossing) (s : State) : Host.Outcome State Fault Refusal :=
  .next (
    if 2 ≤ input ∨ s.angleOn = false then s
    else
      let pol := s.flag (Reg.ANG_CRK0_AFE + input) 0 10
      if s.hall input then
        (if crossing.high = !pol then (s.later (s.tb + 2) (.level input crossing.high)).crankEdge input
          else s.trailing input crossing.high)
      else
        let up := crossing.high != pol
        let s0 := s.later (s.tb + 2) (.level input up)
        if up then s0.noteCross input
        else if s.armLevel input < 8 * crossing.peak then (s0.zeroCross input crossing.peak).crankEdge input
        else s0.zeroCross input crossing.peak)

/-- R100: the level that an enabled input shows, 2 ticks behind its pin (DEDUCED, note 19). -/
def State.showLevel (s : State) (i : Nat) (high : Bool) : State :=
  if s.flag Reg.ANG_IN_CTL 0 i then s.setInput i { s.input i with level := high } else s

/-! ### Cam edges (R71, R78, R89, R92, R117, R121 to R123) -/

/-- R92: the counting interval of this tick. -/
def State.camInterval (s : State) : Nat × Nat :=
  if s.sync.state.forward then (s.sync.ivalNo, 0) else (s.sync.ivalNo, 1 + block26 s.tb)

/-- R121, R122: a vote of a cam edge at angle a (DEDUCED, note 12). -/
def State.camVote (s : State) (n a : Nat) (lvl : Bool) : State :=
  let m0 := !(s.camMatches n a lvl).isEmpty
  let m1 := !(s.camMatches n ((a + 0x800000) % cycleCau) lvl).isEmpty
  if m0 && m1 then s
  else if !m0 && !m1 then { s with sync := { s.sync with votes := 0 } }
  else
    let h := m1
    let clash := decide (1 ≤ s.sync.votes) && (h != s.sync.lastVote)
    let s1 := { s with sync := { s.sync with votes := if s.sync.votes = 0 || clash then 1 else s.sync.votes + 1, lastVote := h } }
    let s2 := if clash then s1.report 0x220A s1.sync.pos else s1
    if s2.fld Reg.SYN_CAM_CTL 0 6 4 ≤ s2.sync.votes then s2.found (.phase h) else s2

/-- R117 to R123: an accepted cam edge at angle a that passes R92 reaches the machine, in E + 5 (DEDUCED, notes 12, 14). -/
def State.syncCam (s : State) (n : Nat) (lvl : Bool) (a : Cau) : State :=
  if !(s.camPhase n) then s
  else
    match s.sync.state with
    | .stall =>
      if s.sync.stallByTime then
        let c := s.sync.stallCams + 1
        let s1 := { s with sync := { s.sync with stallCams := c } }
        if c = 2 then s1.report 0x3209 s1.sync.pos else s1
      else s
    | .crankSync => if s.twoStroke then s else s.camVote n a lvl
    | .fullSync =>
      if s.sync.judged then
        let ms := s.camMatches n a lvl
        if ms.isEmpty then s.camError n
        else { s with sync := { s.sync with matched := s.sync.matched ++ (ms.map (fun i => 32 * n + i)).filter (fun k => !(s.sync.matched.contains k)) } }
      else s
    | _ => s

/-- R88, R89: the position of the active crank input's latest vertex at or before tick e. -/
def State.latestPos (s : State) (e : Tick) : Nat :=
  match (s.input s.activeCrank).hist.filter (fun v => decide (v.stamp ≤ e)) with
  | v :: _ => v.pos
  | [] => 0x1FF

/-- R77, R78, R87, R92: the check of a cam edge with stamp e and angle a, in tick E + 4. An edge counts in the interval of its acceptance
(DESIGN CHOICE, note 84). -/
def State.camCheck (s : State) (cam : Nat) (lvl : Bool) (e : Tick) (a : Cau) : State :=
  let i := 2 + cam
  if s.flag Reg.ANG_IN_CTL 0 i = false then s
  else if tooClose (s.input i) (s.cfg Reg.ANG_CAM_MINSP 0) e then s.rejectEdge i 1 e
  else
    let s1 := s.accept i e 32 lvl (s.latestPos e)
    let v := s1.input i
    let iv := s1.camInterval
    let n := if v.ival = iv then v.edges + 1 else 1
    let s2 := (s1.setInput i { v with edges := min n 34, ival := iv }).later (s1.tb + 2) (.camPos cam e)
    if n ≤ 32 then s2.later (s2.tb + 1) (.cam cam lvl e a) else if n = 33 then s2.report 0x3104 i else s2

/-- R89: tick E + 5 of a cam edge: its angle is that of a crank vertex with the same stamp, where there is one. -/
def State.camWork (s : State) (cam : Nat) (lvl : Bool) (e : Tick) (a : Cau) : State :=
  s.syncCam cam lvl (if s.tan.ast == .running && decide (s.tan.seg.e = e) then s.tan.seg.a else a)

/-- R88 to R90: a cam edge's record takes the position of a crank vertex at or before it that was placed in E + 5 (DEDUCED, note 12). -/
def State.camPos (s : State) (cam : Nat) (e : Tick) : State :=
  let v := s.input (2 + cam)
  s.setInput (2 + cam) { v with hist := v.hist.map (fun x => if x.stamp = e ∧ x.pos = 0x1FF then { x with pos := s.latestPos e } else x) }

/-- CAM_EDGE: a transition of a cam input in this tick, to a level (R71, R78, R87, R92) (DEDUCED, note 12). -/
def execCamEdge (cam : Nat) (level : Bool) (s : State) : Host.Outcome State Fault Refusal :=
  .next (
    if 4 ≤ cam ∨ s.angleOn = false then s
    else (s.later (s.tb + 2) (.level (2 + cam) level)).later (s.tb + 4) (.camCheck cam level s.tb (s.angleAt s.tb)))

/-! ### Stall and host commands (R113, R116) -/

/-- R116: the stamp V of the last accepted active-crank vertex; tick 0 where there is none. -/
def State.lastVertex (s : State) : Tick := ((s.input s.activeCrank).lastV).getD 0

/-- R116: the time T. -/
def State.stallTime (s : State) : Nat :=
  let t := s.cfg Reg.SYN_STALL_T 0 * 65536
  if s.sync.state.runs then min t (s.fld Reg.SYN_CTL 0 3 0 * s.tan.seg.phat) else t

/-- R116: no edge has been accepted by this tick, V + T + 4 or later. -/
def State.stallDue (s : State) : Bool := decide (s.lastVertex + s.stallTime + 4 ≤ s.tb)

/-- SYNC_STALL_TIMEOUT: no edge has been accepted by tick V + T + 4 (R113, R116). -/
def execSyncStallTimeout (s : State) : Host.Outcome State Fault Refusal :=
  .next (if s.stallDue && !(s.sync.state == .stall) then s.found .stall else s)

/-- R113, R114: the host forces SEARCH. -/
def State.hostSearch (s : State) : State :=
  let s1 := s.goReport .search 0x0B s.tb 0x120C
  { s1 with sync := { s1.sync with lockCount := 0 } }

/-! ### One state change in a tick (R115) -/

/-- R113, R115: a condition holds in this tick, in the state as it stands. -/
def State.syncHolds (s : State) (c : SyncCond) : Bool :=
  match c with
  | .host => !(s.sync.state == .stall)
  | .errs => s.sync.state.runs && s.errsFull
  | .dir code => match s.sync.state with
    | .toothLock => decide (code ≠ 1)
    | .crankSync | .fullSync => decide (code = 2)
    | _ => false
  | .back _ _ _ _ => s.sync.state == .reverse && decide (s.fld Reg.SYN_CTL 0 7 4 ≤ s.sync.fwdRun)
  | .stall => !(s.sync.state == .stall) && s.stallDue && !(s.sync.state == .search && s.wheelStaged)
  | .gap _ _ _ _ _ => s.sync.state == .toothLock
  | .edge => s.sync.state == .stall && !s.wheelStaged
  | .locked => s.sync.state == .search && decide (s.fld Reg.SYN_CTL 0 7 4 ≤ s.sync.lockCount) && !s.wheelStaged
  | .noGap => s.sync.state == .toothLock
  | .phase _ => s.sync.state == .crankSync && !s.twoStroke
  | .camLoss => s.sync.state == .fullSync

/-- R115: the place of a condition in the order. -/
def SyncCond.rank : SyncCond → Nat
  | .host => 0
  | .errs => 1
  | .dir _ | .back _ _ _ _ => 2
  | .stall => 3
  | .gap _ _ _ _ _ => 4
  | _ => 5

/-- R113: the machine acts on a condition, in this tick. -/
def State.actOn (s : State) (c : SyncCond) : State :=
  match c with
  | .host => s.hostSearch
  | .errs =>
    let s1 := { s with sync := { s.sync with losses := satInc 255 s.sync.losses } }.hit Reg.SYN_CNT 0 8
    let s2 := s1.goReport .search 6 s.tb 0x4202
    { s2 with sync := { s2.sync with lockCount := 0 } }
  | .dir _ =>
    if s.sync.state == .toothLock then
      let s1 := s.go .search 7 s.tb false
      { s1 with sync := { s1.sync with lockCount := 0 } }
    else s.enterReverse
  | .back e p pp m => s.leaveReverse e p pp m
  | .stall => if s.sync.state.runs then s.goReport .stall 8 s.tb 0x2208 else s.go .stall 8 s.tb false
  | .gap e p pp pos m => s.enterCrank e p pp pos m
  | .edge =>
    let s1 := s.go .search 2 s.tb false
    { s1 with sync := { s1.sync with lockCount := 1 } }
  | .locked => s.go .toothLock 3 s.tb false
  | .noGap =>
    let s1 := s.goReport .search 0x0C s.tb 0x220B
    { s1 with sync := { s1.sync with lockCount := 0 } }
  | .phase fix =>
    let s1 := s.go .fullSync 5 s.tb fix
    { s1 with sync := { s1.sync with corr := fix } }
  | .camLoss => s.goReport .crankSync 9 s.tb 0x4205

/-- R115: the first of some conditions in the order, the earlier found of two of one place, and the others. -/
def firstCond : List SyncCond → Option (SyncCond × List SyncCond)
  | [] => none
  | c :: cs => match firstCond cs with
    | none => some (c, [])
    | some (d, ds) => if d.rank < c.rank then some (d, c :: ds) else some (c, cs)

/-- R115: the machine acts on the first of the conditions found in this tick that hold, where it has not changed state in it; the others
are evaluated again in the next tick (DESIGN CHOICE, note 85). -/
def State.settle (s : State) : State :=
  if s.sync.acted then s
  else match firstCond (s.sync.conds.filter s.syncHolds) with
    | none => { s with sync := { s.sync with conds := [] } }
    | some (c, rest) => ({ s with sync := { s.sync with conds := rest } }.catchUp s.tb).actOn c

/-- EVENT_FIRE: the committed head of an output that has reached its fire tick fires, or is dropped for lateness; a change of state of the
same tick is made first, whose cancels it meets (R127, R130) (DESIGN CHOICE, notes 5, 85). -/
def execEventFire (out : Nat) (s : State) : Host.Outcome State Fault Refusal := .next (s.settle.eventFire out)

/-- PULSE_END_FIRE: the end in an output's active-pulse register that has reached its fire tick fires, or is taken as fired (R192, R193,
R293, R311), after a change of state of the same tick (R128) (DESIGN CHOICE, notes 5, 85). -/
def execPulseEndFire (out : Nat) (s : State) : Host.Outcome State Fault Refusal := .next (s.settle.pulseEndFire out)

/-- ENTRY_REBUILD_DONE: the failed entries of an output are rebuilt; an entry whose fire tick has passed fires, after a change of state of
the same tick (R127, R614) (DESIGN CHOICE, note 85). -/
def execEntryRebuildDone (out : Nat) (s : State) : Host.Outcome State Fault Refusal := .next (s.settle.entryRebuilt out)

/-- ARC_LAUNCH_SEND: at s - 64 the launch of an arc's committed sample is sent, and the arc's next sample commits (R231 to R233), after a
change of state of the same tick (R129, R229) (DESIGN CHOICE, note 85). -/
def execArcLaunchSend (arc : Nat) (s : State) : Host.Outcome State Fault Refusal := .next (s.settle.arcLaunchSend arc)

/-- SYN_CMD_SEARCH: the host writes SYN_CMD.SEARCH (R113, R114). The first in the order of R115, it acts at once where the machine has not
changed state in this tick. -/
def execSynCmdSearch (s : State) : Host.Outcome State Fault Refusal :=
  .next (
    if s.sync.state == .stall then s
    else if s.sync.acted then s.found .host
    else (s.catchUp s.tb).hostSearch)

/-- SYN_CLR: the named counts become 0; a reserved bit rejects the write (R135). -/
def execSynClr (value : Word) (s : State) : Host.Outcome State Fault Refusal :=
  .next (
    let v := value.toNat
    if 4 ≤ v then s
    else { s with sync := { s.sync with camErr := if bit v 1 then s.kept Reg.SYN_CNT 0 0 255 else s.sync.camErr
                                        losses := if bit v 0 then s.kept Reg.SYN_CNT 0 8 255 else s.sync.losses } })

/-! ### Registers of the inputs (R101 to R103) -/

/-- R102: the counts of a crank input cleared. -/
def State.clearCrank (s : State) (i : Nat) : State :=
  s.setInput i { s.input i with spacing := s.kept Reg.ANG_CNT_CRK0 i 1 255, noise := s.kept Reg.ANG_CNT_CRK0 i 2 255
                                ambig := s.kept Reg.ANG_CNT_CRK0 i 3 15 }

/-- ANG_CNT_CLR: the named counts become 0; a reserved bit rejects the write (R102). -/
def execAngCntClr (value : Word) (s : State) : Host.Outcome State Fault Refusal :=
  .next (
    let v := value.toNat
    if 8 ≤ v then s
    else
      let s1 := if bit v 0 then s.clearCrank 0 else s
      let s2 := if bit v 1 then s1.clearCrank 1 else s1
      if bit v 2 then forUpTo (fun i st => st.setInput i { st.input i with spacing := st.kept Reg.ANG_CNT_CRK0 i 1 15 }) 2 4 s2 else s2)

/-- R88: a vertex record as its eight words. -/
def Vertex.words (v : Vertex) : List Word :=
  wordsOf v.stamp 4 ++ wordsOf v.period 2 ++
    [toWord (32768 + v.dir * 8192 + b2n v.gap * 4096 + b2n v.lvl * 2048 + v.pos), toWord (v.peak * 256 + v.seq)]

/-- R103: the words of a selected record: an empty slot, or an index beyond the history, reads with every field 0. -/
def vertexOf (hist : List Vertex) (idx : Nat) : List Word :=
  match hist[idx]? with
  | some v => v.words
  | none => List.replicate 8 0#16

/-- R103: the 8 words of a vertex record of a source. -/
def State.vertexWords (s : State) (src idx : Nat) : List Word := vertexOf (s.input src).hist idx

/-- ANG_VTX_SEL: a write selects a vertex record and captures it; reserved values reject it (R103). -/
def execAngVtxSel (value : Word) (s : State) : Host.Outcome State Fault Refusal :=
  .next (
    let v := value.toNat
    let src := bits v 10 8
    if bits v 15 11 ≠ 0 ∨ bits v 7 6 ≠ 0 ∨ 6 ≤ src then s
    else
      let s1 := s.setCfg Reg.ANG_VTX_SEL 0 v
      { s1 with wheel := { s1.wheel with vtxD := s.vertexWords src (bits v 5 0) } })

end Sys2Proof.Machine
end

