-- ==== Sys2Proof/Machine/RegAccess.lean ====
section
/-! DEFINITION. Reads and writes of registers, with the side effects their chapters give (00_scope.md R15; 16_command_ports.md R514,
R516, R523). -/

namespace Sys2Proof.Machine

/-- The state an outcome leaves. -/
def after (o : Host.Outcome State Fault Refusal) (s : State) : State :=
  match o with
  | .next t => t
  | _ => s

/-! ### Writes -/

/-- A register without effects of its own: its RWS bits are staged, its RW bits take effect, the others take nothing. -/
def State.writePlain (s : State) (a i v : Nat) : State :=
  match regRow? a with
  | some r => if r.rws ≠ 0 then s.stage a i v else if r.rw ≠ 0 then s.setCfg a i (v &&& r.rw) else s
  | none => s

/-- The bits of a number that are 0 in a mask. -/
def clearBits (n mask : Nat) : Nat := n - (n &&& mask)

/-- R48, R64: TB_RFAULT; an island whose bit is reset takes its launches again (DEDUCED, note 56). -/
def State.rfaultClear (s : State) (v : Nat) : State :=
  let s1 := forUpTo (fun i st =>
    if bit v i && bit s.time.rfault i && !(s.keptBit Reg.TB_RFAULT 0 i) then st.setReplica i { st.replica i with stopped := false }
    else st) 0 14 s
  { s1 with time := { s1.time with rfault := s.w1c Reg.TB_RFAULT 0 s1.time.rfault v } }

/-- R664: PWR_KTIM_LO: the keep timer starts with the value that the two registers hold, or stops on 0. -/
def State.keepTimer (s : State) (v : Nat) : State :=
  let n := v % 65536 + 65536 * s.cfg Reg.PWR_KTIM_HI 0
  { s.setCfg Reg.PWR_KTIM_LO 0 v with pwr := { s.pwr with ktim := n, ktRun := decide (n ≠ 0) } }

/-- R660: LIMITED := 0. -/
def State.claim (s : State) : State := { s with pwr := { s.pwr with limited := false } }

/-- R526: a port's counts become 0. -/
def State.clearPort (s : State) (n : Nat) : State :=
  let c := fun (lo : Nat) => s.kept (Reg.CMD_CNT0 + n) 0 lo 15
  s.setPort n { s.port n with cCrc := c 12, cFrame := c 8, cReject := c 4, cLost := c 0 }

/-- R526: a write of CMD_CNT_CLR. -/
def State.cmdCntClr (s : State) (v : Nat) : State :=
  let s1 := if bit v 0 then s.clearPort 0 else s
  if bit v 1 then s1.clearPort 1 else s1

/-- R578: a write of TWN_CNT_CLR. -/
def State.twnCntClr (s : State) (v : Nat) : State :=
  { s with twn := { s.twn with linkerr := if bit v 1 then s.kept Reg.TWN_CNT 0 0 255 else s.twn.linkerr
                               dmis := if bit v 0 then s.kept Reg.TWN_CNT 0 8 255 else s.twn.dmis } }

/-- R610: a write of ELX_CNT_CLR. -/
def State.elxCntClr (s : State) (v : Nat) : State :=
  { s with elx := { s.elx with linkerr := if bit v 1 then s.kept Reg.ELX_CNT 0 8 255 else s.elx.linkerr
                               drops := if bit v 0 then s.kept Reg.ELX_CNT 0 0 255 else s.elx.drops } }

/-- R610: a write of ELX_FRLOST. -/
def State.elxFrlostClr (s : State) (v : Nat) : State :=
  if bit v 15 then { s with elx := { s.elx with frlost := s.kept Reg.ELX_FRLOST 0 0 255 } } else s

/-- TB_. -/
def State.writeTb (s : State) (a v : Nat) : Option State :=
  if a = Reg.TB_RFAULT then some (s.rfaultClear v)
  else if a = Reg.TB_STALE then some (if bit v 0 then after (execTbStaleClr s) s else s)
  else some (s.writePlain a 0 v)

/-- R173: ANG_TCMD. -/
def State.tanCmd (s : State) (v : Nat) : Option State :=
  let n := b2n (bit v 0) + b2n (bit v 1) + b2n (bit v 2) + b2n (bit v 3)
  if 1 < n || s.tanBusy || ((bit v 1 || bit v 2 || bit v 3) && !s.tablesFree) then none
  else
    let s1 := if bit v 4 then after (execClrcnt s) s else s
    some (if bit v 0 then after (execSave s1) s1 else if bit v 1 then after (execLoad s1) s1
      else if bit v 2 then after (execClrgeo s1) s1 else if bit v 3 then after (execClrrip s1) s1 else s1)

/-- ANG_ (DEDUCED, note 54). -/
def State.writeAng (s : State) (a i v : Nat) : Option State :=
  if a = Reg.ANG_CNT_CLR then some (after (execAngCntClr (toWord v) s) s)
  else if a = Reg.ANG_VTX_SEL then some (after (execAngVtxSel (toWord v) s) s)
  else if a = Reg.ANG_TCMD then s.tanCmd v
  else if s.relationOk a i v then some (s.writePlain a i v) else none

/-- SYN_ (DEDUCED, note 54). -/
def State.writeSyn (s : State) (a i v : Nat) : Option State :=
  if a = Reg.SYN_CLR then some (after (execSynClr (toWord v) s) s)
  else if a = Reg.SYN_CMD then some (if bit v 0 then after (execSynCmdSearch s) s else s)
  else if s.relationOk a i v then some (s.writePlain a i v) else none

/-- EVQ_. -/
def State.writeEvq (s : State) (a v : Nat) : Option State :=
  if a = Reg.EVQ_ARM then some (after (execEvqArm (toWord v) s) s)
  else if a = Reg.EVQ_CAN_CMD then some (after (execEvqCanCmd (toWord v) s) s)
  else if a = Reg.EVQ_RCP_CMD then (if s.swapOk v then some (s.requestSwap v) else none)
  else if a = Reg.EVQ_RLOST then some (if bit v 15 then after (execEvqRlostClr s) s else s)
  else if a = Reg.EVQ_CNT_CLR then some (after (execEvqCntClr (toWord v) s) s)
  else some (s.writePlain a 0 v)

/-- ARC_ and CMB_. -/
def State.writeArc (s : State) (a i v : Nat) : Option State :=
  if a = Reg.ARC_CMD then (if s.calibrating then none else some (after (execCal (toWord v) s) s))
  else if a = Reg.ARC_CNT_CLR then some (after (execArcCntClr (toWord v) s) s)
  else if a = Reg.ARC_FLT then some { s with arcs := { s.arcs with flt := s.w1c Reg.ARC_FLT 0 s.arcs.flt v } }
  else if a = Reg.CMB_CNT_CLR then some (after (execCmbCntClr (toWord v) s) s)
  else some (s.writePlain a i v)

/-- DRV_. -/
def State.writeDrv (s : State) (a i v : Nat) : Option State :=
  if a = Reg.DRV_CFLAG then some { s with drv := { s.drv with cflag := s.w1c Reg.DRV_CFLAG 0 s.drv.cflag v } }
  else if a = Reg.DRV_CNT_CLR then some (after (execDrvCntClr (toWord v) s) s)
  else if a = Reg.DRV_TRC_CTL then (if s.traceCtlOk v then some (s.traceArm v) else none)
  else if a = Reg.DRV_DG_CLR then some (after (execDrvDgClr (toWord v) s) s)
  else if a = Reg.DRV_DG_OL0 then some { s with drv := { s.drv with olFlags := s.w1c Reg.DRV_DG_OL0 0 s.drv.olFlags v } }
  else if a = Reg.DRV_DG_OL1 then some { s with drv := { s.drv with olFlags := s.w1c Reg.DRV_DG_OL0 0 s.drv.olFlags (65536 * v) } }
  else if a = Reg.DRV_DG_SC0 then some { s with drv := { s.drv with scFlags := s.w1c Reg.DRV_DG_SC0 0 s.drv.scFlags v } }
  else if a = Reg.DRV_DG_SC1 then some { s with drv := { s.drv with scFlags := s.w1c Reg.DRV_DG_SC0 0 s.drv.scFlags (65536 * v) } }
  else if s.relationOk a i v then some (s.writePlain a i v) else none

/-- IGN_ and VLV_. -/
def State.writeIgn (s : State) (a i v : Nat) : Option State :=
  if a = Reg.IGN_CMD then some (after (execSoft (toWord v) s) s)
  else if a = Reg.IGN_FLT0 then some { s with drv := { s.drv with ignFlt := s.w1c Reg.IGN_FLT0 0 s.drv.ignFlt v } }
  else if a = Reg.IGN_FLT1 then some { s with drv := { s.drv with ignFlt := s.w1c Reg.IGN_FLT0 0 s.drv.ignFlt (65536 * v) } }
  else if a = Reg.IGN_CNT_CLR then some (after (execIgnCntClr (toWord v) s) s)
  else if a = Reg.VLV_STAT then some (if bit v 15 then s.vlvUnlatch (s.fld Reg.VLV_SEL 0 2 0) else s)
  else if a = Reg.VLV_CNT_CLR then some (after (execVlvCntClr (toWord v) s) s)
  else if s.relationOk a i v then some (s.writePlain a i v) else none

/-- LAN_. -/
def State.writeLan (s : State) (a i v : Nat) : Option State :=
  if a = Reg.LAN_CMD then s.laneCmd v
  else if a = Reg.LAN_RDL then s.outsideWrite i (s.fld Reg.LAN_RSEL i 4 0) (v + 65536 * s.cfg Reg.LAN_RDH i)
  else if a = Reg.LAN_CLR then some (after (execLanClr (toWord v) s) s)
  else if a = Reg.LAN_SPCMD then s.spareCmd v
  else some (s.writePlain a i v)

/-- FBK_; `high` is the level of SSIn_DAT, which a START looks at (R446). -/
def State.writeFbk (s : State) (a i v : Nat) (high : Bool) : Option State :=
  if a = Reg.FBK_CLR then s.fbkClear v
  else if a = Reg.FBK_CMPCFG then s.cmpCfgWrite v
  else if a = Reg.FBK_CMPV_LO then some (after (execFbkCmpvLo (toWord v) s) s)
  else if a = Reg.FBK_SSI_CMD then
    (if bit v 0 then (if s.flag Reg.FBK_SSI_CFG i 14 then some (after (execStart (toWord v) high s) s) else none) else some s)
  else if s.relationOk a i v then some (s.writePlain a i v) else none

/-- IRC_. -/
def State.writeIrc (s : State) (a i v : Nat) : Option State :=
  if a = Reg.IRC_SCFG then (if scfgOk i v then some (after (execIrcScfg (toWord v) s) s) else none)
  else if a = Reg.IRC_SSTAT then
    some (if bit v 14 && !(s.keptBit Reg.IRC_SSTAT i 14) then s.setSource i { s.source i with ovf := false } else s)
  else if a = Reg.IRC_SET then some (after (execIrcSet (toWord v) s) s)
  else if a = Reg.IRC_ACKCNT then some (after (execIrcAckcnt (toWord v) s) s)
  else if a = Reg.IRC_TCFG then
    some (if i < 4 then (s.setCfg a i v).strayRefreshAll
      else if i = 4 then s
      else (s.setCfg a i (v &&& 0x8000)).strayRefreshAll)
  else if a = Reg.IRC_STRAYCNT then some (if bit v 15 then after (execIrcStraycntClr (toWord v) s) s else s)
  else if Reg.IRC_WCAUSE0 ≤ a ∧ a < Reg.IRC_WCAUSE0 + 4 then
    some { s with irc := { s.irc with wcause := s.w1c Reg.IRC_WCAUSE0 0 s.irc.wcause (v * 2 ^ (16 * (a - Reg.IRC_WCAUSE0))) } }
  else if a = Reg.IRC_FLOST then some (if bit v 15 then after (execIrcFlostClr (toWord v) s) s else s)
  else some (s.writePlain a i v)

/-- DMA_: R492, R495. -/
def State.writeDma (s : State) (a i v : Nat) : Option State :=
  let c := s.chan i
  let still := !(c.working)
  if a = Reg.DMA_CCFG then (if still && decide (c.idx < v) then some (s.setCfg a i v) else none)
  else if a = Reg.DMA_CPACE then
    (if still && (decide (bits v 15 14 ≠ 2) || decide (bits v 8 0 ≠ i)) then some (s.setCfg a i v) else none)
  else if a = Reg.DMA_CIDX then (if still && decide (v < s.cfg Reg.DMA_CCFG i) then some (s.setChan i { c with idx := v }) else none)
  else if a = Reg.DMA_CCMD then s.dmaCmd v
  else if a = Reg.DMA_CNT_CLR then some (after (execDmaCntClr (toWord v) s) s)
  else some (s.writePlain a 0 v)

/-- CMD_, TWN_, ELX_, LAT_, PWR_ and FUS_. -/
def State.writeSys (s : State) (a i v : Nat) : Option State :=
  if a = Reg.CMD_CNT_CLR then some (s.cmdCntClr v)
  else if a = Reg.TWN_CNT_CLR then some (s.twnCntClr v)
  else if a = Reg.ELX_CNT_CLR then some (s.elxCntClr v)
  else if a = Reg.ELX_FRLOST then some (s.elxFrlostClr v)
  else if a = Reg.LAT_CNT_CLR then some (after (execLatCntClr (toWord v) s) s)
  else if a = Reg.PWR_CMD then some (if bit v 0 then s.claim else s)
  else if a = Reg.PWR_KTIM_LO then some (s.keepTimer v)
  else if a = Reg.FUS_PROG then s.fusProg v
  else if s.relationOk a i v then some (s.writePlain a i v) else none

/-- A write of a value that passed check 10, at its execution; none where the register's chapter rejects it whole for its relation
to other values or for the state (R692), or where its domain is off, in effect or staged (R640) (DEDUCED, note 52). -/
def State.writeReg (s : State) (a v : Nat) (high : Bool) : Option State :=
  let i := s.regIdx a
  let rws := match regRow? a with | some r => decide (r.rws ≠ 0) | none => false
  if s.regOff a i || (rws && s.stagedOff a i) then none
  else match bits a 15 8 with
    | 0x00 => s.writeTb a v
    | 0x01 => s.writeAng a i v
    | 0x02 => s.writeSyn a i v
    | 0x03 => if a = Reg.EVQ_RRD ∧ s.ringSize ≤ v then none else s.writeEvq a v
    | 0x04 => s.writeArc a i v
    | 0x05 => s.writeArc a i v
    | 0x06 => s.writeDrv a i v
    | 0x07 => s.writeIgn a i v
    | 0x08 => s.writeIgn a i v
    | 0x09 => s.writeLan a i v
    | 0x0A => s.writeFbk a i v high
    | 0x0B => s.writeIrc a i v
    | 0x0C => s.writeDma a i v
    | _ => s.writeSys a i v

/-- REGISTER_WRITE: the supervisors write a register, for a command packet or at boot; the write is rejected whole, with nothing
changed, by check 10 or by the register's chapter (R15, R16, R55, R516, R692). `high` is the level of the selected SSIn_DAT. -/
def execRegisterWrite (addr : Nat) (value : Word) (high : Bool) (s : State) : Host.Outcome State Fault Refusal :=
  .next (if isRegAddr addr && fieldOk addr value.toNat then (s.writeReg addr value.toNat high).getD s else s)

/-- PWR_KTIM_LO: the write starts or stops the keep timer (R664). -/
def execPwrKtimLo (value : Word) (s : State) : Host.Outcome State Fault Refusal := .next (s.keepTimer value.toNat)

/-- CLAIM: PWR_CMD.CLAIM sets LIMITED to 0 (R660). -/
def execClaim (s : State) : Host.Outcome State Fault Refusal := .next s.claim

/-- CMD_CNT_CLR: the named counts become 0; a reserved bit rejects the write (R526). -/
def execCmdCntClr (value : Word) (s : State) : Host.Outcome State Fault Refusal :=
  .next (if 4 ≤ value.toNat then s else s.cmdCntClr value.toNat)

/-- TWN_CNT_CLR: LINKERR or DMIS becomes 0; a reserved bit, or LINK off, rejects the write (R578). -/
def execTwnCntClr (value : Word) (s : State) : Host.Outcome State Fault Refusal :=
  .next (if 4 ≤ value.toNat ∨ s.domOn 11 = false then s else s.twnCntClr value.toNat)

/-- ELX_CNT_CLR: LINKERR or DROPS becomes 0; a reserved bit, or LINK off, rejects the write (R610). -/
def execElxCntClr (value : Word) (s : State) : Host.Outcome State Fault Refusal :=
  .next (if 4 ≤ value.toNat ∨ s.domOn 11 = false then s else s.elxCntClr value.toNat)

/-- ELX_FRLOST_CLR: COUNT := 0 (R610). -/
def execElxFrlostClr (s : State) : Host.Outcome State Fault Refusal :=
  .next (if s.domOn 11 then s.elxFrlostClr 0x8000 else s)

/-! ### Reads -/

/-- R140: the code of AST. -/
def Ast.code : Ast → Nat
  | .invalid => 0
  | .running => 1
  | .frozen => 2
  | .stepped => 3

/-- R174: CLAMP. -/
def State.tanClamp (s : State) : Bool :=
  match s.tan.ast with
  | .running =>
    if s.tb < s.tan.seg.e + 5 then
      (match s.tan.prev with
       | some p => decide (segOff p (s.tb - p.e) = p.len * 0x1000000 - 1)
       | none => false)
    else decide (s.offAt s.tb = s.tan.seg.len * 0x1000000 - 1)
  | _ => false

/-- A word of a number that lies low word first. -/
def wordN (n i : Nat) : Nat := n / 65536 ^ i % 65536

/-- Word i of a captured list. -/
def capWord (l : List Word) (i : Nat) : Nat := (nth 0#16 l i).toNat

/-- R61 to R68: TB_. -/
def State.readTb (s : State) (a : Nat) : Nat :=
  let o := a % 256
  if o < 4 then wordN s.time.cap o
  else if o = 0x04 then
    b2n (match s.time.lastSlew with | some t => decide (s.tb < t + 1024) | none => false) * 2 + b2n s.time.aligned
  else if o = 0x05 then forUpTo (fun i acc => acc + s.lag i * 2 ^ i) 0 14 0
  else if o = 0x06 then s.time.rfault
  else if o = 0x07 then s.time.stale * 256
  else if o = 0x09 then
    (match s.commit.mode with | .none => 0 | .cycle => 1 | .launch => 2) * 4096 + s.commit.result * 256 +
      b2n s.commit.pending * 128 + b2n s.commit.armed * 64
  else if 0x0A ≤ o ∧ o ≤ 0x0D then wordN s.commit.c (o - 0x0A)
  else s.cfg a 0

/-- R100 to R103, R174 to R176: ANG_. -/
def State.readAng (s : State) (a : Nat) : Nat :=
  let o := a % 256
  let i := s.input
  if o = 0x0A then
    (i 1).lastDir * 256 + (i 0).lastDir * 64 + b2n (i 5).level * 32 + b2n (i 4).level * 16 + b2n (i 3).level * 8 +
      b2n (i 2).level * 4 + b2n (i 1).level * 2 + b2n (i 0).level
  else if o = 0x0B ∨ o = 0x0C then (i (o - 0x0B)).spacing * 256 + (i (o - 0x0B)).noise
  else if o = 0x0D then (i 5).spacing * 4096 + (i 4).spacing * 256 + (i 3).spacing * 16 + (i 2).spacing
  else if 0x0F ≤ o ∧ o ≤ 0x12 then wordN s.wheel.rejT (o - 0x0F)
  else if o = 0x13 then (i 1).ambig * 4096 + (i 0).ambig * 256 + s.wheel.rejReason * 16 + s.wheel.rejInput
  else if 0x15 ≤ o ∧ o ≤ 0x1C then capWord s.wheel.vtxD (o - 0x15)
  else if o = 0x44 then
    s.tan.ast.code * 16384 + b2n s.tanClamp * 8192 + b2n s.tan.learnG * 4096 + b2n s.tan.learnR * 2048 + b2n s.tan.x.act * 1024 +
      b2n s.tanBusy * 512 + s.tan.lres * 64
  else if o = 0x45 then s.angleAt s.tb % 65536
  else if 0x46 ≤ o ∧ o ≤ 0x4C then capWord s.tan.cap (o - 0x46)
  else if o = 0x4D ∨ o = 0x4E then wordN s.tan.cyct (o - 0x4D)
  else if o = 0x4F then ofSigned 16 s.tan.errMax
  else if o = 0x50 then ofSigned 16 s.tan.errMin
  else if o = 0x51 then s.tan.errPMax
  else if o = 0x52 then s.tan.errPMin
  else if o = 0x53 ∨ o = 0x54 then wordN s.tan.jmpFrom (o - 0x53)
  else if o = 0x55 ∨ o = 0x56 then wordN s.tan.jmpTo (o - 0x55)
  else if o = 0x57 then s.tan.early * 256 + s.tan.late
  else if o = 0x58 then s.tan.jumps
  else if 0x70 ≤ o ∧ o ≤ 0x73 then capWord s.tan.s16Cap (o - 0x70)
  else s.cfg a 0

/-- R134, R135: SYN_. -/
def State.readSyn (s : State) (a : Nat) : Nat :=
  if a = Reg.SYN_STAT then s.synStat
  else if a = Reg.SYN_POS then s.synPos
  else if a = Reg.SYN_LAST then s.sync.lastFrom.code * 8192 + s.sync.lastTo.code * 1024 + s.sync.cause
  else if a = Reg.SYN_CNT then s.sync.losses * 256 + s.sync.camErr
  else s.cfg a (s.regIdx a)

/-- R214 to R216: EVQ_. -/
def State.readEvq (s : State) (a : Nat) : Nat :=
  if a = Reg.EVQ_ARM_STAT then b2n s.evq.armBusy * 32768 + s.evq.armRes
  else if a = Reg.EVQ_CAN_STAT then s.evq.canLate * 256 + s.evq.canDone
  else if a = Reg.EVQ_RWR then s.evq.rwr
  else if a = Reg.EVQ_RLOST then s.evq.rlost
  else if a = Reg.EVQ_RCP_STAT then s.rcpStat
  else if a = Reg.EVQ_QSTAT then
    let o := s.cfg Reg.EVQ_QSEL 0
    let q := s.queue o
    b2n (match q with | e :: _ => e.pin.isSome | [] => false) * 128 + b2n (s.held o) * 64 + b2n (s.active o).isSome * 32 + q.length
  else if a = Reg.EVQ_SLSTAT then
    (match Tbl.find? (s.cfg Reg.EVQ_SLSEL 0) s.evq.slots with
     | some p => p.1 * 16384 + p.2
     | none => 0)
  else if a = Reg.EVQ_INUSE then s.evq.q.foldl (fun acc p => acc + p.2.length) 0
  else if a = Reg.EVQ_CNT then s.evq.drops * 256 + s.evq.lates
  else if a = Reg.EVQ_ARM ∨ a = Reg.EVQ_CAN_CMD ∨ a = Reg.EVQ_RCP_CMD then 0
  else s.cfg a 0

/-- R242, R265: ARC_ and CMB_. -/
def State.readArc (s : State) (a : Nat) : Nat :=
  if a = Reg.ARC_STAT then
    let c := s.arcOf (s.cfg Reg.ARC_SEL 0)
    b2n c.copy.isSome * 32768 + b2n c.run.isSome * 16384 + c.lastEnd * 1024 + c.inst % 256
  else if a = Reg.ARC_CSTAT then
    let k := s.cfg Reg.ARC_CSEL 0
    let c := s.convOf k
    b2n (decide (12 ≤ k) && decide (s.fbkMode ((k - 12) / 2) = 1)) * 256 + s.waiting k * 32 + b2n c.calFrom.isSome * 16 +
      c.calRes * 4 + b2n c.refBad * 2 + b2n c.tmo
  else if a = Reg.ARC_CNT then s.arcs.overlap * 256 + s.arcs.miss
  else if a = Reg.ARC_FLT then s.arcs.flt
  else if a = Reg.CMB_STAT then
    b2n s.cmb.run.isSome * 32768 + s.cmb.queue.length * 2048 + (match s.cmb.run with | some r => r.job.rcd.cyl | none => 0x1F)
  else if a = Reg.CMB_CNT then s.cmb.overrun * 256 + s.cmb.misfire
  else s.cfg a (s.regIdx a)

/-- R304 to R307, R335: DRV_. -/
def State.readDrv (s : State) (a : Nat) : Nat :=
  let d := s.drv
  if a = Reg.DRV_PSTAT then b2n d.loaded * 32768 + d.lres * 4096 + d.prof
  else if Reg.DRV_BSTAT_A ≤ a ∧ a < Reg.DRV_BSTAT_A + 6 then s.bankStat (a - Reg.DRV_BSTAT_A)
  else if a = Reg.DRV_CFLAG then d.cflag
  else if a = Reg.DRV_CNT then d.delays * 256 + d.drops
  else if a = Reg.DRV_DROP_TAG then d.dropTag
  else if a = Reg.DRV_DROP_INFO then d.dropReason * 4096 + d.dropOut
  else if a = Reg.DRV_VBAT then d.vbat
  else if a = Reg.DRV_BST0_V then d.boost0.v
  else if a = Reg.DRV_BST1_V then d.boost1.v
  else if a = Reg.DRV_BSTST then s.boostStat
  else if a = Reg.DRV_TRC_STAT then b2n d.trcDone * 32768 + d.trcCh * 8192 + d.trcNs
  else if a = Reg.DRV_DG_CNT0 then d.dgOpen * 256 + d.dgShort
  else if a = Reg.DRV_DG_CNT0 + 1 then d.dgPnr * 256 + d.dgClamp
  else if a = Reg.DRV_DG_CNT0 + 2 then d.dgBnr * 256 + d.dgDec
  else if a = Reg.DRV_DG_OL0 then d.olFlags % 65536
  else if a = Reg.DRV_DG_OL1 then d.olFlags / 65536
  else if a = Reg.DRV_DG_SC0 then d.scFlags % 65536
  else if a = Reg.DRV_DG_SC1 then d.scFlags / 65536
  else if a = Reg.DRV_DG_TAG then d.dgTag
  else if a = Reg.DRV_DG_INFO then d.dgInfo
  else if a = Reg.DRV_DG_ECL_LO then d.dgEcl % 65536
  else if a = Reg.DRV_DG_ECL_HI then d.dgEcl / 65536
  else s.cfg a 0

/-- R336, R337: IGN_ and VLV_. -/
def State.readIgn (s : State) (a : Nat) : Nat :=
  let d := s.drv
  if a = Reg.IGN_DWL0 then s.ignBits .dwell % 65536
  else if a = Reg.IGN_DWL1 then s.ignBits .dwell / 65536
  else if a = Reg.IGN_RMP0 then s.ignBits .ramp % 65536
  else if a = Reg.IGN_RMP1 then s.ignBits .ramp / 65536
  else if a = Reg.IGN_FLT0 then d.ignFlt % 65536
  else if a = Reg.IGN_FLT1 then d.ignFlt / 65536
  else if a = Reg.IGN_CNT then d.overdwell * 256 + d.shortdwell * 16 + d.ignDrops
  else if a = Reg.IGN_DROP_TAG then d.ignDropTag
  else if a = Reg.IGN_DROP_INFO then d.ignDropReason * 4096 + d.ignDropOut
  else if a = Reg.VLV_STAT then s.vlvStat (s.fld Reg.VLV_SEL 0 2 0)
  else if a = Reg.VLV_IMEAN then (s.valve (s.fld Reg.VLV_SEL 0 2 0)).imean
  else if a = Reg.VLV_DNOW then (s.valve (s.fld Reg.VLV_SEL 0 2 0)).d
  else if a = Reg.VLV_CNT then d.latches * 256 + d.opens
  else s.cfg a (s.regIdx a)

/-- R382 to R385: LAN_ (DEDUCED, note 46). -/
def State.readLan (s : State) (a i : Nat) : Nat :=
  if a = Reg.LAN_LSTAT then s.laneStat i
  else if a = Reg.LAN_FPC then (s.lane i).fpc
  else if a = Reg.LAN_SPSTAT then (s.spare i).word
  else if Reg.LAN_PLVL0 ≤ a ∧ a < Reg.LAN_PLVL0 + 6 then s.padWord (a - Reg.LAN_PLVL0)
  else s.cfg a i

/-- R451 to R453: FBK_. -/
def State.readFbk (s : State) (a i : Nat) : Nat :=
  if a = Reg.FBK_STAT then s.fbkStat i
  else if Reg.FBK_POS_LO ≤ a ∧ a < Reg.FBK_POS_LO + 8 then capWord (s.inc i).cap (a - Reg.FBK_POS_LO)
  else if a = Reg.FBK_CNT then (s.inc i).cntWord
  else if a = Reg.FBK_CMPCFG then s.cmpCfgWord (i / 4) (i % 4)
  else if a = Reg.FBK_SSI_STAT then s.ssiStatRead i
  else if Reg.FBK_SSI_D0 ≤ a ∧ a < Reg.FBK_SSI_D0 + 5 then capWord (s.ssi i).cap (a + 1 - Reg.FBK_SSI_D0)
  else s.cfg a i

/-- R475, R476: IRC_. -/
def State.readIrc (s : State) (a i : Nat) : Nat :=
  if a = Reg.IRC_SSTAT then s.srcStat i
  else if Reg.IRC_HVEC0 ≤ a ∧ a < Reg.IRC_HVEC0 + 4 then s.hvec (a - Reg.IRC_HVEC0)
  else if a = Reg.IRC_HCNT then s.irc.hcnt
  else if a = Reg.IRC_TCFG then s.tcfg i
  else if a = Reg.IRC_STRAYCNT then s.irc.strayCnt
  else if Reg.IRC_WCAUSE0 ≤ a ∧ a < Reg.IRC_WCAUSE0 + 4 then wordN s.irc.wcause (a - Reg.IRC_WCAUSE0)
  else if a = Reg.IRC_FLWR then s.irc.flwr
  else if a = Reg.IRC_FLOST then s.irc.flost
  else if Reg.IRC_PSUM0 ≤ a ∧ a < Reg.IRC_PSUM0 + 32 then s.psum (a - Reg.IRC_PSUM0)
  else s.cfg a i

/-- R495: DMA_. -/
def State.readDma (s : State) (a i : Nat) : Nat :=
  if a = Reg.DMA_CIDX then (s.chan i).idx
  else if a = Reg.DMA_CSTAT then (s.chan i).statWord
  else if a = Reg.DMA_CPCNT then (s.chan i).pcnt
  else if a = Reg.DMA_CERR then (s.chan i).errStat * 4096 + (s.chan i).errIdx
  else if a = Reg.DMA_ACT0 then s.dmaAct 0
  else if a = Reg.DMA_ACT0 + 1 then s.dmaAct 1
  else if a = Reg.DMA_CNT then s.dma.errors * 256 + s.dma.aborts
  else s.cfg a i

/-- R502: the words a packet takes in a receive buffer. -/
def Packet.words (p : Packet) : Nat := p.len + 5

/-- R526: the words in a port's receive buffer (DESIGN CHOICE, note 53). -/
def Port.rxWords (p : Port) : Nat := p.rx.foldl (fun acc k => if k.host.isSome then acc else acc + k.words) 0

/-- R526: CMD_STATn. -/
def Port.statWord (p : Port) : Nat :=
  b2n p.csnLow * 32768 + b2n p.hunt * 16384 + b2n p.lseqv * 8192 + b2n (!p.tx.isEmpty) * 4096 + min p.rxWords 4095

/-- R526: CMD_. The permission fields are fuses 8 to 15 (R626). -/
def State.readCmd (s : State) (a : Nat) : Nat :=
  let o := a % 256
  let p := s.cfg Reg.CMD_PSEL 0
  if o < 2 then (s.port o).statWord
  else if o < 4 then
    let q := s.port (o - 2)
    q.cCrc * 4096 + q.cFrame * 256 + q.cReject * 16 + q.cLost
  else if o = 0x05 ∨ o = 0x06 then (s.port (o - 5)).lseq
  else if o = 0x08 then s.fuse (8 + 4 * p)
  else if o = 0x09 then s.fuse (9 + 4 * p) % 32
  else if o = 0x0A then s.fuse (10 + 4 * p)
  else if o = 0x0B then s.fuse (11 + 4 * p) % 32
  else if o = 0x0C then (s.port p).srx.length
  else if o = 0x0D then (s.port p).stx.length
  else s.cfg a 0

/-- R577, R578: TWN_. -/
def State.readTwn (s : State) (a : Nat) : Nat :=
  let t := s.twn
  if a = Reg.TWN_STAT then b2n t.paired * 32768 + b2n t.link * 16384 + b2n t.shadow * 8192 + b2n t.fault * 4096 + t.jstate * 256
  else if a = Reg.TWN_OWN then t.own
  else if a = Reg.TWN_POWN then t.pown
  else if a = Reg.TWN_GSNS then t.gsns
  else if a = Reg.TWN_LAST then t.lastCause * 4096 + t.lastUnits
  else if a = Reg.TWN_JRES then t.jres
  else if a = Reg.TWN_CNT then t.dmis * 256 + t.linkerr
  else if a = Reg.TWN_VDIF then t.vdif
  else if a = Reg.TWN_TBOFS then ofSigned 16 (clampInt (-32768) 32767 t.ofs)
  else if a = Reg.TWN_PAIRID then s.fuse 6
  else if a = Reg.TWN_FMT then s.stateFormat
  else s.cfg a 0

/-- R608 to R610: ELX_. -/
def State.readElx (s : State) (a : Nat) : Nat :=
  let e := s.elx
  if a = Reg.ELX_ID then s.fusedRole * 4096 + s.nodeId
  else if a = Reg.ELX_STAT then
    e.arole * 4096 + b2n s.time.aligned * 2048 + b2n e.holdFrom.isSome * 1024 + b2n e.stepblk * 512 + b2n e.reversed * 256 + e.depth
  else if a = Reg.ELX_EPOCH then e.epoch
  else if a = Reg.ELX_PORT then forUpTo (fun p acc => acc + b2n (s.elxPort p).up * 2 ^ p) 0 5 0
  else if a = Reg.ELX_PARENT then
    (if s.upPort < 5 && (s.elxPort s.upPort).up then 32768 + (s.elxPort s.upPort).peer else 0)
  else if a = Reg.ELX_OFS then ofSigned 16 (clampInt (-32768) 32767 e.o)
  else if a = Reg.ELX_LDLY then min e.d 65535
  else if a = Reg.ELX_JOINED then (if e.arole = 2 then e.table.length else 0)
  else if a = Reg.ELX_CNT then e.linkerr * 256 + e.drops
  else if a = Reg.ELX_FRWR then e.frwr
  else if a = Reg.ELX_FRLOST then e.frlost
  else s.cfg a 0

/-- R637: FUS_FWSTAT's STATE. -/
def FwState.code : FwState → Nat
  | .idle => 0
  | .erasing => 1
  | .receiving => 2
  | .verifying => 3
  | .closed => 4

/-- R637, R664: LAT_, PWR_ and FUS_. -/
def State.readSys (s : State) (a : Nat) : Nat :=
  let f := s.cfg Reg.FUS_SEL 0
  if a = Reg.LAT_STAT then s.latStat
  else if a = Reg.LAT_CNT then s.lat.ce * 256 + s.lat.ue
  else if a = Reg.LAT_EADDR_LO then s.lat.eaddr % 65536
  else if a = Reg.LAT_EADDR_HI then b2n s.lat.eunc * 32768 + s.lat.eaddr / 65536
  else if a = Reg.LAT_SPR01 then s.freeSpares 1 * 256 + s.freeSpares 0
  else if a = Reg.LAT_SPR01 + 1 then s.freeSpares 3 * 256 + s.freeSpares 2
  else if a = Reg.PWR_DSTAT then forUpTo (fun d acc => acc + b2n (s.domOn d) * 2 ^ d) 0 12 0
  else if a = Reg.PWR_STAT then b2n s.pwr.ready * 32768 + b2n s.pwr.limited * 16384 + b2n s.pwr.vgdok * 8192 + b2n s.pwr.tbrest * 4096
  else if a = Reg.PWR_RCAUSE then s.pwr.rcause
  else if a = Reg.PWR_WAKE then s.pwr.wakeFrom
  else if a = Reg.PWR_CFGSTAT then b2n s.pwr.cfgBusy * 32768 + s.pwr.cfgRes
  else if a = Reg.PWR_KTIM_LO then s.pwr.ktim % 65536
  else if a = Reg.PWR_KTIM_HI then s.pwr.ktim / 65536
  else if a = Reg.FUS_STAT then
    b2n s.fus.prog.isSome * 32768 + b2n (s.fus.shadow.all (fun p => p.2.valid)) * 16384 + s.locks
  else if a = Reg.FUS_SEL then s.fuseKind f * 128 + f
  else if a = Reg.FUS_VAL then s.fuse f
  else if a = Reg.FUS_FWSTAT then s.fus.fw.code * 8192 + b2n s.fus.bootB * 4096 + b2n s.fus.markB * 2048 + s.fus.vres
  else if a = Reg.FUS_FWVA then s.slotVersion false
  else if a = Reg.FUS_FWVB then s.slotVersion true
  else s.cfg a 0

/-- What a read does before it returns: the captures of R61, R170, R175, R382, R451 and R464. -/
def State.readEffect (s : State) (a : Nat) : State :=
  if a = Reg.TB_NOW0 then after (execTbNow0Read s) s
  else if a = Reg.ANG_ACC_LO then after (execAngAccLoRead s) s
  else if a = Reg.ANG_S16_PERL then after (execAngS16PerlRead s) s
  else if a = Reg.LAN_RDL then s.rdlRead s.laneSel (s.fld Reg.LAN_RSEL s.laneSel 4 0)
  else if a = Reg.FBK_POS_LO then after (execFbkPosLoRead s) s
  else if a = Reg.FBK_SSI_D0 then after (execFbkSsiD0Read s) s
  else if Reg.IRC_HVEC0 ≤ a ∧ a < Reg.IRC_HVEC0 + 4 then after (execIrcHvecRead (a - Reg.IRC_HVEC0) s) s
  else if (a = Reg.PWR_KTIM_LO ∨ a = Reg.PWR_KTIM_HI) ∧ s.pwr.ktRun = true then
    -- the keep oscillator is not synchronous to the Time Base: the remainder is a free value that never grows
    let (v, s1) := s.freeVal
    { s1 with pwr := { s1.pwr with ktim := v % (s1.pwr.ktim + 1) } }
  else s

/-- The value of a register with readable fields, as it stands. -/
def State.readValue (s : State) (a : Nat) : Nat :=
  let i := s.regIdx a
  match bits a 15 8 with
  | 0x00 => s.readTb a
  | 0x01 => s.readAng a
  | 0x02 => s.readSyn a
  | 0x03 => s.readEvq a
  | 0x04 => s.readArc a
  | 0x05 => s.readArc a
  | 0x06 => s.readDrv a
  | 0x07 => s.readIgn a
  | 0x08 => s.readIgn a
  | 0x09 => s.readLan a i
  | 0x0A => s.readFbk a i
  | 0x0B => s.readIrc a i
  | 0x0C => s.readDma a i
  | 0x0D => s.readCmd a
  | 0x0E => s.readTwn a
  | 0x0F => s.readElx a
  | _ => s.readSys a

/-- R514: a read of a register: its effects, then its value. WO fields read as 0, as does an offset that no chapter lists (R523); a
register of a domain that is off reads as a free value (R640). -/
def State.readReg (s : State) (a : Nat) : Nat × State :=
  match regRow? a with
  | none => (0, s)
  | some r =>
    if s.regOff a (s.regIdx a) then
      let (v, s1) := s.freeVal
      (v % 65536, s1)
    else
      let s1 := s.readEffect a
      (s1.readValue a &&& (r.known - (r.wo &&& r.known)), s1)

end Sys2Proof.Machine
end

