-- ==== Sys2Proof/Machine/Command.lean ====
section
/-! DEFINITION. The command ports: reception, checks, and the packets of 16_command_ports.md. -/

namespace Sys2Proof.Machine

/-! ### The link and reception (R497 to R502, R505, R506) -/

/-- R505: the word of the slot that begins in this tick: the oldest queued reply word, or 0x0000. -/
def Port.beginSlot (v : Port) : Port :=
  match v.tx with
  | w :: _ => { v with outWord := w, outReal := true }
  | [] => { v with outWord := 0#16, outReal := false }

/-- CSN_FALL: a frame begins, and with it its first reply word slot (R497, R505). -/
def execCsnFall (port : Nat) (s : State) : Host.Outcome State Fault Refusal :=
  .next (
    if port < 2 ∧ (s.port port).csnLow = false then
      let v := { (s.port port) with csnLow := true }
      s.setPort port (if s.pwr.rung = 0 then v.beginSlot else v)
    else s)

/-- CSN_RISE: the frame ends; a packet in reception is abandoned, and the slot cut short keeps its word (R498, R505). -/
def execCsnRise (port : Nat) (s : State) : Host.Outcome State Fault Refusal :=
  .next (
    let v := s.port port
    if port < 2 ∧ v.csnLow = true then
      let v1 := { v with csnLow := false, outReal := false }
      if v.inPacket then
        ((s.setPort port { v1 with inPacket := false, hunt := true, cFrame := satInc 15 v.cFrame }).hit (Reg.CMD_CNT0 + port) 0 8).reportBlock 0x2B02 port port
      else s.setPort port v1
    else s)

/-- SYNC_WORD_FOUND: a hunting port receives 0x5A3C and begins a packet (R499). -/
def execSyncWordFound (port : Nat) (s : State) : Host.Outcome State Fault Refusal :=
  .next (
    let v := s.port port
    if port < 2 ∧ v.csnLow = true ∧ v.hunt = true ∧ s.pwr.rung = 0 then s.setPort port { v with hunt := false, inPacket := true } else s)

/-- R644: a reply word of the RUNG packet's port has left. -/
def State.rungWord (s : State) (port : Nat) : State :=
  match s.pwr.entering with
  | some e => if e.port = port then { s with pwr := { s.pwr with entering := some { e with left := e.left - 1 } } } else s
  | none => s

/-- REPLY_WORD_SLOT: the word slot in progress ends: its reply word, where it carries one, leaves the queue, and the next slot begins
(R505). -/
def execReplyWordSlot (port : Nat) (s : State) : Host.Outcome State Fault Refusal :=
  .next (
    let v := s.port port
    if port < 2 ∧ v.csnLow = true ∧ s.pwr.rung = 0 then
      if v.outReal then
        (((s.setPort port { v with tx := v.tx.drop 1, outReal := false }).hostReplies port).rungWord port).setPort port
          ((((s.setPort port { v with tx := v.tx.drop 1, outReal := false }).hostReplies port).port port).beginSlot)
      else s.setPort port v.beginSlot
    else s)

/-- R43, R633: who answers packets: 2 the supervisors, 1 the ROM, 0 nobody. -/
def State.servedBy (s : State) : Nat := if s.sup.running && s.pwr.ready then 2 else if s.sup.rom then 1 else 0

/-- R633: the opcodes that the ROM answers (DESIGN CHOICE, note 53). -/
def romOp (op : Nat) : Bool := decide (op = 0x01) || (decide (0x70 ≤ op) && decide (op ≤ 0x72))

/-- A packet put in a port's order; the HOST island's own replies follow it where there is room (R504). -/
def State.packetIn (s : State) (port : Nat) (k : Packet) : State :=
  (s.setPort port { (s.port port) with rx := (s.port port).rx ++ [k] }).hostReplies port

/-- R506, checks 1 to 3 of a packet whose last word has come, and where it goes. -/
def State.receive (s : State) (port : Nat) (k : Packet) (crcOk : Bool) : State :=
  let v := s.port port
  let answer := fun (st : State) (status detail : Nat) => st.packetIn port { k with params := [], host := some (status, detail) }
  if 518 < k.len then answer s 0x11 518
  else if 2048 < v.rxWords + k.words then
    let s1 := ((s.setPort port { v with cLost := satInc 15 v.cLost }).hit (Reg.CMD_CNT0 + port) 0 0).reportBlock 0x4B03 port port
    if v.rx.any (fun x => x.host.isSome) || decide (2048 < v.tx.length + 7) then s1 else answer s1 0x12 0
  else if !crcOk then
    answer (((s.setPort port { v with cCrc := satInc 15 v.cCrc }).hit (Reg.CMD_CNT0 + port) 0 12).reportBlock 0x2B01 port port) 0x10 0
  else if s.servedBy = 0 || (decide (s.servedBy = 1) && !(romOp (k.opw / 256))) then answer s 0x08 0
  else s.packetIn port k

/-- PACKET_RECEIVED: a packet completes reception: with LEN up to 518 in the tick of its CRC word, beyond it in that of its LEN word
(R499 to R502, R504, R506). -/
def execPacketReceived (port : Nat) (opw seq len : Word) (params : List Word) (crc : Word) (s : State) :
    Host.Outcome State Fault Refusal :=
  .next (
    let v := s.port port
    let n := len.toNat
    if port < 2 ∧ v.csnLow = true ∧ v.inPacket = true ∧ s.pwr.rung = 0 ∧ (n ≤ 518 → params.length = n) then
      (s.setPort port { v with inPacket := false, hunt := true }).receive port ⟨opw.toNat, seq.toNat, n, params, none⟩
        (decide (crc16 (opw :: seq :: len :: params) = crc.toNat))
    else s)

/-! ### The supervisors take a packet (R505, R507 to R509) -/

/-- R505, R511: the result words of the longest reply that an opcode gives. -/
def longestResult (op : Nat) : Nat :=
  match op with
  | 0x01 => 22
  | 0x10 => 512
  | 0x20 => 2
  | 0x21 => 4
  | 0x40 => 2
  | 0x41 => 512
  | 0x50 => 2
  | 0x51 => 2
  | 0x60 => 2
  | 0x61 => 32
  | 0x72 => 2
  | _ => 0

/-- R508: a packet is a duplicate. -/
def Port.isDup (v : Port) (k : Packet) : Bool := bit k.opw 1 && v.lseqv && decide (k.seq = v.lseq)

/-- R505, R509: the packet at the front of a port's order that may begin. -/
def State.ready (s : State) (p : Nat) : Option Packet :=
  let v := s.port p
  match v.rx with
  | k :: _ =>
    let need := if v.isDup k then max 7 v.last.length else 7 + longestResult (k.opw / 256)
    if k.host.isNone && decide (v.tx.length + need ≤ 2048) then some k else none
  | [] => none

/-- R509: the port and the packet that the supervisors take next; none in a rung (R643) or after a RESET (R652). Packets that wait when
the supervisors stop are kept, and executed after the restart (R43; DESIGN CHOICE, note 57). -/
def State.nextPacket (s : State) : Option (Nat × Packet) :=
  if s.cmd.cur.isSome || decide (s.servedBy = 0) || decide (s.pwr.rung ≠ 0) || s.pwr.resetAt.isSome then none
  else match s.ready s.cmd.turn with
    | some k => some (s.cmd.turn, k)
    | none =>
      match s.ready (1 - s.cmd.turn) with
      | some k => some (1 - s.cmd.turn, k)
      | none => none

/-- R508: the stored last reply of a port queued again. -/
def State.sendLast (s : State) (p : Nat) : State :=
  let v := s.port p
  ((s.setPort p (v.push (dupReply v.last) ((nth 0#16 v.last 3).toNat / 256))).hitReject p ((nth 0#16 v.last 3).toNat / 256)).hostReplies p

/-- R511: the opcodes. -/
def opcodes : List Nat :=
  [0x00, 0x01, 0x10, 0x11, 0x20, 0x21, 0x22, 0x30, 0x31, 0x40, 0x41, 0x50, 0x51, 0x52, 0x60, 0x61, 0x70, 0x71, 0x72, 0x74, 0x75, 0x78,
   0x79]

/-- R510, R511: the LEN that a packet's opcode requires; of several, the one nearest to the packet's (DESIGN CHOICE, note 51). -/
def Packet.needLen (k : Packet) : Nat :=
  let block := if k.len < 6 then 6 else if 516 < k.len then 516 else k.len + k.len % 2
  match k.opw / 256 with
  | 0x10 => 6
  | 0x11 => if k.len < 6 then 8 else 6 + 2 * (nth 0#16 k.params 4).toNat
  | 0x20 => 2
  | 0x21 => 4
  | 0x22 => 2
  | 0x30 => 10
  | 0x40 => if k.len = 0 then 1 else if 512 < k.len then 512 else k.len
  | 0x41 => 2
  | 0x50 => 4
  | 0x51 => 4
  | 0x60 => 14
  | 0x61 => 2
  | 0x70 => 4
  | 0x71 => block
  | 0x72 => 2
  | 0x74 => block
  | 0x78 => 2
  | 0x79 => 2
  | _ => 0

/-- R503: the index of the value word of the first twin-word that is invalid. -/
def badPair : Nat → List Word → Option Nat
  | i, v :: c :: rest => if (TwinWord.mk v c).valid then badPair (i + 2) rest else some i
  | _, _ => none

/-- The values of a packet's twin-words. -/
def pairValues : List Word → List Nat
  | v :: _ :: rest => v.toNat :: pairValues rest
  | _ => []

/-- R524: the protection group of an address; none where the address is unmapped. -/
def addrGroup (a : Nat) : Option Nat :=
  if a < 0x80000 then some 0
  else if 0x800000 ≤ a ∧ a < 0x810000 then some 1
  else if 0xF00000 ≤ a ∧ a < 0xF01300 then some (2 + bits a 15 8)
  else none

/-- The address of an RD or WR (R512). -/
def rwAddr (vals : List Nat) : Nat := nth 0 vals 0 + 65536 * (nth 0 vals 1 % 256)

/-- R511: the protection group that an opcode requires, and whether for writing. -/
def protOf (op : Nat) (vals : List Nat) : Option (Bool × Nat) :=
  if op = 0x10 then (addrGroup (rwAddr vals)).map (fun g => (false, g))
  else if op = 0x11 then (addrGroup (rwAddr vals)).map (fun g => (true, g))
  else if 0x20 ≤ op ∧ op ≤ 0x22 then some (true, 5)
  else if op = 0x30 ∨ op = 0x31 then some (true, 2)
  else if op = 0x40 then some (true, 14)
  else if op = 0x41 then some (false, 14)
  else if 0x50 ≤ op ∧ op ≤ 0x52 then some (true, 16)
  else if op = 0x60 then some (true, 17)
  else if op = 0x61 then some (false, 17)
  else if 0x70 ≤ op ∧ op ≤ 0x72 then some (true, 20)
  else if 0x74 ≤ op ∧ op ≤ 0x79 then some (true, 19)
  else none

/-- R524, R626: the protection map permits a group to a port. -/
def State.permits (s : State) (p : Nat) (write : Bool) (g : Nat) : Bool :=
  let f := 8 + 4 * p + 2 * b2n write
  if g < 16 then bit (s.fuse f) g else bit (s.fuse (f + 1)) (g - 16)

/-- R506, checks 5 to 9: the status and detail of the first that fails (DEDUCED, note 52). -/
def State.packetFault (s : State) (p : Nat) (k : Packet) : Option (Nat × Nat) :=
  let op := k.opw / 256
  if !(opcodes.contains op) then some (0x13, 0)
  else if bits k.opw 7 2 ≠ 0 ∨ (bit k.opw 0 = true ∧ op ≠ 0x10) then some (0x14, 0xFFFF)
  else if k.len ≠ k.needLen then some (0x11, k.needLen)
  else match (if op = 0x40 then none else badPair 0 k.params) with
    | some i => some (0x15, i)
    | none =>
      match protOf op (pairValues k.params) with
      | some (w, g) => if s.permits p w g then none else some (0x17, g)
      | none => none

/-- R507, R508, R509: the next packet leaves the receive buffer, and the other port's turn comes. A duplicate is answered with the
stored reply; of any other the SEQ is kept and, checks 5 to 9 passed, `run` executes it: port, packet, values (DESIGN CHOICE, note 51). -/
def State.take (s : State) (mine : Nat → Bool) (run : Nat → Packet → List Nat → State → State) : State :=
  match s.nextPacket with
  | none => s
  | some (p, k) =>
    if !(mine (k.opw / 256)) then s
    else
      let v := s.port p
      let s1 := ({ s with cmd := { s.cmd with turn := 1 - p } }).setPort p { v with rx := v.rx.drop 1 }
      if v.isDup k then s1.sendLast p
      else
        let s2 := s1.setPort p { (s1.port p) with lseq := k.seq, lseqv := true }
        let s3 := { s2 with cmd := { s2.cmd with cur := some (p, k.opw, k.seq) } }
        match s3.packetFault p k with
        | some (st, d) =>
          let s4 := if st = 0x15 then s3.report 0x5B04 p else if st = 0x17 then s3.reportBlock 0x2B05 p p else s3
          s4.finishPacket st d []
        | none => run p k (pairValues k.params) s3

/-- UNDEFINED_OPCODE_PACKET: a packet whose opcode R511 does not define is answered REJECT_OPCODE (check 5). -/
def execUndefinedOpcodePacket (s : State) : Host.Outcome State Fault Refusal :=
  .next (s.take (fun op => !(opcodes.contains op)) (fun _ _ _ st => st))

/-- NOP_PACKET: opcode 0x00 (R511). -/
def execNopPacket (s : State) : Host.Outcome State Fault Refusal :=
  .next (s.take (· == 0x00) (fun _ _ _ st => st.finishPacket 0x00 0 []))

/-! ### IDENT (R513) -/

/-- A word of the header of the image that was booted; a free value in ROM mode, in which none was. -/
def State.bootWord (s : State) (i : Nat) : Nat × State :=
  if s.sup.rom then
    let (v, s1) := s.freeVal
    (v % 65536, s1)
  else (s.slotWord s.fus.bootB i, s)

/-- IDENT: the identity of the device. -/
def execIdent (s : State) : Host.Outcome State Fault Refusal :=
  .next (s.take (· == 0x01) (fun p _ _ st =>
    let (ver, s1) := st.bootWord 3
    let (build, s2) := s1.bootWord 4
    s2.finishPacket 0x00 0 (twinList ([0x4812, s2.fuse 1, ver, build, s2.fuse 6, s2.fuse 7, p] ++
      (List.range 4).map (fun i => s2.fuse (2 + i))))))

/-! ### RD and WR (R514 to R516, R522, R523, R692) -/

/-- R515, R522, R343: the region an address lies in: 0 the Lattice, 1 + 2c and 2 + 2c the memories of cluster c, 32 upward the register
windows; none where it is unmapped. -/
def regionOf (a : Nat) : Option Nat :=
  if a < 0x80000 then some 0
  else if 0x800000 ≤ a ∧ a < 0x810000 then
    let c := (a - 0x800000) / 0x2000
    let o := (a - 0x800000) % 0x2000
    if o < 0x1000 then some (1 + 2 * c) else if o < 0x1800 then some (2 + 2 * c) else none
  else if 0xF00000 ≤ a ∧ a < 0xF01300 then some (32 + bits a 15 8)
  else none

/-- R515: n addresses from a upward lie in one region. -/
def oneRegion (a n : Nat) : Bool :=
  match regionOf a, regionOf (a + n - 1) with
  | some x, some y => decide (x = y)
  | _, _ => false

/-- R515: no address of the range lies in the Lattice areas closed to WR (DEDUCED, note 52). -/
def wrOpen (a n : Nat) : Bool := decide (0x80000 ≤ a) || decide (a + n ≤ 0x40000) || decide (0x44000 ≤ a)

/-- One address read (R514): the value, its complement, whether it is suspect, and the state after. A memory of a cluster whose domain is
off reads as a free value (DESIGN CHOICE, note 53). -/
def State.readOne (s : State) (a : Nat) : Word × Word × Bool × State :=
  if a < 0x80000 then
    let t := s.latRead a
    (t.value, t.comp, !(s.latOk a), s.latTouch a)
  else if a < 0x810000 then
    let o := a - 0x800000
    if s.domOn (laneDom (o / 0x2000)) then
      let w := toWord (s.lanWord o)
      (w, ~~~w, s.lan.parity.contains o, s.lanTouch o)
    else
      let (v, s1) := s.freeVal
      (toWord v, ~~~(toWord v), false, s1)
  else
    let (v, s1) := s.readReg a
    (toWord v, ~~~(toWord v), false, s1)

/-- n addresses read in order: the words read (value and complement), the index of the first suspect value, the state after. -/
def State.readMany (s : State) : Nat → Nat → Nat → List (Word × Word) × Option Nat × State
  | _, _, 0 => ([], none, s)
  | a, i, n + 1 =>
    let (v, c, bad, s1) := s.readOne a
    let (l, b, s2) := s1.readMany (a + 1) (i + 1) n
    ((v, c) :: l, if bad then some i else b, s2)

/-- R512: the reserved fields of ADDR and COUNT (DEDUCED, note 52). -/
def rwFault (vals : List Nat) : Option Nat :=
  if 256 ≤ nth 0 vals 1 then some 2
  else if nth 0 vals 2 = 0 ∨ 256 < nth 0 vals 2 then some 4
  else none

/-- R375: a range holds LAN_RDL with a lane selected whose cluster is on: the packet waits for that lane's next lane cycle (DEDUCED, note 46). -/
def State.windowWaits (s : State) (a n : Nat) : Bool :=
  decide (a ≤ Reg.LAN_RDL) && decide (Reg.LAN_RDL < a + n) && s.laneOn s.laneSel

/-- R514: n addresses read in order and the reply; `bare` is OPW's choice of values alone. -/
def State.rdRun (s : State) (bare : Bool) (a n : Nat) : State :=
  let (l, b, s1) := s.readMany a 0 n
  let res := if bare then l.map (fun w => w.1) else l.foldr (fun w acc => w.1 :: w.2 :: acc) []
  match b with
  | some i => s1.finishPacket 0x01 i res
  | none => s1.finishPacket 0x00 0 res

/-- RD: COUNT addresses read in order, each with the side effects of its chapter (R375, R514) (DESIGN CHOICE, note 51). -/
def execRd (s : State) : Host.Outcome State Fault Refusal :=
  .next (s.take (· == 0x10) (fun _ k vals st =>
    match rwFault vals with
    | some i => st.finishPacket 0x14 i []
    | none =>
      let a := rwAddr vals
      let n := nth 0 vals 2
      if oneRegion a n then
        (if st.windowWaits a n then st.later (st.cycleNext st.laneSel) (.rdPacket (bit k.opw 0) a n) else st.rdRun (bit k.opw 0) a n)
      else st.finishPacket 0x16 0 []))

/-- R692: the index, among the values written from an address on, of the first that fails check 10. -/
def badField : Nat → Nat → List Nat → Option Nat
  | _, _, [] => none
  | a, i, v :: vs => if fieldOk a v then badField (a + 1) (i + 1) vs else some i

/-- R547: a value that a WR wrote goes to the SHADOW, where its group is one of 0 to 14 (DEDUCED, note 60). -/
def State.mirrorWrite (s : State) (a v : Nat) : State :=
  if s.mirrors && decide ((addrGroup a).getD 99 ≤ 14) then s.twnSend 0x06 (twinList [a % 65536, a / 65536, v]) else s

/-- One value written (R516); the status where it is refused. A memory of a cluster whose domain is off takes nothing
(DESIGN CHOICE, note 53). -/
def State.writeOne (s : State) (a v : Nat) (high : Bool) : State ⊕ Nat :=
  if a < 0x80000 then
    if s.latLocked a then .inr 0x18 else .inl ((s.latPut a v).inject a)
  else if a < 0x810000 then
    let o := a - 0x800000
    if s.shiftHolds o then .inr 0x18 else .inl (if s.domOn (laneDom (o / 0x2000)) then s.lanStore o v else s)
  else if isRegAddr a then
    match s.writeReg a v high with
    | some s1 => .inl s1
    | none => .inr 0x19
  else .inl s

/-- Values written in address order until one is refused (R516): the state, and the status and index of the refusal. -/
def State.writeMany (s : State) (high : Bool) : Nat → Nat → List Nat → State × Option (Nat × Nat)
  | _, _, [] => (s, none)
  | a, i, v :: vs =>
    match s.writeOne a v high with
    | .inl s1 => (s1.mirrorWrite a v).writeMany high (a + 1) (i + 1) vs
    | .inr st => (s, some (st, i))

/-- R516: values written in address order and the reply. -/
def State.wrRun (s : State) (high : Bool) (a : Nat) (vals : List Nat) : State :=
  match s.writeMany high a 0 vals with
  | (s1, some (status, i)) => s1.finishPacket status i []
  | (s1, none) => s1.finishPacket 0x00 0 []

/-- WR: COUNT values written in address order; `high` is the level of the SSI data pin, which a START that the packet writes looks at
(R516, R548, R692) (DESIGN CHOICE, note 51). -/
def execWr (high : Bool) (s : State) : Host.Outcome State Fault Refusal :=
  .next (s.take (· == 0x11) (fun _ _ vals st =>
    match rwFault vals with
    | some i => st.finishPacket 0x14 i []
    | none =>
      let a := rwAddr vals
      let n := nth 0 vals 2
      if !(oneRegion a n && wrOpen a n) then st.finishPacket 0x16 0 []
      else match (if a < 0xF00000 then none else badField a 0 (vals.drop 3)) with
        | some i => st.finishPacket 0x14 (6 + 2 * i) []
        | none =>
          if st.isShadow && decide ((addrGroup a).getD 99 ≤ 14) then st.finishPacket 0x1C 0 []
          else if st.windowWaits a n then st.later (st.cycleNext st.laneSel) (.wrPacket high a (vals.drop 3))
          else st.wrRun high a (vals.drop 3)))

/-! ### Events, commits and streams (R517 to R519, R694) -/

/-- ARM: as a write of EVQ_ARM; the reply waits for the arm (R517). -/
def execArm (s : State) : Host.Outcome State Fault Refusal :=
  .next (s.take (· == 0x20) (fun p _ vals st =>
    let slot := nth 0 vals 0
    if 8192 ≤ slot then st.finishPacket 0x14 0 []
    else if st.isShadow then st.finishPacket 0x1C 0 []
    else st.hostArm slot (.port p)))

/-- CANCEL: as writes of EVQ_CAN_TAG and EVQ_CAN_CMD; the reply waits for the cancel (R517). -/
def execCancel (s : State) : Host.Outcome State Fault Refusal :=
  .next (s.take (· == 0x21) (fun p _ vals st =>
    let tag := nth 0 vals 0
    let sel := nth 0 vals 1
    if !(fieldOk Reg.EVQ_CAN_CMD sel) then st.finishPacket 0x14 2 []
    else if st.isShadow then st.finishPacket 0x1C 0 []
    else (st.setCfg Reg.EVQ_CAN_TAG 0 tag).pushReq (.cancel tag (bit sel 8) (bits sel 6 0) (.port p))))

/-- RCPSWAP: as a write of EVQ_RCP_CMD (R206, R517). -/
def execRcpswap (s : State) : Host.Outcome State Fault Refusal :=
  .next (s.take (· == 0x22) (fun _ _ vals st =>
    let n := nth 0 vals 0
    if 1024 < n then st.finishPacket 0x14 0 []
    else if st.isShadow then st.finishPacket 0x1C 0 []
    else if st.evq.rcpPend.isSome then st.finishPacket 0x1B 0 []
    else (st.requestSwap n).finishPacket 0x00 0 []))

/-- A Lattice base as the open set would leave it in effect (DESIGN CHOICE, note 42). -/
def State.baseStaged (s : State) (lo hi : Nat) : Nat := s.cfgStaged lo 0 + 65536 * (s.cfgStaged hi 0 % 8)

/-- The open set writes a register. -/
def State.setWrites (s : State) (a : Nat) : Bool := (Tbl.find? (regKey a 0) s.staged).isSome

/-- R694, R215, R302: every combined value that the open set writes passes its check (DESIGN CHOICE, note 42). -/
def State.setOk (s : State) : Bool :=
  let gw := s.setWrites Reg.EVQ_GBASE_LO || s.setWrites Reg.EVQ_GBASE_HI
  let rw := s.setWrites Reg.EVQ_RBASE_LO || s.setWrites Reg.EVQ_RBASE_HI
  let tw := s.setWrites Reg.DRV_TRC_BASE_LO || s.setWrites Reg.DRV_TRC_BASE_HI || s.setWrites Reg.DRV_TRC_LEN
  let g := s.baseStaged Reg.EVQ_GBASE_LO Reg.EVQ_GBASE_HI
  let r := s.baseStaged Reg.EVQ_RBASE_LO Reg.EVQ_RBASE_HI
  let t := s.baseStaged Reg.DRV_TRC_BASE_LO Reg.DRV_TRC_BASE_HI
  let size := 4 * 2 ^ (s.cfgStaged Reg.EVQ_RCTL 0 % 8 + 8)
  (!gw || (decide (g % 4 = 0) && inGeneral g 4096)) &&
  (!(rw || s.setWrites Reg.EVQ_RCTL) || (decide (r = 0) && !rw) || (decide (r % size = 0) && inGeneral r size)) &&
  (!tw || decide (t = 0) || inGeneral t (s.cfgStaged Reg.DRV_TRC_LEN 0))

/-- R52: the DETAIL of a launch value that is refused: 1 too early, 2 too far ahead. -/
def State.launchFault (s : State) (c : Nat) : Option Nat :=
  let now := s.replicaNow 1
  if c < now + s.cfg Reg.TB_CLEAD 0 then some 1 else if now + 0x100000000 < c then some 2 else none

/-- R512: the reserved values of a COMMIT's parameters. -/
def commitFault (vals : List Nat) : Option Nat :=
  let mode := nth 0 vals 0
  if mode ≠ 1 ∧ mode ≠ 2 then some 0
  else if mode = 1 then ((List.range 4).find? (fun i => decide (nth 0 vals (1 + i) ≠ 0))).map (fun i => 2 + 2 * i)
  else none

/-- The 64-bit value of four words, low part first. -/
def quad (l : List Nat) : Nat := ofWords ((l.take 4).map toWord)

/-- COMMIT: the open staged set is closed, and the prepare messages go (R518, R694) (DEDUCED, note 52). -/
def execCommit (s : State) : Host.Outcome State Fault Refusal :=
  .next (s.take (· == 0x30) (fun _ _ vals st =>
    match commitFault vals with
    | some i => st.finishPacket 0x14 i []
    | none =>
      let c := quad (vals.drop 1)
      let launch := decide (nth 0 vals 0 = 2)
      if st.isShadow || st.staged.isEmpty then st.finishPacket 0x1C 0 []
      else if st.commit.pending then st.finishPacket 0x1B 0 []
      else match (if launch then st.launchFault c else none) with
        | some d => st.finishPacket 0x1A d []
        | none =>
          if st.setOk then (st.closeSet (if launch then .launch else .cycle) c).finishPacket 0x00 0 []
          else st.finishPacket 0x19 0 []))

/-- R59: the pending set can still be cancelled. -/
def State.cancellable (s : State) : Bool :=
  let c := s.commit
  c.pending && (match c.mode with
    | .launch => !c.stands && decide (s.tb + 128 ≤ c.c)
    | .cycle => !c.cSent && (!c.armed || decide (s.tb = c.armTick))
    | .none => false)

/-- CMTCANCEL: the pending set is cancelled (R59, R518). -/
def execCmtcancel (s : State) : Host.Outcome State Fault Refusal :=
  .next (s.take (· == 0x31) (fun _ _ _ st =>
    if st.isShadow || !st.cancellable then st.finishPacket 0x1C 0 [] else (st.dropSet 2).finishPacket 0x00 0 []))

/-- R547: the words that a SIN appended, in MIRROR frames of at most 14 words (DESIGN CHOICE, note 59). -/
def State.mirrorSin (s : State) (p : Nat) : Nat → List Word → State
  | 0, _ => s
  | n + 1, ws =>
    if ws.isEmpty then s
    else (s.twnSend 0x06 (twinList ([0xFFFF, p] ++ (ws.take 14).map (fun w => w.toNat)))).mirrorSin p n (ws.drop 14)

/-- SIN: the words are appended to the stream receive buffer until it is full (R519). -/
def execSin (s : State) : Host.Outcome State Fault Refusal :=
  .next (s.take (· == 0x40) (fun p k _ st =>
    if st.isShadow then st.finishPacket 0x1C 0 []
    else
      let v := st.port p
      let ws := k.params.take (512 - v.srx.length)
      let s1 := st.setPort p { v with srx := v.srx ++ ws }
      (if s1.mirrors then s1.mirrorSin p 37 ws else s1).finishPacket 0x00 0 (twinWords ws.length)))

/-- SOUT: up to MAXW words of the stream transmit buffer, oldest first (R519). -/
def execSout (s : State) : Host.Outcome State Fault Refusal :=
  .next (s.take (· == 0x41) (fun p _ vals st =>
    let n := nth 0 vals 0
    if n = 0 ∨ 512 < n then st.finishPacket 0x14 0 []
    else
      let v := st.port p
      (st.setPort p { v with stx := v.stx.drop n }).finishPacket 0x00 0 (v.stx.take n)))

end Sys2Proof.Machine
end

