-- ==== Sys2Proof/Machine/ElrexDom.lean ====
section
/-! DEFINITION. The Elrex domain: ports, alignment, domain commands, records, failover (18_elrex.md). -/

namespace Sys2Proof.Machine

/-! ### Frames and ports (R583 to R586) -/

/-- R583, R585: a frame arrives at a port. `err` is 1 where it is discarded and 2 where a twin-word of it is invalid; an ordered frame is
taken only in order, and acknowledged. `up` asks for a port that is up. -/
def State.elxFrame (s : State) (p err : Nat) (up : Bool) (seq : Option Nat) (good : State → State) : State :=
  let v := s.elxPort p
  if !(s.elxOn && decide (p < 5) && (v.up || !up)) then s
  else if err = 1 ∨ err = 2 then
    let s1 := { s with elx := { s.elx with linkerr := satInc 255 s.elx.linkerr } }.hit Reg.ELX_CNT 0 8
    if err = 2 then s1.report 0x5D09 s1.nodeId else s1
  else
    let s1 := s.setElxPort p { v with lastRx := s.tb }
    match seq with
    | none => good s1
    | some q =>
      let next := match v.rxSeq with
        | some r => (r + 1) % 16
        | none => 0
      if q = next then good ((s1.setElxPort p { (s1.elxPort p) with rxSeq := some q }).elxShow p 0x0B [toWord q]) else s1

/-- LACK: the ordered frames up to a SEQ are acknowledged (R585). -/
def execLack (port err seq : Nat) (s : State) : Host.Outcome State Fault Refusal :=
  .next (s.elxFrame port err true none (fun st =>
    let v := st.elxPort port
    if v.tx.any (fun f => f.seq == seq) then
      st.setElxPort port { v with tx := (v.tx.dropWhile (fun f => f.seq != seq)).drop 1, resends := 0 }
    else st))

/-- ELREX_RESEND_TIMEOUT: the oldest ordered frame of a port, unacknowledged for 2,048 ticks, goes again with those after it; after its
eighth time the port goes down (R585) (DEDUCED, note 64). -/
def execElrexResendTimeout (port : Nat) (s : State) : Host.Outcome State Fault Refusal :=
  .next (
    let v := s.elxPort port
    match v.tx with
    | f :: _ =>
      if v.up = true ∧ f.at_ + 2048 ≤ s.tb then
        if 8 ≤ v.resends then s.elxDown port
        else s.setElxPort port { v with resends := v.resends + 1, tx := v.tx.map (fun x => { x with at_ := s.tb }) }
      else s
    | [] => s)

/-- ELREX_PORT_DOWN: a port loses symbol lock, or has received no valid frame for 4,000 ticks (R585). -/
def execElrexPortDown (port : Nat) (lockLost : Bool) (s : State) : Host.Outcome State Fault Refusal :=
  .next (if port < 5 ∧ (lockLost = true ∨ ((s.elxPort port).up = true ∧ (s.elxPort port).lastRx + 4000 ≤ s.tb)) then s.elxDown port else s)

/-- ELREX_HELLO: a HELLO arrives: the port has symbol lock, and knows the node at its other end (R584, R585). -/
def execElrexHello (port err peer _frole arole epoch depth : Nat) (aligned : Bool) (s : State) : Host.Outcome State Fault Refusal :=
  .next (s.elxFrame port err false none (fun st =>
    let v := st.elxPort port
    st.setElxPort port { v with lock := true, seenHello := satInc 2 v.seenHello, peer := peer % 4096, peerRole := arole
                                peerEpoch := epoch % 256, peerDepth := depth % 32, peerAligned := aligned }))

/-- ELREX_HELLO_SEND: HELLO goes at link-up and then every 2^16 ticks (R585). -/
def execElrexHelloSend (port : Nat) (s : State) : Host.Outcome State Fault Refusal :=
  .next (
    let v := s.elxPort port
    let due := match v.helloAt with
      | some t => decide (t + 0x10000 ≤ s.tb)
      | none => true
    if port < 5 ∧ s.elxOn = true ∧ due = true then
      (s.setElxPort port { v with sentHello := satInc 2 v.sentHello, helloAt := some s.tb }).elxShow port 0x01
        (twinList [s.nodeId, s.fusedRole, s.elx.arole, s.elx.epoch, s.elx.depth, b2n s.time.aligned])
    else s)

/-- ELREX_PORT_UP: a port with symbol lock that has sent and received two HELLOs is up; the fused ORIGIN that faces an acting origin of a
higher EPOCH acts as NODE; a node whose upstream port comes up sends JOIN (R585, R587, R600). -/
def execElrexPortUp (port : Nat) (s : State) : Host.Outcome State Fault Refusal :=
  .next (
    let v := s.elxPort port
    if port < 5 ∧ s.elxOn = true ∧ v.lock = true ∧ 2 ≤ v.sentHello ∧ 2 ≤ v.seenHello ∧ v.up = false then
      let s1 := (s.setElxPort port { v with up := true, lastRx := s.tb, tx := [], txSeq := 0, resends := 0, rxSeq := none }).arrive 0x0B2
      let s2 := if s1.fusedRole = 2 ∧ s1.elx.arole = 2 ∧ port ≠ 0 ∧ v.peerRole = 2 ∧ s1.elx.epoch < v.peerEpoch then
          ({ s1 with elx := { s1.elx with reversed := true, depth := 31, table := [] } }.setActing 1 s1.elx.epoch).setAligned false
        else s1
      if port = s2.upPort then s2.sendJoin else s2
    else s)

/-! ### Joining (R587) -/

/-- R587, R605: the records held for an upstream path go up. -/
def State.flushHeld (s : State) : State :=
  s.elx.held.foldl (fun st r => st.elxSend st.upPort 0x07 (twinList (domWords r st.elx.epoch))) { s with elx := { s.elx with held := [] } }

/-- R587: a node that is refused, or too deep, acts as NONE until a device reset (DEDUCED, note 64). -/
def State.joinRefused (s : State) : State :=
  (({ s with elx := { s.elx with refused := true, accepted := false, depth := 31 } }.setActing 0 s.elx.epoch).setAligned false).elxReport 0x4D06 s.nodeId

/-- R587: the node is accepted; its depth is its parent's plus 1 (DEDUCED, note 64). -/
def State.joinAccepted (s : State) : State :=
  let d := (s.elxPort s.upPort).peerDepth + 1
  if 16 < d then s.joinRefused
  else
    let first := !s.elx.accepted
    let s1 := { s with elx := { s.elx with accepted := true, depth := d, placed := s.elx.placed && !first
                                           good := if first then 0 else s.elx.good } }.setActing
      (if s.fusedRole = 3 then 3 else 1) s.elx.epoch
    s1.flushHeld

/-- R587: the origin answers a JOIN (DEDUCED, note 64). -/
def State.originJoin (s : State) (id serial : Nat) : State :=
  let ok := s.elx.table.all (fun e => e.1 != id || e.2.1 == serial)
  let s1 := if ok then
      { s with elx := { s.elx with table := (id, serial, s.tb) :: s.elx.table.filter (fun e => e.1 != id) } }
    else s.elxReport 0x4D06 s.nodeId
  s1.elxSendDown 0x0A (twinList ([id] ++ (wordsOf serial 4).map (fun w => w.toNat) ++ [b2n ok]))

/-- ELREX_JOIN: a JOIN from below goes on up, or is answered by the origin (R587). -/
def execElrexJoin (port err seq id frole serial depth : Nat) (s : State) : Host.Outcome State Fault Refusal :=
  .next (s.elxFrame port err true (some seq) (fun st =>
    if st.elx.arole = 2 then st.originJoin id serial
    else if (st.elxPort st.upPort).up && decide (port ≠ st.upPort) then
      st.elxSend st.upPort 0x09 (twinList ([id, frole] ++ (wordsOf serial 4).map (fun w => w.toNat) ++ [depth]))
    else st))

/-- JRES: the origin's answer goes on down; the node it names is accepted or refused (R587). -/
def execJres (port err seq id serial result : Nat) (s : State) : Host.Outcome State Fault Refusal :=
  .next (s.elxFrame port err true (some seq) (fun st =>
    if port ≠ st.upPort then st
    else
      let s1 := st.elxSendDown 0x0A (twinList ([id] ++ (wordsOf serial 4).map (fun w => w.toNat) ++ [result]))
      if id = s1.nodeId ∧ serial = s1.serialNo then (if result = 1 then s1.joinAccepted else s1.joinRefused) else s1))

/-- JOIN_REFRESH: an accepted node sends JOIN again 2^26 ticks after its last (R587). -/
def execJoinRefresh (s : State) : Host.Outcome State Fault Refusal :=
  .next (match s.elx.joinAt with
    | some t => if s.elx.accepted = true ∧ s.elxOn = true ∧ (s.elxPort s.upPort).up = true ∧ t + 0x4000000 ≤ s.tb then s.sendJoin else s
    | none => s)

/-- JOIN_ENTRY_EXPIRY: the origin removes the entries not refreshed for 2^27 ticks (R587). -/
def execJoinEntryExpiry (s : State) : Host.Outcome State Fault Refusal :=
  .next { s with elx := { s.elx with table := s.elx.table.filter (fun e => decide (s.tb < e.2.2 + 0x8000000)) } }

/-! ### Time alignment (R588 to R593) -/

/-- A tick and a fraction as a stamp in sixteenths. -/
def State.stamp16 (s : State) (frac : Nat) : Nat := 16 * s.tb + frac % 16

/-- R588: the number of a mark, from its t1; a DREQ before any mark carries 0 (DESIGN CHOICE, note 65). -/
def markNo (t1 : Nat) : Nat := t1 / 32000 % 65536

/-- TMARK: the parent's mark: its stamps are taken; it ends holdover; its ALIGNED, EPOCH and depth are followed (R587, R589, R591, R599). -/
def execTmark (port err t1 frac epoch depth : Nat) (aligned : Bool) (s : State) : Host.Outcome State Fault Refusal :=
  .next (s.elxFrame port err true none (fun st =>
    if port ≠ st.upPort then st
    else
      let v := st.elxPort port
      let was := st.time.aligned && st.elx.holdFrom.isNone
      let s1 := (st.setElxPort port { v with peerEpoch := epoch % 256, peerDepth := depth % 32, peerAligned := aligned })
      let s2 := ({ s1 with elx := { s1.elx with mark := some (t1, st.stamp16 frac), t3 := none, lastMark := some st.tb
                                                goodMark := was } }).setHoldover false
      let s3 := if aligned then s2 else { (s2.setAligned false) with elx := { (s2.setAligned false).elx with good := 0 } }
      if !s3.elx.accepted then s3
      else if 16 < depth + 1 then s3.joinRefused
      else
        let s4 := { s3 with elx := { s3.elx with depth := depth + 1 } }
        if epoch % 256 = s4.elx.epoch then s4 else (s4.setActing s4.elx.arole (epoch % 256)).sendJoin))

/-- TMARK_SEND: an aligned node's mark on a downstream port that is up, at each multiple of 2,000 ticks (R588). -/
def execTmarkSend (port delay : Nat) (s : State) : Host.Outcome State Fault Refusal :=
  .next (
    if s.elxOn = true ∧ s.time.aligned = true ∧ s.tb % 2000 = 0 ∧ s.downPorts.contains port = true ∧ (s.elxPort port).up = true then
      let t1 := 16 * s.tb + delay
      s.elxShow port 0x02 (twinList ((wordsOf (t1 / 16) 4).map (fun w => w.toNat) ++ [t1 % 16, s.elx.epoch, s.elx.depth, b2n s.time.aligned]))
    else s)

/-- DREQ_SEND: an accepted node's DREQ upstream, at Time Base modulo 2,000 of 1,000 (R588). -/
def execDreqSend (delay : Nat) (s : State) : Host.Outcome State Fault Refusal :=
  .next (
    if s.elxOn = true ∧ s.elx.accepted = true ∧ s.tb % 2000 = 1000 ∧ (s.elxPort s.upPort).up = true then
      ({ s with elx := { s.elx with t3 := some (16 * s.tb + delay) } }).elxShow s.upPort 0x03
        (twinList [match s.elx.mark with | some (t1, _) => markNo t1 | none => 0])
    else s)

/-- DREQ: a child's DREQ is answered with its arrival stamp (R588). -/
def execDreq (port err num frac : Nat) (s : State) : Host.Outcome State Fault Refusal :=
  .next (s.elxFrame port err true none (fun st =>
    if st.downPorts.contains port then
      st.elxShow port 0x04 (twinList (num :: (wordsOf (st.stamp16 frac) 5).map (fun w => w.toNat)))
    else st))

/-- R590: the first offset of a node lies 64 ticks or more off: its Time Base steps, or the step is blocked. -/
def State.elxStep (s : State) (o : Int) : State :=
  if s.drivesDisabled && s.noLaunch then
    let k := fdiv o 16
    let s1 := s.stepTime ((s.tb : Int) - k).toNat
    { s1 with elx := { s1.elx with o := o - 16 * k, placed := true, stepblk := false, good := 0, mark := none, t3 := none
                                   lastMark := some s1.tb } }
  else if s.elx.stepblk then s
  else ({ s with elx := { s.elx with stepblk := true } }).elxReport 0x2D0A s.nodeId

/-- R589, R591: an offset of a node in its place: the slew, and what it does to ALIGNED. -/
def State.elxOffset (s : State) (o : Int) : State :=
  let near := decide (-16 < o) && decide (o < 16)
  let s1 : State := { s with elx := { s.elx with placed := true, stepblk := false, good := if near then s.elx.good + 1 else 0 } }
  let s2 : State := if near || !s1.maySlew then s1
    else
      let t := s1.slewTime (if 0 < o then -1 else 1)
      { t with elx := { t.elx with o := if 0 < o then o - 16 else o + 16 } }
  if o < -128 ∨ 128 < o then (if s2.time.aligned then (s2.setAligned false).elxReport 0x2D07 s2.nodeId else s2)
  else if (s2.elxPort s2.upPort).peerAligned && decide (4 ≤ s2.elx.good) then s2.setAligned true
  else s2

/-- DRESP: the delay and the offset from the parent, and what follows (R589 to R591). -/
def execDresp (port err num t4 : Nat) (s : State) : Host.Outcome State Fault Refusal :=
  .next (s.elxFrame port err true none (fun st =>
    match st.elx.mark, st.elx.t3 with
    | some (t1, t2), some t3 =>
      if port = st.upPort ∧ st.elx.accepted = true ∧ num = markNo t1 then
        let a : Int := (t2 : Int) - (t1 : Int)
        let b : Int := (t4 : Int) - (t3 : Int)
        let o := fdiv (a - b) 2
        let s1 := { st with elx := { st.elx with o := o, d := (fdiv (a + b) 2).toNat, t3 := none } }
        if st.elx.placed = false ∧ (o ≤ -1024 ∨ 1024 ≤ o) then s1.elxStep o else s1.elxOffset o
      else st
    | _, _ => st))

/-- HOLDOVER_START: an aligned node whose next mark is 2,000 ticks overdue runs free (R591) (DEDUCED, note 64). -/
def execHoldoverStart (s : State) : Host.Outcome State Fault Refusal :=
  .next (match s.elx.lastMark with
    | some t =>
      if s.elxOn = true ∧ s.elx.arole ≠ 2 ∧ s.time.aligned = true ∧ s.elx.holdFrom.isNone = true ∧ t + 4000 ≤ s.tb then s.setHoldover true else s
    | none => s)

/-- HOLDOVER_END: after HOLD × 2,000 ticks of holdover ALIGNED clears (R591) (DEDUCED, note 64). -/
def execHoldoverEnd (s : State) : Host.Outcome State Fault Refusal :=
  .next (match s.elx.holdFrom with
    | some t =>
      if t + s.fld Reg.ELX_TIM 0 15 8 * 2000 ≤ s.tb then ((s.setAligned false).setHoldover false).elxReport 0x3D02 s.nodeId else s
    | none => s)

/-! ### Domain commands (R594 to R597) -/

/-- R594: a command's TARGET names this node. -/
def State.isTarget (s : State) (target : Nat) : Bool :=
  match bits target 15 14 with
  | 0 => true
  | 1 => decide (bits target 11 0 = s.nodeId)
  | 2 => decide (target % 256 &&& s.fld Reg.ELX_CFG 0 15 8 ≠ 0)
  | _ => false

/-- R596: what a node does with a command that names it: the state, and 1 applied, 2 refused, 3 late, 0 not named
(DESIGN CHOICE, note 65). -/
def State.domAct (s : State) (action arg target t : Nat) : State × Nat :=
  if !(s.isTarget target) then (s, 0)
  else if t < s.replicaNow 1 + 1024 then
    (({ s with elx := { s.elx with drops := satInc 255 s.elx.drops } }.hit Reg.ELX_CNT 0 0).elxReport 0x4D05 s.nodeId, 3)
  else if action = 1 then
    if s.commit.pending || s.staged.isEmpty || !s.setOk then (s.elxReport 0x4D0B s.nodeId, 2)
    else (s.closeSet .launch t, 1)
  else ({ s with elx := { s.elx with queued := s.elx.queued ++ [(action, arg, t)] } }, 1)

/-- The payload of a DCMD: CNUM, ACTION, ARG, TARGET, T (DESIGN CHOICE, note 65). -/
def dcmdBody (cnum action arg target t : Nat) : List Word :=
  twinList ([cnum, action, arg, target] ++ (wordsOf t 4).map (fun w => w.toNat))

/-- R596: a command goes to every downstream port that is up, and is acted on here. -/
def State.domForward (s : State) (cnum action arg target t : Nat) : State × DomCmd :=
  let ports := s.downPorts.filter (fun p => (s.elxPort p).up)
  let (s1, r) := (s.elxSendDown 0x05 (dcmdBody cnum action arg target t)).domAct action arg target t
  (s1, { cnum := cnum, action := action, arg := arg, target := target, t := t, applied := b2n (r == 1), refused := b2n (r == 2)
         late := b2n (r == 3), noanswer := 0, waits := ports, done := false })

/-- R597: this node's DACK for the command it forwards. -/
def State.sendDack (s : State) (c : DomCmd) : State :=
  ({ s with elx := { s.elx with fwd := some { c with done := true } } }).elxSend s.upPort 0x06 (twinList [c.cnum, c.applied, c.refused, c.late])

/-- DCMD: a domain command from above (R596, R597). -/
def execDcmd (port err seq cnum action arg target t : Nat) (s : State) : Host.Outcome State Fault Refusal :=
  .next (s.elxFrame port err true (some seq) (fun st =>
    if port ≠ st.upPort then st
    else
      let (s1, c) := st.domForward cnum action arg target t
      if c.waits.isEmpty then s1.sendDack c else { s1 with elx := { s1.elx with fwd := some c } }))

/-- A child's counts added to a command. -/
def DomCmd.addDack (c : DomCmd) (port applied refused late : Nat) : DomCmd :=
  { c with applied := c.applied + applied, refused := c.refused + refused, late := c.late + late, waits := c.waits.filter (· ≠ port) }

/-- DACK: a child's counts are summed; the last one is answered upwards (R597). -/
def execDack (port err seq cnum applied refused late : Nat) (s : State) : Host.Outcome State Fault Refusal :=
  .next (s.elxFrame port err true (some seq) (fun st =>
    if st.elx.arole = 2 then
      match st.elx.cmd with
      | some c =>
        if c.cnum = cnum ∧ c.done = false ∧ c.waits.contains port = true then
          { st with elx := { st.elx with cmd := some (c.addDack port applied refused late) } }
        else st
      | none => st
    else
      match st.elx.fwd with
      | some c =>
        if c.cnum = cnum ∧ c.done = false ∧ c.waits.contains port = true then
          let c1 := c.addDack port applied refused late
          if c1.waits.isEmpty then st.sendDack c1 else { st with elx := { st.elx with fwd := some c1 } }
        else st
      | none => st))

/-- DACK_DEADLINE: tick T - 256: the DACK goes with what has come (R597). -/
def execDackDeadline (s : State) : Host.Outcome State Fault Refusal :=
  .next (match s.elx.fwd with
    | some c => if c.done = false ∧ c.t ≤ s.tb + 256 then s.sendDack c else s
    | none => s)

/-- DOMAIN_COMMAND_COMPLETE: the origin has every DACK, or T has come (R597). -/
def execDomainCommandComplete (s : State) : Host.Outcome State Fault Refusal :=
  .next (match s.elx.cmd with
    | some c =>
      if s.elx.arole = 2 ∧ c.done = false ∧ (c.waits = [] ∨ c.t ≤ s.tb) then
        { s with elx := { s.elx with cmd := some { c with done := true, noanswer := s.elx.table.length - (c.applied + c.refused + c.late) } } }.arrive 0x0B4
      else s
    | none => s)

/-- R49, R595: an action of a kind (and an argument) whose launch value T the SUP replica has reached leaves the queue; an island stopped
under R48 launches none (DEDUCED, note 64). -/
def State.dueAction (s : State) (action arg : Nat) (act : State → State) : State :=
  if (s.replica 1).stopped then s
  else match takeFirst (fun q => q.1 == action && q.2.1 == arg && decide (q.2.2 ≤ s.replicaNow 1)) s.elx.queued with
  | some (_, rest) => act { s with elx := { s.elx with queued := rest } }
  | none => s

/-- DOMEVT: in tick T an arrival at source 0x0B8 + n (R595). -/
def execDomevt (n : Nat) (s : State) : Host.Outcome State Fault Refusal :=
  .next (s.dueAction 2 n (fun st => st.arrive (0x0B8 + n)))

/-- IGNSOFT: in tick T as a write of 1 to IGN_CMD.SOFT (R595). -/
def execIgnsoft (s : State) : Host.Outcome State Fault Refusal :=
  .next (s.dueAction 3 0 (fun st => after (execSoft 1#16 st) st))

/-- R599, R600: this node becomes origin: its EPOCH, its depth, its join table, and the NOTICE that names the former origin. -/
def State.becomeOrigin (s : State) (former : Nat) : State :=
  let s1 := ({ s with elx := { s.elx with depth := 0, table := [], cmd := none, reversed := false, accepted := false
                                          stepblk := false } }.setActing 2 ((s.elx.epoch + 1) % 256)).setAligned true
  (s1.setHoldover false).sendNotice 1 former

/-- ORIGIN: in tick T the fused ORIGIN, joined below its STANDBY, takes its role back, and the STANDBY becomes its child, whose marks
count from T on (R595, R599, R600) (DEDUCED, note 64). -/
def execOrigin (s : State) : Host.Outcome State Fault Refusal :=
  .next (s.dueAction 4 0 (fun st =>
    if st.fusedRole = 2 ∧ st.elx.reversed = true then st.becomeOrigin (st.elxPort st.upPort).peer
    else if st.elx.arole = 2 then
      let s1 := { st with elx := { st.elx with depth := 1, table := [], accepted := true, placed := true, good := 0,
                                               lastMark := some st.tb, goodMark := st.time.aligned } }
      s1.setActing (if st.fusedRole = 3 then 3 else 1) st.elx.epoch
    else st))

/-- R600: the fused ORIGIN is joined below this acting origin, on its upstream port. -/
def State.originBelow (s : State) : Bool := decide (s.fusedRole ≠ 2) && (s.elxPort 0).up &&
  s.elx.table.any (fun e => e.1 == (s.elxPort 0).peer)

/-- R594, R595: the index of a DOMAIN parameter that is reserved. -/
def domainFault (vals : List Nat) : Option Nat :=
  let action := nth 0 vals 0
  let arg := nth 0 vals 1
  let target := nth 0 vals 2
  if action = 0 ∨ 4 < action then some 0
  else if (if action = 2 then 7 < arg else arg ≠ 0) then some 2
  else if bits target 15 14 = 3 ∨ (bits target 15 14 = 0 ∧ bits target 13 0 ≠ 0) ∨ (bits target 15 14 = 1 ∧ bits target 13 12 ≠ 0) ∨
      (bits target 15 14 = 2 ∧ bits target 13 8 ≠ 0) ∨ (action = 4 ∧ target ≠ 0) then some 4
  else none

/-- DOMAIN: the origin issues a domain command at launch value T (R594). -/
def execDomain (s : State) : Host.Outcome State Fault Refusal :=
  .next (s.take (· == 0x60) (fun _ _ vals st =>
    match domainFault vals with
    | some i => st.finishPacket 0x14 i []
    | none =>
      let t := quad (vals.drop 3)
      let busy := match st.elx.cmd with
        | some c => !c.done
        | none => false
      if !(st.elxOn && decide (st.elx.arole = 2)) || (decide (nth 0 vals 0 = 4) && !st.originBelow) then st.finishPacket 0x1C 0 []
      else if busy then st.finishPacket 0x1B 0 []
      else match st.launchFault t with
        | some d => st.finishPacket 0x1A d []
        | none =>
          let n := st.elx.cnum
          let (s1, c) := { st with elx := { st.elx with cnum := (n + 1) % 65536 } }.domForward n (nth 0 vals 0) (nth 0 vals 1) (nth 0 vals 2) t
          { s1 with elx := { s1.elx with cmd := some c } }.finishPacket 0x00 0 (twinWords n)))

/-- R598: the outcome of the origin's command. -/
def State.domOutcome (s : State) : List Nat :=
  match s.elx.cmd with
  | some c => [c.cnum, c.action, c.applied, c.refused, c.late, c.noanswer, if c.done then 2 else 1]
  | none => [0, 0, 0, 0, 0, 0, 0]

/-- R598: page p of the join table: bit b of value w stands for node 256 × (p - 1) + 16 × w + b. -/
def State.joinPage (s : State) (p : Nat) : List Nat :=
  (List.range 16).map (fun w => forUpTo (fun b acc =>
    if s.elx.table.any (fun e => e.1 == 256 * (p - 1) + 16 * w + b) then acc + 2 ^ b else acc) 0 16 0)

/-- DOMREAD: the outcome of the last command, or a page of the join table (R598). -/
def execDomread (s : State) : Host.Outcome State Fault Refusal :=
  .next (s.take (· == 0x61) (fun _ _ vals st =>
    let p := nth 0 vals 0
    if 16 < p then st.finishPacket 0x14 0 []
    else if !(st.elxOn && decide (st.elx.arole = 2)) then st.finishPacket 0x1C 0 []
    else st.finishPacket 0x00 0 (twinList (if p = 0 then st.domOutcome else st.joinPage p))))

/-! ### Records, notices, failover (R599 to R605) -/

/-- FREP: a child's domain record enters the coalescer (R603). -/
def execFrep (port err seq : Nat) (rcd : DomRec) (s : State) : Host.Outcome State Fault Refusal :=
  .next (s.elxFrame port err true (some seq) (fun st => if st.downPorts.contains port then st.domEnter rcd else st))

/-- DOMAIN_RECORD_CLOSE: the records close whose tick FIRST + 20,000 + 2,000 × (16 - h) has come (R603). -/
def execDomainRecordClose (s : State) : Host.Outcome State Fault Refusal :=
  .next (
    let due := s.elx.open_.filter (fun r => decide (((20000 + 2000 * (16 - min s.elx.depth 16) : Nat) : Int) ≤ diff32 s.tb r.first))
    due.foldl (fun st r => st.domClose r) s)

/-- NOTICE: the origin has changed, or a node has lost its parent: reported and forwarded (R599, R601). -/
def execNotice (port err seq kind subj epoch : Nat) (s : State) : Host.Outcome State Fault Refusal :=
  .next (s.elxFrame port err true (some seq) (fun st =>
    if port ≠ st.upPort then st
    else (st.elxReport (if kind = 1 then 0x1D04 else 0x2D01) (subj % 4096)).elxSendDown 0x08 (twinList [kind, subj, epoch])))

/-- STANDBY_TAKEOVER: a STANDBY that was aligned at its last mark, and has had none for ORGTO marks or has lost its upstream port,
becomes origin (R599). -/
def execStandbyTakeover (s : State) : Host.Outcome State Fault Refusal :=
  .next (match s.elx.lastMark with
    | some t =>
      if s.elxOn = true ∧ s.elx.arole = 3 ∧ s.elx.goodMark = true ∧
          (t + s.fld Reg.ELX_TIM 0 3 0 * 2000 ≤ s.tb ∨ (s.elxPort 0).up = false) then
        let former := (s.elxPort 0).peer
        ((s.becomeOrigin former).elxReport 0x2D01 former).elxReport 0x1D04 former
      else s
    | none => s)

end Sys2Proof.Machine
end

