-- ==== Sys2Proof/Machine/Jtag.lean ====
section
/-! DEFINITION. The test access port (21_package_electrical.md R686). -/

namespace Sys2Proof.Machine

/-- IEEE 1149.1: the state that a rising edge of TCK leads to. -/
def TapState.succ (t : TapState) (tms : Bool) : TapState :=
  match t, tms with
  | .reset, true => .reset
  | .reset, false => .idle
  | .idle, true => .selDr
  | .idle, false => .idle
  | .selDr, true => .selIr
  | .selDr, false => .capDr
  | .capDr, true => .ex1Dr
  | .capDr, false => .shDr
  | .shDr, true => .ex1Dr
  | .shDr, false => .shDr
  | .ex1Dr, true => .upDr
  | .ex1Dr, false => .pauDr
  | .pauDr, true => .ex2Dr
  | .pauDr, false => .pauDr
  | .ex2Dr, true => .upDr
  | .ex2Dr, false => .shDr
  | .upDr, true => .selDr
  | .upDr, false => .idle
  | .selIr, true => .reset
  | .selIr, false => .capIr
  | .capIr, true => .ex1Ir
  | .capIr, false => .shIr
  | .shIr, true => .ex1Ir
  | .shIr, false => .shIr
  | .ex1Ir, true => .upIr
  | .ex1Ir, false => .pauIr
  | .pauIr, true => .ex2Ir
  | .pauIr, false => .pauIr
  | .ex2Ir, true => .upIr
  | .ex2Ir, false => .shIr
  | .upIr, true => .selDr
  | .upIr, false => .idle

/-- n bits of a number, the lowest first. -/
def lowFirst : Nat → Nat → List Bool
  | 0, _ => []
  | n + 1, v => decide (v % 2 = 1) :: lowFirst n (v / 2)

/-- The number whose bits a list gives, the lowest first. -/
def bitsNum : List Bool → Nat
  | [] => 0
  | b :: l => b2n b + 2 * bitsNum l

/-- R686: the IDCODE. -/
def idcode : Nat := 0x1481274B

/-- The selection that a code makes: every bit 1 selects BYPASS (DESIGN CHOICE, note 70). -/
def tapSelect (l : List Bool) : TapInstr :=
  if l.all id then .bypass
  else match Config.irDecode (bitsNum l) % 4 with
    | 0 => .bypass
    | 1 => .idcode
    | 2 => .sample
    | _ => .extest

/-- A rising edge of TCK: the action of the state it finds, and the state it leads to. What the boundary cells capture is free
(DESIGN CHOICE, note 70). -/
def State.tapRise (s : State) (tms tdi : Bool) : State :=
  let t := s.tap
  let (sh, s1) : List Bool × State :=
    match t.st with
    | .capDr =>
      (match t.instr with
        | .bypass => ([false], s)
        | .idcode => (lowFirst 32 idcode, s)
        | _ =>
          let (v, s0) := s.freeVal
          (lowFirst Config.boundaryLength v, s0))
    | .capIr => (lowFirst Config.irLength 1, s)
    | .shDr => (t.sh.drop 1 ++ [tdi], s)
    | .shIr => (t.sh.drop 1 ++ [tdi], s)
    | _ => (t.sh, s)
  let n := t.st.succ tms
  { s1 with tap := { t with tck := true, sh := sh, st := n, instr := if n = .reset then .idcode else t.instr } }

/-- A falling edge of TCK: an update, and the bit at TDO, which is in high impedance outside the two shift states
(DESIGN CHOICE, note 70). -/
def State.tapFall (s : State) : State :=
  let t := s.tap
  { s with tap := { t with
      tck := false
      instr := if t.st = .upIr then tapSelect t.sh else t.instr
      cells := if t.st = .upDr ∧ (t.instr = .sample ∨ t.instr = .extest) then t.sh else t.cells
      tdo := if t.st = .shDr ∨ t.st = .shIr then t.sh.head? else none } }

/-- TCK_EDGE: an edge of TCK, rising or falling, with TMS, TDI and TRSTN at their levels. TRSTN low, or DBGLOCK = 1, holds the port in
Test-Logic-Reset with TDO in high impedance (R686, R628). -/
def execTckEdge (rise tms tdi trstn : Bool) (s : State) : Host.Outcome State Fault Refusal :=
  .next (
    if !trstn || bit s.locks 0 then { s with tap := { tck := rise, cells := s.tap.cells } }
    else if rise then (if s.tap.tck then s else s.tapRise tms tdi)
    else if s.tap.tck then s.tapFall else s)

end Sys2Proof.Machine
end

