-- ==== Sys2Proof/Machine/LaneExec.lean ====
section
/-! DEFINITION. The Larlar instruction set (12_larlar_isa.md). Each command is one lane cycle of one lane: the word at its pc is
fetched, and where it is the command's instruction, that instruction executes. Its writes land as the lane cycle ends. -/

namespace Sys2Proof.Machine

/-! ### One lane cycle (R340, R341, R370, R379, R389, R412, R422) -/

/-- The address of the word a lane executes: pc, or the word after the REP (R412). -/
def Lane.iaddr (k : Lane) : Nat := if k.rep.isSome then (k.pc + 1) % 4096 else k.pc

/-- R370, R371: the vector that is ready in this lane cycle. -/
def State.vecReady (s : State) (l : Nat) : Option Nat :=
  let k := s.lane l
  (List.range 4).find? (fun n =>
    k.pend.any (fun p => p.1 == n && decide (p.2 + 4 ≤ s.tb)) && s.flag (Reg.LAN_VSRC0 + n) l 15 &&
      k.insvc.all (fun m => decide (n < m)))

/-- R370: the lane is RUNNING and its next instruction is due in this lane cycle. -/
def State.laneDue (s : State) (l : Nat) : Bool :=
  let k := s.lane l
  s.laneOn l && s.laneCycle l && decide (k.st = .running) && decide (k.runFrom ≤ s.tb) && k.wait.isNone &&
    decide (k.next ≤ s.tb)

/-- R377: this lane cycle is a takeover lane cycle, in which no instruction executes. -/
def State.takeoverDue (s : State) (l : Nat) : Bool :=
  decide (s.spare (l / 8) = .now (l % 8)) || decide (s.spare (l / 8) = .auto (l % 8))

/-- R412, R413: a vector may be taken between two instructions, iterations with BRK = 1 or elements. -/
def Lane.between (k : Lane) : Bool := k.rep != some false

/-- R422: a trap: the lane is FAULTED and the instruction lands nothing. -/
def State.laneTrap (s : State) (l code fpc : Nat) : State :=
  (s.setLane l { s.lane l with st := .faulted, fcode := code, fpc := fpc, rep := none, wait := none }).report 0x4801 l

/-- R346, R379: a parity error faults the lane; with SPAUTO the free spare takes it over. -/
def State.laneParity (s : State) (l : Nat) : State :=
  let k := s.lane l
  let s1 := (s.setLane l { k with st := .faulted, fcode := 0x40, fpc := k.iaddr, rep := none, wait := none }).report 0x5802 l
  if s.flag Reg.LAN_CCFG (l / 8) 1 && decide (s.spare (l / 8) = .free) then s1.setSpare (l / 8) (.auto (l % 8)) else s1

/-- Writes put on their way to land at the end of tick `due`. -/
def State.lands (s : State) (l due : Nat) (ws : List LaneWrite) : State :=
  let k := s.lane l
  s.setLane l { k with land := k.land ++ ws.map (fun w => (due, w)) }

/-- R387, R388, R412: an instruction that ends in the lane cycle beginning at `t0` gives way to the next: its pc write lands at
`due`, and the next instruction is due D lane cycles later. `jump` is a branch target. -/
def State.proceed (s : State) (l : Nat) (i : LarWord) (jump : Option Nat) (t0 due : Tick) : State :=
  let k := s.lane l
  let k1 := { k with next := t0 + 4 * (1 + i.d) }
  match k.rep with
  | some _ =>
    let c := k.cnt - 1
    let s1 := s.setLane l (if c = 0 then { k1 with rep := none } else k1)
    s1.lands l due (if c = 0 then [.cnt c, .pc (k.pc + 2)] else [.cnt c])
  | none => (s.setLane l k1).lands l due [.pc (jump.getD (k.pc + i.len))]

/-- An instruction completes in this lane cycle with its writes (R341). -/
def State.finish (s : State) (l : Nat) (i : LarWord) (ws : List LaneWrite) : State :=
  (s.lands l (s.tb + 3) ws).proceed l i none s.tb (s.tb + 3)

/-- An instruction that branches completes in this lane cycle (R409). -/
def State.branch (s : State) (l : Nat) (i : LarWord) (ws : List LaneWrite) (target : Nat) : State :=
  (s.lands l (s.tb + 3) ws).proceed l i (some (target % 4096)) s.tb (s.tb + 3)

/-- The word at an instruction address of a lane's cluster, and whether its parity is wrong. -/
def State.iWord (s : State) (l a : Nat) : Nat := s.lanWord (iAddr l a)
def State.iBad (s : State) (l a : Nat) : Bool := s.lan.parity.contains (iAddr l a)

/-- The instruction a lane has at its address (R387, R389). -/
def State.laneWord (s : State) (l : Nat) : Option LarWord :=
  let a := (s.lane l).iaddr
  decodeLar (s.iWord l a) (s.iWord l (a + 1)) (s.flag Reg.LAN_CCFG (l / 8) 0)

/-- R346, R379: the fetch of a lane's instruction, or its state, has a parity error. -/
def State.fetchBad (s : State) (l : Nat) : Bool :=
  let a := (s.lane l).iaddr
  s.iBad l a || (decide (lenOf (s.iWord l a) = 2) && s.iBad l (a + 1)) || (s.lane l).badItem.isSome

/-- A lane cycle in which the lane executes an instruction. -/
def State.laneExecutes (s : State) (l : Nat) : Bool :=
  s.laneDue l && !(s.takeoverDue l) && (!((s.lane l).between) || (s.vecReady l).isNone)

/-- One lane cycle of a lane whose instruction has mnemonic `mn`: `op` is its effect. Nothing happens where the lane executes no
instruction in this lane cycle, or another one. -/
def State.laneRun (s : State) (l : Nat) (mn : Mn) (op : LarWord → Nat → State → State) : State :=
  let s1 := s.laneSettle l
  if 64 ≤ l ∨ s1.laneExecutes l = false then s
  else if s1.fetchBad l then s1.laneParity l
  else match s1.laneWord l with
    | some i => if i.mn = mn then op i l s1 else s
    | none => s

/-- R379: as the first tick of a lane cycle ends, a lane that runs or waits with a parity error in its state is FAULTED (DEDUCED,
note 45). -/
def State.parityTick (s : State) (l : Nat) : State :=
  let k := s.lane l
  if k.badItem.isSome && decide (k.st = .running) && decide (k.runFrom ≤ s.tb) && s.laneCycle l then s.laneParity l else s

/-- UNDEFINED_INSTRUCTION: the word at a lane's pc has no defined encoding, and the lane traps with code 0x01 (R389, R422). -/
def execUndefinedInstruction (lane : Nat) (s : State) : Host.Outcome State Fault Refusal :=
  .next (
    let s1 := s.laneSettle lane
    if 64 ≤ lane ∨ s1.laneExecutes lane = false then s
    else if s1.fetchBad lane then s1.laneParity lane
    else match s1.laneWord lane with
      | some _ => s
      | none => s1.laneTrap lane 0x01 (s1.lane lane).iaddr)

/-! ### Operands -/

/-- gd and gs, as the instruction reads them. -/
def State.gd (s : State) (l : Nat) (i : LarWord) : Nat := (s.lane l).reg i.a
def State.gs (s : State) (l : Nat) (i : LarWord) : Nat := (s.lane l).reg i.rs
def State.laneFlags (s : State) (l : Nat) : Flags := (s.lane l).fl

/-- A result in gd with the flags. -/
def State.toGd (s : State) (l : Nat) (i : LarWord) (r : Nat × Flags) : State := s.finish l i [.g i.a r.1, .flags r.2]

/-! ### OP 0x00 and control flow (R390, R409 to R411) -/

/-- LAN_LCFG.STK. -/
def State.stackTraps (s : State) (l : Nat) : Bool := s.flag Reg.LAN_LCFG l 0

def opNop (i : LarWord) (l : Nat) (s : State) : State := s.finish l i []
def opHalt (i : LarWord) (l : Nat) (s : State) : State := s.finish l i [.halt]

/-- A pop and a jump to what it returns; under STK = 1 an empty stack traps (R410). -/
def State.popJump (s : State) (l : Nat) (i : LarWord) (ws : List LaneWrite) : State :=
  let k := s.lane l
  if k.depth = 0 ∧ s.stackTraps l = true then s.laneTrap l 0x04 k.iaddr
  else s.branch l i (ws ++ [.popStack]) (if k.depth = 0 then 0 else k.stack.headD 0)

def opRet (i : LarWord) (l : Nat) (s : State) : State := s.popJump l i []

/-- RETV (R371, R411). -/
def opRetv (i : LarWord) (l : Nat) (s : State) : State :=
  if (s.lane l).insvc.isEmpty then s.laneTrap l 0x06 (s.lane l).iaddr else s.popJump l i [.endService]

def opTrap (i : LarWord) (l : Nat) (s : State) : State := s.laneTrap l (0x20 + i.b) (s.lane l).iaddr
def opJr (i : LarWord) (l : Nat) (s : State) : State := s.branch l i [] (s.gs l i)
def opJmp (i : LarWord) (l : Nat) (s : State) : State := s.branch l i [] i.w

/-- CALL (R409, R410). -/
def opCall (i : LarWord) (l : Nat) (s : State) : State :=
  let k := s.lane l
  if k.depth = 8 ∧ s.stackTraps l = true then s.laneTrap l 0x03 k.iaddr else s.branch l i [.push (k.pc + 2)] i.w

/-- DJNZ (R409). -/
def opDjnz (i : LarWord) (l : Nat) (s : State) : State :=
  let r := (s.gd l i + 65535) % 65536
  if r = 0 then s.finish l i [.g i.a r] else s.branch l i [.g i.a r] i.w

/-- BR (R392). cc is [10:7]: A and the top bit of B. -/
def opBr (i : LarWord) (l : Nat) (s : State) : State :=
  if (s.laneFlags l).holds (2 * i.a + i.b / 16) then s.branch l i [] i.w else s.finish l i []

/-! ### OP 0x01 to 0x0F (R390 to R398) -/

def opAdd (i : LarWord) (l : Nat) (s : State) : State := s.toGd l i (addFlags (s.laneFlags l) (s.gd l i) (s.gs l i) 0)
def opAdc (i : LarWord) (l : Nat) (s : State) : State :=
  s.toGd l i (addFlags (s.laneFlags l) (s.gd l i) (s.gs l i) (b2n (s.laneFlags l).c))
def opSub (i : LarWord) (l : Nat) (s : State) : State := s.toGd l i (subFlags (s.laneFlags l) (s.gd l i) (s.gs l i) 1)
def opSbc (i : LarWord) (l : Nat) (s : State) : State :=
  s.toGd l i (subFlags (s.laneFlags l) (s.gd l i) (s.gs l i) (b2n (s.laneFlags l).c))

/-- A logical result: Z and N only. -/
def State.logic (s : State) (l : Nat) (i : LarWord) (r : Nat) : State := s.toGd l i (r, (s.laneFlags l).zn r)

def opAnd (i : LarWord) (l : Nat) (s : State) : State := s.logic l i (s.gd l i &&& s.gs l i)
def opOr (i : LarWord) (l : Nat) (s : State) : State := s.logic l i (s.gd l i ||| s.gs l i)
def opXor (i : LarWord) (l : Nat) (s : State) : State := s.logic l i (s.gd l i ^^^ s.gs l i)
def opCmp (i : LarWord) (l : Nat) (s : State) : State :=
  s.finish l i [.flags (subFlags (s.laneFlags l) (s.gd l i) (s.gs l i) 1).2]
def opMov (i : LarWord) (l : Nat) (s : State) : State := s.finish l i [.g i.a (s.gs l i)]
def opTst (i : LarWord) (l : Nat) (s : State) : State := s.finish l i [.flags ((s.laneFlags l).zn (s.gd l i &&& s.gs l i))]
def opNeg (i : LarWord) (l : Nat) (s : State) : State := s.toGd l i (subFlags (s.laneFlags l) 0 (s.gs l i) 1)
def opNot (i : LarWord) (l : Nat) (s : State) : State := s.logic l i (65535 - s.gs l i)

/-- A 32-bit product (R394). -/
def State.product (s : State) (l : Nat) (i : LarWord) (p : Nat) : State :=
  s.finish l i [.g i.a (p % 65536), .g (i.a + 1) (p / 65536), .flags (mulFlags (s.laneFlags l) p)]

def opMulu (i : LarWord) (l : Nat) (s : State) : State := s.product l i (s.gd l i * s.gs l i)
def opMuls (i : LarWord) (l : Nat) (s : State) : State :=
  s.product l i (ofSigned 32 (s16 (s.gd l i) * s16 (s.gs l i)))

/-- Quotient, remainder and flags of a division; with DZT = 1 a division by zero traps and sets DZ alone (R395, R396). -/
def State.quotient (s : State) (l : Nat) (i : LarWord) (r : Nat × Nat × Flags) : State :=
  if s.gs l i = 0 ∧ s.flag Reg.LAN_LCFG l 1 = true then
    (s.lands l (s.tb + 3) [.flags { s.laneFlags l with dz := true }]).laneTrap l 0x02 (s.lane l).iaddr
  else s.finish l i [.g i.a r.1, .g (i.a + 1) r.2.1, .flags r.2.2]

def opDivu (i : LarWord) (l : Nat) (s : State) : State := s.quotient l i (divuOf (s.laneFlags l) (s.gd l i) (s.gs l i))
def opDivs (i : LarWord) (l : Nat) (s : State) : State := s.quotient l i (divsOf (s.laneFlags l) (s.gd l i) (s.gs l i))

def opShl (i : LarWord) (l : Nat) (s : State) : State := s.toGd l i (shlOf (s.laneFlags l) (s.gd l i) (s.gs l i % 32))
def opShr (i : LarWord) (l : Nat) (s : State) : State := s.toGd l i (shrOf (s.laneFlags l) (s.gd l i) (s.gs l i % 32))
def opSar (i : LarWord) (l : Nat) (s : State) : State := s.toGd l i (sarOf (s.laneFlags l) (s.gd l i) (s.gs l i % 32))
def opRor (i : LarWord) (l : Nat) (s : State) : State := s.toGd l i (rorOf (s.laneFlags l) (s.gd l i) (s.gs l i % 32))
def opRol (i : LarWord) (l : Nat) (s : State) : State := s.toGd l i (rolOf (s.laneFlags l) (s.gd l i) (s.gs l i % 32))
def opShli (i : LarWord) (l : Nat) (s : State) : State := s.toGd l i (shlOf (s.laneFlags l) (s.gd l i) i.b)
def opShri (i : LarWord) (l : Nat) (s : State) : State := s.toGd l i (shrOf (s.laneFlags l) (s.gd l i) i.b)
def opSari (i : LarWord) (l : Nat) (s : State) : State := s.toGd l i (sarOf (s.laneFlags l) (s.gd l i) i.b)
def opRori (i : LarWord) (l : Nat) (s : State) : State := s.toGd l i (rorOf (s.laneFlags l) (s.gd l i) i.b)

def opPar (i : LarWord) (l : Nat) (s : State) : State := s.logic l i (onesOf (s.gs l i) 16 % 2)
def opBrev (i : LarWord) (l : Nat) (s : State) : State := s.logic l i (reverseBits (s.gs l i) 16)
def opSwpb (i : LarWord) (l : Nat) (s : State) : State := s.logic l i (s.gs l i % 256 * 256 + s.gs l i / 256)
def opBrevn (i : LarWord) (l : Nat) (s : State) : State := s.logic l i (reverseBits (s.gd l i) i.b)

def opAddi (i : LarWord) (l : Nat) (s : State) : State := s.toGd l i (addFlags (s.laneFlags l) (s.gd l i) i.b 0)
def opSubi (i : LarWord) (l : Nat) (s : State) : State := s.toGd l i (subFlags (s.laneFlags l) (s.gd l i) i.b 1)
def opCmpi (i : LarWord) (l : Nat) (s : State) : State := s.finish l i [.flags (subFlags (s.laneFlags l) (s.gd l i) i.b 1).2]
def opMovi (i : LarWord) (l : Nat) (s : State) : State := s.finish l i [.g i.a i.b]

/-! ### Data memory (R399, R400) -/

/-- The data word at an address, and whether its parity is wrong. -/
def State.dWord (s : State) (l a : Nat) : Nat := s.lanWord (dAddr l a)
def State.dBad (s : State) (l a : Nat) : Bool := s.lan.parity.contains (dAddr l a)

/-- R399: what the mode of LD and ST writes to gs. -/
def stepReg (i : LarWord) (v : Nat) : List LaneWrite :=
  match i.b % 4 with
  | 1 => [.g i.rs ((v + 1) % 65536)]
  | 2 => [.g i.rs ((v + 65535) % 65536)]
  | _ => []

/-- A load: the value lands in gd one lane cycle late (R400). -/
def State.load (s : State) (l : Nat) (i : LarWord) (addr : Nat) (ws : List LaneWrite) : State :=
  if 2047 < addr then s.laneTrap l 0x05 (s.lane l).iaddr
  else if s.dBad l addr then s.laneParity l
  else (s.lands l (s.tb + 7) [.g i.a (s.dWord l addr)]).finish l i ws

/-- A store (R399). -/
def State.store (s : State) (l : Nat) (i : LarWord) (addr : Nat) (ws : List LaneWrite) : State :=
  if 2047 < addr then s.laneTrap l 0x05 (s.lane l).iaddr
  else s.finish l i (.mem addr (s.gd l i) :: ws)

def opLd (i : LarWord) (l : Nat) (s : State) : State := s.load l i (s.gs l i) (stepReg i (s.gs l i))
def opSt (i : LarWord) (l : Nat) (s : State) : State := s.store l i (s.gs l i) (stepReg i (s.gs l i))
def opLdi (i : LarWord) (l : Nat) (s : State) : State := s.finish l i [.g i.a i.w]
def opLda (i : LarWord) (l : Nat) (s : State) : State := s.load l i i.w []
def opSta (i : LarWord) (l : Nat) (s : State) : State := s.store l i i.w []

/-! ### Lane state, counters and ports (R349, R362, R401 to R404) -/

/-- MFSL (R362, R402). -/
def opMfsl (i : LarWord) (l : Nat) (s : State) : State :=
  let v := s.laneItem l i.b
  if i.b = 0xE ∨ i.b = 0xF then
    let some_ := !((s.lane l).cap (i.b - 0xE)).isEmpty
    s.finish l i ([.g i.a (v % 65536), .high i.b (v / 65536), .flags { s.laneFlags l with c := some_ }] ++
      (if some_ then [.pop (i.b - 0xE)] else []))
  else if i.b ≤ 0x10 then s.finish l i [.g i.a (v % 65536), .high i.b (v / 65536)]
  else s.finish l i [.g i.a (v % 65536)]

/-- MFSH (R349, R402). -/
def opMfsh (i : LarWord) (l : Nat) (s : State) : State := s.finish l i [.g i.a (Tbl.get 0 i.b (s.lane l).high)]

/-- What MTSL or MTSH of an item writes (R402); rs of MTSL is A. -/
def itemWrite (item v : Nat) (high : Bool) : List LaneWrite :=
  match item with
  | 0x08 => [.ctrHalf 0 high v]
  | 0x09 => [.ctrHalf 1 high v]
  | 0x0A => [.cmpHalf 0 high v]
  | 0x0B => [.cmpHalf 1 high v]
  | 0x0C => [.cmpHalf 0 high v]
  | 0x0D => [.cmpHalf 1 high v]
  | 0x10 => [.shHalf high v]
  | 0x11 => [.sc v]
  | 0x12 => [.sa v]
  | 0x13 => [.da v]
  | 0x14 => [.cnt v]
  | 0x15 => [.flags (flagsOf v)]
  | 0x17 => [.latches (v / 256)]
  | _ => []

def opMtsl (i : LarWord) (l : Nat) (s : State) : State := s.finish l i (itemWrite i.b (s.gd l i) false)
def opMtsh (i : LarWord) (l : Nat) (s : State) : State := s.finish l i (itemWrite i.b (s.gd l i) true)

def opCtcRun (i : LarWord) (l : Nat) (s : State) : State := s.finish l i [.run (i.a % 2) true]
def opCtcStop (i : LarWord) (l : Nat) (s : State) : State := s.finish l i [.run (i.a % 2) false]
def opCtcClear (i : LarWord) (l : Nat) (s : State) : State := s.finish l i [.ctr (i.a % 2) 0]
def opPclr (i : LarWord) (l : Nat) (s : State) : State := s.finish l i [.latch i.a false]
def opPset (i : LarWord) (l : Nat) (s : State) : State := s.finish l i [.latch i.a true]
def opPtgl (i : LarWord) (l : Nat) (s : State) : State := s.finish l i [.latch i.a (!(bit (s.lane l).latch i.a))]
def opPmovc (i : LarWord) (l : Nat) (s : State) : State := s.finish l i [.latch i.a (s.laneFlags l).c]

/-! ### Waiting (R405, R406, R416) -/

/-- A lane begins to wait in this lane cycle. -/
def State.hold (s : State) (l : Nat) (i : LarWord) (w : WaitFor) : State :=
  s.setLane l { s.lane l with wait := some { for_ := w, from_ := s.tb, i := i } }

def opWait (i : LarWord) (l : Nat) (s : State) : State := s.hold l i (.cond (i.b % 4) i.rs)

/-- SHIFT (R406): [4] is the edge, [3] the direction. -/
def opShift (i : LarWord) (l : Nat) (s : State) : State := s.hold l i (.shift i.a i.rs (bit i.b 1) (bit i.b 0))

/-- R400: a load on its way to a register that one of these writes also writes. -/
def LaneWrite.lostTo (ws : List LaneWrite) : LaneWrite → Bool
  | .g n _ => ws.any (fun w => match w with
      | .g m _ => m == n
      | _ => false)
  | _ => false

/-- The wait of a lane ends in this tick with its writes landed (R405, R406, R416); a load still on its way to a register they
write is lost (R400). -/
def State.waitEnds (s : State) (l : Nat) (i : LarWord) (ws : List LaneWrite) : State :=
  let s1 := s.landAll l ws
  let k := s1.lane l
  let s2 := s1.setLane l { k with wait := none, land := k.land.filter (fun p => !(p.2.lostTo ws)) }
  let s3 := s2.proceed l i none (s.cycleStart l) s.tb
  s3

/-- R405: the condition of a wait holds in this tick. -/
def State.condHolds (s : State) (l kind n from_ : Nat) : Bool :=
  match kind with
  | 0 => s.portLevel l n
  | 1 => !(s.portLevel l n)
  | 2 => !((s.lane l).cap n).isEmpty
  | _ => match ((s.lane l).cmp n).last with
    | some t => decide (t + 1 = s.tb) && decide (from_ ≤ t)
    | none => false

/-- WAIT_SATISFIED: the condition of a lane's WAIT holds in this tick (R405). -/
def execWaitSatisfied (lane : Nat) (s : State) : Host.Outcome State Fault Refusal :=
  .next (
    let s1 := s.laneSettle lane
    match (s1.lane lane).wait with
    | some w =>
      (match w.for_ with
        | .cond kind n =>
          if w.from_ ≤ s.tb ∧ w.test ≤ s.tb ∧ s1.condHolds lane kind n w.from_ = true then
            (if (s1.lane lane).badItem.isSome then s1.laneParity lane else s1.waitEnds lane w.i [])
          else s
        | _ => s)
    | none => s)

/-- SHIFT_EDGE: the clock port of a lane's SHIFT makes its edge in this tick and one bit moves (R406). -/
def execShiftEdge (lane : Nat) (s : State) : Host.Outcome State Fault Refusal :=
  .next (
    let k := s.lane lane
    match k.wait with
    | some w =>
      (match w.for_ with
        | .shift data clock falling out =>
          let p := s.portLevel lane clock
          if w.from_ ≤ s.tb ∧ w.test ≤ s.tb ∧ p ≠ s.portBefore lane clock ∧ p = !falling then
            if k.badItem.isSome then s.laneParity lane
            else if out then
              let b := bit k.sh 31
              let sc := k.sc - 1
              let s1 := s.setLane lane { k with sh := k.sh * 2 % 0x100000000, sc := sc
                                                fl := { k.fl with c := b, z := decide (sc = 0) } }
              (s1.lands lane (s.tb + 1) [.latch data b]).waitEnds lane w.i []
            else
              let b := s.portLevel lane data
              let sc := min (k.sc + 1) 32
              (s.setLane lane { k with sh := (k.sh * 2 + b2n b) % 0x100000000, sc := sc
                                       fl := { k.fl with c := b, z := decide (sc = 32) } }).waitEnds lane w.i []
          else s
        | _ => s)
    | none => s)

/-! ### CRC and repeat (R408, R412 to R415) -/

/-- CRCB: R is [4], H is [3] (R408). -/
def opCrcb (i : LarWord) (l : Nat) (s : State) : State :=
  let v := s.gs l i
  let c := crcbOf (bit i.b 1) ((s.lane l).reg 7) (s.gd l i) (if bit i.b 0 then v / 256 else v % 256)
  s.finish l i [.g i.a c, .flags { s.laneFlags l with z := decide (c = 0) }]

/-- R412: the count that a REP word names. -/
def State.repCount (s : State) (l : Nat) (i : LarWord) : Nat :=
  if bit i.a 1 then i.a % 2 * 32 + i.b + 1 else (s.lane l).reg (i.a % 2 * 4 + i.b / 8)

/-- REP (R412, R413). -/
def opRep (i : LarWord) (l : Nat) (s : State) : State :=
  let k := s.lane l
  if k.rep.isSome || !(repeatable (s.iWord l (k.pc + 1))) then s.laneTrap l 0x01 k.pc
  else
    let c := if k.cnt = 0 then s.repCount l i else k.cnt
    let s1 := s.setLane l { k with next := s.tb + 4, rep := if c = 0 then none else some (bit i.a 2) }
    s1.lands l (s.tb + 3) (if c = 0 then [.cnt 0, .pc (k.pc + 2)] else [.cnt c])

/-- One lane cycle of a block instruction (R414, R415): `ws` is what its element writes besides cnt, `last` what follows when the
instruction ends with this lane cycle. -/
def State.element (s : State) (l : Nat) (i : LarWord) (ws last : List LaneWrite) : State :=
  let k := s.lane l
  let c := k.cnt - 1
  if c = 0 then s.finish l i (ws ++ [.cnt 0] ++ last)
  else (s.setLane l { k with next := s.tb + 4 }).lands l (s.tb + 3) (ws ++ [.cnt c])

/-- R415: an element's addresses lie in the data memory, and the words it reads have good parity; else the trap or fault. -/
def State.elementAt (s : State) (l : Nat) (addrs reads : List Nat) (go : State) : State :=
  if addrs.any (fun a => decide (2047 < a)) then s.laneTrap l 0x05 (s.lane l).iaddr
  else if reads.any (fun a => s.dBad l a) then s.laneParity l
  else go

/-- BMOV (R414). -/
def opBmov (i : LarWord) (l : Nat) (s : State) : State :=
  let k := s.lane l
  if k.cnt = 0 then s.finish l i []
  else s.elementAt l [k.sa, k.da] [k.sa]
    (s.element l i [.mem k.da (s.dWord l k.sa), .sa (k.sa + 1), .da (k.da + 1)] [])

/-- BFIL (R414): rs is [8:6]. -/
def opBfil (i : LarWord) (l : Nat) (s : State) : State :=
  let k := s.lane l
  if k.cnt = 0 then s.finish l i []
  else s.elementAt l [k.da] [] (s.element l i [.mem k.da (k.reg (i.a % 2 * 4 + i.b / 8)), .da (k.da + 1)] [])

/-- BCMP (R414, R415). -/
def opBcmp (i : LarWord) (l : Nat) (s : State) : State :=
  let k := s.lane l
  if k.cnt = 0 then s.finish l i [.flags { k.fl with z := true }]
  else
    let x := s.dWord l k.sa
    let y := s.dWord l k.da
    s.elementAt l [k.sa, k.da] [k.sa, k.da]
      (if x = y then s.element l i [.sa (k.sa + 1), .da (k.da + 1)] [.flags { k.fl with z := true }]
       else s.finish l i [.flags { k.fl with z := false, c := decide (y ≤ x) }])

/-- BCRC (R414): R is [5]. -/
def opBcrc (i : LarWord) (l : Nat) (s : State) : State :=
  let k := s.lane l
  if k.cnt = 0 then s.finish l i []
  else
    let r := bit i.b 2
    let x := s.dWord l k.sa
    let p := k.reg 7
    let d := k.da % 65536
    let c := if r then crcbOf r p (crcbOf r p d (x % 256)) (x / 256) else crcbOf r p (crcbOf r p d (x / 256)) (x % 256)
    s.elementAt l [k.sa] [k.sa] (s.element l i [.da c, .sa (k.sa + 1)] [])

/-! ### Unit 0, the Tangent (R417) -/

/-- What the ANGLE island holds now. -/
def State.unitZero (s : State) : UnitZero :=
  { tick := s.tb, angle := s.angleAt s.tb, cyc := s.tan.cyc, ast := s.tan.ast, seg := s.tan.seg, rpm := s.tan.rpm
    stat := s.synStat, pos := s.synPos, vtx := (List.range 6).map (fun n => (s.input n).hist) }

/-- R417: what the ANGLE island held at the end of tick 4r - 8 of the cluster's replica. -/
def State.unitZeroAt (s : State) (l : Nat) : UnitZero :=
  (s.lan.u0.find? (fun u => decide (u.tick + 8 ≤ s.laneClock l))).getD s.unitZero

/-- A unit's results in g0 and g1, with C. -/
def State.unitDone (s : State) (l : Nat) (i : LarWord) (g0 g1 : Nat) (c : Bool) : State :=
  s.finish l i [.g 0 g0, .g 1 g1, .flags { s.laneFlags l with c := c }]

/-- A unit's result in g0 alone, with C. -/
def State.unitDone0 (s : State) (l : Nat) (i : LarWord) (g0 : Nat) (c : Bool) : State :=
  s.finish l i [.g 0 g0, .flags { s.laneFlags l with c := c }]

/-- A 32-bit result in g1:g0, with C. -/
def State.unitLong (s : State) (l : Nat) (i : LarWord) (v : Nat) (c : Bool) : State := s.unitDone l i (v % 65536) (v / 65536) c

def opTang (i : LarWord) (l : Nat) (s : State) : State :=
  let u := s.unitZeroAt l
  s.unitDone l i (u.angle % 65536) (u.cyc * 256 + u.angle / 65536) (!(u.ast == .running))
def opTrate (i : LarWord) (l : Nat) (s : State) : State := s.unitLong l i (s.unitZeroAt l).seg.rate false
def opTpred (i : LarWord) (l : Nat) (s : State) : State := s.unitLong l i (s.unitZeroAt l).seg.phat false
def opTrpm (i : LarWord) (l : Nat) (s : State) : State := s.unitLong l i (s.unitZeroAt l).rpm false
def opTsyn (i : LarWord) (l : Nat) (s : State) : State := s.unitDone l i (s.unitZeroAt l).stat (s.unitZeroAt l).pos false

/-- TA2T (R188, R417). -/
def opTa2t (i : LarWord) (l : Nat) (s : State) : State :=
  let u := s.unitZeroAt l
  let k := s.lane l
  let a := k.reg 3 % 256 * 65536 + k.reg 2
  if k.reg 3 < 256 ∧ (u.ast == .running) = true ∧ cauSub a u.seg.a < u.seg.len then s.unitLong l i (pinOf u.seg a) false
  else s.unitLong l i 0 true

/-- A unit's request: the lane waits for its answer with g0, g2 and g3 as it read them. -/
def State.ask (s : State) (l : Nat) (i : LarWord) (words : List Word := []) : State :=
  let k := s.lane l
  s.hold l i (.unit i.mn (k.reg 0) (k.reg 2) (k.reg 3) words)

/-- TVTX: the 8 words of the record as it was held at the end of tick 4r - 8 lie in the data memory, or it traps (R417). -/
def opTvtx (i : LarWord) (l : Nat) (s : State) : State :=
  let sel := (s.lane l).reg 2
  if 2047 < (s.lane l).reg 3 + 7 then s.laneTrap l 0x05 (s.lane l).iaddr
  else s.ask l i (vertexOf (nth [] (s.unitZeroAt l).vtx (bits sel 10 8)) (bits sel 5 0))

/-! ### Unit 1, CRC and hash (R418) -/

/-- g1:g0 of a lane. -/
def Lane.long (k : Lane) : Nat := k.reg 1 * 65536 + k.reg 0

def opC32i (i : LarWord) (l : Nat) (s : State) : State := s.unitLong l i 0xFFFFFFFF false
def opC32w (i : LarWord) (l : Nat) (s : State) : State :=
  let k := s.lane l
  s.unitLong l i (crc32Byte (crc32Byte k.long (k.reg 2 % 256)) (k.reg 2 / 256)) false
def opC32f (i : LarWord) (l : Nat) (s : State) : State := s.unitLong l i (0xFFFFFFFF - (s.lane l).long) false
def opC16w (i : LarWord) (l : Nat) (s : State) : State :=
  let k := s.lane l
  s.unitDone0 l i (crc16Byte (crc16Byte (k.reg 0) (k.reg 2 / 256)) (k.reg 2 % 256)) false
def opHshi (i : LarWord) (l : Nat) (s : State) : State := s.unitLong l i 0x811C9DC5 false
def opHshw (i : LarWord) (l : Nat) (s : State) : State :=
  let k := s.lane l
  s.unitLong l i (fnvByte (fnvByte k.long (k.reg 2 % 256)) (k.reg 2 / 256)) false

/-! ### Unit 2, the Lattice window (R419) -/

/-- The address g3[2:0]:g2. -/
def windowAddr (g2 g3 : Nat) : Nat := g3 % 8 * 65536 + g2

/-- LWR, LWRI: a non-zero g3[15:3] traps (R419). -/
def State.askRead (s : State) (l : Nat) (i : LarWord) : State :=
  if 8 ≤ (s.lane l).reg 3 then s.laneTrap l 0x07 (s.lane l).iaddr else s.ask l i

/-- LWW, LWWI: also an address outside the general region traps (R419). -/
def State.askWrite (s : State) (l : Nat) (i : LarWord) : State :=
  let k := s.lane l
  if 8 ≤ k.reg 3 ∨ inGeneral (windowAddr (k.reg 2) (k.reg 3)) 1 = false then s.laneTrap l 0x07 k.iaddr else s.ask l i

def opLwr (i : LarWord) (l : Nat) (s : State) : State := s.askRead l i
def opLwri (i : LarWord) (l : Nat) (s : State) : State := s.askRead l i
def opLww (i : LarWord) (l : Nat) (s : State) : State := s.askWrite l i
def opLwwi (i : LarWord) (l : Nat) (s : State) : State := s.askWrite l i

/-! ### Unit 3, event arming (R420) -/

/-- EWR: a write request, in order with the arms and cancels (R181, R420). -/
def opEwr (i : LarWord) (l : Nat) (s : State) : State :=
  let k := s.lane l
  if 8192 ≤ k.reg 2 ∨ 8 ≤ k.reg 3 then s.laneTrap l 0x07 k.iaddr
  else (s.ask l i).pushReq (.write (k.reg 2) (k.reg 3) (k.reg 0) l)

/-- EARM: an arm request of the slot in g2 (R181, R420). -/
def opEarm (i : LarWord) (l : Nat) (s : State) : State :=
  let k := s.lane l
  if 8192 ≤ k.reg 2 then s.unitDone0 l i 4 true
  else (s.ask l i).pushReq (.arm (k.reg 2) (.lane l))

/-- R214: a value laid out as EVQ_CAN_CMD without reserved bits or values. -/
def cancelOk (v : Nat) : Bool :=
  decide (bits v 15 9 = 0) && !(bit v 7) && (bit v 8 || decide (bits v 6 0 < 96)) && (!(bit v 8) || decide (bits v 6 0 = 0))

/-- ECAN: a cancel request of the tag in g2 (R181, R420). -/
def opEcan (i : LarWord) (l : Nat) (s : State) : State :=
  let k := s.lane l
  let v := k.reg 3
  if cancelOk v then (s.ask l i).pushReq (.cancel (k.reg 2) (bit v 8) (bits v 6 0) (.lane l))
  else s.unitDone l i 0 0 true

/-! ### Unit 4, the combustion results (R421) -/

/-- The newest record of the channel in g2, of either kind. -/
def State.newestRec (s : State) (l : Nat) (knock : Bool) : Option (List Nat) :=
  let c := (s.lane l).reg 2
  if 24 ≤ c then none else Tbl.find? c (if knock then s.cmb.resK else s.cmb.resP)

/-- Two values of the newest record to g0 and g1. -/
def State.recPair (s : State) (l : Nat) (i : LarWord) (knock : Bool) (a b : Nat) : State :=
  match s.newestRec l knock with
  | some r => s.unitDone l i (nth 0 r a) (nth 0 r b) false
  | none => s.unitDone l i 0 0 true

def opPstat (i : LarWord) (l : Nat) (s : State) : State := s.recPair l i false 0 2
def opPmax (i : LarWord) (l : Nat) (s : State) : State := s.recPair l i false 5 6
def opImep (i : LarWord) (l : Nat) (s : State) : State :=
  match s.newestRec l false with
  | some r => s.unitDone0 l i (nth 0 r 7) false
  | none => s.unitDone l i 0 0 true
def opQmax (i : LarWord) (l : Nat) (s : State) : State := s.recPair l i false 8 9
def opA1050 (i : LarWord) (l : Nat) (s : State) : State := s.recPair l i false 10 11
def opA90lat (i : LarWord) (l : Nat) (s : State) : State := s.recPair l i false 12 13
def opKstat (i : LarWord) (l : Nat) (s : State) : State := s.recPair l i true 0 2
def opKint (i : LarWord) (l : Nat) (s : State) : State := s.recPair l i true 3 4

/-! ### Answers of the units (R416, R417, R419, R420) -/

/-- A unit's answer lands in this tick: results and C, and the lane resumes. -/
def State.answer (s : State) (l : Nat) (i : LarWord) (ws : List LaneWrite) (c : Bool) : State :=
  s.waitEnds l i (ws ++ [.flags { s.laneFlags l with c := c }])

/-- R103, R417: the eight words of TVTX, stored in the data memory. -/
def storeWords (a : Nat) : List Word → List LaneWrite
  | [] => []
  | w :: ws => .mem a w.toNat :: storeWords (a + 1) ws

/-- R419: the address in g3[2:0]:g2 incremented. -/
def windowNext (g2 g3 : Nat) : List LaneWrite :=
  let a := (windowAddr g2 g3 + 1) % latSize
  [.g 2 (a % 65536), .g 3 (a / 65536)]

/-- LWR's answer. -/
def State.answerRead (s : State) (l : Nat) (i : LarWord) (a : Nat) (ws : List LaneWrite) : State :=
  let s1 := s.latTouch a
  if s1.latOk a then s1.answer l i (.g 0 (s1.latVal a) :: ws) false
  else (s1.report 0x5807 l).answer l i (.g 0 0 :: ws) true

/-- LWW's answer. -/
def State.answerWrite (s : State) (l : Nat) (i : LarWord) (a v : Nat) (ws : List LaneWrite) : State :=
  if s.latLocked a then s.laneTrap l 0x08 (s.lane l).iaddr else (s.latPut a v).answer l i ws false

/-- The answer of the ANGLE island to a lane, taken from those on their way. -/
def State.takeAnswer (s : State) (l : Nat) : Option ((Nat × Nat) × State) :=
  match takeFirst (fun p => p.1 == l) s.evq.answers with
  | some ((_, a, b), rest) => some ((a, b), { s with evq := { s.evq with answers := rest } })
  | none => none

/-- R181, R420: the write of an EWR is the next request and no arm is in progress: it is made in this tick, and where the lock refuses it
the answer is 1. -/
def State.ewrTurn (s : State) (l : Nat) : State :=
  match s.evq.arming, s.evq.reqs with
  | none, .write slot field v lane :: rest =>
    if lane = l then
      let s1 := { s with evq := { s.evq with reqs := rest } }
      let a := 8 * slot + field
      if s1.latLocked a then { s1 with evq := { s1.evq with answers := s1.evq.answers ++ [(l, 1, 0)] } }
      else { (s1.latPut a v) with evq := { (s1.latPut a v).evq with answers := s1.evq.answers ++ [(l, 0, 0)] } }
    else s
  | _, _ => s

/-- EXT_UNIT_ANSWER: the unit that a lane waits for answers in this tick (R416). An answer for a lane that no longer waits is
lost (DEDUCED, note 30); in a takeover lane cycle nothing is taken (R377), and a parity error of the lane faults it (R379). -/
def execExtUnitAnswer (lane : Nat) (s0 : State) : Host.Outcome State Fault Refusal :=
  .next (
    let s := s0.ewrTurn lane
    let lost := match s.takeAnswer lane with
      | some (_, t) => t
      | none => s
    match (s.lane lane).wait with
    | some w =>
      (match w.for_ with
        | .unit mn g0 g2 g3 words =>
          if s.tb < w.test then s
          else if (s.lane lane).badItem.isSome then s.laneParity lane
          else (match mn with
            | .tvtx =>
              if bits g2 15 11 ≠ 0 ∨ bits g2 7 6 ≠ 0 ∨ 6 ≤ bits g2 10 8 then s.answer lane w.i [] true
              else s.answer lane w.i (storeWords g3 words) false
            | .lwr => s.answerRead lane w.i (windowAddr g2 g3) []
            | .lwri => s.answerRead lane w.i (windowAddr g2 g3) (windowNext g2 g3)
            | .lww => s.answerWrite lane w.i (windowAddr g2 g3) g0 []
            | .lwwi => s.answerWrite lane w.i (windowAddr g2 g3) g0 (windowNext g2 g3)
            | .ewr =>
              (match s.takeAnswer lane with
                | some ((r, _), t) => if r = 0 then t.answer lane w.i [] false else t.laneTrap lane 0x08 (t.lane lane).iaddr
                | none => s)
            | .earm =>
              (match s.takeAnswer lane with
                | some ((r, _), t) => t.answer lane w.i [.g 0 r] (decide (r ≠ 1))
                | none => s)
            | .ecan =>
              (match s.takeAnswer lane with
                | some ((d, n), t) => t.answer lane w.i [.g 0 d, .g 1 n] false
                | none => s)
            | _ => s)
        | _ => lost)
    | none => lost)

/-! ### Vectors (R370, R371, R411) -/

/-- VECTOR_ENTRY: in this lane cycle a lane takes its ready vector (R370, R371, R411) (DEDUCED, note 44). -/
def execVectorEntry (lane : Nat) (s : State) : Host.Outcome State Fault Refusal :=
  .next (
    let s1 := s.laneSettle lane
    let k := s1.lane lane
    if 64 ≤ lane ∨ s1.laneDue lane = false ∨ s1.takeoverDue lane = true ∨ k.between = false then s
    else match s1.vecReady lane with
      | none => s
      | some n =>
        if k.badItem.isSome then s1.laneParity lane
        else if k.depth = 8 ∧ s1.stackTraps lane = true then s1.laneTrap lane 0x03 k.pc
        else
          s1.setLane lane { k with
            stack := k.pc :: k.stack.take 7, depth := min (k.depth + 1) 8
            pend := k.pend.filter (fun p => p.1 != n), insvc := n :: k.insvc
            pc := s1.fld (Reg.LAN_VENT0 + n) lane 11 0, next := s.tb + 4, rep := none })

/-! ### The commands: one lane cycle of a lane that executes the instruction -/

/-- NOP: a lane cycle of a lane whose instruction is NOP (R390). -/
def execLarNop (lane : Nat) (s : State) : Host.Outcome State Fault Refusal :=
  .next (s.laneRun lane .nop opNop)

/-- HALT: a lane cycle of a lane whose instruction is HALT (R390). -/
def execLarHalt (lane : Nat) (s : State) : Host.Outcome State Fault Refusal :=
  .next (s.laneRun lane .halt opHalt)

/-- RET: a lane cycle of a lane whose instruction is RET (R409). -/
def execLarRet (lane : Nat) (s : State) : Host.Outcome State Fault Refusal :=
  .next (s.laneRun lane .ret opRet)

/-- RETV: a lane cycle of a lane whose instruction is RETV (R371). -/
def execLarRetv (lane : Nat) (s : State) : Host.Outcome State Fault Refusal :=
  .next (s.laneRun lane .retv opRetv)

/-- TRAP: a lane cycle of a lane whose instruction is TRAP (R422). -/
def execLarTrap (lane : Nat) (s : State) : Host.Outcome State Fault Refusal :=
  .next (s.laneRun lane .trap opTrap)

/-- JR: a lane cycle of a lane whose instruction is JR (R409). -/
def execLarJr (lane : Nat) (s : State) : Host.Outcome State Fault Refusal :=
  .next (s.laneRun lane .jr opJr)

/-- ADD: a lane cycle of a lane whose instruction is ADD (R391). -/
def execLarAdd (lane : Nat) (s : State) : Host.Outcome State Fault Refusal :=
  .next (s.laneRun lane .add opAdd)

/-- ADC: a lane cycle of a lane whose instruction is ADC (R391). -/
def execLarAdc (lane : Nat) (s : State) : Host.Outcome State Fault Refusal :=
  .next (s.laneRun lane .adc opAdc)

/-- SUB: a lane cycle of a lane whose instruction is SUB (R391). -/
def execLarSub (lane : Nat) (s : State) : Host.Outcome State Fault Refusal :=
  .next (s.laneRun lane .sub opSub)

/-- SBC: a lane cycle of a lane whose instruction is SBC (R391). -/
def execLarSbc (lane : Nat) (s : State) : Host.Outcome State Fault Refusal :=
  .next (s.laneRun lane .sbc opSbc)

/-- AND: a lane cycle of a lane whose instruction is AND (R390). -/
def execLarAnd (lane : Nat) (s : State) : Host.Outcome State Fault Refusal :=
  .next (s.laneRun lane .land opAnd)

/-- OR: a lane cycle of a lane whose instruction is OR (R390). -/
def execLarOr (lane : Nat) (s : State) : Host.Outcome State Fault Refusal :=
  .next (s.laneRun lane .lor opOr)

/-- XOR: a lane cycle of a lane whose instruction is XOR (R390). -/
def execLarXor (lane : Nat) (s : State) : Host.Outcome State Fault Refusal :=
  .next (s.laneRun lane .lxor opXor)

/-- CMP: a lane cycle of a lane whose instruction is CMP (R391). -/
def execLarCmp (lane : Nat) (s : State) : Host.Outcome State Fault Refusal :=
  .next (s.laneRun lane .cmp opCmp)

/-- MOV: a lane cycle of a lane whose instruction is MOV (R390). -/
def execLarMov (lane : Nat) (s : State) : Host.Outcome State Fault Refusal :=
  .next (s.laneRun lane .mov opMov)

/-- TST: a lane cycle of a lane whose instruction is TST (R390). -/
def execLarTst (lane : Nat) (s : State) : Host.Outcome State Fault Refusal :=
  .next (s.laneRun lane .tst opTst)

/-- NEG: a lane cycle of a lane whose instruction is NEG (R393). -/
def execLarNeg (lane : Nat) (s : State) : Host.Outcome State Fault Refusal :=
  .next (s.laneRun lane .neg opNeg)

/-- NOT: a lane cycle of a lane whose instruction is NOT (R390). -/
def execLarNot (lane : Nat) (s : State) : Host.Outcome State Fault Refusal :=
  .next (s.laneRun lane .lnot opNot)

/-- MULU: a lane cycle of a lane whose instruction is MULU (R394). -/
def execLarMulu (lane : Nat) (s : State) : Host.Outcome State Fault Refusal :=
  .next (s.laneRun lane .mulu opMulu)

/-- MULS: a lane cycle of a lane whose instruction is MULS (R394). -/
def execLarMuls (lane : Nat) (s : State) : Host.Outcome State Fault Refusal :=
  .next (s.laneRun lane .muls opMuls)

/-- DIVU: a lane cycle of a lane whose instruction is DIVU (R395). -/
def execLarDivu (lane : Nat) (s : State) : Host.Outcome State Fault Refusal :=
  .next (s.laneRun lane .divu opDivu)

/-- DIVS: a lane cycle of a lane whose instruction is DIVS (R395). -/
def execLarDivs (lane : Nat) (s : State) : Host.Outcome State Fault Refusal :=
  .next (s.laneRun lane .divs opDivs)

/-- SHL: a lane cycle of a lane whose instruction is SHL (R397). -/
def execLarShl (lane : Nat) (s : State) : Host.Outcome State Fault Refusal :=
  .next (s.laneRun lane .shl opShl)

/-- SHR: a lane cycle of a lane whose instruction is SHR (R397). -/
def execLarShr (lane : Nat) (s : State) : Host.Outcome State Fault Refusal :=
  .next (s.laneRun lane .shr opShr)

/-- SAR: a lane cycle of a lane whose instruction is SAR (R397). -/
def execLarSar (lane : Nat) (s : State) : Host.Outcome State Fault Refusal :=
  .next (s.laneRun lane .sar opSar)

/-- ROR: a lane cycle of a lane whose instruction is ROR (R397). -/
def execLarRor (lane : Nat) (s : State) : Host.Outcome State Fault Refusal :=
  .next (s.laneRun lane .ror opRor)

/-- ROL: a lane cycle of a lane whose instruction is ROL (R397). -/
def execLarRol (lane : Nat) (s : State) : Host.Outcome State Fault Refusal :=
  .next (s.laneRun lane .rol opRol)

/-- PAR: a lane cycle of a lane whose instruction is PAR (R398). -/
def execLarPar (lane : Nat) (s : State) : Host.Outcome State Fault Refusal :=
  .next (s.laneRun lane .par opPar)

/-- BREV: a lane cycle of a lane whose instruction is BREV (R398). -/
def execLarBrev (lane : Nat) (s : State) : Host.Outcome State Fault Refusal :=
  .next (s.laneRun lane .brev opBrev)

/-- SWPB: a lane cycle of a lane whose instruction is SWPB (R398). -/
def execLarSwpb (lane : Nat) (s : State) : Host.Outcome State Fault Refusal :=
  .next (s.laneRun lane .swpb opSwpb)

/-- SHLI: a lane cycle of a lane whose instruction is SHLI (R397). -/
def execLarShli (lane : Nat) (s : State) : Host.Outcome State Fault Refusal :=
  .next (s.laneRun lane .shli opShli)

/-- SHRI: a lane cycle of a lane whose instruction is SHRI (R397). -/
def execLarShri (lane : Nat) (s : State) : Host.Outcome State Fault Refusal :=
  .next (s.laneRun lane .shri opShri)

/-- SARI: a lane cycle of a lane whose instruction is SARI (R397). -/
def execLarSari (lane : Nat) (s : State) : Host.Outcome State Fault Refusal :=
  .next (s.laneRun lane .sari opSari)

/-- RORI: a lane cycle of a lane whose instruction is RORI (R397). -/
def execLarRori (lane : Nat) (s : State) : Host.Outcome State Fault Refusal :=
  .next (s.laneRun lane .rori opRori)

/-- ADDI: a lane cycle of a lane whose instruction is ADDI (R390). -/
def execLarAddi (lane : Nat) (s : State) : Host.Outcome State Fault Refusal :=
  .next (s.laneRun lane .addi opAddi)

/-- SUBI: a lane cycle of a lane whose instruction is SUBI (R390). -/
def execLarSubi (lane : Nat) (s : State) : Host.Outcome State Fault Refusal :=
  .next (s.laneRun lane .subi opSubi)

/-- CMPI: a lane cycle of a lane whose instruction is CMPI (R390). -/
def execLarCmpi (lane : Nat) (s : State) : Host.Outcome State Fault Refusal :=
  .next (s.laneRun lane .cmpi opCmpi)

/-- MOVI: a lane cycle of a lane whose instruction is MOVI (R390). -/
def execLarMovi (lane : Nat) (s : State) : Host.Outcome State Fault Refusal :=
  .next (s.laneRun lane .movi opMovi)

/-- BREVN: a lane cycle of a lane whose instruction is BREVN (R398). -/
def execLarBrevn (lane : Nat) (s : State) : Host.Outcome State Fault Refusal :=
  .next (s.laneRun lane .brevn opBrevn)

/-- LD: a lane cycle of a lane whose instruction is LD (R400). -/
def execLarLd (lane : Nat) (s : State) : Host.Outcome State Fault Refusal :=
  .next (s.laneRun lane .ld opLd)

/-- ST: a lane cycle of a lane whose instruction is ST (R399). -/
def execLarSt (lane : Nat) (s : State) : Host.Outcome State Fault Refusal :=
  .next (s.laneRun lane .st opSt)

/-- LDI: a lane cycle of a lane whose instruction is LDI (R390). -/
def execLarLdi (lane : Nat) (s : State) : Host.Outcome State Fault Refusal :=
  .next (s.laneRun lane .ldi opLdi)

/-- LDA: a lane cycle of a lane whose instruction is LDA (R400). -/
def execLarLda (lane : Nat) (s : State) : Host.Outcome State Fault Refusal :=
  .next (s.laneRun lane .lda opLda)

/-- STA: a lane cycle of a lane whose instruction is STA (R399). -/
def execLarSta (lane : Nat) (s : State) : Host.Outcome State Fault Refusal :=
  .next (s.laneRun lane .sta opSta)

/-- JMP: a lane cycle of a lane whose instruction is JMP (R409). -/
def execLarJmp (lane : Nat) (s : State) : Host.Outcome State Fault Refusal :=
  .next (s.laneRun lane .jmp opJmp)

/-- CALL: a lane cycle of a lane whose instruction is CALL (R410). -/
def execLarCall (lane : Nat) (s : State) : Host.Outcome State Fault Refusal :=
  .next (s.laneRun lane .call opCall)

/-- DJNZ: a lane cycle of a lane whose instruction is DJNZ (R409). -/
def execLarDjnz (lane : Nat) (s : State) : Host.Outcome State Fault Refusal :=
  .next (s.laneRun lane .djnz opDjnz)

/-- BR: a lane cycle of a lane whose instruction is BR (R392). -/
def execLarBr (lane : Nat) (s : State) : Host.Outcome State Fault Refusal :=
  .next (s.laneRun lane .br opBr)

/-- MFSL: a lane cycle of a lane whose instruction is MFSL (R402). -/
def execLarMfsl (lane : Nat) (s : State) : Host.Outcome State Fault Refusal :=
  .next (s.laneRun lane .mfsl opMfsl)

/-- MFSH: a lane cycle of a lane whose instruction is MFSH (R402). -/
def execLarMfsh (lane : Nat) (s : State) : Host.Outcome State Fault Refusal :=
  .next (s.laneRun lane .mfsh opMfsh)

/-- MTSL: a lane cycle of a lane whose instruction is MTSL (R402). -/
def execLarMtsl (lane : Nat) (s : State) : Host.Outcome State Fault Refusal :=
  .next (s.laneRun lane .mtsl opMtsl)

/-- MTSH: a lane cycle of a lane whose instruction is MTSH (R402). -/
def execLarMtsh (lane : Nat) (s : State) : Host.Outcome State Fault Refusal :=
  .next (s.laneRun lane .mtsh opMtsh)

/-- CTC_RUN: a lane cycle of a lane whose instruction is CTC_RUN (R403). -/
def execLarCtcRun (lane : Nat) (s : State) : Host.Outcome State Fault Refusal :=
  .next (s.laneRun lane .ctcRun opCtcRun)

/-- CTC_STOP: a lane cycle of a lane whose instruction is CTC_STOP (R403). -/
def execLarCtcStop (lane : Nat) (s : State) : Host.Outcome State Fault Refusal :=
  .next (s.laneRun lane .ctcStop opCtcStop)

/-- CTC_CLEAR: a lane cycle of a lane whose instruction is CTC_CLEAR (R403). -/
def execLarCtcClear (lane : Nat) (s : State) : Host.Outcome State Fault Refusal :=
  .next (s.laneRun lane .ctcClear opCtcClear)

/-- PCLR: a lane cycle of a lane whose instruction is PCLR (R404). -/
def execLarPclr (lane : Nat) (s : State) : Host.Outcome State Fault Refusal :=
  .next (s.laneRun lane .pclr opPclr)

/-- PSET: a lane cycle of a lane whose instruction is PSET (R404). -/
def execLarPset (lane : Nat) (s : State) : Host.Outcome State Fault Refusal :=
  .next (s.laneRun lane .pset opPset)

/-- PTGL: a lane cycle of a lane whose instruction is PTGL (R404). -/
def execLarPtgl (lane : Nat) (s : State) : Host.Outcome State Fault Refusal :=
  .next (s.laneRun lane .ptgl opPtgl)

/-- PMOVC: a lane cycle of a lane whose instruction is PMOVC (R404). -/
def execLarPmovc (lane : Nat) (s : State) : Host.Outcome State Fault Refusal :=
  .next (s.laneRun lane .pmovc opPmovc)

/-- WAIT: a lane cycle of a lane whose instruction is WAIT (R405). -/
def execLarWait (lane : Nat) (s : State) : Host.Outcome State Fault Refusal :=
  .next (s.laneRun lane .wait opWait)

/-- SHIFT: a lane cycle of a lane whose instruction is SHIFT (R406) (DEDUCED, note 45). -/
def execLarShift (lane : Nat) (s : State) : Host.Outcome State Fault Refusal :=
  .next (s.laneRun lane .shift opShift)

/-- CRCB: a lane cycle of a lane whose instruction is CRCB (R408). -/
def execLarCrcb (lane : Nat) (s : State) : Host.Outcome State Fault Refusal :=
  .next (s.laneRun lane .crcb opCrcb)

/-- REP: a lane cycle of a lane whose instruction is REP (R412) (DEDUCED, note 45). -/
def execLarRep (lane : Nat) (s : State) : Host.Outcome State Fault Refusal :=
  .next (s.laneRun lane .rep opRep)

/-- BMOV: a lane cycle of a lane whose instruction is BMOV (R414). -/
def execLarBmov (lane : Nat) (s : State) : Host.Outcome State Fault Refusal :=
  .next (s.laneRun lane .bmov opBmov)

/-- BFIL: a lane cycle of a lane whose instruction is BFIL (R414). -/
def execLarBfil (lane : Nat) (s : State) : Host.Outcome State Fault Refusal :=
  .next (s.laneRun lane .bfil opBfil)

/-- BCMP: a lane cycle of a lane whose instruction is BCMP (R414). -/
def execLarBcmp (lane : Nat) (s : State) : Host.Outcome State Fault Refusal :=
  .next (s.laneRun lane .bcmp opBcmp)

/-- BCRC: a lane cycle of a lane whose instruction is BCRC (R414). -/
def execLarBcrc (lane : Nat) (s : State) : Host.Outcome State Fault Refusal :=
  .next (s.laneRun lane .bcrc opBcrc)

/-- TANG: a lane cycle of a lane whose instruction is TANG (R417). -/
def execLarTang (lane : Nat) (s : State) : Host.Outcome State Fault Refusal :=
  .next (s.laneRun lane .tang opTang)

/-- TRATE: a lane cycle of a lane whose instruction is TRATE (R417). -/
def execLarTrate (lane : Nat) (s : State) : Host.Outcome State Fault Refusal :=
  .next (s.laneRun lane .trate opTrate)

/-- TPRED: a lane cycle of a lane whose instruction is TPRED (R417). -/
def execLarTpred (lane : Nat) (s : State) : Host.Outcome State Fault Refusal :=
  .next (s.laneRun lane .tpred opTpred)

/-- TRPM: a lane cycle of a lane whose instruction is TRPM (R417). -/
def execLarTrpm (lane : Nat) (s : State) : Host.Outcome State Fault Refusal :=
  .next (s.laneRun lane .trpm opTrpm)

/-- TSYN: a lane cycle of a lane whose instruction is TSYN (R417). -/
def execLarTsyn (lane : Nat) (s : State) : Host.Outcome State Fault Refusal :=
  .next (s.laneRun lane .tsyn opTsyn)

/-- TVTX: a lane cycle of a lane whose instruction is TVTX (R417) (DEDUCED, note 45). -/
def execLarTvtx (lane : Nat) (s : State) : Host.Outcome State Fault Refusal :=
  .next (s.laneRun lane .tvtx opTvtx)

/-- TA2T: a lane cycle of a lane whose instruction is TA2T (R417). -/
def execLarTa2t (lane : Nat) (s : State) : Host.Outcome State Fault Refusal :=
  .next (s.laneRun lane .ta2t opTa2t)

/-- C32I: a lane cycle of a lane whose instruction is C32I (R418). -/
def execLarC32i (lane : Nat) (s : State) : Host.Outcome State Fault Refusal :=
  .next (s.laneRun lane .c32i opC32i)

/-- C32W: a lane cycle of a lane whose instruction is C32W (R418). -/
def execLarC32w (lane : Nat) (s : State) : Host.Outcome State Fault Refusal :=
  .next (s.laneRun lane .c32w opC32w)

/-- C32F: a lane cycle of a lane whose instruction is C32F (R418). -/
def execLarC32f (lane : Nat) (s : State) : Host.Outcome State Fault Refusal :=
  .next (s.laneRun lane .c32f opC32f)

/-- C16W: a lane cycle of a lane whose instruction is C16W (R418). -/
def execLarC16w (lane : Nat) (s : State) : Host.Outcome State Fault Refusal :=
  .next (s.laneRun lane .c16w opC16w)

/-- HSHI: a lane cycle of a lane whose instruction is HSHI (R418). -/
def execLarHshi (lane : Nat) (s : State) : Host.Outcome State Fault Refusal :=
  .next (s.laneRun lane .hshi opHshi)

/-- HSHW: a lane cycle of a lane whose instruction is HSHW (R418). -/
def execLarHshw (lane : Nat) (s : State) : Host.Outcome State Fault Refusal :=
  .next (s.laneRun lane .hshw opHshw)

/-- LWR: a lane cycle of a lane whose instruction is LWR (R419). -/
def execLarLwr (lane : Nat) (s : State) : Host.Outcome State Fault Refusal :=
  .next (s.laneRun lane .lwr opLwr)

/-- LWW: a lane cycle of a lane whose instruction is LWW (R419). -/
def execLarLww (lane : Nat) (s : State) : Host.Outcome State Fault Refusal :=
  .next (s.laneRun lane .lww opLww)

/-- LWRI: a lane cycle of a lane whose instruction is LWRI (R419). -/
def execLarLwri (lane : Nat) (s : State) : Host.Outcome State Fault Refusal :=
  .next (s.laneRun lane .lwri opLwri)

/-- LWWI: a lane cycle of a lane whose instruction is LWWI (R419). -/
def execLarLwwi (lane : Nat) (s : State) : Host.Outcome State Fault Refusal :=
  .next (s.laneRun lane .lwwi opLwwi)

/-- EWR: a lane cycle of a lane whose instruction is EWR (R420). -/
def execLarEwr (lane : Nat) (s : State) : Host.Outcome State Fault Refusal :=
  .next (s.laneRun lane .ewr opEwr)

/-- EARM: a lane cycle of a lane whose instruction is EARM (R420). -/
def execLarEarm (lane : Nat) (s : State) : Host.Outcome State Fault Refusal :=
  .next (s.laneRun lane .earm opEarm)

/-- ECAN: a lane cycle of a lane whose instruction is ECAN (R420). -/
def execLarEcan (lane : Nat) (s : State) : Host.Outcome State Fault Refusal :=
  .next (s.laneRun lane .ecan opEcan)

/-- CMBRD_PSTAT: a lane cycle of a lane whose instruction is CMBRD_PSTAT (R421). -/
def execLarCmbrdPstat (lane : Nat) (s : State) : Host.Outcome State Fault Refusal :=
  .next (s.laneRun lane .pstat opPstat)

/-- CMBRD_PMAX: a lane cycle of a lane whose instruction is CMBRD_PMAX (R421). -/
def execLarCmbrdPmax (lane : Nat) (s : State) : Host.Outcome State Fault Refusal :=
  .next (s.laneRun lane .pmax opPmax)

/-- CMBRD_IMEP: a lane cycle of a lane whose instruction is CMBRD_IMEP (R421). -/
def execLarCmbrdImep (lane : Nat) (s : State) : Host.Outcome State Fault Refusal :=
  .next (s.laneRun lane .imep opImep)

/-- CMBRD_QMAX: a lane cycle of a lane whose instruction is CMBRD_QMAX (R421). -/
def execLarCmbrdQmax (lane : Nat) (s : State) : Host.Outcome State Fault Refusal :=
  .next (s.laneRun lane .qmax opQmax)

/-- CMBRD_A10_A50: a lane cycle of a lane whose instruction is CMBRD_A10_A50 (R421). -/
def execLarCmbrdA10A50 (lane : Nat) (s : State) : Host.Outcome State Fault Refusal :=
  .next (s.laneRun lane .a1050 opA1050)

/-- CMBRD_A90_LAT: a lane cycle of a lane whose instruction is CMBRD_A90_LAT (R421). -/
def execLarCmbrdA90Lat (lane : Nat) (s : State) : Host.Outcome State Fault Refusal :=
  .next (s.laneRun lane .a90lat opA90lat)

/-- CMBRD_KSTAT: a lane cycle of a lane whose instruction is CMBRD_KSTAT (R421). -/
def execLarCmbrdKstat (lane : Nat) (s : State) : Host.Outcome State Fault Refusal :=
  .next (s.laneRun lane .kstat opKstat)

/-- CMBRD_KINT: a lane cycle of a lane whose instruction is CMBRD_KINT (R421). -/
def execLarCmbrdKint (lane : Nat) (s : State) : Host.Outcome State Fault Refusal :=
  .next (s.laneRun lane .kint opKint)

end Sys2Proof.Machine
end

