-- ==== Sys2Proof/Machine/Twin.lean ====
section
/-! DEFINITION. The twin pair: the Belith link, heartbeats, roles, handovers, mirroring and joins (17_twin.md). -/

namespace Sys2Proof.Machine

/-! ### Frames (R537 to R540) -/

/-- R537, R539, R540: a frame arrives. `err` is 1 where R537 discards it and 2 where a twin-word of it is invalid; an ordered frame is
taken only in order, and acknowledged. -/
def State.frameIn (s : State) (err : Nat) (seq : Option Nat) (bad good : State → State) : State :=
  if !s.twn.link then s
  else if err = 1 then { s with twn := { s.twn with linkerr := satInc 255 s.twn.linkerr } }.hit Reg.TWN_CNT 0 0
  else
    let s1 := { s with twn := { s.twn with lastRx := s.tb } }
    match seq with
    | none => if err = 2 then bad s1 else good s1
    | some q =>
      let next := match s.twn.rxSeq with
        | some r => (r + 1) % 65536
        | none => 0
      if q = next then
        let s2 := { s1 with twn := { s1.twn with rxSeq := some q } }.twnShow 0x0C [toWord q]
        if err = 2 then bad s2 else good s2
      else s1

/-- R571: an invalid twin-word in a frame that 0x5C0A names; `tracked` says a MIRROR or AREQ frame (DEDUCED, note 61). -/
def State.badTwinFrame (tracked : Bool) (s : State) : State :=
  let s1 := s.report 0x5C0A 0
  if s1.joining then s1.joinFail 7
  else if tracked && s1.isShadow && decide (s1.twn.jstate = 5) then (s1.setJstate 1).twnSend 0x0A (twinList [1])
  else s1

/-- BELITH_ACK: the ordered frames up to a SEQ are acknowledged (R540). -/
def execBelithAck (err seq : Nat) (s : State) : Host.Outcome State Fault Refusal :=
  .next (s.frameIn err none id (fun st =>
    if st.twn.tx.any (fun f => f.seq == seq) then
      { st with twn := { st.twn with tx := (st.twn.tx.dropWhile (fun f => f.seq != seq)).drop 1, resends := 0 } }
    else st))

/-- BELITH_RESEND_TIMEOUT: the oldest ordered frame, unacknowledged for 512 ticks, goes again with those after it; after its eighth time
the link is down (R540) (DEDUCED, note 61). -/
def execBelithResendTimeout (s : State) : Host.Outcome State Fault Refusal :=
  .next (match s.twn.tx with
    | f :: _ =>
      if s.twn.link = true ∧ f.at_ + 512 ≤ s.tb then
        if 8 ≤ s.twn.resends then s.linkDown
        else { s with twn := { s.twn with resends := s.twn.resends + 1, tx := s.twn.tx.map (fun x => { x with at_ := s.tb }) } }
      else s
    | [] => s)

/-- BELITH_LINK_DOWN: symbol lock is lost, or no valid frame has come for 1,200 ticks (R540). -/
def execBelithLinkDown (lockLost : Bool) (s : State) : Host.Outcome State Fault Refusal :=
  .next (if lockLost || decide (s.twn.lastRx + 1200 ≤ s.tb) then s.linkDown else s)

/-- R538, R542: this device's HELLO. -/
def State.sendHello (s : State) : State :=
  s.twnShow 0x01 (twinList ([s.fuse 6] ++ (List.range 4).map (fun i => s.fuse (2 + i)) ++ [s.stateFormat, s.twn.own, s.twn.jstate, s.synStat]))

/-- BELITH_LINK_UP: the link of a device with a pair ID comes up, and HELLO goes (R528, R542). -/
def execBelithLinkUp (s : State) : Host.Outcome State Fault Refusal :=
  .next (
    if s.fuse 6 ≠ 0 ∧ s.domOn 11 = true ∧ s.twn.link = false then
      ({ s with twn := { s.twn with link := true, refused := false, lastRx := s.tb, tx := [], txSeq := 0, resends := 0
                                    rxSeq := none } }.arrive 0x0A5).sendHello
    else s)

/-! ### Joins (R566 to R572) -/

/-- R566, R567: the PRIMARY starts a join: COPY. -/
def State.startJoin (s : State) : State :=
  let j := if s.fullSync then some 3 else match s.sync.state with
    | .stall => some 5
    | _ => none
  (({ s with image := none, twn := { s.twn with joinIn := j, delta := true, applied := false, bs := none, cycles := 0
                                                rejoinAt := none } }).setJstate 2).twnSend 0x0A (twinList [2])

/-- R566, R574: this device may ask for, or start, a join. -/
def State.mayJoin (s : State) : Bool := s.twn.paired && s.twn.link && !s.joining && decide (s.twn.jstate ≠ 5)

/-- REJOIN_TIMER: 2^20 ticks after a failed join the PRIMARY starts a new one (R571). -/
def execRejoinTimer (s : State) : Host.Outcome State Fault Refusal :=
  .next (match s.twn.rejoinAt with
    | some t => if t ≤ s.tb ∧ s.mayJoin = true ∧ s.twn.shadow = false ∧ s.flag Reg.TWN_CFG 0 0 = true then s.startJoin else s
    | none => s)

/-- JOIN_TIMEOUT: four cycles pass after B_s without completion (R571). -/
def execJoinTimeout (s : State) : Host.Outcome State Fault Refusal :=
  .next (if s.joining && s.twn.bs.isSome && decide (4 ≤ s.twn.cycles) then s.joinFail 6 else s)

/-- R568: the newcomer's launches cancelled. -/
def State.cancelLaunches (s : State) : State :=
  { s with time := { s.time with isl := s.time.isl.map (fun p => (p.1, { p.2 with inFlight := [], sending := [], held := [] })) }
           evq := { s.evq with flight := [] }, drv := { s.drv with waiting := [] }, arcs := { s.arcs with frames := [] } }

/-- COPY_DONE: the copy is complete; the newcomer cancels its launches, steps its Time Base to the PRIMARY's, and waits for its vertex
(R568) (DEDUCED, note 55). -/
def execCopyDone (time : Nat) (s : State) : Host.Outcome State Fault Refusal :=
  .next (
    if s.twn.paired = true ∧ s.twn.jstate = 2 then
      if s.twn.shadow then
        let s1 := s.cancelLaunches
        let s2 := if s1.drivesDisabled then s1.stepTime time else s1
        ({ s2 with twn := { s2.twn with adopting := true, theirs := [], mine := [] } }).setJstate 3
      else s.setJstate 3
    else s)

/-- R135: a synchronisation state by its code. -/
def syncOf (c : Nat) : SyncState :=
  match c with
  | 1 => .toothLock
  | 2 => .crankSync
  | 3 => .fullSync
  | 4 => .reverse
  | 5 => .stall
  | _ => .search

/-- R568, R572: the PRIMARY's synchronisation state taken, by its SYN_STAT, with a position and half, and what the change of state brings
about (R73, R154, R207). -/
def State.adoptSync (s : State) (syn pos : Nat) (half : Bool) : State :=
  let was := s.fullSync
  let s1 := { s with sync := { s.sync with state := syncOf (syn % 8), pos := pos, half := half, phaseValid := bit syn 8, eligible := bit syn 4
                                           errs := bits syn 12 10 } }.arrive 0x016
  let s2 := if was && !s1.fullSync then { s1 with tan := { s1.tan with pcyc := [], revP := [] } } else s1
  let s3 := (if s2.sync.state == .stall || s2.sync.state == .search then s2.floorArm else s2).rearmHeld
  if s3.fullSync = was then s3 else s3.newPeriod

/-- ADOPT ends (R568). -/
def State.adopted (s : State) : State :=
  (({ s with twn := { s.twn with adopting := false, theirs := [], mine := [], digCyc := none } }).setJstate 4).twnSend 0x0A (twinList [3])

/-- R568: the first accepted vertex of the active input whose stamp lies within 64 ticks of a PRIMARY's DIGEST: the newcomer takes the
angle state from it (DEDUCED, note 61). -/
def State.adoptVertex (s : State) : State :=
  if s.twn.adopting then
    match (s.input s.activeCrank).hist with
    | v :: older =>
      match s.twn.theirs.find? (fun d => decide (stampDiff v.stamp d.stamp ≤ 64)) with
      | some d =>
        let s1 := s.adoptSync s.twn.psyn d.pos d.half
        let s2 := { s1.onHead s1.activeCrank (fun x => { x with pos := d.pos, half := d.half }) with
                    tan := { s1.tan with cyc := d.cyc } }
        (s2.startAt v.stamp v.period d.pos d.half (match older with | x :: _ => some x.period | [] => none) s2.tb).adopted
      | none => s
    | [] => s
  else s

/-! #### The image (R569, R570) -/

/-- R570: a counter in TICK mode advanced by dt steps; `lim` is the compare value after whose match it restarts. -/
def advanceCtr (v dt : Nat) (lim : Option Nat) : Nat :=
  match lim with
  | some l =>
    if v ≤ l then (v + dt) % (l + 1)
    else if v + dt < 0x100000000 then v + dt
    else (v + dt - 0x100000000) % (l + 1)
  | none => (v + dt) % 0x100000000

/-- R570: counter n of lane l, advanced where it runs in TICK mode. -/
def State.advanceCt (s : State) (l dt n : Nat) (k : Lane) : Counter :=
  let c := if n = 0 then k.ct0 else k.ct1
  let g := s.ctCfg l n
  if bit g 15 && decide (bits g 14 12 = 0) then
    { c with v := advanceCtr c.v dt (if bits g 11 10 = 1 then some k.cmp0.live else if bits g 11 10 = 2 then some k.cmp1.live else none) }
  else c

/-- R570: a lane resumes as captured, dt ticks later (DEDUCED, note 60). -/
def State.advanceLane (s : State) (dt l : Nat) (k : Lane) : Lane :=
  { k with ct0 := s.advanceCt l dt 0 k, ct1 := s.advanceCt l dt 1 k
           runFrom := k.runFrom + dt, next := k.next + dt, land := k.land.map (fun p => (p.1 + dt, p.2))
           wait := k.wait.map (fun w => { w with from_ := w.from_ + dt, test := w.test + dt }), pend := k.pend.map (fun p => (p.1, p.2 + dt)) }

/-- R570: the entries and the pulse of an output whose ticks have passed by tick t count as done, without an output. -/
def State.advanceOut (s : State) (t o : Nat) : Nat → State
  | 0 => s
  | n + 1 =>
    let s1 := match s.active o with
      | some p =>
        (match p.endAngle, p.pin with
         | some _, some q => if fireOf q ≤ t then (s.setActive o none).unlock p.org else s
         | none, _ => if p.start + p.dur ≤ t + 24 then (s.setActive o none).unlock p.org else s
         | _, _ => s)
      | none => s
    match s1.queue o with
    | e :: rest =>
      match e.pin with
      | some p =>
        if fireOf p ≤ t ∧ (s1.active o).isNone = true then
          let s2 := s1.setQueue o rest
          let s3 := match e.kind with
            | .edge => s2.unlock e.org
            | _ => (s2.setActive o (some (s2.pulseOf e (fireOf p)))).lockSlot e.org 2 o
          s3.advanceOut t o n
        else s1
      | none => s1
    | [] => s1

/-- R570: the image applied in this tick as captured at B_s, its timers advanced (DEDUCED, note 60). -/
def State.applyImage (s : State) (i : StateImage) : State :=
  let dt := s.tb - i.bs
  let s1 : State := { s with
    evq := { i.evq with rwr := s.evq.rwr, rlost := s.evq.rlost, reqs := [], arming := none, answers := [], flight := [], status := [] }
    tan := { s.tan with g := i.g, gl := i.gl, gPend := i.gPend, offs := i.offs, r := i.r }
    arcs := { s.arcs with arc := i.arc }
    drv := { i.drv with waiting := i.drv.waiting.filter (fun w => decide (s.tb < w.p)) }
    lan := { s.lan with lane := i.lane.map (fun (p : Nat × Lane) => (p.1, s.advanceLane dt p.1 p.2)), spare := i.spare }
    dma := { s.dma with ch := i.ch }
    irc := { s.irc with src := i.src, openRecs := i.openRecs }
    twn := { s.twn with applied := true, bs := some i.bs, cycles := 0 } }
  let s2 := forUpTo (fun o st => st.advanceOut s.tb o 17) 0 96 s1
  let s3 := s2.twnSend 0x0A (twinList [5])
  match s3.sync.state with
  | .stall => s3.joinDone
  | _ => s3

/-- Join control and the image (R566 to R572). -/
def State.joinMsg (s : State) (m : JoinMsg) : State :=
  match m with
  | .ask => if s.twn.paired = true ∧ s.twn.shadow = false ∧ s.joining = false then s.startJoin else s
  | .start =>
    if s.twn.paired && s.twn.shadow then
      let s1 := ({ s with twn := { s.twn with applied := false, adopting := false, bs := none, delta := false } }).setJstate 2
      match s1.cmd.cur with
      | some (_, opw, _) => if opw / 256 = 0x52 then s1.finishPacket 0x00 0 [] else s1
      | none => s1
    else s
  | .adopted =>
    if !s.twn.shadow && decide (s.twn.jstate = 3) then
      ({ s with twn := { s.twn with bs := if s.twn.joinIn = some 5 then some (s.tb + 4096) else none } }).setJstate 4
    else s
  | .image i => if s.twn.shadow && decide (s.twn.jstate = 4) then s.applyImage i else s
  | .applied =>
    if !s.twn.shadow && decide (s.twn.jstate = 4) then
      let s1 := { s with twn := { s.twn with applied := true } }
      if s1.twn.joinIn = some 5 then s1.joinDone else s1
    else s
  | .failed r => if s.joining then s.joinFail r else s

/-- BELITH_JOIN: a JOIN frame: join control, or the last part of the image, which is applied in this tick (R569, R570). -/
def execBelithJoin (err seq : Nat) (msg : JoinMsg) (s : State) : Host.Outcome State Fault Refusal :=
  .next (s.frameIn err (some seq) (State.badTwinFrame false) (fun st => st.joinMsg msg))

/-- A Lattice twin-word or a cluster memory word written as it is in the partner. -/
def State.copyWord (s : State) (a v : Nat) : State :=
  if a < 0x80000 then s.latPut a v else if 0x800000 ≤ a ∧ a < 0x810000 then s.lanStore (a - 0x800000) v else s

/-- R407: a mirrored value of a cluster memory is an outside write there too. -/
def State.mirrorWord (s : State) (a v : Nat) : State :=
  if 0x800000 ≤ a ∧ s.shiftHolds (a - 0x800000) = true then s else s.copyWord a v

/-- Values copied from an address on. -/
def State.copyWords (s : State) (a : Nat) : List Word → State
  | [] => s
  | v :: vs => (s.copyWord a v.toNat).copyWords (a + 1) vs

/-- BULK: copied state written into the newcomer: Lattice, cluster memories, registers in effect and staged (R567)
(DESIGN CHOICE, note 59). -/
def execBulk (err seq addr idx : Nat) (vals : List Word) (staged : Bool) (s : State) : Host.Outcome State Fault Refusal :=
  .next (s.frameIn err (some seq) (State.badTwinFrame false) (fun st =>
    if !(st.twn.shadow && st.joining) then st
    else if addr < 0xF00000 then st.copyWords addr vals
    else match vals with
      | v :: _ => if isRegAddr addr then (if staged then st.stage addr idx v.toNat else st.setCfg addr idx v.toNat) else st
      | [] => st))

/-- DELTA: a write that the PRIMARY made during the join (R567). -/
def execDelta (err seq addr : Nat) (vals : List Word) (s : State) : Host.Outcome State Fault Refusal :=
  .next (s.frameIn err (some seq) (State.badTwinFrame false) (fun st =>
    if st.twn.shadow && st.joining then st.copyWords addr vals else st))

/-- BELITH_DMA: values for channels with PEER 0x3 (R538). -/
def execBelithDma (err seq : Nat) (vals : List Word) (s : State) : Host.Outcome State Fault Refusal :=
  .next (s.frameIn err (some seq) id (fun st =>
    if st.twn.paired then { st with twn := { st.twn with dmaRx := st.twn.dmaRx ++ vals } } else st))

/-! ### Pairing and roles (R542 to R544) -/

/-- R543: this device is SHADOW at pairing. -/
def State.pairsAsShadow (s : State) (own serial : Nat) : Bool :=
  let mine := onesOf s.twn.own 11
  let theirs := onesOf own 11
  if 0 < mine ∧ theirs = 0 then false
  else if mine = 0 ∧ 0 < theirs then true
  else if mine ≠ theirs then decide (mine < theirs)
  else decide (serial < s.serialNo)

/-- BELITH_HELLO: the devices pair and decide their roles, or refuse (R542 to R544); after a new link-up they do so anew
(DEDUCED, note 61). -/
def execBelithHello (err pairId serial fmt own _jst syn : Nat) (s : State) : Host.Outcome State Fault Refusal :=
  .next (s.frameIn err none id (fun st =>
    let s0 := { st with twn := { st.twn with soloDone := true } }
    if s0.twn.refused then s0
    else if pairId ≠ s0.fuse 6 ∨ fmt ≠ s0.stateFormat then
      (({ s0 with twn := { s0.twn with paired := false, refused := true, jres := if pairId ≠ s0.fuse 6 then 2 else 3 } }).setJstate 0).twnReport 0x2C09 0
    else
      let sh := s0.pairsAsShadow own serial
      let s1 := ({ s0 with twn := { s0.twn with paired := true, pown := own % 0x800, psyn := syn, pfault := false, hbSeen := some s0.tb
                                                lost := false } }.setRole sh).setJstate 1
      let s2 : State := if sh = false ∧ s1.twn.own = 0 ∧ own % 0x800 = 0 ∧ s1.twn.fault = false then
          { s1 with twn := { s1.twn with probes := s1.twn.probes ++ [(0x7FF, s1.tb, 5)] } }
        else s1
      if sh = false ∧ s2.flag Reg.TWN_CFG 0 0 = true then s2.startJoin else s2))

/-- SOLO_TIMEOUT: with SOLO set and no partner HELLO within 20 ms of READY, a device that owns no unit probes them all (R544). -/
def execSoloTimeout (s : State) : Host.Outcome State Fault Refusal :=
  .next (
    if s.fuse 6 ≠ 0 ∧ s.pwr.ready = true ∧ s.flag Reg.TWN_CFG 0 2 = true ∧ s.twn.soloDone = false ∧ s.pwr.readyAt + 4000000 ≤ s.tb ∧
        s.twn.own = 0 ∧ s.twn.fault = false then
      { s with twn := { s.twn with soloDone := true, probes := s.twn.probes ++ [(0x7FF, s.tb, 5)] } }
    else s)

/-! ### Heartbeats (R541, R545, R559) -/

/-- R545, R593: twice the offset, and the slew that an offset of 1 tick or more asks of a SHADOW; TWN_TBOFS shows its whole ticks, and an
offset beyond 4 ticks either way is reported (DEDUCED, note 61). -/
def State.takeOffset (s : State) (o2 : Int) (aligned : Bool) : State :=
  let s1 := { s with twn := { s.twn with ofs := o2.tdiv 2 } }
  let s2 := if s1.twn.shadow && decide (3 ≤ s1.twn.jstate) && decide (s1.fusedRole = 0) && !aligned && !s1.time.aligned && decide (2 ≤ o2.natAbs) then
      s1.slewTime (if 0 < o2 then -1 else 1)
    else s1
  if 8 < o2.natAbs then s2.twnReport 0x2C0B 0 else s2

/-- R545: the offset worked out from a HEARTBEAT's times, where this device has sent one (DEDUCED, note 61). -/
def State.pairOffset (s : State) (t1 t4 : Nat) (aligned : Bool) : State :=
  match s.twn.hbSent with
  | some t3 => s.takeOffset (diff32 s.tb t1 - diff32 t4 t3) aligned
  | none => s

/-- R572: a newcomer in ADOPT takes the state of a PRIMARY that is in STALL from its HEARTBEAT; its
accumulator is frozen where it ran, else it stays invalid or as it was (R140) (DEDUCED, note 61). -/
def State.adoptStall (s : State) (syn : Nat) : State :=
  if s.twn.adopting && decide (syn % 8 = 5) then
    let ast := if s.sync.state.runs then Ast.frozen else if s.sync.state == .stall then s.tan.ast else .invalid
    let s1 := s.adoptSync syn s.sync.pos (bit syn 9)
    (s1.stopTangent s1.tb ast).adopted
  else s

/-- R560, R574: the owner's handover goes on as the partner takes the units it released. -/
def State.handSeen (s : State) (own : Nat) : State :=
  match s.twn.hand with
  | some h =>
    if h.taker then s
    else
      let got := h.released &&& own
      ({ s with twn := { s.twn with hand := some { h with done := h.done ||| got } } }).handEnd
  | none => s

/-- BELITH_HEARTBEAT: the partner's state, and the offset of the two Time Bases (R541, R545) (DEDUCED, note 61). -/
def execBelithHeartbeat (err : Nat) (_shadow : Bool) (_jst : Nat) (fault : Bool) (own t1 t4 : Nat) (aligned : Bool) (syn : Nat)
    (s : State) : Host.Outcome State Fault Refusal :=
  .next (s.frameIn err none id (fun st =>
    if st.twn.paired then
      let s1 := { st with twn := { st.twn with hbSeen := some st.tb, lost := false, pown := own % 0x800, pfault := fault, psyn := syn } }
      ((s1.pairOffset t1 t4 aligned).adoptStall syn).handSeen own
    else st))

/-- HEARTBEAT_SEND: in the device's slot a HEARTBEAT goes (R541). -/
def execHeartbeatSend (s : State) : Host.Outcome State Fault Refusal :=
  .next (
    let t := s.twn
    if t.paired = true ∧ t.link = true ∧ s.tb % 400 = (if t.shadow then 200 else 0) ∧ t.hbSent ≠ some s.tb then
      { s with twn := { s.twn with hbSent := some s.tb } }.twnShow 0x02 (twinList
        [b2n t.shadow * 32768 + t.jstate * 4096 + b2n t.fault * 2048 + t.own, s.tb % 65536, s.tb / 65536 % 65536, s.synStat])
    else s)

/-- HEARTBEAT_LOSS: 1,200 ticks without a HEARTBEAT: a device that may take units probes the partner's in the next tick (R541, R559,
R563) (DEDUCED, note 61). -/
def execHeartbeatLoss (s : State) : Host.Outcome State Fault Refusal :=
  .next (match s.twn.hbSeen with
    | some t =>
      if s.twn.paired = true ∧ s.twn.lost = false ∧ t + 1200 ≤ s.tb then
        let s1 := (({ s with twn := { s.twn with lost := true } }.arrive 0x0A2).twnReport 0x3C03 s.twn.pown).cancelHand
        if s1.mayTake then { s1 with twn := { s1.twn with probes := s1.twn.probes ++ [(s1.twn.pown, s1.tb + 1, 2)] } }
        else s1.unpair
      else s
    | none => s)

/-! ### Digests (R554) -/

/-- DIGEST: a partner's digest (R554, R568). -/
def execDigest (err pos : Nat) (half : Bool) (cyc stamp sum : Nat) (s : State) : Host.Outcome State Fault Refusal :=
  .next (s.frameIn err none id (fun st =>
    if st.twn.paired then st.digestTheirs { pos := pos, half := half, cyc := cyc, stamp := stamp, digest := sum, atB := false, due := 0 }
    else st))

/-- DIGEST_TIMEOUT: the vertices for which no partner digest came by E + 6 + 2,048 mismatch (R554). -/
def execDigestTimeout (s : State) : Host.Outcome State Fault Refusal :=
  .next (
    let late := s.twn.mine.filter (fun m => decide (m.due < s.tb))
    late.foldl (fun st _ => st.digestBad)
      { s with twn := { s.twn with mine := s.twn.mine.filter (fun m => decide (s.tb ≤ m.due)) } })

/-! ### Moving the drive (R534, R556 to R563) -/

/-- R560: a unit is idle in this device. -/
def State.unitIdle (s : State) (u : Nat) : Bool :=
  if u < 6 then (s.bank u).phase == .idle && !(s.drv.waiting.any (fun w => w.out / 4 == u))
  else if u < 8 then (s.boost (u - 6)).fet != .on
  else if u = 8 then (List.range 24).all (fun n => (s.ign n).st == .low)
  else if u = 9 then (List.range 8).all (fun n => !(s.valve n).gate)
  else true

/-- R535: the units that can read DRIVEN: a GP unit with no SHR pin has no net, so it always reads UNDRIVEN. -/
def State.unitsWithNets (s : State) : Nat :=
  if (List.range 96).any (fun pin => bit (s.cfg Reg.LAN_PIN pin) 15) then 0x7FF else 0x3FF

/-- PROBE_RESULT: the oldest probe's result is known, 48 ticks after it began: units that read DRIVEN, or whose domain is off, are not
taken (R534, R535, R544, R556, R557, R560, R563) (DEDUCED, note 62). -/
def execProbeResult (driven : Nat) (s : State) : Host.Outcome State Fault Refusal :=
  .next (match s.twn.probes with
    | (units, start, cause) :: rest =>
      if start + 48 ≤ s.tb then
        let d := units &&& driven &&& s.unitsWithNets
        let s1 := { s with twn := { s.twn with probes := rest, gsns := (unitsMinus s.twn.gsns units) ||| d } }
        let no := if s1.twn.fault then units else unitsMinus units (unitsMinus (s1.unitsOn units) d)
        let und := unitsMinus units no
        let s2 := if no ≠ 0 ∧ s1.twn.fault = false then s1.twnReport 0x4C06 no else s1
        if cause = 1 ∨ cause = 2 then (if s2.twn.fault then (if cause = 2 then s2.unpair else s2) else s2.takeUnits und cause)
        else if cause = 5 then (if und = 0 then s2 else { s2 with twn := { s2.twn with takes := s2.twn.takes ++ [(und, start + 49, 5)] } })
        else
          let s3 := if no ≠ 0 then s2.twnShow 0x05 (twinList ([no, 0xFFFF] ++ (wordsOf (start - 8) 4).map (fun w => w.toNat))) else s2
          let s4 : State := match s3.twn.hand with
            | some h => { s3 with twn := { s3.twn with hand := some { h with done := h.done ||| no } } }
            | none => s3
          if und = 0 then s4.handEnd else { s4 with twn := { s4.twn with takes := s4.twn.takes ++ [(und, start + 56, cause)] } }
      else s
    | [] => s)

/-- RELEASE_FRAME: with reason FAULT, the device probes and takes the partner's units (R556, R563). -/
def execReleaseFrame (err units reason _time : Nat) (s : State) : Host.Outcome State Fault Refusal :=
  .next (s.frameIn err none id (fun st =>
    if st.twn.paired = true ∧ reason = 1 ∧ st.twn.lost = false then
      let s1 := { st with twn := { st.twn with pfault := true } }.cancelHand
      if s1.mayTake then
        { s1 with twn := { s1.twn with probes := s1.twn.probes ++ [((s1.twn.pown ||| units) % 0x800, s1.tb, 1)] } }
      else s1
    else st))

/-- OWN_FAULT_RELEASE: a device that has declared a fault of its own has put its joined nets in high impedance (R558, R563)
(DEDUCED, note 62). -/
def execOwnFaultRelease (s : State) : Host.Outcome State Fault Refusal :=
  .next (
    if s.twn.faultAt.isSome then
      let units := s.twn.own
      let s1 := { s with twn := { s.twn with faultAt := none, probes := s.twn.probes.filter (fun p => p.2.2 != 1 && p.2.2 != 5) } }.dropTakes.cancelHand
      let s2 := s1.setOwn 0 6
      let s3 := if s2.twn.link && s2.twn.paired then s2.twnShow 0x04 (twinList [units, 1, s2.tb % 65536, s2.tb / 65536 % 65536]) else s2
      s3.report 0x7C0C units
    else s)

/-- R560: a handover begins (DEDUCED, note 62). -/
def State.handStart (s : State) (units : Nat) (idle role taker reply : Bool) (r cause : Nat) : State :=
  { s with twn := { s.twn with hand := some { units := units, idle := idle, role := role, r := r, cause := cause, taker := taker
                                              released := 0, done := 0, back := [], reply := reply } } }

/-- HANDREQ: a handover is scheduled at launch R, or the taker did not take units (R560). -/
def execHandreq (err : Nat) (notake : Bool) (units : Nat) (idle role : Bool) (r : Nat) (s : State) : Host.Outcome State Fault Refusal :=
  .next (s.frameIn err none id (fun st =>
    match notake, st.twn.hand with
    | true, some h =>
      if h.taker then st
      else
        let u := h.released &&& units
        { st with twn := { st.twn with hand := some { h with back := h.back ++ [(u, r + 128)] } } }
    | false, none =>
      if st.twn.paired then
        let owner := decide (unitsMinus units st.twn.own = 0)
        st.handStart (units % 0x800) idle role (!owner) false r (if owner then 3 else 4)
      else st
    | _, _ => st))

/-- HANDOVER_RELEASE: the units' release tick: R or, with WHEN = 1, the first tick from R on in which they are idle; the owner releases
them, and the taker probes from 8 ticks later (R560) (DEDUCED, note 62). -/
def execHandoverRelease (units : Nat) (s : State) : Host.Outcome State Fault Refusal :=
  .next (match s.twn.hand with
    | some h =>
      let left := unitsMinus (unitsMinus h.units h.released) h.done
      let idleOk := (List.range 11).all (fun u => !(bit units u) || s.unitIdle u)
      if h.r ≤ s.tb ∧ units ≠ 0 ∧ unitsMinus units left = 0 ∧ (if h.idle then idleOk = true else units = left) then
        let s1 := { s with twn := { s.twn with hand := some { h with released := h.released ||| units } } }
        if h.taker then { s1 with twn := { s1.twn with probes := s1.twn.probes ++ [(units, s1.tb + 8, h.cause)] } }
        else s1.setOwn (unitsMinus s1.twn.own units) h.cause
      else s
    | none => s)

/-- HANDOVER_IDLE_TIMEOUT: the units not idle within 2^26 ticks of R are not moved (R560). -/
def execHandoverIdleTimeout (s : State) : Host.Outcome State Fault Refusal :=
  .next (match s.twn.hand with
    | some h =>
      if h.idle = true ∧ h.r + 0x4000000 ≤ s.tb then
        ({ s with twn := { s.twn with hand := some { h with done := h.done ||| unitsMinus h.units h.released } } }).handEnd
      else s
    | none => s)

/-! ### Forwarded changes (R547 to R551) -/

/-- R547: an address whose register acts on the angle through requests of its own, which come as AREQ frames (R549). -/
def areqReg (a : Nat) : Bool := decide (a = Reg.EVQ_ARM) || decide (a = Reg.EVQ_CAN_CMD) || decide (a = Reg.EVQ_RCP_CMD)

/-- R547: mirrored values applied in address order. -/
def State.applyMirror (s : State) (high : Bool) (a : Nat) : List Word → State
  | [] => s
  | v :: vs =>
    let s1 := if a < 0xF00000 then s.mirrorWord a v.toNat
      else if a = Reg.LAN_RDL then after (execLanRdlWrite v s) s
      else if isRegAddr a && fieldOk a v.toNat && !(areqReg a) then (s.writeReg a v.toNat high).getD s
      else s
    s1.applyMirror high (a + 1) vs

/-- MIRROR: a forwarded write, or SIN words, in the SHADOW (R547, R571). -/
def execMirror (err seq : Nat) (sin : Bool) (addr : Nat) (vals : List Word) (high : Bool) (s : State) : Host.Outcome State Fault Refusal :=
  .next (s.frameIn err (some seq) (State.badTwinFrame true) (fun st =>
    if !st.isShadow then st
    else if sin then
      let v := st.port addr
      st.setPort addr { v with srx := (v.srx ++ vals).take 512 }
    else st.applyMirror high addr vals))

/-- R549: an entry inserted for a request of tick t, whose commit conditions held from t + 1 on, commits at insertion with the pin time of
R188, and its lateness is what it is late by as it fires (R189). Any other is considered in the next tick. -/
def State.commitForwarded (s : State) (slot t o : Nat) : State :=
  match s.queue o with
  | e :: rest =>
    if e.org.rcp = false ∧ e.org.slot = slot ∧ s.tan.seg.e + 6 ≤ t + 1 then
      match s.wouldCommit e s.tb false with
      | none => s.headNext o
      | some (p, l) =>
        (match e.guarded p with
         | none => ((s.setQueue o rest).dropEntry e 4 0).headNext o
         | some (q, gd) => s.setQueue o ({ e with pin := some q, late0 := l, org := { e.org with guarded := gd } } :: rest))
    else s.headNext o
  | [] => s

/-- R549: an arm with RESULT 1 in the SHADOW: its own copy of the slot checked, and inserted with the PRIMARY's key. -/
def State.armForwarded (s : State) (slot d t : Nat) : State :=
  let a := 8 * slot
  let s1 := s.latTouchN a 8
  let e := s1.readEntry a false slot t
  if (Tbl.find? slot s1.evq.slots).isSome then s
  else if !(s1.recIntegrity a) then s1.report 0x5301 e.org.tag
  else if !(s1.recFields a false) || decide (16 ≤ (s1.queue e.out).length) then s1
  else
    let e1 := { e with keyed := !(s1.unkeyedHere e.out), d := d }
    ((s1.setQueue e.out (qInsert e1 (s1.queue e.out))).lockSlot e.org 1 e.out).commitForwarded slot t e.out

/-- R549: a forwarded cancel of tick t on one output: entries that fire in t + 2 or later go, and a pulse that fired after t + 1 ends. -/
def State.cancelForwarded (s : State) (tag t o : Nat) : State :=
  let hit := fun (e : QEntry) => decide (e.org.tag = tag) && (match e.pin with | none => true | some p => decide (t + 2 ≤ fireOf p))
  let gone := (s.queue o).filter hit
  let s1 := if gone.isEmpty then s
    else (((s.setQueue o ((s.queue o).filter (fun e => !(hit e)))).dropEntries 6 gone).headNext o)
  match s1.active o with
  | some p => if p.org.tag = tag ∧ t + 1 < fireOf p.start then (s1.fireEnd p (s1.fireTick o s1.tb) false).headNext o else s1
  | none => s1

/-- R550: the swap that a notice names, where its boundary has passed here: the entries that the re-arm at that boundary took from the old
buffer go, the buffers exchange roles, and the new one is re-armed. -/
def State.swapLate (s : State) : State :=
  match s.evq.rcpPend with
  | some (n, _) =>
    let b := s.tan.lastB.getD s.tb
    let old := s.evq.rcpActive
    let stale := fun (e : QEntry) => e.org.rcp && (bit e.org.slot 10 == old) && e.gbase == b
    let s1 := forUpTo (fun o st => (st.setQueue o ((st.queue o).filter (fun e => !(stale e)))).headNext o) 0 96 s
    (s1.rearmStop.swapNow n).rearmFrom s.tb b
  | none => s

/-- R549: the SHADOW's acknowledgement of the set arrives (DEDUCED, note 58). -/
def State.partnerAcks (s : State) : State :=
  let s1 := { s with commit := { s.commit with prepares := s.commit.prepares.filter (· ≠ 15), acks := s.commit.acks ++ [15] } }
  after (execIslandAck 15 s1) s1

/-- R549 to R551: what an AREQ frame asks (DEDUCED, note 58). -/
def State.areqIn (s : State) (kind a b c t : Nat) : State :=
  if kind = 7 then
    if s.tracked && s.commit.pending && s.commit.waiting.contains 15 then
      s.partnerAcks
    else s
  else if !s.isShadow then s
  else match kind with
    | 0 => if b = 1 then s.armForwarded a c t else s
    | 1 => if bit b 8 then forUpTo (fun o st => st.cancelForwarded a t o) 0 96 s else s.cancelForwarded a t (bits b 6 0)
    | 2 => { s with evq := { s.evq with rcpPend := some (a, t) } }
    | 3 => if s.tan.cyc = a then s.swapLate else { s with twn := { s.twn with swapAt := some a } }
    | 4 =>
      if s.tan.cyc = a ∧ s.commit.pending = true ∧ s.commit.mode = .cycle ∧ s.commit.cSent = false then s.applyCommit
      else { s with twn := { s.twn with setAt := some a } }
    | 5 => if s.staged.isEmpty || s.commit.pending then s else s.closeSet (if a = 2 then .launch else .cycle) t
    | 6 => if s.commit.pending then s.dropSet a else s
    | _ => s

/-- AREQ: a forwarded arm, cancel, swap, boundary notice or commit message (R549 to R551, R571) (DEDUCED, note 58). -/
def execAreq (err seq kind a b c time : Nat) (s : State) : Host.Outcome State Fault Refusal :=
  .next (s.frameIn err (some seq) (State.badTwinFrame true) (fun st => st.areqIn kind a b c time))

/-! ### Opcodes (R574) -/

/-- R574: why a TAKEOVER or RELEASE is REJECT_STATE (DEDUCED, note 62). -/
def State.handRefused (s : State) (units : Nat) (role take : Bool) : Bool :=
  let joined := decide (s.twn.jstate = 5)
  let here := !s.twn.shadow || joined
  let there := s.twn.shadow || joined
  !s.twn.paired || !(if take then here && there else here) ||
    decide (unitsMinus units (if take then s.twn.pown else s.twn.own) ≠ 0) ||
    (role && decide (unitsMinus s.twn.pown units ≠ 0)) || s.twn.hand.isSome

/-- R560, R574: a TAKEOVER or RELEASE executed. -/
def State.handPacket (s : State) (vals : List Nat) (take : Bool) : State :=
  let w := nth 0 vals 0
  let units := w % 0x800
  let role := bit w 15
  let idle := decide (nth 0 vals 1 = 1)
  if bits w 14 11 ≠ 0 then s.finishPacket 0x14 0 []
  else if 1 < nth 0 vals 1 then s.finishPacket 0x14 2 []
  else if s.handRefused units role take then s.finishPacket 0x1C 0 []
  else
    let r := s.tb + 1024
    ((s.handStart units idle role take true r (if take then 3 else 4)).twnShow 0x05
      (twinList ([units, b2n idle, b2n role] ++ (wordsOf r 4).map (fun x => x.toNat)))).handEnd

/-- TAKEOVER: this device requests units from its partner (R560, R574). -/
def execTakeover (s : State) : Host.Outcome State Fault Refusal := .next (s.take (· == 0x50) (fun _ _ vals st => st.handPacket vals true))

/-- RELEASE: this device hands units to its partner (R560, R574). -/
def execRelease (s : State) : Host.Outcome State Fault Refusal := .next (s.take (· == 0x51) (fun _ _ vals st => st.handPacket vals false))

/-- REJOIN: starts a join; a SHADOW asks its PRIMARY, and replies when the join starts (R566, R574). -/
def execRejoin (s : State) : Host.Outcome State Fault Refusal :=
  .next (s.take (· == 0x52) (fun _ _ _ st =>
    if !st.mayJoin then st.finishPacket 0x1C 0 []
    else if st.twn.shadow then st.twnSend 0x0A (twinList [1])
    else st.startJoin.finishPacket 0x00 0 []))

/-! ### What a tick brings -/

/-- R544, R557, R560, R563: units that are driven from this tick on, by a device that has declared no fault of its own. -/
def State.takesDue (s : State) : State :=
  if s.twn.fault then s.dropTakes
  else
    let due := s.twn.takes.filter (fun p => decide (p.2.1 ≤ s.tb))
    due.foldl (fun st p => (st.takeUnits p.1 p.2.2).handEnd)
      { s with twn := { s.twn with takes := s.twn.takes.filter (fun p => decide (s.tb < p.2.1)) } }

/-- R560: units that the taker did not take are driven again by their owner, 128 ticks after their release. -/
def State.backDue (s : State) : State :=
  match s.twn.hand with
  | some h =>
    let u := (h.back.filter (fun p => decide (p.2 ≤ s.tb))).foldl (fun acc p => acc ||| p.1) 0
    if u = 0 then s
    else
      (({ s with twn := { s.twn with hand := some { h with back := h.back.filter (fun p => decide (s.tb < p.2)), done := h.done ||| u } } }).setOwn
        (s.twn.own ||| u) h.cause).handEnd
  | none => s

/-- R571, R572: the PRIMARY's synchronisation state watched through a join (DEDUCED, note 60). -/
def State.joinWatch (s : State) : State :=
  if s.joining && !s.twn.shadow then
    match s.twn.joinIn with
    | some 3 => if s.fullSync then s else s.joinFail 5
    | some _ => (match s.sync.state with | .stall => s | _ => s.joinFail 5)
    | none => if s.fullSync then { s with twn := { s.twn with joinIn := some 3 } } else s
  else s

/-- R569, R572: a PRIMARY in STALL captures the image in the launch tick that it chose. -/
def State.stallCapture (s : State) : State :=
  if s.joining && !s.twn.shadow && decide (s.twn.joinIn = some 5) && decide (s.twn.bs = some s.tb) then
    { s with twn := { s.twn with delta := false } }.captureImage s.tb
  else s

/-- R550: tick t + 32 of a pending swap in a PRIMARY. -/
def State.swapDecide (s : State) : State :=
  match s.evq.rcpPend with
  | some (_, t) => if s.tb = t + 32 then s.swapNotice (s.tan.cyc + 1) else s
  | none => s

/-- What the pair does by itself in the present tick. -/
def State.twnTick (s : State) : State :=
  if s.isTwin then ((((s.takesDue.backDue).joinWatch).stallCapture).swapDecide).adoptVertex else s

end Sys2Proof.Machine
end

