-- ==== Sys2Proof/Machine/Power.lean ====
section
/-! DEFINITION. The ladder, resets, the boot, the standing configuration and the firmware update (20_power_reset_boot.md;
19_integrity_repair.md R632, R633). -/

namespace Sys2Proof.Machine

/-! ### Firmware update (R632) -/

/-- FWOPEN: the slot not booted is erased and an update begins (DEDUCED, note 69). -/
def execFwopen (s : State) : Host.Outcome State Fault Refusal :=
  .next (s.take (· == 0x70) (fun _ _ vals st =>
    let n := nth 0 vals 0 + 65536 * nth 0 vals 1
    if n < 73 then st.finishPacket 0x14 0 []
    else if 786432 < n then st.finishPacket 0x14 2 []
    else
      let b := !st.fus.bootB
      let s1 := st.flashErase (slotBase b) slotSize
      let s2 := { s1 with fus := { s1.fus with factoryA := s1.fus.factoryA && b, factoryB := s1.fus.factoryB && !b
                                               fw := .erasing, len := n, received := 0 }
                          pwr := { s1.pwr with verified := false } }
      s2.finishPacket 0x00 0 []))

/-- FLASH_ERASE_DONE: the slot's erase completes (R632). -/
def execFlashEraseDone (s : State) : Host.Outcome State Fault Refusal :=
  .next (if s.fus.fw = .erasing then { s with fus := { s.fus with fw := .receiving } } else s)

/-- FWDATA: image words are programmed (DEDUCED, note 69). -/
def execFwdata (s : State) : Host.Outcome State Fault Refusal :=
  .next (s.take (· == 0x71) (fun _ _ vals st =>
    let o := nth 0 vals 0 + 65536 * nth 0 vals 1
    let ws := vals.drop 2
    if st.fus.fw = .receiving ∧ o = st.fus.received ∧ o + ws.length ≤ st.fus.len then
      let s1 := st.flashPuts (slotBase (!st.fus.bootB) + o) ws
      ({ s1 with fus := { s1.fus with received := o + ws.length } }).finishPacket 0x00 0 []
    else st.finishPacket 0x1C 0 []))

/-- FWCLOSE: the image is verified and, where it is to be, marked for the next boot (DEDUCED, note 69). -/
def execFwclose (s : State) : Host.Outcome State Fault Refusal :=
  .next (s.take (· == 0x72) (fun _ _ vals st =>
    let v := nth 0 vals 0
    if 1 < v then st.finishPacket 0x14 0 []
    else if (st.fus.fw = .receiving ∨ st.fus.fw = .closed) ∧ st.fus.received = st.fus.len then
      let b := !st.fus.bootB
      let r := st.imageVres b st.fus.received
      let s1 := { st with fus := { st.fus with fw := .closed, vres := r, markB := if v = 1 ∧ r = 1 then b else st.fus.markB } }
      s1.finishPacket 0x00 0 (twinWords r)
    else st.finishPacket 0x1C 0 []))

/-! ### The standing configuration in flash (R656, R657) -/

/-- The first flash word of the region, and its length. -/
def cfgBase : Nat := 0x180000
def cfgSize : Nat := 0x40000

/-- CFGSTORE: words of the standing configuration are programmed. -/
def execCfgstore (s : State) : Host.Outcome State Fault Refusal :=
  .next (s.take (· == 0x74) (fun _ _ vals st =>
    let o := nth 0 vals 0 + 65536 * nth 0 vals 1
    let ws := vals.drop 2
    if bit st.locks 1 then st.finishPacket 0x17 19 []
    else if cfgSize < o + ws.length then st.finishPacket 0x16 0 []
    else if st.pwr.cfgBusy || (st.flashWords (cfgBase + o) ws.length).any (fun w => w != 0xFFFF) then st.finishPacket 0x1C 0 []
    else (st.flashPuts (cfgBase + o) ws).finishPacket 0x00 0 []))

/-- CFGERASE: the erase of the region begins. -/
def execCfgerase (s : State) : Host.Outcome State Fault Refusal :=
  .next (s.take (· == 0x75) (fun _ _ _ st =>
    if bit st.locks 1 then st.finishPacket 0x17 19 []
    else if st.pwr.cfgBusy then st.finishPacket 0x1C 0 []
    else
      let s1 := st.flashErase cfgBase cfgSize
      ({ s1 with pwr := { s1.pwr with cfgBusy := true } }).finishPacket 0x00 0 []))

/-- CFG_ERASE_DONE: the erase of the region completes (R657). -/
def execCfgEraseDone (s : State) : Host.Outcome State Fault Refusal :=
  .next { s with pwr := { s.pwr with cfgBusy := false } }

/-! ### What domains hold -/

/-- R639: the switched domains that hold a register, the unswitched ones of Run among them. -/
def homeDoms (addr idx : Nat) : List Nat :=
  let l := regDoms addr idx
  if l.isEmpty then
    let b := bits addr 15 8
    if b ≤ 0x04 then [3] else if b = 0x05 ∨ b = 0x09 ∨ b = 0x0B ∨ b = 0x0C ∨ b = 0x10 then [2] else if b = 0x0D then [0] else [1]
  else l

/-- R651, R665: the registers of the keep domain: the keep timer, PWR_CTL, the keep register, and the wake latch configuration
(DEDUCED, note 68). -/
def keepReg (addr : Nat) : Bool :=
  decide (addr = Reg.PWR_KTIM_LO) || decide (addr = Reg.PWR_KTIM_HI) || decide (addr = Reg.PWR_CTL) ||
    (decide (Reg.PWR_KEEP0 ≤ addr) && decide (addr < Reg.PWR_KEEP0 + 32)) || decide (addr = Reg.IRC_WCFG)

/-- A wheel whose inputs keep nothing but the levels at their pins. -/
def Wheel.fresh (w : Wheel) : Wheel := { inp := w.inp.map (fun p => (p.1, { level := p.2.level })) }

/-- Command ports that keep nothing but the levels at their CSN pins. -/
def Cmd.fresh (c : Cmd) : Cmd := { p0 := { csnLow := c.p0.csnLow }, p1 := { csnLow := c.p1.csnLow } }

/-- R46: the replicas of every island locked anew. -/
def relocked (t : Tbl Replica) : Tbl Replica :=
  (List.range 14).map (fun i => (i, { locks := (Tbl.get {} i t).locks + 1 }))

/-- R639: the domains for which `lost` holds go OFF: what they hold is lost. -/
def State.loseDomains (s : State) (lost : Nat → Bool) : State :=
  let s1 := forUpTo (fun d st =>
    if lost d then
      let c := 2 * (d - 4)
      let st1 := (st.clusterReset c).clusterReset (c + 1)
      { st1 with lan := { st1.lan with
          mem := st1.lan.mem.filter (fun p => decide (p.1 / 0x4000 ≠ d - 4))
          parity := st1.lan.parity.filter (fun a => decide (a / 0x4000 ≠ d - 4)) } }
    else st) 4 4 s
  let link : State := if lost 11 then { s1 with twn := {}, elx := {} } else s1
  { link with
      regs := s1.regs.filter (fun p =>
        keepReg (p.1 % 0x1000000) || !((homeDoms (p.1 % 0x1000000) (p.1 / 0x1000000)).all lost))
      cmd := if lost 0 then s1.cmd.fresh else s1.cmd
      staged := if lost 1 then [] else s1.staged
      commit := if lost 1 then {} else s1.commit
      sup := if lost 1 then {} else s1.sup
      lat := if lost 2 then { maps := s1.lat.maps, repairLog := s1.lat.repairLog } else s1.lat
      irc := if lost 2 then { wcause := s1.irc.wcause, latches := s1.irc.latches } else s1.irc
      dma := if lost 2 then {} else s1.dma
      cmb := if lost 2 then {} else s1.cmb
      time := if lost 3 then { isl := relocked s1.time.isl } else s1.time
      wheel := if lost 3 then s1.wheel.fresh else s1.wheel
      sync := if lost 3 then {} else s1.sync
      tan := if lost 3 then {} else s1.tan
      evq := if lost 3 then {} else s1.evq
      agenda := if lost 3 then [] else s1.agenda
      arcs := if lost 3 then {} else s1.arcs
      fbk := if lost 8 then {} else s1.fbk
      drv := if lost 9 && lost 10 then {} else s1.drv
      bridge := if lost 9 && lost 10 then {} else s1.bridge }

/-! ### The ladder (R643 to R648) -/

/-- R644: the conditions under which a rung may be entered (DEDUCED, note 39). -/
def State.rungOk (s : State) (code : Nat) : Bool :=
  decide (s.sync.state = .stall) &&
  (List.range 6).all (fun b => !(s.bankActive b)) && !(s.flag Reg.DRV_CTL 0 8) && !(s.flag Reg.DRV_CTL 0 9) &&
  (List.range 24).all (fun n => (s.ign n).st == .low || (s.ign n).st == .highZ) &&
  (List.range 8).all (fun n => decide (s.vlvMode n = 0)) &&
  s.staged.isEmpty && !s.commit.pending && s.evq.rcpPend.isNone &&
  (decide (code < 3) || !s.twn.paired || decide (s.twn.own = 0)) &&
  (decide (code < 4) ||
    (s.evq.q.all (fun p => p.2.isEmpty) &&
      s.dma.ch.all (fun p => !(p.2.st == .credit || p.2.st == .moving || p.2.st == .barrier)) &&
      (s.fus.fw == .idle || s.fus.fw == .closed) && !s.pwr.cfgBusy && s.fus.prog.isNone))

/-- RUNG: entry to a rung is commanded (R644). -/
def execRung (s : State) : Host.Outcome State Fault Refusal :=
  .next (s.take (· == 0x78) (fun p _ vals st =>
    let code := nth 0 vals 0
    if code = 0 ∨ 7 < code then st.finishPacket 0x14 0 []
    else if st.rungOk code then
      let s1 := st.finishPacket 0x00 0 []
      { s1 with pwr := { s1.pwr with entering := some ⟨code, p, (s1.port p).tx.length, s1.tb⟩ } }
    else st.finishPacket 0x1C 0 []))

/-- R643: the state of a domain that is not OFF in a rung. -/
def rungDom (code d : Nat) : Dom :=
  let lane := decide (4 ≤ d) && decide (d < 8)
  if code ≤ 2 then .gated
  else if code = 3 then .ret
  else if code = 4 then (if d = 1 ∨ d = 2 ∨ lane = true then .ret else .off)
  else if code = 5 then (if d = 1 then .ret else .off)
  else .off

/-- R645: before Hold the Tangent tables and the values in effect are saved (DEDUCED, note 67). -/
def State.holdSave (s : State) : State :=
  let s1 := s.beginSave.writeTables
  { s1 with tan := { s1.tan with saving := none, lres := 1, savedG := [], savedR := [], savedHead := [] }
            pwr := { s1.pwr with saved := s1.regs } }

/-- R643, R645, R650: the rung is entered (DEDUCED, note 67). -/
def State.enterRung (s : State) (code : Nat) : State :=
  let s1 := if s.joining then s.joinFail 8 else s
  let s2 := if 3 ≤ code then s1.linkDown.elxAllDown else s1
  let s3 := if code = 4 then s2.holdSave else s2
  let off := fun (st : State) (d : Nat) => decide (st.dom d = .off) || decide (rungDom code d = .off)
  let s4 := if 4 ≤ code then s3.loseDomains (off s3) else s3
  let s5 := forUpTo (fun d st => if st.dom d = .off then st else st.setDom d (rungDom code d)) 0 12 s4
  { s5 with pwr := { s5.pwr with
      entering := none, rung := code, rising := [], tbStop := s.tb
      ready := s5.pwr.ready && decide (code < 5)
      ktRun := s5.pwr.ktRun && decide (code ≠ 7)
      pwren := s5.pwr.pwren && !(decide (6 ≤ code) && s.flag Reg.PWR_CTL 0 0) } }

/-- RUNG_ENTRY: the last word of the RUNG reply has left, or 20,000 ticks have passed since it was queued (R644). -/
def execRungEntry (s : State) : Host.Outcome State Fault Refusal :=
  .next (match s.pwr.entering with
    | some e => if e.left = 0 ∨ e.since + 20000 ≤ s.tb then s.enterRung e.code else s
    | none => s)

/-- R472: when the router starts, each held latch gives one arrival and clears (DEDUCED, note 67). -/
def State.freeLatches (s : State) : State :=
  let s1 := s.irc.latches.foldl (fun st w => st.arrive (0x0C0 + w)) s
  { s1 with irc := { s1.irc with latches := [] } }

/-- R640, R647: the domains that PWR_DOM selects are ON again; one that was being switched on comes on as R640 says. -/
def State.domainsBack (s : State) : State :=
  forUpTo (fun d st =>
    if bit (st.cfg Reg.PWR_DOM 0) d then (if st.dom d = .off then st.domainOn d else st.setDom d .on) else st) 0 12 s

/-- R647, R34: the working copies that a domain lost are rebuilt from their Lattice sources, with the checks of their first load
(DEDUCED, note 67). -/
def State.rebuildCopies (s : State) : State :=
  let arcs := (List.range 16).map (fun m => (regKey (Reg.ARC_EN0 + m) 0, toWord (s.cfg (Reg.ARC_EN0 + m) 0)))
  let gen := s.cfg Reg.DRV_PCTL 0
  let prof := (Tbl.find? (regKey Reg.DRV_PCTL 0) s.regs).isSome
  let set := arcs ++ (if prof then [(regKey Reg.DRV_PCTL 0, toWord gen)] else [])
  let s1 := { s with commit := { s.commit with pending := true, closed := set } }.arcPrepare.drivePrepare
  let s2 := { s1 with commit := { s1.commit with pending := false, closed := [] } }.arcApply (fun _ => true)
  if prof then s2.profApply gen else s2

/-- R646: the Time Base after a stay of k keep-oscillator periods (DESIGN CHOICE, note 72). -/
def restoredTime (tbs k : Nat) : Tick := tbs + max k 1 * 390625 / 64

/-- R646: the Time Base is restored on leaving Doze to Still. -/
def State.restoreTime (s : State) (rung k : Nat) : State :=
  ({ s with tb := restoredTime s.pwr.tbStop k, pwr := { s.pwr with tbrest := true }
            time := { s.time with aligned := s.elx.arole == 2 } }).report 0x2F46 rung

/-- R649: what every wake leaves: Run, the rung left, and the report. -/
def State.wakeDone (s : State) (rung : Nat) : State :=
  ({ s with pwr := { s.pwr with rung := 0, wake := false, pwren := true, wakeFrom := rung } }).report 0x1F41 rung

/-- R647: Hold is left: the saved values are in effect again, the working copies are rebuilt and the tables reloaded (DEDUCED, note 67). -/
def State.leaveHold (s : State) : State :=
  let s1 := s.domainsBack
  let s2 := { s1 with regs := s.pwr.saved, pwr := { s1.pwr with saved := [] } }
  s2.elxReset.rebuildCopies.readTables

/-! ### Resets (R651 to R653) -/

/-- R629, R651: a field whose programming a reset cuts short holds a free value (DEDUCED, note 68). -/
def State.fuseTorn (s : State) : State :=
  match s.fus.prog with
  | some (f, _) =>
    let (v, s1) := s.freeVal
    { s1 with fus := { s1.fus with prog := none, array := Tbl.put 0 f (v % 0x100000000) s1.fus.array } }
  | none => s

/-- R651, R665: a device reset: every block at its reset state, but for what the keep domain, the fuses and the flash hold, the levels at
the pins, and the memories of the domains that stay powered. The Lattice is left unchanged (R308) until the boot fills it (R654)
(DEDUCED, notes 9, 68). -/
def State.deviceReset (s0 : State) (cause : Nat) : State :=
  let s := s0.fuseTorn
  let kept := if cause = 3 ∨ cause = 4 then (List.range 12).filter (fun d => s.domOn d) else []
  let keeps := decide (cause ≠ 1)
  ({ pending := s.pending, free := s.free
     regs := if keeps then s.regs.filter (fun p => keepReg (p.1 % 0x1000000)) else []
     time := { isl := relocked s.time.isl }
     lat := { mem := s.lat.mem, errs := s.lat.errs, repairLog := s.lat.repairLog }
     irc := { wcause := if cause = 5 then s.irc.latches.foldl (fun acc w => if bit s.irc.wcause w then acc + 2 ^ w else acc) 0 else 0 }
     fus := { array := s.fus.array, flash := s.fus.flash, factoryA := s.fus.factoryA, factoryB := s.fus.factoryB, markB := s.fus.markB }
     pwr := { rcause := cause, vgdok := s.pwr.vgdok, kept := kept
              ktim := if keeps then s.pwr.ktim else 0, ktRun := keeps && s.pwr.ktRun, verified := keeps && s.pwr.verified }
     wheel := s.wheel.fresh, cmd := s.cmd.fresh, tap := s.tap
     lan := { pads := s.lan.pads
              mem := s.lan.mem.filter (fun p => kept.contains (laneDom (p.1 / 0x2000)))
              parity := s.lan.parity.filter (fun a => kept.contains (laneDom (a / 0x2000))) } } : State).report 0x1F40 cause

/-- POWER_ON_RESET: VKEEP rises through its threshold (R651). -/
def execPowerOnReset (s : State) : Host.Outcome State Fault Refusal := .next (s.deviceReset 1)

/-- SUPPLY_RESET: VCORE, VDDA or VIO falls below its threshold while VKEEP holds (R651); while PWREN is low the board may remove them
(R650) (DEDUCED, note 68). -/
def execSupplyReset (s : State) : Host.Outcome State Fault Refusal := .next (if s.pwr.pwren then s.deviceReset 2 else s)

/-- PIN_RESET: RSTN has been low for `ticks` ticks; whether a pulse of 20 to 199 ticks resets the device is free (R651)
(DEDUCED, note 68). -/
def execPinReset (ticks : Nat) (s : State) : Host.Outcome State Fault Refusal :=
  .next (
    if 200 ≤ ticks then s.deviceReset 3
    else if ticks < 20 then s
    else
      let (v, s1) := s.freeVal
      if v % 2 = 1 then s1.deviceReset 3 else s1)

/-- RESET: a device reset is commanded (R652). -/
def execReset (s : State) : Host.Outcome State Fault Refusal :=
  .next (s.take (· == 0x79) (fun _ _ vals st =>
    if nth 0 vals 0 = 1 then
      let s1 := st.finishPacket 0x00 0 []
      { s1 with pwr := { s1.pwr with resetAt := some s1.tb } }
    else st.finishPacket 0x14 0 []))

/-- COMMAND_RESET: 10,000 ticks after the reply of RESET was queued (R652). -/
def execCommandReset (s : State) : Host.Outcome State Fault Refusal :=
  .next (match s.pwr.resetAt with
    | some t => if t + 10000 ≤ s.tb then s.deviceReset 4 else s
    | none => s)

/-! ### Waking (R646 to R649) -/

/-- RUNG_EXIT: the wake that waits returns the device to Run; `k` counts the keep-oscillator periods since the Time Base clock stopped.
The boot that Keep, Still and Vault need follows as COLD_BOOT (DEDUCED, note 67). -/
def execRungExit (k : Nat) (s : State) : Host.Outcome State Fault Refusal :=
  .next (
    let r := s.pwr.rung
    if r = 0 ∨ s.pwr.wake = false then s
    else if r ≤ 2 then (s.domainsBack.freeLatches).wakeDone r
    else if r = 3 then ((s.restoreTime r k).domainsBack.freeLatches).wakeDone r
    else if r = 4 then ((s.restoreTime r k).leaveHold.freeLatches).wakeDone r
    else if r = 5 then
      let s1 := (s.restoreTime r k).wakeDone r
      { s1 with pwr := { s1.pwr with booting := true, bootFrom := 5, kept := [] } }
    else if r = 6 then
      let s1 := s.restoreTime r k
      let s2 := { s1 with fus := { array := s.fus.array, flash := s.fus.flash, factoryA := s.fus.factoryA, factoryB := s.fus.factoryB,
                                   markB := s.fus.markB, bootB := s.fus.bootB }
                          pwr := { rcause := s.pwr.rcause, vgdok := s.pwr.vgdok, tbrest := true, ktim := s.pwr.ktim, ktRun := s.pwr.ktRun,
                                   verified := s.pwr.verified, booting := true, bootFrom := 6 } }
      s2.wakeDone r
    else (s.deviceReset 5).wakeDone r)

/-- KEEP_TIMER_EXPIRY: PWR_KTIM has counted down to 0 and sets wake latch 14, where its EDGE is not off (R649, R664) (DEDUCED, note 67). -/
def execKeepTimerExpiry (s : State) : Host.Outcome State Fault Refusal :=
  .next (
    if s.pwr.ktRun then
      let s1 := { s with pwr := { s.pwr with ktim := 0, ktRun := false } }
      if s1.fld Reg.IRC_WCFG 14 14 13 = 0 then s1 else s1.latchSet 14
    else s)

/-! ### Boot (R654, R655, R633) -/

/-- R625: the repair log as mappings, spares taken in order. -/
def restoredMaps : List (Nat × Nat) → List RowMap → List RowMap
  | [], acc => acc
  | (b, r) :: l, acc => restoredMaps l (acc ++ [⟨b, r, (acc.filter (fun m => m.bank == b)).length, false, 0⟩])

/-- Step 2: fuse shadows and repair log. -/
def State.bootFuses (s : State) : State :=
  let s1 := forUpTo (fun f st => st.fuseShadow f) 0 128 s
  { s1 with lat := { s1.lat with maps := restoredMaps s1.lat.repairLog [] } }

/-- Step 3: the image is chosen; in ROM mode none. -/
def State.bootImage (s : State) : State :=
  let m := s.fus.markB
  let ok := fun (st : State) (b : Bool) =>
    { st with fus := { st.fus with bootB := b }, pwr := { st.pwr with verified := true } }
  if s.slotOk m then ok s m
  else
    let s1 := s.report 0x4F05 (b2n m)
    if s1.slotOk (!m) then ok s1 (!m) else { s1 with sup := { running := false, rom := true } }

/-- Step 4: a row that fails its test is mapped and logged, or stays where no spare row is left. -/
def State.bootRow (s : State) (p : Nat × Nat) : State :=
  let used := (s.lat.maps.filter (fun m => m.bank == p.1)).length
  if 4 ≤ p.1 ∨ 512 ≤ p.2 then s
  else if used < 16 then
    { s with lat := { s.lat with maps := s.lat.maps ++ [RowMap.mk p.1 p.2 used false 0], repairLog := s.lat.repairLog ++ [p] } }.report 0x3E03
      (rowAux p.1 p.2)
  else s.report 0x3E04 (rowAux p.1 p.2)

/-- Step 4: the Lattice tested, where the boot is a cold one, and filled. -/
def State.bootLattice (s : State) (bad : List (Nat × Nat)) : State :=
  let s1 := if s.pwr.bootFrom = 0 then bad.foldl State.bootRow s else s
  { s1 with lat := { maps := s1.lat.maps, repairLog := s1.lat.repairLog
                     scrub := (List.range 4).map (fun b => (b, { start := s1.tb })) } }

/-- Step 5: the firmware starts, the domains come on, and the memories of the clusters that were off are filled. -/
def State.bootStart (s : State) : State :=
  let s1 := { s with
    sup := { running := true, rom := false }
    regs := Tbl.erase (regKey Reg.PWR_DOM 0) s.regs
    lan := { s.lan with mem := s.lan.mem.filter (fun p => s.pwr.kept.contains (laneDom (p.1 / 0x2000)))
                        parity := s.lan.parity.filter (fun a => s.pwr.kept.contains (laneDom (a / 0x2000))) }
    pwr := { s.pwr with dom := (List.range 12).map (fun d => (d, Dom.on)) } }
  s1.elxReset.freeLatches

/-- R656: the blocks of a body: address and values of each, where the body is well formed and ends with its last block. -/
def parseBlocks : Nat → List Nat → Option (List (Nat × List Nat))
  | 0, _ => none
  | _ + 1, [] => some []
  | n + 1, lo :: hi :: cnt :: rest =>
    if (rwFault [lo, hi, cnt]).isNone && decide (cnt ≤ rest.length) then
      (parseBlocks n (rest.drop cnt)).map (fun l => (lo + 65536 * (hi % 256), rest.take cnt) :: l)
    else none
  | _ + 1, _ => none

/-- R658, check 5 of one block: its range under R515, its register values under check 10. -/
def blockOk (b : Nat × List Nat) : Bool :=
  oneRegion b.1 b.2.length && wrOpen b.1 b.2.length && (decide (b.1 < 0xF00000) || (badField b.1 0 b.2).isNone)

/-- R658: the checks of the image: its blocks, or the value of RES. -/
def State.cfgImage (s : State) : Except Nat (List (Nat × List Nat)) :=
  let w := fun i => s.flashWord (cfgBase + i)
  let body := w 5 + 65536 * w 6
  let bw := s.flashWords (cfgBase + 10) body
  if w 0 = 0xFFFF then .error 2
  else if w 0 ≠ 0x5343 ∨ w 1 ≠ 1 then .error 3
  else if body < 8 ∨ 262134 < body ∨ crc32 (s.flashWords cfgBase 8 ++ bw) ≠ w 8 + 65536 * w 9 then .error 4
  else if w 2 ≠ s.stateFormat then .error 5
  else if (badPair 0 (bw.map toWord)).isSome then .error 6
  else if w 3 > 1 ∨ w 7 ≠ 0 ∨ body % 2 = 1 then .error 7
  else match parseBlocks body (pairValues (bw.map toWord)) with
    | some l => if l.all blockOk then .ok l else .error 7
    | none => .error 7

/-- R658: the blocks written in order until a value is refused: the state and the index of that block. -/
def State.writeBlocks (s : State) : Nat → List (Nat × List Nat) → State × Option Nat
  | _, [] => (s, none)
  | i, b :: bs =>
    match s.writeMany false b.1 0 b.2 with
    | (s1, none) => s1.writeBlocks (i + 1) bs
    | (s1, some _) => (s1, some i)

/-- PWR_CFGSTAT.RES set (DEDUCED, note 69). -/
def State.cfgResult (s : State) (r : Nat) : State := { s with pwr := { s.pwr with cfgRes := r } }

/-- R658: the writing stops at block i: the open set is cancelled. -/
def State.cfgStop (s : State) (i : Nat) : State :=
  (({ s with staged := [] }.logRestart).cfgResult 8).report 0x4F43 i

/-- R57: the prepare messages of the pending set reach their islands, and the acknowledgements SUP. -/
def State.prepareAll (s : State) : State :=
  let s1 := s.commit.prepares.foldl (fun st i => after (execIslandPrepare i st) st) s
  s1.commit.acks.foldl (fun st i => after (execIslandAck i st) st) s1

/-- R658, R52 to R57: the open set is closed, decided and applied at its commit tick. -/
def State.cfgCommit (s : State) (last : Nat) : State :=
  if s.staged.isEmpty then s.cfgResult 1
  else if !s.setOk then s.cfgStop last
  else
    let c := s.replicaNow 1 + s.cfg Reg.TB_CLEAD 0
    let s1 := s.closeSet .launch c
    let s2 := { s1 with commit := { s1.commit with standing := true } }.prepareAll
    let s3 := { s2 with tb := c - 128 }
    let s4 := { (after (execCommitDecision s3) s3) with tb := c }
    after (execCommitApply s4) s4

/-- Step 6: the standing configuration is checked, written and committed (R658, R660) (DEDUCED, note 69). -/
def State.bootConfig (s : State) : State :=
  match s.cfgImage with
  | .error r => if r = 2 then s.cfgResult 2 else (s.cfgResult r).report 0x4F42 r
  | .ok l =>
    match s.writeBlocks 0 l with
    | (s1, some i) => s1.cfgStop i
    | (s1, none) =>
      let s2 := s1.cfgCommit (l.length - 1)
      if s2.pwr.limited then { s2 with pwr := { s2.pwr with hltmo := s2.flashWord (cfgBase + 4) } } else s2

/-- Step 7: the tables are reloaded where the image says so, and the device is READY (R659, R655) (DEDUCED, note 68). -/
def State.bootReady (s : State) (at_ : Tick) : State :=
  let s1 : State :=
    if s.pwr.limited && bit (s.flashWord (cfgBase + 3)) 0 then
      let t := after (execLoad s) s
      if t.tan.loading.isSome then t.readTables else t
    else s
  let t := max at_ s1.tb
  { s1 with tb := t, pwr := { s1.pwr with ready := true, readyAt := t, readyPulse := some (t + 200), booting := false, bootFrom := 0
                                          kept := [] } }

/-- R44, R654: the tick in which the boot's steps begin to count: 0 in a cold boot, whose ANGLE domain then starts the Time Base; the
restored value after Keep or Still. -/
def State.bootBase (s : State) : Tick := if s.pwr.bootFrom = 0 then 0 else s.tb

/-- R649, R654: the bound of steps 1 to 6, or of steps 4 to 6 after Keep, in ticks. -/
def State.bootLead (s : State) : Nat := if s.pwr.bootFrom = 5 then 2300000 else 3900000

/-- COLD_BOOT: the boot runs its steps: the standing configuration is written in tick `cfgAt` and READY comes in tick `readyAt`; `bad`
lists bank and row of the rows that fail the self-test. Where no image verifies the device stays in ROM mode, from tick `cfgAt` on
(R654, R633) (DEDUCED, notes 9, 68). -/
def execColdBoot (cfgAt readyAt : Nat) (bad : List (Nat × Nat)) (s0 : State) : Host.Outcome State Fault Refusal :=
  .next (
    let s := { s0 with tb := s0.bootBase }
    if s.pwr.booting ∧ s.tb ≤ cfgAt ∧ cfgAt ≤ s.tb + s.bootLead ∧ cfgAt ≤ readyAt ∧ readyAt ≤ s.tb + s.bootLead + 100000 then
      let s1 := if s.pwr.bootFrom = 5 then s else s.bootFuses
      let s2 := if s.pwr.bootFrom = 5 ∨ (s.pwr.bootFrom = 6 ∧ s.pwr.verified = true) then s1 else s1.bootImage
      if s2.sup.rom then
        { s2 with tb := cfgAt, pwr := { s2.pwr with booting := false, dom := (List.range 4).map (fun d => (d, Dom.on)) } }
      else
        let s3 := (s2.bootLattice bad).bootStart
        ({ s3 with tb := cfgAt }).bootConfig.bootReady readyAt
    else s0)

/-- READY_PULSE_END: 200 ticks after READY the router takes HIRQ3 (R655). -/
def execReadyPulseEnd (s : State) : Host.Outcome State Fault Refusal :=
  .next (match s.pwr.readyPulse with
    | some t => if t ≤ s.tb then { s with pwr := { s.pwr with readyPulse := none } } else s
    | none => s)

/-- R660: drive is stopped: every ignition output ends softly, the banks and boost controllers are disabled, the valves are OFF
(DESIGN CHOICE, note 72). -/
def State.hostlessStop (s : State) : State :=
  let ctl := s.cfg Reg.DRV_CTL 0
  let modes := (List.range 8).map (fun n => s.vlvMode n)
  let s1 := after (execSoft 1#16 s) s
  let s2 := (s1.setCfg Reg.DRV_CTL 0 (clearBits ctl 0x033F)).driveApply ctl (s1.cfg Reg.DRV_PCTL 0) false
  let s3 := forUpTo (fun n st => st.setCfg Reg.VLV_CFG n (clearBits (st.cfg Reg.VLV_CFG n) 3)) 0 8 s2
  let s4 := s3.ignVlvApply (s3.cfg Reg.IGN_EN0 0) (s3.cfg Reg.IGN_EN1 0) modes
  ({ s4 with pwr := { s4.pwr with limited := false } }).report 0x4F44 0

/-- HOSTLESS_LIMIT: LIMITED is still 1 HLTMO × 2^20 ticks after the commit tick of the standing configuration (R660)
(DESIGN CHOICE, note 72). -/
def execHostlessLimit (s : State) : Host.Outcome State Fault Refusal :=
  .next (if s.pwr.limited ∧ s.pwr.hltmo ≠ 0 ∧ s.pwr.limFrom + s.pwr.hltmo * 0x100000 ≤ s.tb then s.hostlessStop else s)

end Sys2Proof.Machine
end

