-- ==== Sys2Proof/Machine/Dispatch.lean ====
section
/-! DEFINITION. One arm per command. -/

namespace Sys2Proof.Machine

def exec (i : Instr) (s : State) : Host.Outcome State Fault Refusal :=
  match i with
  | .bridgeMessage lane crcOk => Sys2Proof.Machine.execBridgeMessage lane crcOk s
  | .bridgeSilence => Sys2Proof.Machine.execBridgeSilence s
  | .supervisorLockstepMismatch => Sys2Proof.Machine.execSupervisorLockstepMismatch s
  | .supervisorRestartDone => Sys2Proof.Machine.execSupervisorRestartDone s
  | .fullValueMessage island value => Sys2Proof.Machine.execFullValueMessage island value s
  | .launchArrival island => Sys2Proof.Machine.execLaunchArrival island s
  | .launchExecute island => Sys2Proof.Machine.execLaunchExecute island s
  | .islandPrepare island => Sys2Proof.Machine.execIslandPrepare island s
  | .islandAck island => Sys2Proof.Machine.execIslandAck island s
  | .commitDecision => Sys2Proof.Machine.execCommitDecision s
  | .commitApply => Sys2Proof.Machine.execCommitApply s
  | .tbNow0Read => Sys2Proof.Machine.execTbNow0Read s
  | .tbStaleClr => Sys2Proof.Machine.execTbStaleClr s
  | .registerWrite addr value high => Sys2Proof.Machine.execRegisterWrite addr value high s
  | .crankEdge input crossing => Sys2Proof.Machine.execCrankEdge input crossing s
  | .vrPeakRecord input => Sys2Proof.Machine.execVrPeakRecord input s
  | .armThresholdTimeout input => Sys2Proof.Machine.execArmThresholdTimeout input s
  | .camEdge cam level => Sys2Proof.Machine.execCamEdge cam level s
  | .dirTrailingEdge input => Sys2Proof.Machine.execDirTrailingEdge input s
  | .dirReverseDecision input => Sys2Proof.Machine.execDirReverseDecision input s
  | .angCntClr value => Sys2Proof.Machine.execAngCntClr value s
  | .angVtxSel value => Sys2Proof.Machine.execAngVtxSel value s
  | .syncStallTimeout => Sys2Proof.Machine.execSyncStallTimeout s
  | .synCmdSearch => Sys2Proof.Machine.execSynCmdSearch s
  | .synClr value => Sys2Proof.Machine.execSynClr value s
  | .cycleBoundary => Sys2Proof.Machine.execCycleBoundary s
  | .save => Sys2Proof.Machine.execSave s
  | .tableSaveDone => Sys2Proof.Machine.execTableSaveDone s
  | .load => Sys2Proof.Machine.execLoad s
  | .tableReloadDone => Sys2Proof.Machine.execTableReloadDone s
  | .clrgeo => Sys2Proof.Machine.execClrgeo s
  | .clrrip => Sys2Proof.Machine.execClrrip s
  | .clrcnt => Sys2Proof.Machine.execClrcnt s
  | .angAccLoRead => Sys2Proof.Machine.execAngAccLoRead s
  | .angS16PerlRead => Sys2Proof.Machine.execAngS16PerlRead s
  | .evqArm value => Sys2Proof.Machine.execEvqArm value s
  | .armRequest => Sys2Proof.Machine.execArmRequest s
  | .armRecordRead => Sys2Proof.Machine.execArmRecordRead s
  | .eventFire out => Sys2Proof.Machine.execEventFire out s
  | .pulseEndFire out => Sys2Proof.Machine.execPulseEndFire out s
  | .guardExpiry out => Sys2Proof.Machine.execGuardExpiry out s
  | .startStatus => Sys2Proof.Machine.execStartStatus s
  | .evqCanCmd value => Sys2Proof.Machine.execEvqCanCmd value s
  | .cancelRequest => Sys2Proof.Machine.execCancelRequest s
  | .evqRcpCmd value => Sys2Proof.Machine.execEvqRcpCmd value s
  | .evqRlostClr => Sys2Proof.Machine.execEvqRlostClr s
  | .evqCntClr value => Sys2Proof.Machine.execEvqCntClr value s
  | .arcLaunchSend arc => Sys2Proof.Machine.execArcLaunchSend arc s
  | .conversionResult conv raw => Sys2Proof.Machine.execConversionResult conv raw s
  | .conversionTimeout conv => Sys2Proof.Machine.execConversionTimeout conv s
  | .referenceCheck conv raw => Sys2Proof.Machine.execReferenceCheck conv raw s
  | .cal value => Sys2Proof.Machine.execCal value s
  | .calibrationDone conv sumL sumH => Sys2Proof.Machine.execCalibrationDone conv sumL sumH s
  | .calibrationTimeout conv => Sys2Proof.Machine.execCalibrationTimeout conv s
  | .arcCntClr value => Sys2Proof.Machine.execArcCntClr value s
  | .frameProcessing => Sys2Proof.Machine.execFrameProcessing s
  | .resultRecordWrite => Sys2Proof.Machine.execResultRecordWrite s
  | .cmbCntClr value => Sys2Proof.Machine.execCmbCntClr value s
  | .fireMessage dest => Sys2Proof.Machine.execFireMessage dest s
  | .pulseStart out => Sys2Proof.Machine.execPulseStart out s
  | .startDropTimeout out => Sys2Proof.Machine.execStartDropTimeout out s
  | .bankCurrentResult bank code net => Sys2Proof.Machine.execBankCurrentResult bank code net s
  | .phaseTimer bank => Sys2Proof.Machine.execPhaseTimer bank s
  | .minSwitchTimeExpiry bank => Sys2Proof.Machine.execMinSwitchTimeExpiry bank s
  | .pulseDurExpiry out => Sys2Proof.Machine.execPulseDurExpiry out s
  | .decayTimeout bank => Sys2Proof.Machine.execDecayTimeout bank s
  | .openLoadCheck bank => Sys2Proof.Machine.execOpenLoadCheck bank s
  | .boostMonitorResult monitor code net => Sys2Proof.Machine.execBoostMonitorResult monitor code net s
  | .boostIlimReached ctl => Sys2Proof.Machine.execBoostIlimReached ctl s
  | .boostTonmaxExpiry ctl => Sys2Proof.Machine.execBoostTonmaxExpiry ctl s
  | .boostToffExpiry ctl => Sys2Proof.Machine.execBoostToffExpiry ctl s
  | .drvTrcCtl value => Sys2Proof.Machine.execDrvTrcCtl value s
  | .drvCntClr value => Sys2Proof.Machine.execDrvCntClr value s
  | .overdwell out => Sys2Proof.Machine.execOverdwell out s
  | .rampEnd out => Sys2Proof.Machine.execRampEnd out s
  | .soft value => Sys2Proof.Machine.execSoft value s
  | .ignOutputFault out => Sys2Proof.Machine.execIgnOutputFault out s
  | .ignCntClr value => Sys2Proof.Machine.execIgnCntClr value s
  | .valveCurrentResult valve code => Sys2Proof.Machine.execValveCurrentResult valve code s
  | .valveTonExpiry valve => Sys2Proof.Machine.execValveTonExpiry valve s
  | .valvePeriodEnd valve => Sys2Proof.Machine.execValvePeriodEnd valve s
  | .latch value => Sys2Proof.Machine.execLatch value s
  | .vlvCntClr value => Sys2Proof.Machine.execVlvCntClr value s
  | .drvDgClr value => Sys2Proof.Machine.execDrvDgClr value s
  | .larNop lane => Sys2Proof.Machine.execLarNop lane s
  | .larHalt lane => Sys2Proof.Machine.execLarHalt lane s
  | .larRet lane => Sys2Proof.Machine.execLarRet lane s
  | .larRetv lane => Sys2Proof.Machine.execLarRetv lane s
  | .larTrap lane => Sys2Proof.Machine.execLarTrap lane s
  | .larJr lane => Sys2Proof.Machine.execLarJr lane s
  | .larAdd lane => Sys2Proof.Machine.execLarAdd lane s
  | .larAdc lane => Sys2Proof.Machine.execLarAdc lane s
  | .larSub lane => Sys2Proof.Machine.execLarSub lane s
  | .larSbc lane => Sys2Proof.Machine.execLarSbc lane s
  | .larAnd lane => Sys2Proof.Machine.execLarAnd lane s
  | .larOr lane => Sys2Proof.Machine.execLarOr lane s
  | .larXor lane => Sys2Proof.Machine.execLarXor lane s
  | .larCmp lane => Sys2Proof.Machine.execLarCmp lane s
  | .larMov lane => Sys2Proof.Machine.execLarMov lane s
  | .larTst lane => Sys2Proof.Machine.execLarTst lane s
  | .larNeg lane => Sys2Proof.Machine.execLarNeg lane s
  | .larNot lane => Sys2Proof.Machine.execLarNot lane s
  | .larMulu lane => Sys2Proof.Machine.execLarMulu lane s
  | .larMuls lane => Sys2Proof.Machine.execLarMuls lane s
  | .larDivu lane => Sys2Proof.Machine.execLarDivu lane s
  | .larDivs lane => Sys2Proof.Machine.execLarDivs lane s
  | .larShl lane => Sys2Proof.Machine.execLarShl lane s
  | .larShr lane => Sys2Proof.Machine.execLarShr lane s
  | .larSar lane => Sys2Proof.Machine.execLarSar lane s
  | .larRor lane => Sys2Proof.Machine.execLarRor lane s
  | .larRol lane => Sys2Proof.Machine.execLarRol lane s
  | .larPar lane => Sys2Proof.Machine.execLarPar lane s
  | .larBrev lane => Sys2Proof.Machine.execLarBrev lane s
  | .larSwpb lane => Sys2Proof.Machine.execLarSwpb lane s
  | .larShli lane => Sys2Proof.Machine.execLarShli lane s
  | .larShri lane => Sys2Proof.Machine.execLarShri lane s
  | .larSari lane => Sys2Proof.Machine.execLarSari lane s
  | .larRori lane => Sys2Proof.Machine.execLarRori lane s
  | .larAddi lane => Sys2Proof.Machine.execLarAddi lane s
  | .larSubi lane => Sys2Proof.Machine.execLarSubi lane s
  | .larCmpi lane => Sys2Proof.Machine.execLarCmpi lane s
  | .larMovi lane => Sys2Proof.Machine.execLarMovi lane s
  | .larBrevn lane => Sys2Proof.Machine.execLarBrevn lane s
  | .larLd lane => Sys2Proof.Machine.execLarLd lane s
  | .larSt lane => Sys2Proof.Machine.execLarSt lane s
  | .larLdi lane => Sys2Proof.Machine.execLarLdi lane s
  | .larLda lane => Sys2Proof.Machine.execLarLda lane s
  | .larSta lane => Sys2Proof.Machine.execLarSta lane s
  | .larJmp lane => Sys2Proof.Machine.execLarJmp lane s
  | .larCall lane => Sys2Proof.Machine.execLarCall lane s
  | .larDjnz lane => Sys2Proof.Machine.execLarDjnz lane s
  | .larBr lane => Sys2Proof.Machine.execLarBr lane s
  | .larMfsl lane => Sys2Proof.Machine.execLarMfsl lane s
  | .larMfsh lane => Sys2Proof.Machine.execLarMfsh lane s
  | .larMtsl lane => Sys2Proof.Machine.execLarMtsl lane s
  | .larMtsh lane => Sys2Proof.Machine.execLarMtsh lane s
  | .larCtcRun lane => Sys2Proof.Machine.execLarCtcRun lane s
  | .larCtcStop lane => Sys2Proof.Machine.execLarCtcStop lane s
  | .larCtcClear lane => Sys2Proof.Machine.execLarCtcClear lane s
  | .larPclr lane => Sys2Proof.Machine.execLarPclr lane s
  | .larPset lane => Sys2Proof.Machine.execLarPset lane s
  | .larPtgl lane => Sys2Proof.Machine.execLarPtgl lane s
  | .larPmovc lane => Sys2Proof.Machine.execLarPmovc lane s
  | .larWait lane => Sys2Proof.Machine.execLarWait lane s
  | .waitSatisfied lane => Sys2Proof.Machine.execWaitSatisfied lane s
  | .larShift lane => Sys2Proof.Machine.execLarShift lane s
  | .shiftEdge lane => Sys2Proof.Machine.execShiftEdge lane s
  | .larCrcb lane => Sys2Proof.Machine.execLarCrcb lane s
  | .larRep lane => Sys2Proof.Machine.execLarRep lane s
  | .larBmov lane => Sys2Proof.Machine.execLarBmov lane s
  | .larBfil lane => Sys2Proof.Machine.execLarBfil lane s
  | .larBcmp lane => Sys2Proof.Machine.execLarBcmp lane s
  | .larBcrc lane => Sys2Proof.Machine.execLarBcrc lane s
  | .larTang lane => Sys2Proof.Machine.execLarTang lane s
  | .larTrate lane => Sys2Proof.Machine.execLarTrate lane s
  | .larTpred lane => Sys2Proof.Machine.execLarTpred lane s
  | .larTrpm lane => Sys2Proof.Machine.execLarTrpm lane s
  | .larTsyn lane => Sys2Proof.Machine.execLarTsyn lane s
  | .larTvtx lane => Sys2Proof.Machine.execLarTvtx lane s
  | .larTa2t lane => Sys2Proof.Machine.execLarTa2t lane s
  | .larC32i lane => Sys2Proof.Machine.execLarC32i lane s
  | .larC32w lane => Sys2Proof.Machine.execLarC32w lane s
  | .larC32f lane => Sys2Proof.Machine.execLarC32f lane s
  | .larC16w lane => Sys2Proof.Machine.execLarC16w lane s
  | .larHshi lane => Sys2Proof.Machine.execLarHshi lane s
  | .larHshw lane => Sys2Proof.Machine.execLarHshw lane s
  | .larLwr lane => Sys2Proof.Machine.execLarLwr lane s
  | .larLww lane => Sys2Proof.Machine.execLarLww lane s
  | .larLwri lane => Sys2Proof.Machine.execLarLwri lane s
  | .larLwwi lane => Sys2Proof.Machine.execLarLwwi lane s
  | .larEwr lane => Sys2Proof.Machine.execLarEwr lane s
  | .larEarm lane => Sys2Proof.Machine.execLarEarm lane s
  | .larEcan lane => Sys2Proof.Machine.execLarEcan lane s
  | .larCmbrdPstat lane => Sys2Proof.Machine.execLarCmbrdPstat lane s
  | .larCmbrdPmax lane => Sys2Proof.Machine.execLarCmbrdPmax lane s
  | .larCmbrdImep lane => Sys2Proof.Machine.execLarCmbrdImep lane s
  | .larCmbrdQmax lane => Sys2Proof.Machine.execLarCmbrdQmax lane s
  | .larCmbrdA10A50 lane => Sys2Proof.Machine.execLarCmbrdA10A50 lane s
  | .larCmbrdA90Lat lane => Sys2Proof.Machine.execLarCmbrdA90Lat lane s
  | .larCmbrdKstat lane => Sys2Proof.Machine.execLarCmbrdKstat lane s
  | .larCmbrdKint lane => Sys2Proof.Machine.execLarCmbrdKint lane s
  | .extUnitAnswer lane => Sys2Proof.Machine.execExtUnitAnswer lane s
  | .compareMatch lane cmp => Sys2Proof.Machine.execCompareMatch lane cmp s
  | .gpPinEdge pin level => Sys2Proof.Machine.execGpPinEdge pin level s
  | .vectorEntry lane => Sys2Proof.Machine.execVectorEntry lane s
  | .lanCmdHalt value => Sys2Proof.Machine.execLanCmdHalt value s
  | .lanCmdStart value => Sys2Proof.Machine.execLanCmdStart value s
  | .lanCmdContinue value => Sys2Proof.Machine.execLanCmdContinue value s
  | .lanRdlRead => Sys2Proof.Machine.execLanRdlRead s
  | .lanRdlWrite value => Sys2Proof.Machine.execLanRdlWrite value s
  | .lanClr value => Sys2Proof.Machine.execLanClr value s
  | .spareIdle value => Sys2Proof.Machine.execSpareIdle value s
  | .spareNow value => Sys2Proof.Machine.execSpareNow value s
  | .spareCancel value => Sys2Proof.Machine.execSpareCancel value s
  | .spareTakeover cluster => Sys2Proof.Machine.execSpareTakeover cluster s
  | .memoryFillDone cluster => Sys2Proof.Machine.execMemoryFillDone cluster s
  | .fbkSincosSample port sin cos => Sys2Proof.Machine.execFbkSincosSample port sin cos s
  | .quadEdge port a b => Sys2Proof.Machine.execQuadEdge port a b s
  | .observerUpdate port => Sys2Proof.Machine.execObserverUpdate port s
  | .fbkStillTimeout port => Sys2Proof.Machine.execFbkStillTimeout port s
  | .fbkCmpvLo value => Sys2Proof.Machine.execFbkCmpvLo value s
  | .disarm value => Sys2Proof.Machine.execDisarm value s
  | .clrpok value => Sys2Proof.Machine.execClrpok value s
  | .fbkClrcnt value => Sys2Proof.Machine.execFbkClrcnt value s
  | .fbkPosLoRead => Sys2Proof.Machine.execFbkPosLoRead s
  | .fbkSsiD0Read => Sys2Proof.Machine.execFbkSsiD0Read s
  | .ssiPeriodicTrigger port high => Sys2Proof.Machine.execSsiPeriodicTrigger port high s
  | .start value high => Sys2Proof.Machine.execStart value high s
  | .ssiFrameBegin port => Sys2Proof.Machine.execSsiFrameBegin port s
  | .ssiTimeout port rd => Sys2Proof.Machine.execSsiTimeout port rd s
  | .ssiFrameComplete port rd => Sys2Proof.Machine.execSsiFrameComplete port rd s
  | .sourceArrival src => Sys2Proof.Machine.execSourceArrival src s
  | .ircSet value => Sys2Proof.Machine.execIrcSet value s
  | .ircAckcnt value => Sys2Proof.Machine.execIrcAckcnt value s
  | .ircHvecRead line => Sys2Proof.Machine.execIrcHvecRead line s
  | .ircScfg value => Sys2Proof.Machine.execIrcScfg value s
  | .deliverySelection tgt => Sys2Proof.Machine.execDeliverySelection tgt s
  | .handshakeEnd tgt => Sys2Proof.Machine.execHandshakeEnd tgt s
  | .strayTimeout src => Sys2Proof.Machine.execStrayTimeout src s
  | .ircStraycntClr value => Sys2Proof.Machine.execIrcStraycntClr value s
  | .ircFlostClr value => Sys2Proof.Machine.execIrcFlostClr value s
  | .faultReport block => Sys2Proof.Machine.execFaultReport block s
  | .faultRecordClose => Sys2Proof.Machine.execFaultRecordClose s
  | .wakeLatchEdge latch rise => Sys2Proof.Machine.execWakeLatchEdge latch rise s
  | .dmaStart value => Sys2Proof.Machine.execDmaStart value s
  | .kick value => Sys2Proof.Machine.execKick value s
  | .stop value => Sys2Proof.Machine.execStop value s
  | .abort value => Sys2Proof.Machine.execAbort value s
  | .clrcred value => Sys2Proof.Machine.execClrcred value s
  | .dmaCntClr value => Sys2Proof.Machine.execDmaCntClr value s
  | .descriptorFetch channel => Sys2Proof.Machine.execDescriptorFetch channel s
  | .pacingCredit channel => Sys2Proof.Machine.execPacingCredit channel s
  | .dmaBurst => Sys2Proof.Machine.execDmaBurst s
  | .barrierEnd channel => Sys2Proof.Machine.execBarrierEnd channel s
  | .csnRise port => Sys2Proof.Machine.execCsnRise port s
  | .packetReceived port opw seq len params crc => Sys2Proof.Machine.execPacketReceived port opw seq len params crc s
  | .ident => Sys2Proof.Machine.execIdent s
  | .rd => Sys2Proof.Machine.execRd s
  | .wr high => Sys2Proof.Machine.execWr high s
  | .arm => Sys2Proof.Machine.execArm s
  | .cancel => Sys2Proof.Machine.execCancel s
  | .rcpswap => Sys2Proof.Machine.execRcpswap s
  | .commit => Sys2Proof.Machine.execCommit s
  | .cmtcancel => Sys2Proof.Machine.execCmtcancel s
  | .sin => Sys2Proof.Machine.execSin s
  | .sout => Sys2Proof.Machine.execSout s
  | .takeover => Sys2Proof.Machine.execTakeover s
  | .release => Sys2Proof.Machine.execRelease s
  | .rejoin => Sys2Proof.Machine.execRejoin s
  | .domain => Sys2Proof.Machine.execDomain s
  | .domread => Sys2Proof.Machine.execDomread s
  | .fwopen => Sys2Proof.Machine.execFwopen s
  | .fwdata => Sys2Proof.Machine.execFwdata s
  | .fwclose => Sys2Proof.Machine.execFwclose s
  | .cfgstore => Sys2Proof.Machine.execCfgstore s
  | .cfgerase => Sys2Proof.Machine.execCfgerase s
  | .rung => Sys2Proof.Machine.execRung s
  | .reset => Sys2Proof.Machine.execReset s
  | .cmdCntClr value => Sys2Proof.Machine.execCmdCntClr value s
  | .belithHello err pairId serial fmt own jst syn => Sys2Proof.Machine.execBelithHello err pairId serial fmt own jst syn s
  | .belithHeartbeat err shadow jst fault own t1 t4 aligned syn => Sys2Proof.Machine.execBelithHeartbeat err shadow jst fault own t1 t4 aligned syn s
  | .heartbeatSend => Sys2Proof.Machine.execHeartbeatSend s
  | .heartbeatLoss => Sys2Proof.Machine.execHeartbeatLoss s
  | .digest err pos half cyc stamp sum => Sys2Proof.Machine.execDigest err pos half cyc stamp sum s
  | .digestTimeout => Sys2Proof.Machine.execDigestTimeout s
  | .releaseFrame err units reason time => Sys2Proof.Machine.execReleaseFrame err units reason time s
  | .handreq err notake units idle role r => Sys2Proof.Machine.execHandreq err notake units idle role r s
  | .handoverRelease units => Sys2Proof.Machine.execHandoverRelease units s
  | .handoverIdleTimeout => Sys2Proof.Machine.execHandoverIdleTimeout s
  | .probeResult driven => Sys2Proof.Machine.execProbeResult driven s
  | .ownFaultRelease => Sys2Proof.Machine.execOwnFaultRelease s
  | .soloTimeout => Sys2Proof.Machine.execSoloTimeout s
  | .mirror err seq sin addr vals high => Sys2Proof.Machine.execMirror err seq sin addr vals high s
  | .areq err seq kind a b c time => Sys2Proof.Machine.execAreq err seq kind a b c time s
  | .bulk err seq addr idx vals staged => Sys2Proof.Machine.execBulk err seq addr idx vals staged s
  | .delta err seq addr vals => Sys2Proof.Machine.execDelta err seq addr vals s
  | .belithJoin err seq msg => Sys2Proof.Machine.execBelithJoin err seq msg s
  | .belithDma err seq vals => Sys2Proof.Machine.execBelithDma err seq vals s
  | .belithAck err seq => Sys2Proof.Machine.execBelithAck err seq s
  | .belithResendTimeout => Sys2Proof.Machine.execBelithResendTimeout s
  | .belithLinkUp => Sys2Proof.Machine.execBelithLinkUp s
  | .belithLinkDown lockLost => Sys2Proof.Machine.execBelithLinkDown lockLost s
  | .copyDone time => Sys2Proof.Machine.execCopyDone time s
  | .joinTimeout => Sys2Proof.Machine.execJoinTimeout s
  | .rejoinTimer => Sys2Proof.Machine.execRejoinTimer s
  | .twnCntClr value => Sys2Proof.Machine.execTwnCntClr value s
  | .elrexHello port err peer frole arole epoch depth aligned => Sys2Proof.Machine.execElrexHello port err peer frole arole epoch depth aligned s
  | .elrexHelloSend port => Sys2Proof.Machine.execElrexHelloSend port s
  | .tmark port err t1 frac epoch depth aligned => Sys2Proof.Machine.execTmark port err t1 frac epoch depth aligned s
  | .tmarkSend port delay => Sys2Proof.Machine.execTmarkSend port delay s
  | .dreqSend delay => Sys2Proof.Machine.execDreqSend delay s
  | .dreq port err num frac => Sys2Proof.Machine.execDreq port err num frac s
  | .dresp port err num t4 => Sys2Proof.Machine.execDresp port err num t4 s
  | .dcmd port err seq cnum action arg target t => Sys2Proof.Machine.execDcmd port err seq cnum action arg target t s
  | .domevt n => Sys2Proof.Machine.execDomevt n s
  | .ignsoft => Sys2Proof.Machine.execIgnsoft s
  | .origin => Sys2Proof.Machine.execOrigin s
  | .dack port err seq cnum applied refused late => Sys2Proof.Machine.execDack port err seq cnum applied refused late s
  | .dackDeadline => Sys2Proof.Machine.execDackDeadline s
  | .domainCommandComplete => Sys2Proof.Machine.execDomainCommandComplete s
  | .frep port err seq rcd => Sys2Proof.Machine.execFrep port err seq rcd s
  | .domainRecordClose => Sys2Proof.Machine.execDomainRecordClose s
  | .notice port err seq kind subj epoch => Sys2Proof.Machine.execNotice port err seq kind subj epoch s
  | .elrexJoin port err seq id frole serial depth => Sys2Proof.Machine.execElrexJoin port err seq id frole serial depth s
  | .jres port err seq id serial result => Sys2Proof.Machine.execJres port err seq id serial result s
  | .lack port err seq => Sys2Proof.Machine.execLack port err seq s
  | .elrexResendTimeout port => Sys2Proof.Machine.execElrexResendTimeout port s
  | .elrexPortUp port => Sys2Proof.Machine.execElrexPortUp port s
  | .elrexPortDown port lockLost => Sys2Proof.Machine.execElrexPortDown port lockLost s
  | .holdoverStart => Sys2Proof.Machine.execHoldoverStart s
  | .holdoverEnd => Sys2Proof.Machine.execHoldoverEnd s
  | .standbyTakeover => Sys2Proof.Machine.execStandbyTakeover s
  | .joinRefresh => Sys2Proof.Machine.execJoinRefresh s
  | .joinEntryExpiry => Sys2Proof.Machine.execJoinEntryExpiry s
  | .elxCntClr value => Sys2Proof.Machine.execElxCntClr value s
  | .elxFrlostClr => Sys2Proof.Machine.execElxFrlostClr s
  | .pairWalkCheck pair ok => Sys2Proof.Machine.execPairWalkCheck pair ok s
  | .scrubRead => Sys2Proof.Machine.execScrubRead s
  | .scrubPassTimeout bank => Sys2Proof.Machine.execScrubPassTimeout bank s
  | .rowCopyDone bank => Sys2Proof.Machine.execRowCopyDone bank s
  | .fusProg value => Sys2Proof.Machine.execFusProg value s
  | .fuseProgramDone => Sys2Proof.Machine.execFuseProgramDone s
  | .latCntClr value => Sys2Proof.Machine.execLatCntClr value s
  | .latInj value => Sys2Proof.Machine.execLatInj value s
  | .flashEraseDone => Sys2Proof.Machine.execFlashEraseDone s
  | .cfgEraseDone => Sys2Proof.Machine.execCfgEraseDone s
  | .domainOn domain => Sys2Proof.Machine.execDomainOn domain s
  | .rungEntry => Sys2Proof.Machine.execRungEntry s
  | .rungExit k => Sys2Proof.Machine.execRungExit k s
  | .keepTimerExpiry => Sys2Proof.Machine.execKeepTimerExpiry s
  | .pwrKtimLo value => Sys2Proof.Machine.execPwrKtimLo value s
  | .claim => Sys2Proof.Machine.execClaim s
  | .hostlessLimit => Sys2Proof.Machine.execHostlessLimit s
  | .vgdLow => Sys2Proof.Machine.execVgdLow s
  | .vgdGood => Sys2Proof.Machine.execVgdGood s
  | .powerOnReset => Sys2Proof.Machine.execPowerOnReset s
  | .supplyReset => Sys2Proof.Machine.execSupplyReset s
  | .pinReset ticks => Sys2Proof.Machine.execPinReset ticks s
  | .commandReset => Sys2Proof.Machine.execCommandReset s
  | .coldBoot cfgAt readyAt bad => Sys2Proof.Machine.execColdBoot cfgAt readyAt bad s
  | .grayCodeParityFailure island => Sys2Proof.Machine.execGrayCodeParityFailure island s
  | .csnFall port => Sys2Proof.Machine.execCsnFall port s
  | .syncWordFound port => Sys2Proof.Machine.execSyncWordFound port s
  | .replyWordSlot port => Sys2Proof.Machine.execReplyWordSlot port s
  | .nopPacket => Sys2Proof.Machine.execNopPacket s
  | .undefinedOpcodePacket => Sys2Proof.Machine.execUndefinedOpcodePacket s
  | .undefinedInstruction lane => Sys2Proof.Machine.execUndefinedInstruction lane s
  | .counterWrap lane ctr => Sys2Proof.Machine.execCounterWrap lane ctr s
  | .entryRebuildDone out => Sys2Proof.Machine.execEntryRebuildDone out s
  | .offsetRebuildDone => Sys2Proof.Machine.execOffsetRebuildDone s
  | .readyPulseEnd => Sys2Proof.Machine.execReadyPulseEnd s
  | .speedWindowStopped => Sys2Proof.Machine.execSpeedWindowStopped s
  | .tckEdge rise tms tdi trstn => Sys2Proof.Machine.execTckEdge rise tms tdi trstn s

end Sys2Proof.Machine
end

