-- ==== Sys2Proof/Machine/Clock.lean ====
section
/-! DEFINITION. What a tick of the Time Base does by itself at its beginning and at its end: the set whose tick C it is, the work put down
for it, and the change of state of the synchronisation machine (01_architecture.md R39; 02_time_base.md R56; 04_sync.md R115). -/

namespace Sys2Proof.Machine

/-- The order in which the work of one tick is done: what the inputs bring, then the machine, then the queues, then the converters
(R39, R84, R89, R115) (DESIGN CHOICE, note 11). -/
def Work.rank : Work → Nat
  | .level _ _ => 0
  | .applyLag _ => 1
  | .trail _ _ => 2
  | .dir _ _ => 3
  | .closeDir _ => 4
  | .check _ _ => 5
  | .camCheck _ _ _ _ => 6
  | .vertex _ _ _ => 7
  | .cam _ _ _ _ => 8
  | .camPos _ _ => 9
  | .early _ _ _ _ _ => 10
  | .commits => 11
  | .digest _ => 12
  | .heads => 13
  | .head _ => 13
  | .rearm _ _ => 14
  | .arc _ => 15
  | .slotHold _ => 16
  | .slot _ => 17
  | .rdlWrite _ _ _ => 18
  | .rdlRead _ _ => 18
  | .rdPacket _ _ _ => 18
  | .wrPacket _ _ _ => 18

/-- One piece of work put down for this tick is done. The skipped range of an early anchor meets the change of state of its tick first
(R127, R198). -/
def State.doWork (s : State) : Work → State
  | .level i high => s.showLevel i high
  | .applyLag set => s.applySet set
  | .closeDir i => s.closeDir i
  | .trail i t => s.trailCheck i t
  | .dir i code => s.directionDecided i code
  | .check i e => s.edgeCheck i e
  | .camCheck cam lvl e a => s.camCheck cam lvl e a
  | .vertex e p pp => s.vertexWork e p pp
  | .cam cam lvl e a => s.camWork cam lvl e a
  | .camPos cam e => s.camPos cam e
  | .early oldE from_ a rate gone =>
    let s1 := s.settle
    (s1.earlyFires from_ a s1.tb rate gone).arcsEarly oldE from_ a s1.tb
  | .commits => s.commitAll.arcsAtAnchor s.tb
  | .digest e => s.formDigest e
  | .heads => s.commitAll
  | .head o => s.commitOut o
  | .rearm b k => s.rearmOne b k
  | .arc n => s.arcAdvance n s.tb
  | .slot k => s.convSlot k
  | .slotHold k => s.convSlotHold k
  | .rdlWrite l item v => if s.laneOn l then (s.outsideWrite l item v).getD s else s
  | .rdlRead l item => if s.laneOn l then s.rdlRead l item else s
  | .rdPacket bare a n => if s.cmd.cur.isSome then s.rdRun bare a n else s
  | .wrPacket high a vals => if s.cmd.cur.isSome then s.wrRun high a vals else s

/-- Work in the order of its ranks, and of one rank in the order in which it was put down. -/
def byRank (l : List (Tick × Work)) : List (Tick × Work) :=
  (List.range 19).flatMap (fun r => l.filter (fun w => decide (w.2.rank = r)))

/-- The work of this tick, and of ticks that a slew or a step has passed over, is done; a boundary of the segment that it may end is
counted first (R139). -/
def State.workDue (s : State) : State :=
  if s.agenda.any (fun w => decide (w.1 ≤ s.tb)) then
    let s1 := s.catchUp s.tb
    (byRank (s1.agenda.filter (fun w => decide (w.1 ≤ s1.tb)))).foldl (fun st w => st.doWork w.2)
      { s1 with agenda := s1.agenda.filter (fun w => decide (s1.tb < w.1)) }
  else s

/-- The beginning of a tick, whose Time Base value the state holds already: the set that applies in it, the conversions that the ADC
island begins by itself, and the work put down for it (DESIGN CHOICE, notes 5, 11). -/
def State.beginTick (s : State) : State := (((s.commitNow.refsDue).trackHold 0).trackHold 1).workDue

/-- The end of a tick: the synchronisation machine makes the change of state that is still due in it (R115). -/
def State.endTick (s : State) : State :=
  let s1 := s.settle
  { s1 with sync := { s1.sync with acted := false } }

/-- R44, R45: the next Time Base value, with a slew; no count or bit has been touched in the tick that begins. -/
def State.nextTick (s : State) : State :=
  { s with tb := ((s.tb : Int) + 1 + s.time.slew).toNat, time := { s.time with slew := 0 }, hits := [] }

end Sys2Proof.Machine
end

