-- ==== Sys2Proof/Machine/Tick.lean ====
section
/-! DEFINITION. One tick of the Time Base (02_time_base.md R44; 20_power_reset_boot.md R643, R646). -/

namespace Sys2Proof.Machine

/-- A tick in Run ends and the next begins: the change of state that is still due, the lanes' counters, comparisons and compare actions, what
the pair does by itself and what unit 0 will see of the tick (R417); then the next Time Base value, with a slew of R45, and what its tick
begins with (R44, R45) (DESIGN CHOICE, notes 1, 11). -/
def State.runTick (s : State) : State :=
  let s0 := s.endTick
  let s1 := forUpTo (fun l st => (st.parityTick l).laneTick l) 0 64 s0
  let s2 := s1.twnTick
  ({ s2 with lan := { s2.lan with u0 := (s2.unitZero :: s2.lan.u0).take 12 } }).nextTick.beginTick

/-- R643, R646: a tick in Run; in Poise and Nap only the Time Base counts; from Doze on the Time Base stands. In a cold boot it starts from 0
when the ANGLE domain does (R44, R654) (DESIGN CHOICE, note 1). -/
def State.tick (s : State) : State :=
  if s.pwr.booting && decide (s.pwr.bootFrom = 0) then s
  else if s.pwr.rung = 0 then s.runTick else if s.pwr.rung < 3 then { s with tb := s.tb + 1 } else s

end Sys2Proof.Machine
end

