-- ==== Sys2Proof/Safety.lean ====
section
/-! DEFINITION. What counts as a sound state of the block, and what a command leaves as it was, in the terms the statements use. -/

namespace Sys2Proof.Machine

/-- A step ends in a next state: the block has no fault and no refusal. -/
def goesOn (s : State) : Bool :=
  match step s with
  | .next _ => true
  | _ => false

/-- The memories of the device are held in their canonical form: in the Lattice, in the clusters' memories and in the flash the
addresses rise strictly, and nothing listed reads as an unlisted address does. -/
def State.memoriesWf (s : State) : Bool :=
  Tbl.wf latFill s.lat.mem && Tbl.wf 0xFFFF#16 s.lan.mem && Tbl.wf 0xFFFF#16 s.fus.flash

/-- R653: no gate, ignition or valve output of the device drives. -/
def State.drivesNothing (s : State) : Bool :=
  (List.range 6).all (fun b => (s.bank b).phase == .idle) &&
  (List.range 24).all (fun n => (s.ign n).st == .low || (s.ign n).st == .highZ) &&
  (List.range 8).all (fun n => !(s.vlvGate n))

/-- The parts of the state, each with all the registers, buffers and flags of one chapter of the spec. -/
inductive Part where
  /-- The model's own: the commands waiting. -/
  | queue
  /-- The model's own: the free values used. -/
  | free
  /-- R44: the Time Base. -/
  | timeBase
  /-- R15: the values in effect of RW and RWS registers. -/
  | registers
  /-- R55: the open staged set. -/
  | staged
  | time | commit | bridge | supervisors | lattice | interrupts | fuses | power | crank | sync | tangent | events
  | ports | arcs | combustion | feedback | drive | lanes | dma | twin | elrex | tap
  /-- The model's own: what has been counted or set in this tick. -/
  | marks
  /-- The work put down for ticks to come. -/
  | work
  /-- R569: the image of a join. -/
  | image
  deriving DecidableEq, Repr

/-- A part of the state is the same in both states. -/
def Part.same (p : Part) (s t : State) : Prop :=
  match p with
  | .queue => t.pending = s.pending
  | .free => t.free = s.free
  | .timeBase => t.tb = s.tb
  | .registers => t.regs = s.regs
  | .staged => t.staged = s.staged
  | .time => t.time = s.time
  | .commit => t.commit = s.commit
  | .bridge => t.bridge = s.bridge
  | .supervisors => t.sup = s.sup
  | .lattice => t.lat = s.lat
  | .interrupts => t.irc = s.irc
  | .fuses => t.fus = s.fus
  | .power => t.pwr = s.pwr
  | .crank => t.wheel = s.wheel
  | .sync => t.sync = s.sync
  | .tangent => t.tan = s.tan
  | .events => t.evq = s.evq
  | .ports => t.cmd = s.cmd
  | .arcs => t.arcs = s.arcs
  | .combustion => t.cmb = s.cmb
  | .feedback => t.fbk = s.fbk
  | .drive => t.drv = s.drv
  | .lanes => t.lan = s.lan
  | .dma => t.dma = s.dma
  | .twin => t.twn = s.twn
  | .elrex => t.elx = s.elx
  | .tap => t.tap = s.tap
  | .marks => t.hits = s.hits
  | .work => t.agenda = s.agenda
  | .image => t.image = s.image

/-- Every part of the state but those listed is as it was: every register, flag, buffer and byte of memory in it. -/
def onlyChanges (ps : List Part) (s t : State) : Prop := ∀ p : Part, p ∉ ps → p.same s t

/-- A command, wherever it answers a next state, changes only the parts listed. -/
def changesOnly (c : Instr) (ps : List Part) : Prop := ∀ s t : State, exec c s = .next t → onlyChanges ps s t

/-- From s to t exactly these fault reports were sent to the router, in this order, each a code with its detail AUX, at the present
tick (R469). -/
def newReports (s t : State) (l : List (Nat × Nat)) : Prop :=
  t.irc.reports = s.irc.reports ++ l.map (fun p => ⟨p.1, p.2 % 65536, s.tb⟩)

/-- From s to t fault reports were sent to the router, the first of them this code with this detail, at the present tick (R469). -/
def firstReport (s t : State) (code aux : Nat) : Prop :=
  ∃ l, t.irc.reports = s.irc.reports ++ ⟨code, aux % 65536, s.tb⟩ :: l

/-! ### Packets, in the terms of 16_command_ports.md -/

/-- R507, R509: packet k of port p has left the receive buffer, the other port has its turn, and k is the packet in execution, whose SEQ
is kept. -/
def State.taken (s : State) (p : Nat) (k : Packet) : State :=
  ({ s with cmd := { s.cmd with turn := 1 - p, cur := some (p, k.opw, k.seq) } }).setPort p
    { s.port p with rx := (s.port p).rx.drop 1, lseq := k.seq, lseqv := true }

/-- R506 to R509: the supervisors take packet k of port p next; its opcode is `op`, it is no duplicate, and it passes checks 5 to 9. -/
def State.executing (s : State) (op p : Nat) (k : Packet) : Prop :=
  s.nextPacket = some (p, k) ∧ k.opw / 256 = op ∧ (s.port p).isDup k = false ∧ s.packetFault p k = none

/-- A packet k of port p was answered with a status, a detail and no results. -/
def State.answered (s : State) (p : Nat) (k : Packet) (status detail : Nat) : State := (s.taken p k).finishPacket status detail []

/-! ### Lane instructions, in the terms of 12_larlar_isa.md -/

/-- The command that is one lane cycle of a lane whose instruction has the mnemonic. -/
def Mn.command : Mn → Nat → Instr
  | .nop => .larNop
  | .halt => .larHalt
  | .ret => .larRet
  | .retv => .larRetv
  | .trap => .larTrap
  | .jr => .larJr
  | .add => .larAdd
  | .adc => .larAdc
  | .sub => .larSub
  | .sbc => .larSbc
  | .land => .larAnd
  | .lor => .larOr
  | .lxor => .larXor
  | .cmp => .larCmp
  | .mov => .larMov
  | .tst => .larTst
  | .neg => .larNeg
  | .lnot => .larNot
  | .mulu => .larMulu
  | .muls => .larMuls
  | .divu => .larDivu
  | .divs => .larDivs
  | .shl => .larShl
  | .shr => .larShr
  | .sar => .larSar
  | .ror => .larRor
  | .rol => .larRol
  | .par => .larPar
  | .brev => .larBrev
  | .swpb => .larSwpb
  | .shli => .larShli
  | .shri => .larShri
  | .sari => .larSari
  | .rori => .larRori
  | .addi => .larAddi
  | .subi => .larSubi
  | .cmpi => .larCmpi
  | .movi => .larMovi
  | .brevn => .larBrevn
  | .ld => .larLd
  | .st => .larSt
  | .ldi => .larLdi
  | .lda => .larLda
  | .sta => .larSta
  | .jmp => .larJmp
  | .call => .larCall
  | .djnz => .larDjnz
  | .br => .larBr
  | .mfsl => .larMfsl
  | .mfsh => .larMfsh
  | .mtsl => .larMtsl
  | .mtsh => .larMtsh
  | .ctcRun => .larCtcRun
  | .ctcStop => .larCtcStop
  | .ctcClear => .larCtcClear
  | .pclr => .larPclr
  | .pset => .larPset
  | .ptgl => .larPtgl
  | .pmovc => .larPmovc
  | .wait => .larWait
  | .shift => .larShift
  | .crcb => .larCrcb
  | .rep => .larRep
  | .bmov => .larBmov
  | .bfil => .larBfil
  | .bcmp => .larBcmp
  | .bcrc => .larBcrc
  | .tang => .larTang
  | .trate => .larTrate
  | .tpred => .larTpred
  | .trpm => .larTrpm
  | .tsyn => .larTsyn
  | .tvtx => .larTvtx
  | .ta2t => .larTa2t
  | .c32i => .larC32i
  | .c32w => .larC32w
  | .c32f => .larC32f
  | .c16w => .larC16w
  | .hshi => .larHshi
  | .hshw => .larHshw
  | .lwr => .larLwr
  | .lww => .larLww
  | .lwri => .larLwri
  | .lwwi => .larLwwi
  | .ewr => .larEwr
  | .earm => .larEarm
  | .ecan => .larEcan
  | .pstat => .larCmbrdPstat
  | .pmax => .larCmbrdPmax
  | .imep => .larCmbrdImep
  | .qmax => .larCmbrdQmax
  | .a1050 => .larCmbrdA10A50
  | .a90lat => .larCmbrdA90Lat
  | .kstat => .larCmbrdKstat
  | .kint => .larCmbrdKint

/-- In this lane cycle lane l executes instruction i: it is RUNNING with its next instruction due, no takeover or vector comes
before it, its word has good parity and decodes to i (R340, R370, R377, R389). -/
def State.executes (s : State) (l : Nat) (i : LarWord) : Prop :=
  l < 64 ∧ s.laneExecutes l = true ∧ s.fetchBad l = false ∧ s.laneWord l = some i

/-- R341, R387, R388, R412: a lane whose instruction ends in the lane cycle that begins in tick `t0`; its writes `ws` land at the end of
tick `due`. Outside a repeat pc becomes `target`; in a repeat cnt counts down, and pc passes the pair when cnt reaches 0. The next
instruction executes 1 + D lane cycles later. -/
def Lane.retired (k : Lane) (i : LarWord) (t0 due : Tick) (ws : List LaneWrite) (target : Nat) : Lane :=
  { k with
    next := t0 + 4 * (1 + i.d)
    rep := if k.rep.isSome ∧ k.cnt ≤ 1 then none else k.rep
    land := k.land ++ ws.map (fun w => (due, w)) ++
      (if k.rep.isNone then [(due, .pc target)]
       else if k.cnt ≤ 1 then [(due, .cnt 0), (due, .pc (k.pc + 2))] else [(due, .cnt (k.cnt - 1))]) }

/-- An instruction that completes in its own lane cycle, with its writes and its next address (R341). -/
def State.completed (s : State) (l : Nat) (i : LarWord) (ws : List LaneWrite) (target : Nat) : State :=
  s.setLane l ((s.lane l).retired i s.tb (s.tb + 3) ws target)

/-- The address after an instruction (R387). -/
def State.nextPc (s : State) (l : Nat) (i : LarWord) : Nat := (s.lane l).pc + i.len

/-- A lane held in its instruction until what it waits for comes (R405, R406, R416). -/
def State.heldIn (s : State) (l : Nat) (i : LarWord) (w : WaitFor) : State :=
  s.setLane l { s.lane l with wait := some ⟨w, s.tb, i, 0⟩ }

/-- R422: a trap: the lane is FAULTED with FCODE and FPC, lands nothing of its instruction, and 0x4801 is reported. -/
def State.trapped (s : State) (l code : Nat) : State :=
  (s.setLane l { s.lane l with st := .faulted, fcode := code, fpc := (s.lane l).iaddr, rep := none, wait := none }).report 0x4801 l

/-- R391: an addition with carry in, in 16-bit words: the sum, Z, N, the carry out of bit 15, and V on signed overflow. A
subtraction x - y is x + NOT y + 1. -/
def wordSum (f : Flags) (x y : Word) (c : Bool) : Word × Flags :=
  let r := x + y + (if c then 1 else 0)
  let t : Int := x.toInt + y.toInt + (if c then 1 else 0)
  (r, { z := decide (r = 0), n := r.msb, c := decide (65536 ≤ x.toNat + y.toNat + (if c then 1 else 0))
        v := decide (t < -32768 ∨ 32767 < t), dz := f.dz })

/-- R390, R391, R393: the arithmetic instructions, of gd, gs and the number n. -/
def Mn.sum (m : Mn) (x y n : Word) (f : Flags) : Word × Flags :=
  match m with
  | .add => wordSum f x y false
  | .adc => wordSum f x y f.c
  | .sbc => wordSum f x (~~~y) f.c
  | .neg => wordSum f 0 (~~~y) true
  | .addi => wordSum f x n false
  | .subi => wordSum f x (~~~n) true
  | .cmpi => wordSum f x (~~~n) true
  | _ => wordSum f x (~~~y) true

/-- R391: Z and N of a result. -/
def Flags.ofWord (f : Flags) (r : Word) : Flags := { f with z := decide (r = 0), n := r.msb }

/-- R390, R398: the logical and bit instructions, of gd, gs and the number n. -/
def Mn.bitwise (m : Mn) (x y : Word) (n : Nat) : Word :=
  match m with
  | .land => x &&& y
  | .tst => x &&& y
  | .lor => x ||| y
  | .lxor => x ^^^ y
  | .lnot => ~~~y
  | .par => if (List.range 16).foldl (fun p j => p != y.getLsbD j) false then 1 else 0
  | .brev => y.reverse
  | .swpb => y.rotateLeft 8
  | _ => x.reverse >>> (16 - n)

/-- R397: the shifts and rotates of gd by n. -/
def Mn.shifted (m : Mn) (x : Word) (n : Nat) (f : Flags) : Word × Flags :=
  if n = 0 then (x, f.ofWord x)
  else
    let r := match m with
      | .shl => x <<< n
      | .shli => x <<< n
      | .shr => x >>> n
      | .shri => x >>> n
      | .sar => x.sshiftRight n
      | .sari => x.sshiftRight n
      | .rol => x.rotateLeft (n % 16)
      | _ => x.rotateRight (n % 16)
    let c := match m with
      | .shl => decide (n ≤ 16) && x.getLsbD (16 - n)
      | .shli => decide (n ≤ 16) && x.getLsbD (16 - n)
      | .shr => decide (n ≤ 16) && x.getLsbD (n - 1)
      | .shri => decide (n ≤ 16) && x.getLsbD (n - 1)
      | .sar => if n ≤ 16 then x.getLsbD (n - 1) else x.msb
      | .sari => if n ≤ 16 then x.getLsbD (n - 1) else x.msb
      | .rol => r.getLsbD 0
      | _ => r.msb
    (r, { (f.ofWord r) with c := c, v := false })

/-- R394: the 32-bit product of MULU and MULS. -/
def Mn.product (m : Mn) (x y : Word) : BitVec 32 :=
  match m with
  | .mulu => x.setWidth 32 * y.setWidth 32
  | _ => x.signExtend 32 * y.signExtend 32

/-- R395: quotient and remainder of DIVU and DIVS, and whether V is set. -/
def Mn.divided (m : Mn) (x y : Word) : Word × Word × Bool :=
  match m with
  | .divu => if y = 0 then (0xFFFF, x, false) else (x / y, x % y, false)
  | _ =>
    if y = 0 then (if x.msb then 0x8000 else 0x7FFF, x, false)
    else if x = 0x8000 ∧ y = 0xFFFF then (0x8000, 0, true)
    else (BitVec.ofInt 16 (x.toInt.tdiv y.toInt), BitVec.ofInt 16 (x.toInt.tmod y.toInt), false)

/-- R408: one byte into the CRC of CRCB, with its R and polynomial. -/
def crcWord (r : Bool) (p c byte : Word) : Word :=
  iter (fun x => if r then (if x.getLsbD 0 then (x >>> 1) ^^^ p else x >>> 1) else (if x.msb then (x <<< 1) ^^^ p else x <<< 1)) 8
    (c ^^^ (if r then byte else byte <<< 8))

/-- R165: one byte into the reflected CRC-32 of polynomial 0x04C1_1DB7. -/
def crcLong (c : BitVec 32) (byte : Word) : BitVec 32 :=
  iter (fun x => if x.getLsbD 0 then (x >>> 1) ^^^ 0xEDB88320#32 else x >>> 1) 8 (c ^^^ byte.setWidth 32)

/-- R418: one byte into the FNV-1a hash. -/
def fnvLong (h : BitVec 32) (byte : Word) : BitVec 32 := (h ^^^ byte.setWidth 32) * 16777619#32

/-- g1:g0. -/
def Lane.pair (k : Lane) : BitVec 32 := k.gw 1 ++ k.gw 0

/-- The low and the high byte of a word. -/
def lowByte (w : Word) : Word := w &&& 0xFF
def highByte (w : Word) : Word := w >>> 8

/-- R418: what unit 1 leaves in g1:g0. -/
def Mn.hashed (m : Mn) (k : Lane) : BitVec 32 :=
  match m with
  | .c32i => 0xFFFFFFFF
  | .c32w => crcLong (crcLong k.pair (lowByte (k.gw 2))) (highByte (k.gw 2))
  | .c32f => ~~~k.pair
  | .hshi => 0x811C9DC5
  | _ => fnvLong (fnvLong k.pair (lowByte (k.gw 2))) (highByte (k.gw 2))

/-- A 32-bit result in g1:g0 with C = 0 (R416). -/
def resultPair (v : BitVec 32) (f : Flags) : List LaneWrite :=
  [.g 0 (v.extractLsb' 0 16).toNat, .g 1 (v.extractLsb' 16 16).toNat, .flags { f with c := false }]

/-- R421: the twin-words of the record that a function of unit 4 returns in g0 and g1. -/
def Mn.recordWords : Mn → Nat × Nat
  | .pstat => (0, 2)
  | .pmax => (5, 6)
  | .qmax => (8, 9)
  | .a1050 => (10, 11)
  | .a90lat => (12, 13)
  | .kstat => (0, 2)
  | _ => (3, 4)

end Sys2Proof.Machine
end

