-- ==== Sys2Proof/Certificates/Slice0/Obligations.lean ====
section
/-! DEFINITION. The statements about the SD-4812. -/

open Sys2Proof Sys2Proof.Machine

/-! ### The machine -/

/-- A step with a command at the front of the queue is that command's exec, on the state with the queue's rest. -/
def Obligations.StepRunsTheFrontCommand : Prop :=
  ∀ (c : Instr) (rest : List Instr) (s : State), s.pending = c :: rest → step s = exec c { s with pending := rest }

/-- The model's choice (note 1): with an empty queue one tick passes. In Run it is the next count of the Time Base, with the slew that
waits (R44, R45); in Poise and Nap the Time Base alone counts, and from Doze on it stands (R643, R646); in a cold boot it has not started
before the ANGLE domain has (R44, R654). -/
def Obligations.EmptyQueueIsOneTick : Prop :=
  ∀ s : State, s.pending = [] → ∃ t, step s = .next t ∧ t.pending = [] ∧
    let still := s.pwr.booting = true ∧ s.pwr.bootFrom = 0
    (still ∨ 3 ≤ s.pwr.rung → t = s) ∧
    (¬ still → s.pwr.rung = 1 ∨ s.pwr.rung = 2 → t = { s with tb := s.tb + 1 }) ∧
    (¬ still → s.pwr.rung = 0 → t.tb = ((s.tb : Int) + 1 + s.time.slew).toNat)

/-- Every step answers a next state, and takes exactly the command at the front of the queue.
Where the rules leave a point open it says what the model chose (notes 5, 74). -/
def Obligations.EveryStepAnswersAndTakesOneCommand : Prop :=
  ∀ s : State, ∃ t, step s = .next t ∧ t.pending = s.pending.tail

/-- Every step keeps the memories canonical: in the Lattice, the cluster memories and the flash the addresses rise strictly, and
nothing listed reads as an unlisted address does. -/
def Obligations.EveryStepKeepsTheMemories : Prop :=
  ∀ s t : State, s.memoriesWf = true → step s = .next t → t.memoriesWf = true

/-- The state after reset has canonical memories, no command waiting, and no output that drives (R653).
R44, R112, R136, R651, R655: what the power-on reset leaves: the Time Base at 0, STALL, no angle, RCAUSE power-on with its
report 0x1F40 on its way, READY 0, no commit, no slot locked, every lane HALTED.
Where the rules leave a point open it says what the model chose (notes 2, 7, 9). -/
def Obligations.ResetLeaves : Prop :=
  (
    State.reset.memoriesWf = true ∧ State.reset.pending = [] ∧ State.reset.drivesNothing = true) ∧
  (
    let s := State.reset
    s.tb = 0 ∧ s.sync.state = .stall ∧ s.tan.ast = .invalid ∧ s.pwr.rcause = 1 ∧ s.pwr.ready = false ∧ s.commit.pending = false ∧
      s.evq.slots = [] ∧ s.agenda = [] ∧ s.fullSync = false ∧ s.irc.reports = [⟨0x1F40, 1, 0⟩] ∧
      (∀ l, (s.lane l).st = .halted) ∧ (∀ n, s.queue n = []) ∧ (∀ n, s.source n = {}) ∧
      (∀ b, ∀ r ∈ regRows b, r.addr ∉ [Reg.ARC_CALG, Reg.ARC_CALO, Reg.IRC_SCFG, Reg.ELX_CFG] → s.cfg r.addr 0 = r.reset))

/-- R9, R31, R619: a twin-word written and read again gives the written value and passes its check; every other address of the
Lattice reads as before. -/
def Obligations.LatticeReadAfterWrite : Prop :=
  ∀ (s : State) (a v : Nat), a < 0x80000 →
    (s.latPut a v).latVal a = v % 65536 ∧ (s.latPut a v).latOk a = true ∧
    ∀ b, b ≠ a → (s.latPut a v).latRead b = s.latRead b ∧ (s.latPut a v).latOk b = s.latOk b

/-! ### The Time Base, the bridge, the supervisors and commits -/

/-- R46, R47, R48: a full-value message loads a replica that awaits one, agrees with it, or shows a mismatch. After a mismatch, or a gray
code that fails its parity, the island awaits the next full value, its TB_RFAULT bit is 1, 0x5001 is reported, and the launches it holds
stay; a second one within 16 messages stops its launches with 0x6002, or in the DRIVE island puts the outputs in high impedance with
0x7003. There are 14 islands with a replica. Where the rules leave a point open it says what the model chose (notes 4, 55, 56). -/
def Obligations.ReplicaMessages : Prop :=
  ∀ (i v : Nat) (s : State),
    let r := s.replica i
    let m : Int := ((s.tb / 4096 * 4096 : Nat) : Int)
    let mismatched := fun (t : State) (n : Nat) =>
      let second := ∃ b, r.lastBad = some b ∧ n < b + 16
      (t.replica i).reload = true ∧ (t.replica i).lastBad = some n ∧ (t.replica i).msgs = n ∧ (t.replica i).ofs = r.ofs ∧
      (t.replica i).inFlight = r.inFlight ∧ (t.replica i).held = r.held ∧ bit t.time.rfault i = true ∧
      (¬ second → (t.replica i).stopped = r.stopped ∧ t.drv = s.drv ∧ newReports s t [(0x5001, i)]) ∧
      (second → i ≠ 12 → (t.replica i).stopped = true ∧ t.drv = s.drv ∧ newReports s t [(0x5001, i), (0x6002, i)]) ∧
      (second → i = 12 → t.bridge.silent = 3 ∧ t.drvOn 0 = false ∧ t.drvOn 1 = false ∧ (∀ n, n < 24 → (t.ign n).st = .highZ) ∧
        (∀ n, n < 8 → t.vlvGate n = false) ∧
        ∃ l, t.irc.reports = s.irc.reports ++ ⟨0x5001, 12, s.tb⟩ :: ⟨0x7003, 12, s.tb⟩ :: l)
    (14 ≤ i → exec (.fullValueMessage i v) s = .next s ∧ exec (.grayCodeParityFailure i) s = .next s) ∧
    (i < 14 → r.reload = true → exec (.fullValueMessage i v) s =
      .next (s.setReplica i { r with msgs := r.msgs + 1, ofs := (v : Int) - m, reload := false, locks := r.locks + 1 })) ∧
    (i < 14 → r.reload = false → (v : Int) = m + r.ofs → exec (.fullValueMessage i v) s =
      .next (s.setReplica i { r with msgs := r.msgs + 1 })) ∧
    (i < 14 → r.reload = false → (v : Int) ≠ m + r.ofs → ∃ t, exec (.fullValueMessage i v) s = .next t ∧ mismatched t (r.msgs + 1)) ∧
    (i < 14 → ∃ t, exec (.grayCodeParityFailure i) s = .next t ∧ mismatched t r.msgs)

/-- R20, R21, R22, R42: a message that fails its CRC on a lane of the die bridge is asked for once more; one that fails again is discarded
and reported: a fire message, a launch for the DRIVE island, or a start status; lane and direction each have their own retry. 48 DRIVE
clocks without a valid message put the drive outputs in high impedance; a lockstep mismatch stops the supervisors, and they run
again. The AUX 12 of 0x4004 and 0x7005, and what is first on a lane, are the model's choice (notes 10, 56).
Where the rules leave a point open it says what the model chose (notes 10, 56). -/
def Obligations.BridgeAndSupervisors : Prop :=
  ∀ (l : Nat) (s : State),
    let b := s.bridge
    exec (.bridgeMessage l true) s = .next { s with bridge := { b with
      retrying := setBit b.retrying l false, lastRx := if l < 2 then s.tb else b.lastRx } } ∧
    (bit b.retrying l = false →
      exec (.bridgeMessage l false) s = .next { s with bridge := { b with retrying := setBit b.retrying l true } }) ∧
    (bit b.retrying l = true → ∃ t, exec (.bridgeMessage l false) s = .next t ∧
      t.bridge = { b with retrying := setBit b.retrying l false } ∧ newReports s t [(0x4004, 12)] ∧
      (∀ x rest, l = 0 → takeFirst (fun y => y.1 == 0) s.evq.flight = some (x, rest) → t.evq.flight = rest) ∧
      (∀ x rest, l = 1 → (s.replica 12).inFlight = x :: rest →
        (t.replica 12).inFlight = rest ++ (s.replica 12).sending.take 1) ∧
      (∀ x rest, 2 ≤ l → s.evq.status = x :: rest → t.evq.status = rest)) ∧
    (b.lastRx + 60 ≤ s.tb → b.silent ≠ 3 → (s.domOn 9 = true ∨ s.domOn 10 = true) →
      ∃ t, exec .bridgeSilence s = .next t ∧ t.bridge.silent = 3 ∧ t.drvOn 0 = false ∧ t.drvOn 1 = false ∧
        (∀ n, n < 24 → (t.ign n).st = .highZ) ∧ (∀ n, n < 8 → t.vlvGate n = false) ∧ firstReport s t 0x7005 12) ∧
    (s.sup.running = true → exec .supervisorLockstepMismatch s =
      .next ({ s with sup := { s.sup with running := false } }.report 0x6F01 0)) ∧
    (s.sup.running = false → s.pwr.booting = false → s.sup.rom = false →
      exec .supervisorRestartDone s = .next { s with sup := { s.sup with running := true } })

/-- R23, R25, R51, R65, R210, R285: the first launch of an island's gate, or the oldest fire message of a destination, leaves it and lets
one that waits in. One that reaches its island before its launch value waits there, with the starts of a fire message at their banks; one
that comes too late is never executed: it is counted in TB_STALE, and each of its actions is reported with its tag.
Where the rules leave a point open it says what the model chose (notes 10, 56, 87). -/
def Obligations.LaunchesArrive : Prop :=
  (∀ (i : Nat) (l : Launch) (rest : List Launch) (s : State), (s.replica i).inFlight = l :: rest →
    let r := s.replica i
    let gate := { r with inFlight := rest ++ r.sending.take 1, sending := r.sending.drop 1 }
    ∃ t, exec (.launchArrival i) s = .next t ∧
      t.replica i = (if s.replicaNow i < l.value then { gate with held := gate.held ++ [l] } else gate) ∧
      (∀ j, j ≠ i → t.replica j = s.replica j) ∧ (i = 12 → t.bridge.lastRx = s.tb) ∧
      (∀ tag, l.action = .other tag → s.replicaNow i < l.value → t.time.stale = s.time.stale ∧ t.irc = s.irc) ∧
      (∀ tag, l.action = .other tag → l.value ≤ s.replicaNow i →
        t.time.stale = satInc 255 s.time.stale ∧ newReports s t [(0x40F0 + 0x100 * islandBlock i, tag)])) ∧
  (∀ (d : Nat) (p : Tick) (items : List FireItem) (rest : List (Nat × Tick × List FireItem)) (s : State),
    takeFirst (fun m => m.1 == d) s.evq.flight = some ((d, p, items), rest) →
    let i := destIsland d
    ∃ t, exec (.fireMessage d) s = .next t ∧ t.evq.flight = rest ∧ (d = 0 → t.bridge.lastRx = s.tb) ∧
      (s.replicaNow i < p → t.replica i = { s.replica i with held := (s.replica i).held ++ [⟨p, .fire items⟩] } ∧
        t.drv.waiting = s.drv.waiting ++ (if i = 12 then startsOf p items else []) ∧ t.irc = s.irc) ∧
      (p ≤ s.replicaNow i → t.replica i = s.replica i ∧ t.drv = s.drv ∧
        (s.time.stale ≤ 255 → t.time.stale = min 255 (s.time.stale + items.length)) ∧
        ∀ it ∈ items, ⟨0x40F0 + 0x100 * islandBlock i, it.org.tag % 65536, s.tb⟩ ∈ t.irc.reports))

/-- R48, R49, R50, R219, R222: the launches whose value an island's replica has reached execute, in order of arrival, and the others stay;
a stopped island executes none. In the ADC island each free converter whose first request has reached its hold tick holds it, with the
calibration values of that tick. Where the rules leave a point open it says what the model chose (notes 10, 56, 87). -/
def Obligations.LaunchesExecute : Prop :=
  (∀ (i : Nat) (s : State),
    let r := s.replica i
    let due := r.held.filter (fun l => decide (l.value ≤ s.replicaNow i))
    let s1 := s.setReplica i { r with held := r.held.filter (fun l => decide (s.replicaNow i < l.value)) }
    let s2 := due.foldl (fun st l => st.runLaunch i l) s1
    (r.stopped = true → exec (.launchExecute i) s = .next s) ∧
    (r.stopped = false → i ≠ 11 → exec (.launchExecute i) s = .next s2) ∧
    (r.stopped = false → i = 11 → exec (.launchExecute i) s = .next (forUpTo State.convHold 0 16 s2)) ∧
    (∀ (p : Tick) (items : List FireItem) (u : State), u.runLaunch 12 ⟨p, .fire items⟩ = u.driveItems p items ∧
      (i ≠ 12 → u.runLaunch i ⟨p, .fire items⟩ = items.foldl (fun st it => st.laneItemFire it) u))) ∧
  (∀ (k : Nat) (q : ConvReq) (rest : List ConvReq) (s : State), (s.convOf k).cur = none → (s.convOf k).wait = q :: rest →
    let h := s.convBegins k (s.convOf k) q + 40
    (s.adcNow < h → State.convHold k s = s) ∧
    (h ≤ s.adcNow → (State.convHold k s).convOf k = { s.convOf k with
      wait := rest, cur := some { job := .arc q, hold := h, gain := s.calGain k, ofs := s.calOfs k } }))

/-- R55, R57, R617: the prepare message, the acknowledgements, of which one after C - 128 does not count, and the decision at C - 128.
R56, R67: the pending set applies in its commit tick: RESULT is 1, and a register of the blocks ANG_, SYN_ and EVQ_ that the set
writes takes its staged value; the shadows of the islands whose replicas lag apply one tick later, in their tick C.
Where the rules leave a point open it says what the model chose (notes 5, 57, 58). -/
def Obligations.CommitPoints : Prop :=
  (
    ∀ (i : Nat) (s : State), s.commit.pending = true →
      let c := s.commit
      let mine := c.closed.filter (fun p => shadowIsland (keyAddr p.1) (keyIdx p.1) p.2.toNat == i)
      let w := if c.mode = .launch ∧ c.c < s.tb + 128 then c.waiting else c.waiting.filter (· ≠ i)
      (i ∈ c.prepares → (∀ p ∈ mine, p.1 ∉ c.bad) → ∃ t, exec (.islandPrepare i) s = .next t ∧
        t.commit = { c with prepares := c.prepares.filter (· ≠ i), acks := c.acks ++ [i] }) ∧
      (i ∈ c.prepares → (∃ p ∈ mine, p.1 ∈ c.bad) → ∃ t, exec (.islandPrepare i) s = .next t ∧
        t.commit = { c with prepares := c.prepares.filter (· ≠ i) } ∧
        newReports s t ((mine.filter (fun p => c.bad.contains p.1)).map (fun p => (shadowCode (keyAddr p.1), keyAddr p.1 % 256)))) ∧
      (i ∈ c.acks → ∃ t, exec (.islandAck i) s = .next t ∧ t.regs = s.regs ∧
        t.commit = { c with acks := c.acks.filter (· ≠ i), waiting := w, armed := w.isEmpty
                            armTick := if w.isEmpty then s.tb else c.armTick }) ∧
      (c.mode = .launch → c.stands = false → c.c ≤ s.tb + 128 → c.armed = true →
        exec .commitDecision s = .next { s with commit := { c with stands := true } }) ∧
      (c.mode = .launch → c.stands = false → c.c ≤ s.tb + 128 → c.armed = false → s.isShadow = false → ∃ t,
        exec .commitDecision s = .next t ∧ t.commit.pending = false ∧ t.commit.result = 3 ∧ t.regs = s.regs)) ∧
  (
    ∀ s : State, s.commit.pending = true → s.commit.c ≤ s.tb →
      ((s.commit.mode = .launch ∧ s.commit.stands = true) ∨ (s.commit.mode = .cycle ∧ s.commit.cSent = true)) →
      let late := (s.commit.closed.filter (fun p => !(s.commit.bad.contains p.1))).filter s.shadowLags
      ∃ t, exec .commitApply s = .next t ∧ t.commit.result = 1 ∧ t.commit.pending = false ∧ t.commit.closed = [] ∧
        (late ≠ [] → (s.tb + 1, .applyLag late) ∈ t.agenda) ∧
        ∀ a x w, bits a 15 8 ∈ [1, 2, 3] → a < 0x1000000 → (regKey a x, w) ∈ s.commit.closed → regKey a x ∉ s.commit.bad →
          (∀ p ∈ s.commit.closed, p.1 = regKey a x → p.2 = w) → t.cfg a x = w.toNat)

/-! ### Wheel inputs, synchronisation and the Tangent -/

/-- R39, R69 to R81, R85, R87, R93, R94, R102: a crank input's comparator changes in tick E. In Hall mode the active transition is an edge,
in VR mode the negative-going crossing after a peak beyond the arming threshold, which sets the next one; POL names the transition, or
exchanges P and N. The edge is judged in tick E + 4: one that fails the spacing check or the noise window is rejected and counted, and one
that passes both becomes the newest vertex, which reaches the machine in E + 5 from the active input.
Where the rules leave a point open it says what the model chose (notes 11, 83). -/
def Obligations.CrankEdges : Prop :=
  (∀ (i peak : Nat) (high : Bool) (s : State), i < 2 → s.angleOn = true →
    let v := s.input i
    let pol := s.flag (Reg.ANG_CRK0_AFE + i) 0 10
    let level := fun (l : Bool) => [(s.tb + 2, Work.level i l)]
    let edge := (if v.dirOpen.isSome then [(s.tb + 2, Work.closeDir i)] else []) ++ [(s.tb + 4, Work.check i s.tb)]
    let crossed := s.setInput i { v with
      arm := some (min peak 255 * s.fld (Reg.ANG_CRK0_AFE + i) 0 8 6), lastCross := s.tb, peakRec := v.peakRec ++ [(s.tb, min peak 255)] }
    (s.hall i = true → high = !pol →
      exec (.crankEdge i ⟨high, peak⟩) s = .next { s with agenda := s.agenda ++ level high ++ edge }) ∧
    (s.hall i = true → high = pol →
      exec (.crankEdge i ⟨high, peak⟩) s = .next { s with agenda := s.agenda ++ level high ++ [(s.tb + 4, .trail i s.tb)] }) ∧
    (s.hall i = false → high = !pol →
      exec (.crankEdge i ⟨high, peak⟩) s = .next { s.setInput i { v with lastCross := s.tb } with agenda := s.agenda ++ level true }) ∧
    (s.hall i = false → high = pol → s.armLevel i < 8 * peak →
      exec (.crankEdge i ⟨high, peak⟩) s = .next { crossed with agenda := s.agenda ++ level false ++ edge }) ∧
    (s.hall i = false → high = pol → 8 * peak ≤ s.armLevel i →
      exec (.crankEdge i ⟨high, peak⟩) s = .next { crossed with agenda := s.agenda ++ level false })) ∧
  (∀ (i : Nat) (e : Tick) (s : State), i < 2 → s.flag Reg.ANG_IN_CTL 0 i = true →
    let v := s.input i
    let t := s.doWork (.check i e)
    let close := tooClose v (s.cfg (Reg.ANG_CRK0_MINSP + i) 0) e
    let rejected := fun (n : Nat) => t.wheel.rejT = e ∧ t.wheel.rejInput = i ∧ t.wheel.rejReason = n ∧ t.tb = s.tb ∧
      t.irc.arrivals = s.irc.arrivals ++ [0x10 + i] ∧ t.agenda = s.agenda
    (close = true → t.input i = { v with spacing := satInc 255 v.spacing } ∧ rejected 1) ∧
    (close = false → s.noisy i e = true → t.input i = { v with noise := satInc 255 v.noise } ∧ rejected 2) ∧
    (close = false → s.noisy i e = false → ∃ x, (t.input i).hist.head? = some x ∧ x.stamp = e ∧ x.period = (t.input i).per1 ∧
      (t.input i).lastV = some e ∧ (t.input i).per2 = v.per1 ∧ (t.input i).seq = v.seq + 1 ∧ t.tb = s.tb ∧
      (t.input i).per1 = (match v.lastV with | some y => min (e - y) 0xFFFFFFFF | none => 0xFFFFFFFF) ∧
      (i = s.activeCrank → (s.tb + 1, .vertex e (t.input i).per1 v.per1) ∈ t.agenda)))

/-- R71, R73, R74, R78, R82, R83, R85, R89, R92, R100: cam edges, judged four ticks after their stamp; the trailing transitions of
direction pulses and the decisions, which take effect a tick after they fall, the one closed by the next active edge among them; the
level an input shows; the peak record of a judged crossing, and the fall of the arming threshold. Where the rules leave a point open it says what the model chose (notes 11, 12, 15, 16, 19, 84). -/
def Obligations.CamDirectionAndPeaks : Prop :=
  (∀ (c : Nat) (lvl : Bool) (s : State), c < 4 → s.angleOn = true → exec (.camEdge c lvl) s = .next { s with
    agenda := s.agenda ++ [(s.tb + 2, .level (2 + c) lvl), (s.tb + 4, .camCheck c lvl s.tb (s.angleAt s.tb))] }) ∧
  (∀ (c a : Nat) (lvl : Bool) (e : Tick) (s : State), c < 4 → s.flag Reg.ANG_IN_CTL 0 (2 + c) = true →
    let i := 2 + c
    let v := s.input i
    let t := s.doWork (.camCheck c lvl e a)
    let close := tooClose v (s.cfg Reg.ANG_CAM_MINSP 0) e
    (close = true → t.input i = { v with spacing := satInc 15 v.spacing } ∧
      t.wheel.rejT = e ∧ t.wheel.rejInput = i ∧ t.wheel.rejReason = 1) ∧
    (close = false → ∃ x, (t.input i).hist.head? = some x ∧ x.stamp = e ∧ x.lvl = lvl ∧ x.pos = s.latestPos e ∧
      (t.input i).lastV = some e ∧ (t.input i).seq = v.seq + 1)) ∧
  (∀ (i : Nat) (high : Bool) (s : State), s.flag Reg.ANG_IN_CTL 0 i = true →
    s.doWork (.level i high) = s.setInput i { s.input i with level := high }) ∧
  (∀ (i : Nat) (s : State), i < 2 → s.angleOn = true → exec (.dirTrailingEdge i) s = .next { s with
    agenda := s.agenda ++ [(s.tb + 2, .level i (s.flag (Reg.ANG_CRK0_AFE + i) 0 10)), (s.tb + 4, .trail i s.tb)] }) ∧
  (∀ (i e : Nat) (s : State), i < 2 → (s.input i).dirOpen = some e →
    let w := e + 20 * s.cfg Reg.ANG_DIR_REV 0
    (w ≤ s.tb → s.dirComing i w = false →
      exec (.dirReverseDecision i) s = .next { s with agenda := s.agenda ++ [(s.tb + 1, .dir i 2)] }) ∧
    (s.tb < w ∨ s.dirComing i w = true → exec (.dirReverseDecision i) s = .next s)) ∧
  (∀ (i : Nat) (s : State), (s.input i).dirOpen.isSome = true → s.dirComing i (s.tb - 2) = false →
    s.doWork (.closeDir i) = { s with agenda := s.agenda ++ [(s.tb + 1, .dir i 3)] }) ∧
  (∀ (i e t0 : Nat) (s : State), (s.input i).dirOpen = some e →
    let w := t0 - e
    let code := if w < 20 * s.cfg Reg.ANG_DIR_FWD 0 then 1 else if w < 20 * s.cfg Reg.ANG_DIR_REV 0 then 3 else 2
    s.doWork (.trail i t0) = { s with agenda := s.agenda ++ [(s.tb + 1, .dir i code)] }) ∧
  (∀ (i code : Nat) (s : State), i < 2 →
    let t := s.doWork (.dir i code)
    (t.input i).dirOpen = none ∧ (t.input i).lastDir = code ∧
      (t.input i).ambig = if code = 3 then satInc 15 (s.input i).ambig else (s.input i).ambig) ∧
  (∀ (i e pk : Nat) (rest : List (Tick × Nat)) (s : State), i < 2 → (s.input i).peakRec = (e, pk) :: rest → e + 4 ≤ s.tb →
    exec (.vrPeakRecord i) s = .next (s.setInput i { s.input i with
      peakRec := rest, hist := (s.input i).hist.map (fun x => if x.stamp = e then { x with peak := pk } else x) })) ∧
  (∀ (i : Nat) (s : State), i < 2 → (s.input i).lastCross + 0x4000000 ≤ s.tb →
    exec (.armThresholdTimeout i) s = .next (s.setInput i { s.input i with arm := none }))

/-- R111, R113 to R116, R140, R161: the stall and the host's search command; of the conditions found in a tick the machine acts on the first
in the order of R115, once; what it does on a stall, on the first vertices after STALL and SEARCH, and on the lock.
Where the rules leave a point open it says what the model chose (notes 11, 19, 85). -/
def Obligations.SyncTransitions : Prop :=
  (∀ s : State, s.lastVertex + s.stallTime + 4 ≤ s.tb →
    (s.sync.state = .stall → exec .syncStallTimeout s = .next s) ∧
    (s.sync.state ≠ .stall → exec .syncStallTimeout s = .next { s with sync := { s.sync with conds := s.sync.conds ++ [.stall] } })) ∧
  (∀ s : State,
    (s.sync.state = .stall → exec .synCmdSearch s = .next s) ∧
    (s.sync.state ≠ .stall → s.sync.acted = true →
      exec .synCmdSearch s = .next { s with sync := { s.sync with conds := s.sync.conds ++ [.host] } }) ∧
    (s.sync.state ≠ .stall → s.sync.acted = false → ∃ t, exec .synCmdSearch s = .next t ∧ t.sync.state = .search ∧ t.sync.cause = 0x0B ∧
      t.sync.acted = true ∧ t.sync.lockCount = 0 ∧ t.sync.pos = 0x1FF ∧ t.tan.ast = .invalid ∧ t.fullSync = false)) ∧
  (∀ s : State, (s.sync.acted = true → s.settle = s) ∧
    (∀ c rest, s.sync.acted = false → firstCond (s.sync.conds.filter s.syncHolds) = some (c, rest) →
      c ∈ s.sync.conds ∧ s.syncHolds c = true ∧ (∀ d ∈ s.sync.conds, s.syncHolds d = true → c.rank ≤ d.rank) ∧
      s.settle = ({ s with sync := { s.sync with conds := rest } }.catchUp s.tb).actOn c)) ∧
  (∀ s : State,
    let t := s.actOn .stall
    let u := s.actOn .edge
    let w := s.actOn .locked
    t.sync.state = .stall ∧ t.sync.cause = 8 ∧ t.sync.lastFrom = s.sync.state ∧ t.sync.stallByTime = true ∧
      t.sync.phaseValid = false ∧ t.sync.acted = true ∧ t.tan.ast = (if s.sync.state.runs then .frozen else .invalid) ∧
    u.sync.state = .search ∧ u.sync.cause = 2 ∧ u.sync.lockCount = 1 ∧ w.sync.state = .toothLock ∧ w.sync.cause = 3) ∧
  (∀ (e p pp : Nat) (s : State),
    let t := s.doWork (.vertex e p pp)
    (s.sync.state = .stall → t.sync.state = .stall ∧ .edge ∈ t.sync.conds) ∧
    (s.sync.state = .search → t.sync.state = .search ∧ t.sync.lockCount = s.sync.lockCount + 1 ∧ .locked ∈ t.sync.conds) ∧
    (s.tb + 1, .digest e) ∈ t.agenda)

/-- R126, R139: the angle wraps through 0 CAU inside a segment: the cycle count, the tick of B and CYCT; in FULL_SYNC the outputs
become eligible. Where the rules leave a point open it says what the model chose (notes 13, 17, 78, 79). -/
def Obligations.CycleBoundaryCounts : Prop :=
  ∀ (w : Tick) (s : State), s.tan.ast = .running → s.tan.wrap = some w → s.tan.x.act = false → s.tan.x.lostAt = none →
    (s.tb < w → exec .cycleBoundary s = .next s) ∧
    (w ≤ s.tb → ∃ t, exec .cycleBoundary s = .next t ∧ t.tb = s.tb ∧ t.tan.cyc = (s.tan.cyc + 1) % 256 ∧ t.tan.lastB = some w ∧
      t.tan.wrap = none ∧ (∀ x, s.tan.lastB = some x → t.tan.cyct = min (w - x) 0xFFFFFFFF) ∧
      (s.fullSync = true → t.fullSync = true → t.sync.eligible = true))

/-- R166, R167, R173: saving, loading and clearing the Tangent's tables.
R103, R170, R175, R176, R616: the captures of the angle, of the speed window and of a vertex record, the stop of the window, and the
rebuilt offsets. Where the rules leave a point open it says what the model chose (note 18). -/
def Obligations.TangentTablesAndCaptures : Prop :=
  (
    ∀ s : State,
      let s1 := (s.latTouchN tanArea 10).latTouchN (tanArea + 0x10) 0x4B0
      let w := s1.latVals tanArea 10
      let gv := s1.latVals (tanArea + 0x10) 400
      let rv := s1.latVals (tanArea + 0x1A0) 800
      let intact := s1.latOkN tanArea 10 && s1.latOkN (tanArea + 0x10) 0x4B0
      let sound := crc32 (w.take 8 ++ gv ++ rv) = nth 0 w 8 + 65536 * nth 0 w 9
      let failed := fun (n : Nat) => ∃ t, exec .tableReloadDone s = .next t ∧ t.tan = { s.tan with lres := n, loading := none }
      (s.tanBusy = true → exec .save s = .next s ∧ exec .load s = .next s ∧ exec .clrgeo s = .next s ∧ exec .clrrip s = .next s ∧
        exec .clrcnt s = .next s) ∧
      (s.tanBusy = false → exec .save s = .next { s with tan := { s.tan with
        saving := some s.tb, savedG := s.tan.g, savedR := s.tan.r, savedHead := s.tanHead } }) ∧
      (s.tanBusy = false → s.sync.state.lost = true →
        exec .load s = .next { s with tan := { s.tan with loading := some s.tb } } ∧
        exec .clrgeo s = .next { s with tan := { s.tan with g := [], gl := [], offs := [], gPend := none } } ∧
        exec .clrrip s = .next { s with tan := { s.tan with r := [] } }) ∧
      (s.tanBusy = false → exec .clrcnt s = .next { s with tan := { s.tan with early := 0, late := 0, jumps := 0 } }) ∧
      (s.tan.saving.isSome = true → s.tan.savedHead.length = 8 → ∃ t, exec .tableSaveDone s = .next t ∧
        t.tan = { s.tan with saving := none, lres := 1, savedG := [], savedR := [], savedHead := [] } ∧
        t.irc.arrivals = s.irc.arrivals ++ [0x018] ∧ (∀ i, i < 8 → t.latVal (tanArea + i) = nth 0 s.tan.savedHead i % 65536) ∧
        (∀ p, p < 400 → t.latVal (tanArea + 0x10 + p) = ofSigned 16 (Tbl.get 0 p s.tan.savedG))) ∧
      (s.tan.loading.isSome = true → intact = false → failed 3) ∧
      (s.tan.loading.isSome = true → intact = true → w.take 5 ≠ s.tanHead.take 5 → failed 4) ∧
      (s.tan.loading.isSome = true → intact = true → w.take 5 = s.tanHead.take 5 → ¬ sound → failed 5) ∧
      (s.tan.loading.isSome = true → intact = true → w.take 5 = s.tanHead.take 5 → sound →
        s.rangesOk gv rv (nth 0 s.tanHead 4) = false → failed 6) ∧
      (s.tan.loading.isSome = true → intact = true → w.take 5 = s.tanHead.take 5 → sound →
        s.rangesOk gv rv (nth 0 s.tanHead 4) = true → ∃ t, exec .tableReloadDone s = .next t ∧ t.tan.lres = 2 ∧ t.tan.loading = none ∧
        t.tan.r = valsTbl rv 0 [] ∧ t.tan.g = (s.normalise (valsTbl gv 0 [])).1 ∧ t.tan.gl = t.tan.g ∧ t.tan.offs = s.derive t.tan.g ∧
        t.tan.geoRevs = 0 ∧ t.tan.ripCycs = 0)) ∧
  (
    ∀ (s : State) (v : Word),
      let src := bits v.toNat 10 8
      exec .angAccLoRead s = .next { s with tan := { s.tan with cap :=
        [toWord (s.tan.cyc * 256 + s.angleAt s.tb / 65536), toWord s.tan.seg.rate, toWord (s.tan.seg.rate / 65536),
          toWord s.tan.seg.phat, toWord (s.tan.seg.phat / 65536), toWord s.tan.rpm, toWord (s.tan.rpm / 65536)] } } ∧
      exec .angS16PerlRead s = .next { s with tan := { s.tan with
        s16Cap := [toWord s.tan.s16Per, toWord (s.tan.s16Per / 65536), toWord s.tan.s16T, toWord s.s16Stat], s16New := false } } ∧
      (s.tan.s16Last + s.cfg Reg.SYN_STALL_T 0 * 65536 ≤ s.tb →
        exec .speedWindowStopped s = .next { s with tan := { s.tan with s16Stop := true } }) ∧
      (s.tan.offsBad = true → exec .offsetRebuildDone s = .next { s with tan := { s.tan with offs := s.derive s.tan.g, offsBad := false } }) ∧
      (bits v.toNat 15 11 = 0 → bits v.toNat 7 6 = 0 → src < 6 → ∃ t, exec (.angVtxSel v) s = .next t ∧
        t.cfg Reg.ANG_VTX_SEL 0 = v.toNat ∧ t.wheel = { s.wheel with vtxD := match (s.input src).hist[bits v.toNat 5 0]? with
          | some x => x.words
          | none => List.replicate 8 0#16 }) ∧
      ((bits v.toNat 15 11 ≠ 0 ∨ bits v.toNat 7 6 ≠ 0 ∨ 6 ≤ src) → exec (.angVtxSel v) s = .next s))

/-! ### The event queues -/

/-- R181 to R183, R202, R205, R206, R214: the requests to the ANGLE island: an arm, a cancel, a recipe swap. While another arm of the host
waits, BUSY stays 1 and RESULT keeps what it was (the model's choice, note 77).
Where the rules leave a point open it says what the model chose (notes 30, 77). -/
def Obligations.EventRequests : Prop :=
  ∀ (s : State) (v : Word),
    let n := v.toNat
    let reserved := bits n 15 9 ≠ 0 ∨ bit n 7 = true ∨ (bit n 8 = false ∧ 96 ≤ bits n 6 0) ∨ (bit n 8 = true ∧ bits n 6 0 ≠ 0)
    let push := fun r => { s.evq with reqs := s.evq.reqs ++ [r] }
    (n < 8192 → exec (.evqArm v) s = .next { s with evq := { push (.arm n .host) with armBusy := true } }) ∧
    (8192 ≤ n → exec (.evqArm v) s = .next s) ∧
    (¬ reserved → exec (.evqCanCmd v) s =
      .next { s with evq := push (.cancel (s.cfg Reg.EVQ_CAN_TAG 0) (bit n 8) (bits n 6 0) .host) }) ∧
    (reserved → exec (.evqCanCmd v) s = .next s) ∧
    (n ≤ 1024 → s.evq.rcpPend = none → ∃ t, exec (.evqRcpCmd v) s = .next t ∧ t.evq = { s.evq with rcpPend := some (n, s.tb) }) ∧
    ((1024 < n ∨ s.evq.rcpPend ≠ none) → exec (.evqRcpCmd v) s = .next s) ∧
    (∀ slot by_ rest, s.evq.arming = none → s.evq.reqs = .arm slot by_ :: rest → Tbl.find? slot s.evq.slots = none →
      exec .armRequest s = .next { s with evq := { s.evq with
        reqs := rest, arming := some (slot, by_, s.tb), slots := Tbl.insert slot (1, 0) s.evq.slots } }) ∧
    (∀ slot rest, s.evq.arming = none → s.evq.reqs = .arm slot .host :: rest → Tbl.find? slot s.evq.slots ≠ none →
      let later := { s with evq := { s.evq with reqs := rest } }.hostArmWaits
      ∃ t, exec .armRequest s = .next t ∧ t.evq = { s.evq with
        reqs := rest, armBusy := if later then s.evq.armBusy else false, armRes := if later then s.evq.armRes else 2 }) ∧
    (∀ slot l rest, s.evq.arming = none → s.evq.reqs = .arm slot (.lane l) :: rest → Tbl.find? slot s.evq.slots ≠ none →
      exec .armRequest s = .next { s with evq := { s.evq with reqs := rest, answers := s.evq.answers ++ [(l, 2, 0)] } })

/-- R183, R214: the checks of an arm, in order, and its RESULT: 3 INTEGRITY, 4 FIELD, 5 FULL, 6 PASSED, each of which unlocks the slot,
or 1, with the entry in its output's queue, whose head is considered in the next tick. RESULT is told when no other arm of the host
waits. Where the rules leave a point open it says what the model chose (notes 30, 77). -/
def Obligations.ArmChecks : Prop :=
  ∀ (slot : Nat) (t0 : Tick) (s : State), s.evq.arming = some (slot, .host, t0) →
    let a := 8 * slot
    let s1 := s.latTouchN a 8
    let e := s1.readEntry a false slot s.tb
    let passed := s1.held e.out = false ∧ e.cqmode = 1 ∧ e.cq = s.tan.cyc ∧ e.angle ≤ s1.angleAt s.tb
    let told := fun (t : State) (r : Nat) => s.hostArmWaits = false → t.evq.armRes = r ∧ t.evq.armBusy = false
    let fails := fun r => ∃ t, exec .armRecordRead s = .next t ∧ told t r ∧ t.evq.arming = none ∧
      Tbl.find? slot t.evq.slots = none ∧ t.evq.q = s.evq.q
    (s1.recIntegrity a = false → fails 3) ∧
    (s1.recIntegrity a = true → s1.recFields a false = false → fails 4) ∧
    (s1.recIntegrity a = true → s1.recFields a false = true → 16 ≤ (s.queue e.out).length → fails 5) ∧
    (s1.recIntegrity a = true → s1.recFields a false = true → (s.queue e.out).length < 16 → passed → fails 6) ∧
    (s1.recIntegrity a = true → s1.recFields a false = true → (s.queue e.out).length < 16 → ¬ passed → e.guard = false →
      ∃ t, exec .armRecordRead s = .next t ∧ told t 1 ∧ t.evq.arming = none ∧ (s.tb + 1, .head e.out) ∈ t.agenda ∧
        ∃ x ∈ t.queue e.out, x.org.slot = slot ∧ x.kind = e.kind ∧ x.angle = e.angle ∧ x.org.tag = e.org.tag)

/-- R36 to R38, R128, R130, R191 to R193, R195, R196, R293: after a change of state of its tick an entry fires, or is dropped for its lateness,
and its output's next is considered in the next tick; a pulse's end fires, or is taken as fired.
Where the rules leave a point open it says what the model chose (notes 24, 26, 28, 85). -/
def Obligations.EventsFire : Prop :=
  (∀ (o : Nat) (e : QEntry) (rest : List QEntry) (s : State), s.settle.queue o = e :: rest → s.settle.mayFire o e = true →
    let u := s.settle
    let l := e.lateAt u.tb
    (e.tooLate l = false → ∃ t, exec (.eventFire o) s = .next t ∧ t.lastFired e.out = some u.tb ∧ t.queue o = rest ∧
      (s.tb + 1, .head o) ∈ t.agenda ∧ t.evq.flight = addItem (fireDest e.out) (u.tb + 24) (e.item l) u.evq.flight) ∧
    (e.tooLate l = true → exec (.eventFire o) s = .next (((u.setQueue o rest).dropEntry e 3 l).later (s.tb + 1) (.head o)))) ∧
  (∀ (o : Nat) (p : Pulse) (s : State), s.settle.active o = some p → p.bad = false → s.settle.fireTick o s.tb = s.tb →
    let u := s.settle
    let fired := ∃ t it, exec (.pulseEndFire o) s = .next t ∧ t.active p.out = none ∧ t.lastFired p.out = some s.tb ∧
      it.out = p.out ∧ it.kind = .pulseEnd ∧ it.org = p.org ∧ t.evq.flight = addItem (fireDest p.out) (s.tb + 24) it u.evq.flight
    (∀ a q, p.endAngle = some a → p.pin = some q → q ≤ s.tb + 24 → fired) ∧
    (p.endAngle = none → 56 ≤ o → p.start + p.dur ≤ s.tb + 24 → fired) ∧
    (p.endAngle = none → o < 56 → p.awaiting = false → p.start + p.dur ≤ s.tb + 24 → ∃ t, exec (.pulseEndFire o) s = .next t ∧
      t.active p.out = none ∧ t.lastFired p.out = some s.tb ∧ t.evq.flight = u.evq.flight))

/-- R182, R197, R202, R203, R210, R216, R292 to R294, R614: the uncommitted entries of an output whose time guard has run out leave its queue
with DROP_GUARD, and their slots are free; a start status tells the start, or ends the pulse of a dropped one; a cancel takes the matching
entries that have not fired out of their queues and counts them and the pulses that have; the failed entries of an output are whole again
or gone. Where the rules leave a point open it says what the model chose (notes 26, 28, 30, 85). -/
def Obligations.EventQueueWork : Prop :=
  (∀ (o : Nat) (s : State),
    let gone := (s.queue o).filter (fun e => e.expired s.tb)
    (gone = [] → exec (.guardExpiry o) s = .next s) ∧
    (gone ≠ [] → ∃ t, exec (.guardExpiry o) s = .next t ∧ t.queue o = (s.queue o).filter (fun e => !(e.expired s.tb)) ∧
      (∀ n, n ≠ o → t.queue n = s.queue n) ∧ (s.tb + 1, .head o) ∈ t.agenda ∧ t.evq.flight = s.evq.flight ∧ t.evq.act = s.evq.act ∧
      (s.evq.drops ≤ 255 → t.evq.drops = min 255 (s.evq.drops + gone.length)) ∧
      ∀ e ∈ gone, e.org.rcp = false → Tbl.find? e.org.slot t.evq.slots = none)) ∧
  (∀ (m : StartStatusMsg) (g : Origin) (rest : List (StartStatusMsg × Origin)) (s : State), s.evq.status = (m, g) :: rest →
    let mine := ∃ p, s.active m.out = some p ∧ p.out = m.out ∧ p.org = g ∧ p.awaiting = true
    ∃ t, exec .startStatus s = .next t ∧ t.evq.status = rest ∧ t.evq.flight = s.evq.flight ∧ t.evq.q = s.evq.q ∧
      (m.dropped = true → t.evq.drops = satInc 255 s.evq.drops ∧ (mine → t.active m.out = none)) ∧
      (m.dropped = false → t.evq.lates = (if 0 < m.la + m.delta then satInc 255 s.evq.lates else s.evq.lates) ∧
        ∀ p, s.active m.out = some p → p.org = g → p.awaiting = true →
          t.active m.out = some { p with awaiting := false, start := m.s })) ∧
  (∀ (tag o : Nat) (all : Bool) (rest : List AngReq) (s : State), s.evq.arming = none → s.evq.reqs = .cancel tag all o .host :: rest →
    let outs := if all then List.range 96 else [o]
    let hit := fun (n : Nat) (e : QEntry) => decide (e.org.tag = tag) && s.removable n e
    let begun := fun (n : Nat) => match s.active n with | some p => decide (p.org.tag = tag) | none => false
    ∃ t, exec .cancelRequest s = .next t ∧ t.evq.reqs = rest ∧ t.evq.flight = s.evq.flight ∧ t.evq.act = s.evq.act ∧
      t.evq.canDone = min 255 ((outs.map (fun n => ((s.queue n).filter (hit n)).length)).foldr (· + ·) 0) ∧
      t.evq.canLate = min 255 (outs.filter begun).length ∧
      (∀ n ∈ outs, t.queue n = (s.queue n).filter (fun e => !(hit n e))) ∧ ∀ n, n ∉ outs → t.queue n = s.queue n) ∧
  (∀ (o : Nat) (s : State),
    let u := s.settle
    let lost := fun (e : QEntry) => e.bad && !(u.restorable e.org)
    let kept := ((u.queue o).filter (fun e => !(lost e))).map (fun e => { e with bad := false })
    ∃ t, exec (.entryRebuildDone o) s = .next t ∧ (∀ x ∈ t.queue o, x.bad = false) ∧
      (u.active o = none → (∀ e q, kept.head? = some e → e.pin = some q → s.tb < fireOf q) →
        t.queue o = kept ∧ t.evq.flight = u.evq.flight) ∧
      (∀ e rest, u.active o = none → kept = e :: rest → u.mayFire o e = true → e.tooLate (e.lateAt s.tb) = false →
        t.queue o = rest ∧ t.evq.flight = addItem (fireDest e.out) (s.tb + 24) (e.item (e.lateAt s.tb)) u.evq.flight) ∧
      (∀ p, u.active o = some p → p.bad = true → u.restorable p.org = true → (∀ e ∈ u.queue o, lost e = false) →
        t.active o = some { p with bad := false } ∧ t.queue o = kept))

/-! ### Arcs, converters and combustion -/

/-- R25, R219, R220, R222 to R224, R231, R232, R238, R239: an arc's sample is launched, after a change of state of its tick; a conversion gives
a corrected code, or none in time; a calibration takes its raw codes; the mid reference is checked.
Where the rules leave a point open it says what the model chose (notes 31, 33). -/
def Obligations.ArcsAndConversions : Prop :=
  (∀ (n : Nat) (r : ArcRun) (p : Tick) (s : State), (s.settle.arcOf n).run = some r → r.pin = some p → p ≤ s.tb + 64 →
    let g := s.settle.replica 11
    let l : Launch := ⟨p, .sample r.serial r.next⟩
    ∃ t, exec (.arcLaunchSend n) s = .next t ∧ (t.arcOf n).run = some { r with next := r.next + 1, pin := none } ∧
      (s.tb + 1, .arc n) ∈ t.agenda ∧
      t.replica 11 = if g.inFlight.length < 8 ∧ g.sending = [] then { g with inFlight := g.inFlight ++ [l] }
        else { g with sending := g.sending ++ [l] }) ∧
  (∀ (k raw : Nat) (u : ConvCur) (s : State), (s.convOf k).cur = some u → u.hold + 60 ≤ s.adcNow → s.adcNow < u.hold + 100 →
    let c := s.convOf k
    let r := raw % 65536
    let code := (clampInt 0 65535 (roundDiv (((r : Nat) - u.ofs) * u.gain) 32768)).toNat
    (∀ q, u.job = .arc q → ∃ t, exec (.conversionResult k raw) s = .next t ∧ (t.convOf k).cur = none ∧
      (c.freeJob = none → t.convOf k = { c with cur := none, freeAt := u.hold + 60 }) ∧
      (∀ f, s.frameOf q.serial = some f → f.total = none → f.gone = [] → f.base + 8 + q.idx < 0x80000 →
        t.latVal (f.base + 8 + q.idx) = code ∧
        ∀ g, t.frameOf q.serial = some g → g.ns = f.ns + 1 ∧ g.endTick = u.hold)) ∧
    (∀ high, u.job = .cal high → ∃ t, exec (.conversionResult k raw) s = .next t ∧ (t.convOf k).cur = none ∧
      (t.convOf k).calLeft = c.calLeft - 1 ∧ (t.convOf k).sumL = (if high then c.sumL else c.sumL + r) ∧
      (t.convOf k).sumH = if high then c.sumH + r else c.sumH) ∧
    (u.job = .mid → let bad := code + 256 < 0x8000 ∨ 0x8000 + 256 < code
      ∃ t, exec (.referenceCheck k raw) s = .next t ∧ (t.convOf k).cur = none ∧ (t.convOf k).refDue = false ∧
        (t.convOf k).refBad = decide bad ∧ (¬ bad → t.arcs.flt = s.arcs.flt ∧ t.irc = s.irc) ∧
        (bad → bit t.arcs.flt k = true ∧ newReports s t [(0x3405, k)]))) ∧
  (∀ (k : Nat) (u : ConvCur) (s : State), (s.convOf k).cur = some u → u.hold + 100 ≤ s.adcNow →
    ∃ t, exec (.conversionTimeout k) s = .next t ∧ (t.convOf k).cur = none ∧ (t.convOf k).tmo = true ∧
      ((s.convOf k).freeJob = none → t.convOf k = { s.convOf k with cur := none, freeAt := u.hold + 100, tmo := true }) ∧
      bit t.arcs.flt k = true ∧ firstReport s t 0x3407 k)

/-- R220, R223, R242: the calibration of a converter: its start, its result with the new gain and offset staged, its failure.
Where the rules leave a point open it says what the model chose (note 33). -/
def Obligations.Calibration : Prop :=
  (∀ (v : Word) (s : State), s.calibrating = false →
    let k := s.cfg Reg.ARC_CSEL 0
    (v = 1#16 → exec (.cal v) s = .next ((s.setConv k { s.convOf k with
      calFrom := some s.tb, calLeft := 64, sumL := 0, sumH := 0 }).later (s.tb + 1) (.slot k))) ∧
    (v ≠ 1#16 → exec (.cal v) s = .next s)) ∧
  (∀ (v : Word) (s : State), s.calibrating = true → exec (.cal v) s = .next s) ∧
  (∀ (k : Nat) (b : Tick) (s : State), (s.convOf k).calFrom = some b →
    let c := s.convOf k
    let gain := roundDiv ((0xE000 * 32768 * 32 : Nat) : Int) ((c.sumH - c.sumL : Nat) : Int)
    let ofs := roundDiv ((c.sumL : Int) * gain - ((0x1000 * 32768 * 32 : Nat) : Int)) (32 * gain)
    let good := c.sumL < c.sumH ∧ 0x6000 ≤ gain ∧ gain ≤ 0xA000 ∧ -2048 ≤ ofs ∧ ofs ≤ 2047
    let failed := (s.setConv k { c with calFrom := none, calLeft := 0, calRes := 2 }).report 0x2406 k
    (s.tb ≤ b + 0x40000 → c.calLeft = 0 → good → ∃ t, exec (.calibrationDone k c.sumL c.sumH) s = .next t ∧
      t.convOf k = { c with calFrom := none, calRes := 1 } ∧ (t.cfgStaged Reg.ARC_CALG k : Int) = gain ∧
      signedOf 16 (t.cfgStaged Reg.ARC_CALO k) = ofs ∧ t.regs = s.regs) ∧
    (s.tb ≤ b + 0x40000 → c.calLeft = 0 → ¬ good → exec (.calibrationDone k c.sumL c.sumH) s = .next failed) ∧
    (∀ l h : Nat, c.calLeft ≠ 0 ∨ c.sumL ≠ l ∨ c.sumH ≠ h → exec (.calibrationDone k l h) s = .next s) ∧
    (b + 0x40000 < s.tb → exec (.calibrationTimeout k) s = .next failed))

/-- R249, R250, R261, R263: the datapath takes the oldest queued frame, and gives it a status: OK only with a good header; the record of the
frame in progress is written with the channel's next SEQ. Where the rules leave a point open it says what the model chose (note 34). -/
def Obligations.CombustionRecords : Prop :=
  (∀ (j : CmbJob) (rest : List CmbJob) (s : State), s.cmb.run = none → s.cmb.queue = j :: rest →
    let s1 := { s with cmb := { s.cmb with queue := rest } }
    (Tbl.find? j.rcd.cyl s.cmb.param = none → exec .frameProcessing s = .next s1) ∧
    (∀ w, Tbl.find? j.rcd.cyl s.cmb.param = some w → ∃ t r, exec .frameProcessing s = .next t ∧ t.cmb.run = some r ∧ r.job = j ∧
      t.cmb.queue = rest ∧ 1 ≤ r.status ∧ r.status ≤ 5 ∧ r.tag = (s1.readGood j.base 8).1.latVal (j.base + 1) ∧
      (r.status = 1 → s.latOkN j.base 8 = true))) ∧
  (∀ (r : CmbRun) (s : State), s.cmb.run = some r →
    let c := r.job.rcd.cyl
    let knock := decide (r.job.rcd.cmb = 2)
    let seq := (Tbl.get 0 c (if knock then s.cmb.seqK else s.cmb.seqP) + 1) % 256
    ∃ t w, exec .resultRecordWrite s = .next t ∧ t.cmb.run = none ∧
      Tbl.get 0 c (if knock then t.cmb.seqK else t.cmb.seqP) = seq ∧
      Tbl.find? c (if knock then t.cmb.resK else t.cmb.resP) = some w ∧ nth 0 w 1 = r.tag ∧ nth 0 w 2 = r.cyc * 256 + r.job.arc ∧
      (r.status ≠ 1 → nth 0 w 0 = r.status * 4096 + r.flags + seq))

/-! ### The solenoid drive -/

/-- R49, R277, R285 to R292, R295, R300: a start that has reached its pin time by the DRIVE island's replica begins, waits for the boost, or is
dropped: first of all where its bank is not active or no profiles are loaded; the drop at the end of its allowance.
Where the rules leave a point open it says what the model chose (notes 35, 36). -/
def Obligations.SolenoidStarts : Prop :=
  ∀ (o : Nat) (x : Start) (s : State), s.waitingOn o = some x →
    let b := x.out / 4
    let bnr := pfBnr (s.profile x.profile)
    let told := fun (t : State) (drop : Bool) (st d : Nat) =>
      t.evq.status = s.evq.status ++ [(⟨x.out, x.org.tag, drop, st, d, x.la⟩, x.org)]
    let begins := fun (batt : Bool) => ∃ t, exec (.pulseStart o) s = .next t ∧ told t false s.drvNow (s.drvNow - x.p) ∧
      (t.bank b).now = { tick := s.drvNow, phase := .boost, hsb := !batt, hsv := batt, ls := .on } ∧ (t.bank b).ch = x.out % 4 ∧
      (t.bank b).s = s.drvNow ∧ (t.bank b).prof = s.profile x.profile ∧ (t.bank b).dur = x.dur ∧ (t.bank b).org = x.org
    let drops := fun (c : Instr) (reason : Nat) => ∃ t, exec c s = .next t ∧ told t true 0 0 ∧ t.drv.drops = satInc 255 s.drv.drops ∧
      t.drv.dropTag = x.org.tag ∧ t.drv.dropReason = reason ∧ t.drv.dropOut = x.out
    let ready := s.cannotStart x = none ∧ s.blockedIn x s.drvNow = false ∧ ∀ w, x.w = some w → s.drvNow ≤ x.p + w
    let busy := s.blockedIn x (s.drvNow - 1) = true ∨ (s.bank (o / 4)).idleAt = s.drvNow
    (∀ r, s.cannotStart x = some r → drops (.pulseStart o) r) ∧
    (s.bankActive b = false → s.cannotStart x = some 5) ∧
    (s.bankActive b = true → s.drv.loaded = false → s.cannotStart x = some 6) ∧
    (s.bankActive b = true → s.drv.loaded = true → s.cannotStart x = none) ∧
    (ready → s.boostShort x = false → begins (pfPksrc (s.profile x.profile))) ∧
    (ready → s.boostShort x = true → bnr = 0 → begins true) ∧
    (ready → s.boostShort x = true → bnr = 2 → drops (.pulseStart o) 2) ∧
    (ready → s.boostShort x = true → bnr ≠ 0 → bnr ≠ 2 → ∃ t, exec (.pulseStart o) s = .next t ∧ t.evq.status = s.evq.status ∧
      t.drv.drops = s.drv.drops ∧ t.bank b = s.bank b) ∧
    (s.cannotStart x = none → ¬ ready → exec (.pulseStart o) s = .next s) ∧
    (x.overdue s.drvNow = false → exec (.startDropTimeout o) s = .next s) ∧
    (∀ r, x.overdue s.drvNow = true → s.cannotStart x = some r → drops (.startDropTimeout o) r) ∧
    (x.overdue s.drvNow = true → s.cannotStart x = none → ¬ busy → s.boostShort x = true → bnr = 1 → drops (.startDropTimeout o) 3) ∧
    (x.overdue s.drvNow = true → s.cannotStart x = none → (busy ∨ s.boostShort x = false ∨ bnr ≠ 1) → drops (.startDropTimeout o) 1)

/-- R271, R272, R277 to R281, R283, R284, R330: what a current sample and the regulator's timers do to a bank.
Where the rules leave a point open it says what the model chose (note 35). -/
def Obligations.RegulatorPhases : Prop :=
  ∀ (b : Nat) (s : State),
    let k := s.bank b
    let p := k.prof
    (∀ code net, b < 6 → code < 4096 → s.drvNow % 20 = 17 → k.phase ≠ .idle → k.s + 17 ≤ s.drvNow →
      let k1 := { k.addEcl (s.drvNow - 17) code with last := some code }
      (k.phase = .decay → k.endTick ≠ s.drvNow → code ≤ pf p 13 → ∃ t, exec (.bankCurrentResult b code net) s = .next t ∧
        (t.bank b).phase = .idle ∧ (t.bank b).idleAt = s.drvNow ∧ (t.bank b).last = some code) ∧
      (k.phase = .decay → (k.endTick = s.drvNow ∨ pf p 13 < code) → ∃ t, exec (.bankCurrentResult b code net) s = .next t ∧ t.bank b = k1) ∧
      (k.phase ≠ .decay → k1.shorted (s.drvNow - 17) code = true → s.unitHere b = true → ∃ t,
        exec (.bankCurrentResult b code net) s = .next t ∧ (t.bank b).phase = .decay ∧ (t.bank b).endTick = s.drvNow ∧
        (k.ch < 4 → bit t.drv.scFlags (4 * b + k.ch) = true)) ∧
      (k.phase ≠ .decay → k1.shorted (s.drvNow - 17) code = false → k.olWait = false → s.unitHere b = true → ∃ t,
        exec (.bankCurrentResult b code net) s = .next t ∧ t.bank b = k1.onSample s.drvNow code)) ∧
    (∀ t level band code, k.now.hsv = true → level ≤ code → k.hsvAt + pf p 10 ≤ t →
      (k.chop t level band code).now.hsv = false ∧ (k.chop t level band code).phase = k.phase) ∧
    (∀ t level band code, k.now.hsv = false → code ≤ level - band → k.hsvAt + pf p 11 ≤ t →
      (k.chop t level band code).now.hsv = true ∧ (k.chop t level band code).phase = k.phase) ∧
    (k.phase = .peak → k.s + 20 * pf p 4 ≤ s.drvNow → ∃ t, exec (.phaseTimer b) s = .next t ∧ (t.bank b).phase = .trans1 ∧
      (t.bank b).now.hsb = false ∧ (t.bank b).now.hsv = false) ∧
    ((k.phase = .trans1 ∨ k.phase = .hold1) → pfH2 p = true → k.s + 20 * (pf p 4 + pf p 7) ≤ s.drvNow → ∃ t,
      exec (.phaseTimer b) s = .next t ∧ (t.bank b).phase = .trans2) ∧
    (k.phase = .boost → k.s + 20 * pf p 3 ≤ s.drvNow → s.openDue b = false → (bit (pf p 16) 12 && s.unitHere b) = false → ∃ t,
      exec (.phaseTimer b) s = .next t ∧ (t.bank b).phase = if k.s + 20 * pf p 4 ≤ s.drvNow then .trans1 else .peak) ∧
    (∀ v, k.want = some v → k.hsvAt + (if v then pf p 11 else pf p 10) ≤ s.drvNow → ∃ t, exec (.minSwitchTimeExpiry b) s = .next t ∧
      (t.bank b).now.hsv = v ∧ (t.bank b).phase = k.phase ∧ (t.bank b).want = none) ∧
    (k.phase = .decay → k.endTick + 65536 ≤ s.drvNow → ∃ t, exec (.decayTimeout b) s = .next t ∧ (t.bank b).phase = .idle ∧
      (t.bank b).idleAt = s.drvNow) ∧
    (∀ c, s.openDue b = true → k.last = some c → c < pf p 17 → ∃ t, exec (.openLoadCheck b) s = .next t ∧
      (t.bank b).phase = .decay ∧ (t.bank b).endTick = s.drvNow ∧
      (k.ch < 4 → t.drv.dgOpen = satInc 255 s.drv.dgOpen ∧ bit t.drv.olFlags (4 * b + k.ch) = true)) ∧
    (∀ c, s.openDue b = true → k.last = some c → pf p 17 ≤ c →
      exec (.openLoadCheck b) s = .next (s.setBank b { k with olDone := true, olWait := false }))

/-- R293, R310, R325: the end of a pulse that the DRIVE island times itself.
R296 to R299, R301, R302, R307: the boost controllers and the trace capture.
Where the rules leave a point open it says what the model chose (notes 38, 42). -/
def Obligations.TimedPulsesBoostAndTrace : Prop :=
  (
    (∀ (o d : Nat) (s : State), o < 24 → (s.bank (o / 4)).ch = o % 4 → (s.bank (o / 4)).dur = some d → (s.bank (o / 4)).s + d ≤ s.drvNow →
      (s.bank (o / 4)).phase ≠ .idle → (s.bank (o / 4)).phase ≠ .decay →
      ∃ t, exec (.pulseDurExpiry o) s = .next t ∧ (t.bank (o / 4)).phase = .decay ∧ (t.bank (o / 4)).endTick = s.drvNow) ∧
    (∀ (n : Nat) (b : Tick) (d : Nat) (s : State), n < 24 → (s.ign n).st = .dwell → (s.ign n).dur = some (b, d) → b + d ≤ s.drvNow →
      ∃ t, exec (.pulseDurExpiry (24 + n)) s = .next t ∧ (t.ign n).st = .low ∧ (t.ign n).dur = none ∧ (t.ign n).since = s.drvNow) ∧
    (∀ (n : Nat) (b : Tick) (d : Nat) (s : State), n < 8 → (s.valve n).pulse = true → (s.valve n).dur = some (b, d) → b + d ≤ s.drvNow →
      ∃ t, exec (.pulseDurExpiry (48 + n)) s = .next t ∧ (t.valve n).run = false ∧ (t.valve n).pulse = false ∧ t.vlvGate n = false)) ∧
  (
    (∀ (m code : Nat) (net : Bool) (s : State), code < 4096 → s.drvNow % 200 = 100 →
      let c := s.boost m
      let off := { c with v := code, chg := false, ovp := true, fet := if c.fet = .on then .off else c.fet
                          since := if c.fet = .on then s.drvNow else c.since }
      let low := code ≤ s.boostTgt m - s.boostHyst m
      (m = 2 → exec (.boostMonitorResult m code net) s = .next { s with drv := { s.drv with vbat := code } }) ∧
      (m < 2 → s.domOn (9 + m) = true → s.unitHere (6 + m) = true →
        let live := s.boostEn m = true ∧ s.drvOn m = true
        ∃ t, exec (.boostMonitorResult m code net) s = .next t ∧
        (s.boostOvp m ≤ code → t.boost m = off ∧ newReports s t [(0x3605, m)]) ∧
        (code < s.boostOvp m → t.irc = s.irc) ∧
        (code < s.boostOvp m → live → low → c.fet = .rest →
          t.boost m = { c with v := code, ovp := false, chg := true, fet := .on, since := s.drvNow }) ∧
        (code < s.boostOvp m → live → low → c.fet ≠ .rest → t.boost m = { c with v := code, ovp := false, chg := true }) ∧
        (code < s.boostOvp m → live → ¬ low → s.boostTgt m ≤ code → t.boost m = { c with v := code, chg := false }) ∧
        (code < s.boostOvp m → live → ¬ low → code < s.boostTgt m → t.boost m = { c with v := code }) ∧
        (code < s.boostOvp m → ¬ live → t.boost m = { c with v := code, ovp := decide (¬ low) && c.ovp })) ∧
      (m < 2 → s.domOn (9 + m) = true → s.unitHere (6 + m) = false → ∃ t, exec (.boostMonitorResult m code net) s = .next t ∧
        (t.boost m).v = code ∧ (t.boost m).fet = if net then .on else .rest)) ∧
    (∀ (m : Nat) (s : State), m < 2 →
      let c := s.boost m
      let ton := 20 * bits (s.boostTim m) 15 8
      let toff := 20 * bits (s.boostTim m) 7 0
      let off := s.setBoost m { c with fet := .off, since := s.drvNow }
      (c.fet = .on → exec (.boostIlimReached m) s = .next off) ∧
      (c.fet = .on → c.since + ton ≤ s.drvNow → exec (.boostTonmaxExpiry m) s = .next off) ∧
      (c.fet = .off → c.since + toff ≤ s.drvNow →
        exec (.boostToffExpiry m) s = .next (s.setBoost m { c with fet := if c.chg && s.drvOn m then .on else .rest, since := s.drvNow }))) ∧
    (∀ (v : Word) (s : State),
      let n := v.toNat
      let ok := n % 256 = 0 ∧ bit n 11 = false ∧ bits n 14 12 < 6 ∧ s.drv.trc = none ∧
        (bit n 15 = true → s.traceBase ≠ 0) ∧ (s.domOn 9 = true ∨ s.domOn 10 = true)
      (ok → ∃ t, exec (.drvTrcCtl v) s = .next t ∧ t.cfg Reg.DRV_TRC_CTL 0 = n ∧ (bit n 15 = true → t.drv.trcDone = false)) ∧
      (¬ ok → exec (.drvTrcCtl v) s = .next s)))

/-! ### Ignition outputs and valves -/

/-- R310 to R313, R315, R316, R318: starts, sparks, soft ends, overdwell and faults of the ignition outputs.
R320, R322, R323, R325 to R327: a valve's samples, on-time, period and latch.
Where the rules leave a point open it says what the model chose (notes 35, 39, 41). -/
def Obligations.IgnitionAndValves : Prop :=
  (
    ∀ (n : Nat) (s : State), n < 24 →
      let g := s.ign n
      let ramp := { g with st := .ramp, since := s.drvNow, found := none, rampEnd := s.drvNow + s.fld Reg.IGN_RAMP 0 7 0 * 20000, dwellFrom := g.since }
      (∀ p it, it.out = 24 + n → it.kind = .pulseStart → g.st = .low → s.ignEn n = true → bit s.drv.ignFlt n = false → s.drvOn 1 = true →
        ((s.driveItem p it).ign n).st = .dwell ∧ ((s.driveItem p it).ign n).since = s.drvNow) ∧
      (∀ p it, it.out = 24 + n → it.kind = .pulseEnd → it.soft = false → (g.st = .dwell ∨ g.st = .ramp ∧ s.drvNow ≤ g.since) →
        ((s.driveItem p it).ign n).st = .low ∧ ((s.driveItem p it).ign n).dur = none) ∧
      (g.st = .dwell → g.since + s.cfg Reg.IGN_DWMAX 0 * 200 ≤ s.drvNow → ∃ t, exec (.overdwell (24 + n)) s = .next t ∧ t.ign n = ramp ∧
        t.drv.overdwell = satInc 255 s.drv.overdwell ∧ newReports s t [(0x2701, 24 + n)]) ∧
      (g.st = .ramp → g.rampEnd ≤ s.drvNow → exec (.rampEnd (24 + n)) s = .next (s.setIgn n { (g.enter .low s.drvNow) with dur := none })) ∧
      (s.domOn 10 = true → ∃ t, exec (.soft 1#16) s = .next t ∧ (g.st = .dwell → (t.ign n).st = .ramp ∧ (t.ign n).since = s.drvNow + 1) ∧
        (g.st ≠ .dwell → t.ign n = g)) ∧
      (∀ v : Word, v ≠ 1#16 → exec (.soft v) s = .next s) ∧
      ((g.st = .dwell ∨ g.st = .low) → s.unitHere 8 = true → g.runLong s.drvNow = true → ∃ t, exec (.ignOutputFault (24 + n)) s = .next t ∧
        (t.ign n).st = .low ∧ (g.st = .dwell → (t.ign n).dur = none) ∧ bit t.drv.ignFlt n = true)) ∧
  (
    ∀ (n : Nat) (s : State), n < 8 →
      let v := s.valve n
      let above := fun code => s.fld Reg.VLV_IOC n 11 0 ≤ code ∧ s.unitHere 9 = true
      (∀ code, code < 4096 → s.drvNow % 800 = 100 * n + 50 → v.run = true → v.start ≤ s.drvNow →
        ((¬ above code ∨ v.ocOff ≠ none) → exec (.valveCurrentResult n code) s = .next (s.setValve n { v with sum := v.sum + code })) ∧
        (above code → v.ocOff = none →
          exec (.valveCurrentResult n code) s = .next (s.setValve n { v with sum := v.sum + code, ocOff := some (s.drvNow + 40) }))) ∧
      (v.run = true → v.gate = true → v.start + tonOf v.per v.d ≤ s.drvNow →
        exec (.valveTonExpiry n) s = .next (s.setValve n { v with gate := false })) ∧
      (v.run = true → v.start + v.per * 800 ≤ s.drvNow → (v.ocOff = none ∨ v.ocRun < 3) → ∃ t, exec (.valvePeriodEnd n) s = .next t ∧
        (t.valve n).run = true ∧ (t.valve n).start = v.start + v.per * 800 ∧ (t.valve n).imean = v.mean ∧ (t.valve n).sum = 0 ∧
        (t.valve n).ocOff = none ∧ (t.valve n).d ≤ s.cfg Reg.VLV_DMAX n ∧
        (t.valve n).gate = decide (tonOf (t.valve n).per (t.valve n).d ≠ 0)) ∧
      (v.run = true → v.start + v.per * 800 ≤ s.drvNow → v.ocOff ≠ none → 3 ≤ v.ocRun → ∃ t, exec (.valvePeriodEnd n) s = .next t ∧
        (t.valve n).run = false ∧ (t.valve n).latch = true ∧ t.vlvGate n = false ∧ t.drv.latches = satInc 255 s.drv.latches) ∧
      (∀ w : Word, bit w.toNat 15 = true → w.toNat % 1024 = 0 → s.domOn 10 = true → s.fld Reg.VLV_SEL 0 2 0 = n → v.latch = true →
        (s.keptBit Reg.VLV_STAT n 15 = true → exec (.latch w) s = .next s) ∧ (s.keptBit Reg.VLV_STAT n 15 = false → ∃ t, exec (.latch w) s = .next t ∧ (t.valve n).latch = false ∧
          ((s.vlvMode n = 1 ∨ s.vlvMode n = 2) → s.vlvLive = true → (t.valve n).run = true ∧ (t.valve n).start = s.drvNow + 1))))

/-! ### The Larlar lanes -/

/-- R390, R391, R393: ADD, ADC, SUB, SBC, CMP, NEG, ADDI, SUBI and CMPI leave the 16-bit sum or difference with its Z, N, C and V. -/
def Obligations.LaneArithmetic : Prop :=
  ∀ (l : Nat) (i : LarWord) (s0 s : State), s = s0.laneSettle l → s.executes l i →
    i.mn ∈ [.add, .adc, .sub, .sbc, .cmp, .neg, .addi, .subi, .cmpi] →
    let r := i.mn.sum ((s.lane l).gw i.a) ((s.lane l).gw i.rs) (toWord i.b) (s.lane l).fl
    exec (i.mn.command l) s0 = .next (s.completed l i
      (if i.mn = .cmp ∨ i.mn = .cmpi then [.flags r.2] else [.g i.a r.1.toNat, .flags r.2]) (s.nextPc l i))

/-- R390, R393, R398: AND, OR, XOR, NOT, TST, PAR, BREV, SWPB and BREVN set Z and N alone; MOV, MOVI and LDI change no flag. -/
def Obligations.LaneLogicAndMoves : Prop :=
  ∀ (l : Nat) (i : LarWord) (s0 s : State), s = s0.laneSettle l → s.executes l i →
    let r := i.mn.bitwise ((s.lane l).gw i.a) ((s.lane l).gw i.rs) i.b
    (i.mn ∈ [.land, .lor, .lxor, .lnot, .par, .brev, .swpb, .brevn] →
      exec (i.mn.command l) s0 = .next (s.completed l i [.g i.a r.toNat, .flags ((s.lane l).fl.ofWord r)] (s.nextPc l i))) ∧
    (i.mn = .tst → exec (.larTst l) s0 = .next (s.completed l i [.flags ((s.lane l).fl.ofWord r)] (s.nextPc l i))) ∧
    (i.mn = .mov → exec (.larMov l) s0 = .next (s.completed l i [.g i.a ((s.lane l).gw i.rs).toNat] (s.nextPc l i))) ∧
    (i.mn = .movi → exec (.larMovi l) s0 = .next (s.completed l i [.g i.a i.b] (s.nextPc l i))) ∧
    (i.mn = .ldi → exec (.larLdi l) s0 = .next (s.completed l i [.g i.a i.w] (s.nextPc l i)))

/-- R397: SHL, SHR, SAR, ROR and ROL by gs[4:0], SHLI, SHRI, SARI and RORI by n; a left rotate by n
is RORI with 16 - n. -/
def Obligations.LaneShifts : Prop :=
  (∀ (l : Nat) (i : LarWord) (s0 s : State), s = s0.laneSettle l → s.executes l i →
    i.mn ∈ [.shl, .shr, .sar, .ror, .rol, .shli, .shri, .sari, .rori] →
    let n := if i.mn ∈ [.shli, .shri, .sari, .rori] then i.b else ((s.lane l).gw i.rs).toNat % 32
    let r := i.mn.shifted ((s.lane l).gw i.a) n (s.lane l).fl
    exec (i.mn.command l) s0 = .next (s.completed l i [.g i.a r.1.toNat, .flags r.2] (s.nextPc l i))) ∧
  (∀ (x : Word) (n : Nat) (f : Flags), 0 < n → n < 16 → (Mn.rol.shifted x n f).1 = (Mn.rori.shifted x (16 - n) f).1)

/-- R394, R395, R396: the products, the quotients and remainders, and the trap of a division by zero with DZT = 1. -/
def Obligations.LaneMultiplyDivide : Prop :=
  ∀ (l : Nat) (i : LarWord) (s0 s : State), s = s0.laneSettle l → s.executes l i →
    let x := (s.lane l).gw i.a
    let y := (s.lane l).gw i.rs
    let f := (s.lane l).fl
    let p := i.mn.product x y
    let q := i.mn.divided x y
    (i.mn ∈ [.mulu, .muls] →
      exec (i.mn.command l) s0 = .next (s.completed l i
        [.g i.a (p.extractLsb' 0 16).toNat, .g (i.a + 1) (p.extractLsb' 16 16).toNat,
          .flags { f with z := decide (p = 0), n := p.msb, c := false, v := false }] (s.nextPc l i))) ∧
    (i.mn ∈ [.divu, .divs] → (y ≠ 0 ∨ s.flag Reg.LAN_LCFG l 1 = false) →
      exec (i.mn.command l) s0 = .next (s.completed l i
        [.g i.a q.1.toNat, .g (i.a + 1) q.2.1.toNat,
          .flags { (f.ofWord q.1) with c := false, v := q.2.2, dz := f.dz || decide (y = 0) }] (s.nextPc l i))) ∧
    (i.mn ∈ [.divu, .divs] → y = 0 → s.flag Reg.LAN_LCFG l 1 = true →
      exec (i.mn.command l) s0 = .next ((s.setLane l { s.lane l with
        land := (s.lane l).land ++ [(s.tb + 3, .flags { f with dz := true })] }).trapped l 0x02))

/-- R399, R400: LD, LDA, ST and STA; a loaded value lands four ticks after the other writes; a register address above 2,047 traps.
Where the rules leave a point open it says what the model chose (note 43). -/
def Obligations.LaneLoadsAndStores : Prop :=
  ∀ (l : Nat) (i : LarWord) (s0 s : State), s = s0.laneSettle l → s.executes l i →
    let k := s.lane l
    let g := (k.gw i.rs).toNat
    let step : List LaneWrite := if i.b % 4 = 1 then [.g i.rs ((g + 1) % 65536)] else if i.b % 4 = 2 then [.g i.rs ((g + 65535) % 65536)] else []
    let loading := fun a => { k with land := k.land ++ [(s.tb + 7, LaneWrite.g i.a (s.lanWord (dAddr l a)))] }
    (i.mn = .ld → g ≤ 2047 → s.lan.parity.contains (dAddr l g) = false →
      exec (.larLd l) s0 = .next (s.setLane l ((loading g).retired i s.tb (s.tb + 3) step (s.nextPc l i)))) ∧
    (i.mn = .lda → s.lan.parity.contains (dAddr l i.w) = false →
      exec (.larLda l) s0 = .next (s.setLane l ((loading i.w).retired i s.tb (s.tb + 3) [] (s.nextPc l i)))) ∧
    (i.mn = .st → g ≤ 2047 → exec (.larSt l) s0 = .next (s.completed l i (.mem g (k.gw i.a).toNat :: step) (s.nextPc l i))) ∧
    (i.mn = .sta → exec (.larSta l) s0 = .next (s.completed l i [.mem i.w (k.gw i.a).toNat] (s.nextPc l i))) ∧
    (i.mn ∈ [.ld, .st] → 2047 < g → exec (i.mn.command l) s0 = .next (s.trapped l 0x05))

/-- R341, R343, R399: what a lane's write leaves as it lands: a register, or one word of its cluster's data memory; every other word of
the cluster memories and every other lane's registers stay. Where the rules leave a point open it says what the model chose (note 43). -/
def Obligations.LaneWritesLand : Prop :=
  ∀ (l n v : Nat) (s : State),
    (∀ b, (s.landOne l (.mem n v)).lanWord b = if b = dAddr l n then v % 65536 else s.lanWord b) ∧
    (∀ m, ((s.landOne l (.mem n v)).lane m) = s.lane m) ∧
    (∀ m, (((s.landOne l (.g n v)).lane l).gw m).toNat = if m = n then v % 65536 else ((s.lane l).gw m).toNat) ∧
    (∀ m, m ≠ l → (s.landOne l (.g n v)).lane m = s.lane m) ∧
    (∀ b, (s.landOne l (.g n v)).lanWord b = s.lanWord b)

/-- R390, R392, R409 to R411, R422: NOP, HALT, JMP, JR, BR, CALL, RET, RETV, DJNZ and TRAP. -/
def Obligations.LaneControlFlow : Prop :=
  ∀ (l : Nat) (i : LarWord) (s0 s : State), s = s0.laneSettle l → s.executes l i →
    let k := s.lane l
    let stk := s.flag Reg.LAN_LCFG l 0
    let popped := if k.depth = 0 then 0 else k.stack.headD 0 % 4096
    let dec := k.gw i.a - 1
    (i.mn = .nop → exec (.larNop l) s0 = .next (s.completed l i [] (s.nextPc l i))) ∧
    (i.mn = .halt → exec (.larHalt l) s0 = .next (s.completed l i [.halt] (s.nextPc l i))) ∧
    (i.mn = .jmp → exec (.larJmp l) s0 = .next (s.completed l i [] (i.w % 4096))) ∧
    (i.mn = .jr → exec (.larJr l) s0 = .next (s.completed l i [] ((k.gw i.rs).toNat % 4096))) ∧
    (i.mn = .br → exec (.larBr l) s0 =
      .next (s.completed l i [] (if k.fl.holds (2 * i.a + i.b / 16) then i.w % 4096 else s.nextPc l i))) ∧
    (i.mn = .djnz → exec (.larDjnz l) s0 =
      .next (s.completed l i [.g i.a dec.toNat] (if dec = 0 then s.nextPc l i else i.w % 4096))) ∧
    (i.mn = .call → (k.depth = 8 → stk = false) → exec (.larCall l) s0 = .next (s.completed l i [.push (k.pc + 2)] (i.w % 4096))) ∧
    (i.mn = .call → k.depth = 8 → stk = true → exec (.larCall l) s0 = .next (s.trapped l 0x03)) ∧
    (i.mn = .ret → (k.depth = 0 → stk = false) → exec (.larRet l) s0 = .next (s.completed l i [.popStack] popped)) ∧
    (i.mn = .retv → k.insvc ≠ [] → (k.depth = 0 → stk = false) →
      exec (.larRetv l) s0 = .next (s.completed l i [.endService, .popStack] popped)) ∧
    (i.mn ∈ [.ret, .retv] → (i.mn = .retv → k.insvc ≠ []) → k.depth = 0 → stk = true →
      exec (i.mn.command l) s0 = .next (s.trapped l 0x04)) ∧
    (i.mn = .retv → k.insvc = [] → exec (.larRetv l) s0 = .next (s.trapped l 0x06)) ∧
    (i.mn = .trap → exec (.larTrap l) s0 = .next (s.trapped l (0x20 + i.b)))

/-- R392: BR branches where the condition that its field cc names holds; the sixteen conditions. -/
def Obligations.BranchConditions : Prop :=
  (∀ (l : Nat) (i : LarWord) (s0 s : State), s = s0.laneSettle l → s.executes l i → i.mn = .br →
    exec (.larBr l) s0 = .next (s.completed l i [] (if (s.lane l).fl.holds (2 * i.a + i.b / 16) then i.w % 4096 else s.nextPc l i))) ∧
  ∀ f : Flags,
    f.holds 0x0 = true ∧ (f.holds 0x1 = true ↔ f.z = true) ∧ (f.holds 0x2 = true ↔ f.z = false) ∧ (f.holds 0x3 = true ↔ f.c = true) ∧
    (f.holds 0x4 = true ↔ f.c = false) ∧ (f.holds 0x5 = true ↔ f.n = true) ∧ (f.holds 0x6 = true ↔ f.n = false) ∧
    (f.holds 0x7 = true ↔ f.v = true) ∧ (f.holds 0x8 = true ↔ f.v = false) ∧ (f.holds 0x9 = true ↔ f.c = true ∧ f.z = false) ∧
    (f.holds 0xA = true ↔ f.c = false ∨ f.z = true) ∧ (f.holds 0xB = true ↔ f.n = f.v) ∧ (f.holds 0xC = true ↔ f.n ≠ f.v) ∧
    (f.holds 0xD = true ↔ f.z = false ∧ f.n = f.v) ∧ (f.holds 0xE = true ↔ f.z = true ∨ f.n ≠ f.v) ∧ (f.holds 0xF = true ↔ f.dz = true)

/-- R362, R401 to R404: MFSL, MFSH, MTSL, MTSH, the counter commands and the port commands.
Where the rules leave a point open it says what the model chose (notes 43, 44). -/
def Obligations.LaneItemsCountersAndPorts : Prop :=
  ∀ (l : Nat) (i : LarWord) (s0 s : State), s = s0.laneSettle l → s.executes l i →
    let k := s.lane l
    let v := s.laneItem l i.b
    let done := fun ws => s.completed l i ws (s.nextPc l i)
    let any := !(k.cap (i.b - 0xE)).isEmpty
    (i.mn = .mfsl → i.b ∉ [0xE, 0xF] →
      exec (.larMfsl l) s0 = .next (done (.g i.a (v % 65536) :: if i.b ≤ 0x10 then [.high i.b (v / 65536)] else []))) ∧
    (i.mn = .mfsl → i.b ∈ [0xE, 0xF] →
      exec (.larMfsl l) s0 = .next (done ([.g i.a (v % 65536), .high i.b (v / 65536), .flags { k.fl with c := any }] ++
        if any then [.pop (i.b - 0xE)] else []))) ∧
    (i.mn = .mfsh → exec (.larMfsh l) s0 = .next (done [.g i.a (Tbl.get 0 i.b k.high)])) ∧
    (i.mn ∈ [.mtsl, .mtsh] → exec (i.mn.command l) s0 = .next (done (itemWrite i.b (k.gw i.a).toNat (decide (i.mn = .mtsh))))) ∧
    (i.mn = .ctcRun → exec (.larCtcRun l) s0 = .next (done [.run (i.a % 2) true])) ∧
    (i.mn = .ctcStop → exec (.larCtcStop l) s0 = .next (done [.run (i.a % 2) false])) ∧
    (i.mn = .ctcClear → exec (.larCtcClear l) s0 = .next (done [.ctr (i.a % 2) 0])) ∧
    (i.mn = .pclr → exec (.larPclr l) s0 = .next (done [.latch i.a false])) ∧
    (i.mn = .pset → exec (.larPset l) s0 = .next (done [.latch i.a true])) ∧
    (i.mn = .ptgl → exec (.larPtgl l) s0 = .next (done [.latch i.a (!(bit k.latch i.a))])) ∧
    (i.mn = .pmovc → exec (.larPmovc l) s0 = .next (done [.latch i.a k.fl.c]))

/-- R405, R406, R416, R419, R420: WAIT, SHIFT and the waiting extension functions hold the lane, with what they wait for; TVTX, LWR,
LWRI, LWW, LWWI and EWR trap outside their ranges.
R342, R405, R406, R416 to R420: a lane that waits is RUNNING; what ends a wait: the condition, the clock edge, the unit's answer.
Where the rules leave a point open it says what the model chose (notes 30, 43, 45). -/
def Obligations.LaneWaits : Prop :=
  (
    ∀ (l : Nat) (i : LarWord) (s0 s : State), s = s0.laneSettle l → s.executes l i →
      let k := s.lane l
      let asks := WaitFor.unit i.mn (k.reg 0) (k.reg 2) (k.reg 3) []
      let vertex := vertexOf (nth [] (s.unitZeroAt l).vtx (bits (k.reg 2) 10 8)) (bits (k.reg 2) 5 0)
      (i.mn = .wait → exec (.larWait l) s0 = .next (s.heldIn l i (.cond (i.b % 4) i.rs))) ∧
      (i.mn = .shift → exec (.larShift l) s0 = .next (s.heldIn l i (.shift i.a i.rs (bit i.b 1) (bit i.b 0)))) ∧
      (i.mn = .tvtx → k.reg 3 + 7 ≤ 2047 →
        exec (.larTvtx l) s0 = .next (s.heldIn l i (.unit .tvtx (k.reg 0) (k.reg 2) (k.reg 3) vertex))) ∧
      (i.mn = .tvtx → 2047 < k.reg 3 + 7 → exec (.larTvtx l) s0 = .next (s.trapped l 0x05)) ∧
      (i.mn ∈ [.lwr, .lwri] → k.reg 3 < 8 → exec (i.mn.command l) s0 = .next (s.heldIn l i asks)) ∧
      (i.mn ∈ [.lww, .lwwi] → k.reg 3 < 8 → inGeneral (windowAddr (k.reg 2) (k.reg 3)) 1 = true →
        exec (i.mn.command l) s0 = .next (s.heldIn l i asks)) ∧
      (i.mn = .ewr → k.reg 2 < 8192 → k.reg 3 < 8 →
        exec (.larEwr l) s0 = .next ((s.heldIn l i asks).pushReq (.write (k.reg 2) (k.reg 3) (k.reg 0) l))) ∧
      (i.mn ∈ [.lwr, .lwri, .lww, .lwwi, .ewr] → 8 ≤ k.reg 3 → exec (i.mn.command l) s0 = .next (s.trapped l 0x07)) ∧
      (i.mn = .ewr → 8192 ≤ k.reg 2 → exec (.larEwr l) s0 = .next (s.trapped l 0x07)) ∧
      (i.mn ∈ [.lww, .lwwi] → inGeneral (windowAddr (k.reg 2) (k.reg 3)) 1 = false →
        exec (i.mn.command l) s0 = .next (s.trapped l 0x07)) ∧
      (i.mn = .earm → k.reg 2 < 8192 →
        exec (.larEarm l) s0 = .next ((s.heldIn l i asks).pushReq (.arm (k.reg 2) (.lane l)))) ∧
      (i.mn = .earm → 8192 ≤ k.reg 2 →
        exec (.larEarm l) s0 = .next (s.completed l i [.g 0 4, .flags { k.fl with c := true }] (s.nextPc l i))) ∧
      (i.mn = .ecan → cancelOk (k.reg 3) = true →
        exec (.larEcan l) s0 = .next ((s.heldIn l i asks).pushReq (.cancel (k.reg 2) (bit (k.reg 3) 8) (bits (k.reg 3) 6 0) (.lane l)))) ∧
      (i.mn = .ecan → cancelOk (k.reg 3) = false →
        exec (.larEcan l) s0 = .next (s.completed l i [.g 0 0, .g 1 0, .flags { k.fl with c := true }] (s.nextPc l i)))) ∧
  (
    ∀ (l : Nat) (s : State), (s.lane l).st = .running →
      (∀ (s0 : State) (kind n : Nat) (w : Waiting), s = s0.laneSettle l → (s.lane l).wait = some w → w.for_ = .cond kind n →
        w.from_ ≤ s0.tb → w.test ≤ s0.tb → (s.lane l).badItem = none → s.condHolds l kind n w.from_ = true →
        exec (.waitSatisfied l) s0 = .next (s.setLane l
          ({ s.lane l with wait := none }.retired w.i (s.cycleStart l) s.tb [] ((s.lane l).pc + w.i.len)))) ∧
      (∀ (data clock : Nat) (falling : Bool) (w : Waiting), (s.lane l).wait = some w → w.for_ = .shift data clock falling false →
        w.from_ ≤ s.tb → w.test ≤ s.tb → (s.lane l).badItem = none →
        s.portLevel l clock = (!falling) → s.portBefore l clock = falling →
        let k := s.lane l
        let b := s.portLevel l data
        exec (.shiftEdge l) s = .next (s.setLane l
          ({ k with wait := none, sh := (k.sh * 2 + b2n b) % 4294967296, sc := min (k.sc + 1) 32
                    fl := { k.fl with c := b, z := decide (min (k.sc + 1) 32 = 32) } }.retired w.i (s.cycleStart l) s.tb []
            (k.pc + w.i.len)))) ∧
      (∀ (data clock : Nat) (falling : Bool) (w : Waiting), (s.lane l).wait = some w → w.for_ = .shift data clock falling true →
        w.from_ ≤ s.tb → w.test ≤ s.tb → (s.lane l).badItem = none →
        s.portLevel l clock = (!falling) → s.portBefore l clock = falling →
        let k := s.lane l
        let b := bit k.sh 31
        exec (.shiftEdge l) s = .next (s.setLane l
          ({ k with wait := none, sh := k.sh * 2 % 4294967296, sc := k.sc - 1, fl := { k.fl with c := b, z := decide (k.sc - 1 = 0) }
                    land := k.land ++ [(s.tb + 1, LaneWrite.latch data b)] }.retired w.i (s.cycleStart l) s.tb [] (k.pc + w.i.len)))) ∧
      (∀ (s0 : State) (mn : Mn) (g0 g2 g3 : Nat) (ws : List Word) (w : Waiting), s = s0.ewrTurn l → (s.lane l).wait = some w →
        w.for_ = .unit mn g0 g2 g3 ws → w.test ≤ s.tb → (s.lane l).badItem = none →
        let a := windowAddr g2 g3
        let next : List LaneWrite := [.g 2 ((a + 1) % 0x80000 % 65536), .g 3 ((a + 1) % 0x80000 / 65536)]
        let t := s.latTouch a
        (mn = .lwr → t.latOk a = true → exec (.extUnitAnswer l) s0 = .next (t.answer l w.i [.g 0 (t.latVal a)] false)) ∧
        (mn = .lwri → t.latOk a = true → exec (.extUnitAnswer l) s0 = .next (t.answer l w.i (.g 0 (t.latVal a) :: next) false)) ∧
        (mn = .lwr → t.latOk a = false → exec (.extUnitAnswer l) s0 = .next ((t.report 0x5807 l).answer l w.i [.g 0 0] true)) ∧
        (mn = .lww → s.latLocked a = false → exec (.extUnitAnswer l) s0 = .next ((s.latPut a g0).answer l w.i [] false)) ∧
        (mn = .lwwi → s.latLocked a = false → exec (.extUnitAnswer l) s0 = .next ((s.latPut a g0).answer l w.i next false)) ∧
        (mn ∈ [.lww, .lwwi] → s.latLocked a = true → exec (.extUnitAnswer l) s0 = .next (s.trapped l 0x08)) ∧
        (mn = .tvtx → (2048 ≤ g2 ∨ bits g2 7 6 ≠ 0 ∨ 6 ≤ bits g2 10 8) → g2 < 65536 →
          exec (.extUnitAnswer l) s0 = .next (s.answer l w.i [] true)) ∧
        (mn = .tvtx → g2 < 2048 → bits g2 7 6 = 0 → bits g2 10 8 < 6 → ws.length = 8 → exec (.extUnitAnswer l) s0 =
          .next (s.answer l w.i ((List.range 8).map (fun j => LaneWrite.mem (g3 + j) (nth 0 ws j).toNat)) false)) ∧
        (∀ r x rest, mn = .earm → takeFirst (fun p => p.1 == l) s.evq.answers = some ((l, r, x), rest) →
          exec (.extUnitAnswer l) s0 =
            .next ({ s with evq := { s.evq with answers := rest } }.answer l w.i [.g 0 r] (decide (r ≠ 1)))) ∧
        (∀ d n rest, mn = .ecan → takeFirst (fun p => p.1 == l) s.evq.answers = some ((l, d, n), rest) →
          exec (.extUnitAnswer l) s0 = .next ({ s with evq := { s.evq with answers := rest } }.answer l w.i [.g 0 d, .g 1 n] false))) ∧
      (∀ (g0 g2 g3 slot field v : Nat) (ws : List Word) (rest : List AngReq) (w : Waiting), (s.lane l).wait = some w →
        w.for_ = .unit .ewr g0 g2 g3 ws → w.test ≤ s.tb → (s.lane l).badItem = none → s.evq.arming = none →
        s.evq.reqs = .write slot field v l :: rest → (∀ x ∈ s.evq.answers, x.1 ≠ l) →
        let s1 := { s with evq := { s.evq with reqs := rest } }
        (s.latLocked (8 * slot + field) = false →
          exec (.extUnitAnswer l) s = .next ((s1.latPut (8 * slot + field) v).answer l w.i [] false)) ∧
        (s.latLocked (8 * slot + field) = true → exec (.extUnitAnswer l) s = .next (s1.trapped l 0x08))))

/-- R408, R412 to R415: CRCB, REP and the block instructions.
Where the rules leave a point open it says what the model chose (notes 43, 45). -/
def Obligations.LaneRepeatsAndCrc : Prop :=
  ∀ (l : Nat) (i : LarWord) (s0 s : State), s = s0.laneSettle l → s.executes l i →
    let k := s.lane l
    let byte := if bit i.b 0 then highByte (k.gw i.rs) else lowByte (k.gw i.rs)
    let crc := crcWord (bit i.b 1) (k.gw 7) (k.gw i.a) byte
    let count := if bit i.a 1 then i.a % 2 * 32 + i.b + 1 else (k.gw (i.a % 2 * 4 + i.b / 8)).toNat
    let c := if k.cnt = 0 then count else k.cnt
    let src := s.lanWord (dAddr l k.sa)
    let dst := s.lanWord (dAddr l k.da)
    let fill := (k.gw (i.a % 2 * 4 + i.b / 8)).toNat
    let clean := fun a => a ≤ 2047 ∧ s.lan.parity.contains (dAddr l a) = false
    let element := fun (ws last : List LaneWrite) =>
      if k.cnt = 1 then s.completed l i (ws ++ .cnt 0 :: last) (s.nextPc l i)
      else s.setLane l { k with next := s.tb + 4, land := k.land ++ (ws ++ [LaneWrite.cnt (k.cnt - 1)]).map (fun w => (s.tb + 3, w)) }
    (i.mn = .crcb → exec (.larCrcb l) s0 =
      .next (s.completed l i [.g i.a crc.toNat, .flags { k.fl with z := decide (crc = 0) }] (s.nextPc l i))) ∧
    (i.mn = .rep → k.rep = none → repeatable (s.lanWord (iAddr l (k.pc + 1))) = true → exec (.larRep l) s0 =
      .next (s.setLane l { k with
        next := s.tb + 4, rep := if c = 0 then none else some (bit i.a 2)
        land := k.land ++ (if c = 0 then [.cnt 0, .pc (k.pc + 2)] else [LaneWrite.cnt c]).map (fun w => (s.tb + 3, w)) })) ∧
    (i.mn = .rep → k.rep = none → repeatable (s.lanWord (iAddr l (k.pc + 1))) = false → exec (.larRep l) s0 = .next (s.trapped l 0x01)) ∧
    (i.mn ∈ [.bmov, .bfil, .bcrc] → k.cnt = 0 → exec (i.mn.command l) s0 = .next (s.completed l i [] (s.nextPc l i))) ∧
    (i.mn = .bcmp → k.cnt = 0 →
      exec (.larBcmp l) s0 = .next (s.completed l i [.flags { k.fl with z := true }] (s.nextPc l i))) ∧
    (i.mn = .bmov → k.cnt ≠ 0 → clean k.sa → k.da ≤ 2047 →
      exec (.larBmov l) s0 = .next (element [.mem k.da src, .sa (k.sa + 1), .da (k.da + 1)] [])) ∧
    (i.mn = .bfil → k.cnt ≠ 0 → k.da ≤ 2047 → exec (.larBfil l) s0 = .next (element [.mem k.da fill, .da (k.da + 1)] [])) ∧
    (i.mn = .bcmp → k.cnt ≠ 0 → clean k.sa → clean k.da → src = dst →
      exec (.larBcmp l) s0 = .next (element [.sa (k.sa + 1), .da (k.da + 1)] [.flags { k.fl with z := true }])) ∧
    (i.mn = .bcmp → k.cnt ≠ 0 → clean k.sa → clean k.da → src ≠ dst →
      exec (.larBcmp l) s0 =
        .next (s.completed l i [.flags { k.fl with z := false, c := decide (dst ≤ src) }] (s.nextPc l i))) ∧
    (i.mn = .bcrc → k.cnt ≠ 0 → clean k.sa →
      let d := toWord k.da
      let x := toWord src
      let q := if bit i.b 2 then crcWord true (k.gw 7) (crcWord true (k.gw 7) d (lowByte x)) (highByte x)
        else crcWord false (k.gw 7) (crcWord false (k.gw 7) d (highByte x)) (lowByte x)
      exec (.larBcrc l) s0 = .next (element [.da q.toNat, .sa (k.sa + 1)] [])) ∧
    (i.mn ∈ [.bmov, .bcmp, .bcrc] → k.cnt ≠ 0 → 2047 < k.sa → exec (i.mn.command l) s0 = .next (s.trapped l 0x05))

/-- R416, R417: unit 0 answers with what the ANGLE island held at the end of the tick 8 before the lane cycle of the cluster's replica.
Where the rules leave a point open it says what the model chose (notes 43, 45). -/
def Obligations.LaneTangentUnit : Prop :=
  ∀ (l : Nat) (i : LarWord) (s0 s : State), s = s0.laneSettle l → s.executes l i →
    ∀ u, s.lan.u0.find? (fun x => decide (x.tick + 8 ≤ s.laneClock l)) = some u →
    let k := s.lane l
    let done := fun (g0 g1 : Nat) (c : Bool) => s.completed l i [.g 0 g0, .g 1 g1, .flags { k.fl with c := c }] (s.nextPc l i)
    let a := (k.gw 3).toNat % 256 * 65536 + (k.gw 2).toNat
    (i.mn = .tang → exec (.larTang l) s0 =
      .next (done (u.angle % 65536) (u.cyc * 256 + u.angle / 65536) (!(u.ast == .running)))) ∧
    (i.mn = .trate → exec (.larTrate l) s0 = .next (done (u.seg.rate % 65536) (u.seg.rate / 65536) false)) ∧
    (i.mn = .tpred → exec (.larTpred l) s0 = .next (done (u.seg.phat % 65536) (u.seg.phat / 65536) false)) ∧
    (i.mn = .trpm → exec (.larTrpm l) s0 = .next (done (u.rpm % 65536) (u.rpm / 65536) false)) ∧
    (i.mn = .tsyn → exec (.larTsyn l) s0 = .next (done u.stat u.pos false)) ∧
    (i.mn = .ta2t → k.gw 3 < 256 → (u.ast == .running) = true → cauSub a u.seg.a < u.seg.len →
      exec (.larTa2t l) s0 = .next (done (pinOf u.seg a % 65536) (pinOf u.seg a / 65536) false)) ∧
    (i.mn = .ta2t → (256 ≤ k.gw 3 ∨ (u.ast == .running) = false ∨ u.seg.len ≤ cauSub a u.seg.a) →
      exec (.larTa2t l) s0 = .next (done 0 0 true))

/-- R418: unit 1, CRC and hash.
R421: unit 4 returns fields of the newest record of a channel, and fails where there is none.
Where the rules leave a point open it says what the model chose (notes 30, 43). -/
def Obligations.LaneHashAndRecordUnits : Prop :=
  (
    ∀ (l : Nat) (i : LarWord) (s0 s : State), s = s0.laneSettle l → s.executes l i →
      let k := s.lane l
      (i.mn ∈ [.c32i, .c32w, .c32f, .hshi, .hshw] →
        exec (i.mn.command l) s0 = .next (s.completed l i (resultPair (i.mn.hashed k) k.fl) (s.nextPc l i))) ∧
      (i.mn = .c16w → exec (.larC16w l) s0 = .next (s.completed l i
        [.g 0 (crcWord false 0x1021 (crcWord false 0x1021 (k.gw 0) (highByte (k.gw 2))) (lowByte (k.gw 2))).toNat,
          .flags { k.fl with c := false }] (s.nextPc l i)))) ∧
  (
    ∀ (l : Nat) (i : LarWord) (s0 s : State), s = s0.laneSettle l → s.executes l i →
      let k := s.lane l
      let c := (k.gw 2).toNat
      let table := if i.mn ∈ [.kstat, .kint] then s.cmb.resK else s.cmb.resP
      (∀ r, c < 24 → Tbl.find? c table = some r → i.mn ∈ [.pstat, .pmax, .qmax, .a1050, .a90lat, .kstat, .kint] →
        exec (i.mn.command l) s0 = .next (s.completed l i
          [.g 0 (nth 0 r i.mn.recordWords.1), .g 1 (nth 0 r i.mn.recordWords.2), .flags { k.fl with c := false }] (s.nextPc l i))) ∧
      (∀ r, c < 24 → Tbl.find? c table = some r → i.mn = .imep →
        exec (.larCmbrdImep l) s0 = .next (s.completed l i [.g 0 (nth 0 r 7), .flags { k.fl with c := false }] (s.nextPc l i))) ∧
      ((24 ≤ c ∨ Tbl.find? c table = none) → i.mn ∈ [.pstat, .pmax, .imep, .qmax, .a1050, .a90lat, .kstat, .kint] →
        exec (i.mn.command l) s0 = .next (s.completed l i [.g 0 0, .g 1 0, .flags { k.fl with c := true }] (s.nextPc l i))))

/-- R354 to R358, R365, R369 to R371, R389: a vector is taken, a compare matches, a counter wraps, a pin changes, a word is
undefined. Where the rules leave a point open it says what the model chose (note 44). -/
def Obligations.LaneHardwareEvents : Prop :=
  (∀ (l n : Nat) (s0 s : State), s = s0.laneSettle l → l < 64 → s.laneDue l = true → s.takeoverDue l = false →
    (s.lane l).rep ≠ some false → s.vecReady l = some n → (s.lane l).badItem = none →
    ((s.lane l).depth = 8 → s.flag Reg.LAN_LCFG l 0 = false) →
    exec (.vectorEntry l) s0 = .next (s.setLane l { s.lane l with
      stack := (s.lane l).pc :: (s.lane l).stack.take 7, depth := min ((s.lane l).depth + 1) 8
      pend := (s.lane l).pend.filter (fun p => p.1 != n), insvc := n :: (s.lane l).insvc
      pc := s.fld (Reg.LAN_VENT0 + n) l 11 0, next := s.tb + 4, rep := none })) ∧
  (∀ (l n : Nat) (s : State), n < 2 → ((s.lane l).cmp n).hit = true → ∃ t, exec (.compareMatch l n) s = .next t ∧
    ((t.lane l).cmp n).hit = false ∧
    ((t.lane l).cmp n).live = (if s.cmpStaged l n = true ∧ ((s.lane l).cmp n).staged = true then ((s.lane l).cmp n).shadow
      else ((s.lane l).cmp n).live) ∧
    (bits (s.ctCfg l 0) 11 10 = n + 1 → (t.lane l).ct0.clr = true) ∧ (bits (s.ctCfg l 1) 11 10 = n + 1 → (t.lane l).ct1.clr = true)) ∧
  (∀ (l n : Nat) (s0 s : State), s = s0.laneSettle l → n < 2 → s.wrapsNow l n = true → ∃ t, exec (.counterWrap l n) s0 = .next t ∧
    (n = 0 → bits (s.ctCfg l 1) 14 12 = 6 → (t.lane l).ct1.edge = true) ∧
    ∀ m, m < 2 → s.cmpSrc l m = n → s.cmpStaged l m = true → ((s.lane l).cmp m).staged = true →
      ((t.lane l).cmp m).live = ((s.lane l).cmp m).shadow ∧ ((t.lane l).cmp m).staged = false) ∧
  (∀ (pin : Nat) (level : Bool) (s : State), pin < 96 → s.padLevel pin ≠ level → ∃ t, exec (.gpPinEdge pin level) s = .next t ∧
    t.lan.pads = Tbl.insert pin (level, s.tb) s.lan.pads) ∧
  (∀ (l : Nat) (s0 s : State), s = s0.laneSettle l → l < 64 → s.laneExecutes l = true → s.fetchBad l = false → s.laneWord l = none →
    exec (.undefinedInstruction l) s0 = .next (s.trapped l 0x01))

/-- R344, R373 to R376, R382: the lane commands, the access to a lane's items at its next lane cycle, and the spare commands, of the
selected lane. Where the rules leave a point open it says what the model chose (notes 45, 46). -/
def Obligations.LaneCommands : Prop :=
  ∀ (s : State) (v : Word),
    let l := s.laneSel
    let k := s.lane l
    let code := k.stateCode s.tb
    let item := s.fld Reg.LAN_RSEL l 4 0
    let c := s.fld Reg.LAN_SEL 0 6 4
    (s.laneOn l = true → bits v.toNat 14 12 = 2 → (code = 1 ∨ code = 2) →
      exec (.lanCmdHalt v) s = .next (s.setLane l { k with stop := true })) ∧
    (s.laneOn l = true → bits v.toNat 14 12 = 4 → (code = 0 ∨ code = 3) → s.lan.filling.contains (l / 8) = false →
      exec (.lanCmdStart v) s = .next (s.setLane l { k with
        st := .running, runFrom := s.cycleNext l, wasFaulted := decide (code = 3), next := s.cycleNext l
        pc := v.toNat % 4096, stack := List.replicate 8 0, depth := 0, fl := {}, pend := [], insvc := [], rep := none
        wait := none, stop := false, sh := if bit v.toNat 15 then k.sh else 0, sc := if bit v.toNat 15 then k.sc else 0 })) ∧
    (s.laneOn l = true → v = 0x6000#16 → code = 0 →
      exec (.lanCmdContinue v) s = .next (s.setLane l { k with
        st := .running, runFrom := s.cycleNext l, wasFaulted := false, next := s.cycleNext l, stop := false })) ∧
    (s.laneOn l = true → exec .lanRdlRead s = .next (s.later (s.cycleNext l) (.rdlRead l item)) ∧
      exec (.lanRdlWrite v) s = .next (s.later (s.cycleNext l) (.rdlWrite l item (v.toNat + 65536 * s.cfg Reg.LAN_RDH l)))) ∧
    (s.laneOn l = true → ((s.doWork (.rdlRead l item)).cfg Reg.LAN_RDL l = (s.laneSettle l).laneItem l item % 65536 ∧
      (s.doWork (.rdlRead l item)).cfg Reg.LAN_RDH l = (s.laneSettle l).laneItem l item / 65536 % 65536)) ∧
    (s.laneOn l = true → item < 8 → ∀ m, (((s.doWork (.rdlWrite l item v.toNat)).lane l).gw m) = if m = item then v else k.gw m) ∧
    (s.domOn (laneDom c) = true → s.spare c = .free → bits v.toNat 13 3 = 0 →
      (bits v.toNat 15 14 = 1 → exec (.spareIdle v) s = .next (s.setSpare c (.idle (v.toNat % 8)))) ∧
      (bits v.toNat 15 14 = 2 → exec (.spareNow v) s = .next (s.setSpare c (.now (v.toNat % 8))))) ∧
    (s.domOn (laneDom c) = true → (s.spare c).pending.isSome = true → v = 0xC000#16 →
      exec (.spareCancel v) s = .next (s.setSpare c .free))

/-- R344, R376, R377: a spare takes a lane over in a lane cycle of that lane, and 0x3804 is reported; a memory fill ends with
every word of the cluster at 0xFFFF. -/
def Obligations.ClusterEvents : Prop :=
  (∀ (c k : Nat) (s : State), s.spare c = .idle k → s.laneCycle (8 * c + k) = true → (s.lane (8 * c + k)).stateCode s.tb ≠ 1 →
    exec (.spareTakeover c) s =
      .next (((s.setLane (8 * c + k) ((s.lane (8 * c + k)).takeover s.tb)).setSpare c (.used k)).report 0x3804 (8 * c + k))) ∧
  (∀ (c k : Nat) (s : State), s.spare c = .now k → s.laneCycle (8 * c + k) = true →
    exec (.spareTakeover c) s =
      .next (((s.setLane (8 * c + k) ((s.lane (8 * c + k)).takeover s.tb)).setSpare c (.used k)).report 0x3804 (8 * c + k))) ∧
  (∀ (c k : Nat) (s : State), s.spare c = .auto k → s.laneCycle (8 * c + k) = true →
    exec (.spareTakeover c) s = .next (((s.autoStart (8 * c + k)).setSpare c (.used k)).report 0x3804 (8 * c + k))) ∧
  (∀ (c : Nat) (s : State), s.lan.filling.contains c = true → ∃ t, exec (.memoryFillDone c) s = .next t ∧
    (∀ a, t.lanWord a = if a / 0x2000 = c then 0xFFFF else s.lanWord a) ∧ t.lan.filling.contains c = false)

/-! ### Feedback -/

/-- R426, R428 to R432, R438 to R440: an update of an incremental port moves POS: a usable sin/cos sample by the signed difference of
FRAC (read within one unit, the model's note 20) under the values of the hold tick, a quadrature edge by one line quarter; samples and edges that are not usable.
R433, R435, R436, R446 to R449, R451, R453: the observer follows POS, stands in STILL, and carries its figures with 48 bits; a
serial port takes a frame from its trigger to its result, under the values in effect as it begins.
Where the rules leave a point open it says what the model chose (notes 20, 21, 22). -/
def Obligations.FeedbackPorts : Prop :=
  (
    (∀ (n sin cos : Nat) (h : FbkHold) (s : State), n < 2 → s.fbkMode n = 1 → s.domOn 8 = true →
      (s.inc n).holds.find? (fun x => x.s + 80 == s.adcNow) = some h →
      let p := s.inc n
      let track := fun (raw calG : Nat) (calO ofs : Int) (gain : Nat) =>
        ((correctCode (raw % 65536) calG calO : Int) - 32768 - ofs) * gain
      let sn := track sin h.calGS h.calOS h.ofsS h.gainS
      let cs := track cos h.calGC h.calOC h.ofsC h.gainC
      let usable := ampOk sn cs h.amp
      ∃ t, exec (.fbkSincosSample n sin cos) s = .next t ∧
        (usable = false → (t.inc n).pos = p.pos ∧ (t.inc n).sig = satInc 15 p.sig ∧ (t.inc n).bad = min (p.bad + 1) 4 ∧
          (p.bad = 3 → (t.inc n).sigloss = true ∧ (t.inc n).posok = false ∧ (t.inc n).still = true)) ∧
        (usable = true → ∃ f, f < 4096 ∧ ((f + 4096 - fracOf sn cs) % 4096 ≤ 1 ∨ (f + 4096 - fracOf sn cs) % 4096 = 4095) ∧
          let d : Int := (((f + 4096 - p.fprev + 2048) % 4096 : Nat) : Int) - 2048
          let q := t.inc n
          q.fprev = f ∧ q.bad = 0 ∧ q.sigloss = false ∧
          (p.first = true → q.pos = f ∧ q.first = false) ∧
          (p.first = false → d = -2048 → q.pos = p.pos ∧ q.trk = satInc 15 p.trk ∧ q.posok = false) ∧
          (p.first = false → d ≠ -2048 → q.fast = decide (1366 ≤ d.natAbs) ∧
            q.pos = ofSigned 32 ((p.pos : Int) + (if bit h.cfg 13 then -d else d))))) ∧
    (∀ (n : Nat) (a b : Bool) (s : State), n < 2 → s.fbkMode n = 2 → s.domOn 8 = true →
      let p := s.inc n
      let near := fun (last : Option Tick) => ∃ e, last = some e ∧ s.adcNow - 5 < e + s.cfg Reg.FBK_QMINSP n
      let forward := (p.lvA, p.lvB, a, b) ∈ [(false, false, true, false), (true, false, true, true), (true, true, false, true),
        (false, true, false, false)]
      ∃ t, exec (.quadEdge n a b) s = .next t ∧ (t.inc n).lvA = a ∧ (t.inc n).lvB = b ∧
        (a ≠ p.lvA → b ≠ p.lvB → (t.inc n).pos = p.pos ∧ (t.inc n).qerr = satInc 15 p.qerr ∧ (t.inc n).posok = false) ∧
        (a ≠ p.lvA → b = p.lvB → near p.edgeA → (t.inc n).pos = p.pos ∧ (t.inc n).qrej = satInc 15 p.qrej) ∧
        (a = p.lvA → b ≠ p.lvB → near p.edgeB → (t.inc n).pos = p.pos ∧ (t.inc n).qrej = satInc 15 p.qrej) ∧
        (a ≠ p.lvA ∧ b = p.lvB ∧ ¬ near p.edgeA ∨ a = p.lvA ∧ b ≠ p.lvB ∧ ¬ near p.edgeB →
          let up : Int := if s.flag Reg.FBK_CFG n 13 then -1024 else 1024
          (forward → (t.inc n).pos = ofSigned 32 ((p.pos : Int) + up)) ∧ (¬ forward → (t.inc n).pos = ofSigned 32 ((p.pos : Int) - up)) ∧
          (t.inc n).qrej = p.qrej ∧ (t.inc n).cross = some (s.adcNow - 5))) ∧
    (∀ (v : Word) (s : State), s.domOn 8 = true →
      let n := s.fld Reg.FBK_SEL 0 0 0
      let k := s.fld Reg.FBK_SEL 0 3 2
      (∃ t, exec (.fbkCmpvLo v) s = .next t ∧ (let c := (t.inc n).cmpOf k
        c.armed = true ∧ c.v = v.toNat + 65536 * (toWord (s.cfg Reg.FBK_CMPV_HI (4 * n + k))).toNat ∧ c.lo.valid = true ∧ c.hi.valid = true) ∧
        ∀ j, j ≠ k → (t.inc n).cmpOf j = (s.inc n).cmpOf j) ∧
      (bit v.toNat 9 = true → bits v.toNat 12 11 ≠ 3 → bits v.toNat 8 0 = 0 → ∃ t, exec (.disarm v) s = .next t ∧
        ((t.inc n).cmpOf k).armed = false ∧ ((t.inc n).cmpOf k).fired =
          (((s.inc n).cmpOf k).fired && (!bit v.toNat 14 || s.keptBit Reg.FBK_CMPCFG (4 * n + k) 14))) ∧
      (∃ t, exec .fbkPosLoRead s = .next t ∧ (t.inc n).cap = (s.inc n).figures ∧ (t.inc n).pos = (s.inc n).pos))) ∧
  (
    (∀ (n : Nat) (s : State), n < 2 → s.fbkMode n ≠ 0 → s.domOn 8 = true → s.updateTick n = true →
      let p := s.inc n
      let (th, w, a) := observe p (s.cfg Reg.FBK_BW n) (s.fbkT n)
      let about := fun (v u : Int) => (v - u).natAbs * 2 ^ 48 ≤ u.natAbs
      ∃ t, exec (.observerUpdate n) s = .next t ∧ (t.inc n).pos = p.pos ∧
        (p.still = true → (t.inc n).w = 0 ∧ (t.inc n).a = 0 ∧ (t.inc n).still = true ∧
          (t.inc n).th = (p.pos : Int) * 4503599627370496 % lineWrap) ∧
        (p.still = false → p.starting = none →
          about (t.inc n).th th ∧ about (t.inc n).w w ∧ about (t.inc n).a a ∧ (t.inc n).svalid = true)) ∧
    (∀ (n : Nat) (s : State), n < 2 → s.fbkMode n ≠ 0 → s.domOn 8 = true → (s.inc n).still = false →
      (s.inc n).quietFrom + s.cfg Reg.FBK_STILL n * 65536 ≤ s.adcNow →
      exec (.fbkStillTimeout n) s = .next ((s.setInc n { s.inc n with
        still := true, svalid := false, crossings := 0, starting := none, w := 0, a := 0 }).xUpdate n)) ∧
    (∀ (n : Nat) (high : Bool) (s : State), n < 2 → s.domOn 8 = true → s.flag Reg.FBK_SSI_CFG n 15 = true →
      let p := s.ssi n
      let g : SsiFrame := ⟨s.adcNow, s.cfg Reg.FBK_SSI_CFG n, s.fld Reg.FBK_SSI_CLK n 7 0, s.cfg Reg.FBK_SSI_TMO n * 20,
        s.cfg Reg.FBK_SSI_FMT n, s.cfg Reg.FBK_SSI_POLY n, s.cfg Reg.FBK_SSI_INIT n⟩
      let begun := if high then SsiPhase.running g else SsiPhase.waiting s.adcNow (s.cfg Reg.FBK_SSI_TMO n * 20)
      (s.flag Reg.FBK_SSI_CFG n 14 = false → s.adcNow % (s.cfg Reg.FBK_SSI_PER n * 100) = 0 → p.lastTrig ≠ some s.adcNow →
        (p.phase = .idle → exec (.ssiPeriodicTrigger n high) s =
          .next (s.setSsi n { p with lastTrig := some s.adcNow, phase := begun })) ∧
        (p.phase ≠ .idle → exec (.ssiPeriodicTrigger n high) s =
          .next (s.setSsi n { p with lastTrig := some s.adcNow, skip := satInc 255 p.skip }))) ∧
      (s.flag Reg.FBK_SSI_CFG n 14 = true → s.fld Reg.FBK_SEL 0 4 4 = n →
        (p.phase = .idle → exec (.start 1#16 high) s = .next (s.setSsi n { p with phase := begun })) ∧
        (p.phase ≠ .idle → exec (.start 1#16 high) s = .next (s.setSsi n { p with skip := satInc 255 p.skip })))) ∧
    (∀ (n rd : Nat) (f tmo : Tick) (g : SsiFrame) (s : State), n < 2 →
      ((s.ssi n).phase = .waiting f tmo →
        (s.adcNow ≤ f + tmo →
          exec (.ssiFrameBegin n) s = .next (s.setSsi n { s.ssi n with phase := .running (s.ssiNow n) })) ∧
        (f + tmo ≤ s.adcNow → exec (.ssiTimeout n rd) s =
          .next ((s.setSsi n { s.ssi n with phase := .idle, res := 3 }).reportBlock 0x3906 (2 + n) (2 + n)))) ∧
      ((s.ssi n).phase = .running g →
        let nb := bits g.cfg 5 0
        let cw := bits g.fmt 4 0
        let done := g.f + (2 * (bits g.cfg 13 11 + nb) + 1) * g.half
        let data := rd % 2 ^ nb / 2 ^ cw
        let sum := ssiCrc cw g.poly data (nb - cw) g.init ^^^ (if bit g.fmt 7 then 2 ^ cw - 1 else 0)
        let good := cw = 0 ∨ sum = rd % 2 ^ nb % 2 ^ cw
        let taken := fun (t : State) (res : Nat) => (t.ssi n).phase = .idle ∧ (t.ssi n).data = data ∧ (t.ssi n).new = true ∧
          (t.ssi n).res = res ∧ (t.ssi n).f = g.f % 4294967296 ∧ t.irc.arrivals = s.irc.arrivals ++ [0x062 + n]
        (done ≤ s.adcNow → s.adcNow ≤ done + g.tmo →
          ∃ t, exec (.ssiFrameComplete n rd) s = .next t ∧ (good → taken t 1) ∧ (¬ good → taken t 2)) ∧
        (done + g.tmo ≤ s.adcNow → ∃ t, exec (.ssiTimeout n rd) s = .next t ∧ taken t 3))) ∧
    (∀ s : State, s.domOn 8 = true → let n := s.fld Reg.FBK_SEL 0 4 4
      ∃ t, exec .fbkSsiD0Read s = .next t ∧ (t.ssi n).new = false ∧
        (t.ssi n).cap = toWord (s.ssiStat n) :: (wordsOf (s.ssi n).data 3 ++ words2 (s.ssi n).f)))

/-! ### Interrupts -/

/-- R456 to R468: an arrival counts at its source; a write acknowledges, sets or retargets, and the arrivals of its own tick survive an
acknowledge; a target takes its pending source of
highest priority, the lowest number among equals, and its handshake ends; the stray timer.
R469 to R473: a report counts in the open record of its code or opens one with an arrival at its class source; records close 20,000
ticks after FIRST and are rewritten; a wake latch sets.
Where the rules leave a point open it says what the model chose (notes 47, 48, 49, 76). -/
def Obligations.InterruptRouter : Prop :=
  (
    let counted := fun (s t : State) (n : Nat) =>
      ((s.source n).count < 255 → (t.source n).count = (s.source n).count + 1 ∧ (t.source n).ovf = (s.source n).ovf) ∧
      (255 ≤ (s.source n).count → (t.source n).count = (s.source n).count ∧ (t.source n).ovf = true ∧
        newReports s t (if (s.source n).ovf then [] else [(0x2A02, n)])) ∧
      ∀ m, m ≠ n → t.source m = s.source m
    (∀ (n : Nat) (l r : List Nat) (s : State), s.irc.arrivals = l ++ n :: r → n ∉ l →
      ∃ t, exec (.sourceArrival n) s = .next t ∧ counted s t n ∧ t.irc.arrivals = l ++ r) ∧
    (∀ (v : Word) (s : State), v.toNat < 512 → ∃ t, exec (.ircSet v) s = .next t ∧ counted s t v.toNat) ∧
    (∀ (v : Word) (s : State), 1 ≤ v.toNat → v.toNat < 256 → let n := s.cfg Reg.IRC_ACKSRC 0
      let a := s.hitCount Reg.IRC_SSTAT n 0
      let before := (s.source n).count - (a - s.hitCount Reg.IRC_SSTAT n 14)
      ∃ t, exec (.ircAckcnt v) s = .next t ∧ (t.source n).count = min 255 (before - v.toNat + a) ∧
        ∀ k, k < 4 → (s.source n).dlv = some k → (s.target k).held = some n →
          (t.target k).held = none ∧ (t.target k).released = some s.tb ∧ (t.source n).dlv = none) ∧
    (∀ (k n : Nat) (s : State), k < 4 → (s.target k).held = some n →
      exec (.ircHvecRead k) s = .next { s with irc := { s.irc with hcnt := (s.source n).count } }) ∧
    (∀ (v : Word) (s : State), let n := s.cfg Reg.IRC_SSEL 0
      let good := bits v.toNat 14 12 = 0 ∧ (bits v.toNat 7 0 < 4 ∨ bits v.toNat 7 0 = 5 ∨ 0x80 ≤ bits v.toNat 7 0 ∨
        bits v.toNat 7 0 = 4 ∧ 0xA0 ≤ n ∧ n ≤ 0xBF)
      (good → ∃ t, exec (.ircScfg v) s = .next t ∧ t.cfg Reg.IRC_SCFG n = v.toNat ∧ (t.source n).count = (s.source n).count ∧
        ∀ m, m ≠ n → t.source m = s.source m ∧ t.cfg Reg.IRC_SCFG m = s.cfg Reg.IRC_SCFG m) ∧
      (¬ good → exec (.ircScfg v) s = .next s)) ∧
    (∀ (g n : Nat) (v : Source) (s : State), g < 256 → s.pwr.rung = 0 → (s.target g).hs = none → (s.target g).held = none →
      s.moderated g = false → s.asleep g = false → (g = 3 → s.pwr.readyPulse = none) → (n, v) ∈ s.irc.src → s.candidate g n = true →
      (∀ m w, (m, w) ∈ s.irc.src → s.candidate g m = true → s.srcPrio m < s.srcPrio n ∨ s.srcPrio m = s.srcPrio n ∧ n ≤ m) →
      ∃ t, exec (.deliverySelection g) s = .next t ∧ (t.target g).hs = some n ∧ (t.target g).lastSel = some s.tb ∧
        (t.source n).dlv = some g ∧ (t.source n).count = (s.source n).count) ∧
    (∀ (g n : Nat) (s : State), (s.target g).hs = some n →
      (g < 4 → (∀ r, (s.target g).released = some r → r + 4 ≤ s.tb) → ∃ t, exec (.handshakeEnd g) s = .next t ∧
        (t.target g).hs = none ∧ (t.target g).held = some n ∧ t.hirq g = false) ∧
      (4 ≤ g → ∃ t, exec (.handshakeEnd g) s = .next t ∧ (t.target g).hs = none ∧ (t.source n).dlv = none ∧
        (t.source n).count = min 255 (s.hitCount Reg.IRC_SSTAT n 0))) ∧
    (∀ (n : Nat) (x : Tick) (s : State), (s.source n).strayFrom = some x → (s.source n).stray = false →
      x + s.cfg Reg.IRC_STRAYT 0 * 65536 ≤ s.tb → ∃ t, exec (.strayTimeout n) s = .next t ∧ (t.source n).stray = true ∧
        t.irc.strayCnt = satInc 255 s.irc.strayCnt ∧ newReports s t [(0x2A01, n)])) ∧
  (
    (∀ (b : Nat) (r : Report) (l rest : List Report) (s : State), s.irc.reports = l ++ r :: rest → bits r.code 11 8 = b →
      (∀ x ∈ l, bits x.code 11 8 ≠ b) → (∀ x ∈ s.irc.openRecs, s.tb < x.first + 20000) →
      ∃ t m, exec (.faultReport b) s = .next t ∧ t.irc.reports = l ++ rest ++ m ∧
        ((∃ x ∈ s.irc.openRecs, x.code = r.code) → t.irc.openRecs = s.irc.openRecs.map (fun x =>
          if x.code = r.code then { x with count := satInc 0xFFFF x.count, last := r.tick } else x)) ∧
        ((∀ x ∈ s.irc.openRecs, x.code ≠ r.code) → s.irc.openRecs.length < 16 →
          let full := (s.irc.flwr + 1) % 512 = s.cfg Reg.IRC_FLRD 0
          let n := bits r.code 15 12
          ∃ x : OpenRec, t.irc.openRecs = s.irc.openRecs ++ [x] ∧ x.code = r.code ∧ x.count = 1 ∧ x.aux = r.aux ∧ x.first = r.tick ∧
            x.last = r.tick ∧ ((s.source n).count < 255 → (t.source n).count = (s.source n).count + 1) ∧
            (full → x.index = none ∧ t.irc.flwr = s.irc.flwr ∧ t.irc.flost = satInc 255 s.irc.flost) ∧
            (¬ full → x.index = some s.irc.flwr ∧ t.irc.flwr = (s.irc.flwr + 1) % 512 ∧
              (s.irc.flwr < 512 → t.latVal (0x40000 + 8 * s.irc.flwr) = r.code % 65536 ∧
                t.latVal (0x40000 + 8 * s.irc.flwr + 3) = 0x8000)))) ∧
    (∀ s : State, ∃ t, exec .faultRecordClose s = .next t ∧
      t.irc.openRecs = s.irc.openRecs.filter (fun x => decide (s.tb < x.first + 20000)) ∧
      ∀ (x : OpenRec) (i k : Nat), s.irc.openRecs.filter (fun y => decide (y.first + 20000 ≤ s.tb)) = [x] → x.index = some i →
        i < 512 → k < 8 → t.latVal (0x40000 + 8 * i + k) = nth 0 (recordWords x false) k % 65536) ∧
    (∀ (w : Nat) (rise : Bool) (s : State), w < 64 → w ≠ 14 → w ≠ 15 → s.latchSees w rise = true → (16 ≤ w → s.pwr.pwren = true) →
      (s.pwr.rung = 0 → s.domOn 2 = true →
        exec (.wakeLatchEdge w rise) s = .next { s with irc := { s.irc with arrivals := s.irc.arrivals ++ [0x0C0 + w] } }) ∧
      (s.pwr.rung ≠ 0 ∨ s.domOn 2 = false → ∃ t, exec (.wakeLatchEdge w rise) s = .next t ∧ w ∈ t.irc.latches ∧
        (w ∉ s.irc.latches → s.flag Reg.IRC_WCFG w 15 = true → t.pwr.wake = true ∧ t.pwr.pwren = true ∧ bit t.irc.wcause w = true) ∧
        (s.flag Reg.IRC_WCFG w 15 = false → t.pwr = s.pwr))))

/-! ### DMA -/

/-- R483, R484, R492, R493: what each channel command does to the selected channel, and that one its state does not allow, or a wrong
OP, changes nothing.
R478 to R491: a descriptor is read, checked and begun; a credit counts or is taken; a burst moves up to 64 values between a range
of the Lattice and a stream; the end of a barrier writes DONE.
Where the rules leave a point open it says what the model chose (notes 50, 76). -/
def Obligations.DmaChannels : Prop :=
  (
    (∀ s : State, let c := s.chanSel
      let v := s.chan c
      let halted := v.st = .stopped ∨ v.st = .error
      let resting := v.st = .idle ∨ v.st = .credit
      (halted → exec (.dmaStart 1#16) s =
        .next (s.setChan c { v with st := .idle, fetch := true, stopP := false, kickP := false, abort := false })) ∧
      (¬ halted → exec (.dmaStart 1#16) s = .next s) ∧
      (v.st = .idle → exec (.kick 2#16) s = .next (s.setChan c { v with fetch := true, kickP := v.kickP || v.fetch })) ∧
      (¬ halted → v.st ≠ .idle → exec (.kick 2#16) s = .next (s.setChan c { v with kickP := true })) ∧
      (resting → exec (.stop 3#16) s = .next (s.setChan c { v with st := .stopped, fetch := false, kickP := false })) ∧
      (¬ halted → ¬ resting → exec (.stop 3#16) s = .next (s.setChan c { v with stopP := true })) ∧
      (v.st = .idle → exec (.abort 4#16) s =
        .next (s.setChan c { v with st := .stopped, fetch := false, stopP := false, kickP := false, abort := false })) ∧
      (v.st = .credit → c < 32 → v.idx < 256 → ∃ t, exec (.abort 4#16) s = .next t ∧ (t.chan c).st = .stopped ∧
        t.dma.aborts = satInc 255 s.dma.aborts ∧ t.latVal (descAddr c v.idx + 7) = v.total % 65536 ∧
        bits (t.latVal (descAddr c v.idx + 6)) 15 12 = 2) ∧
      (¬ halted → ¬ resting → exec (.abort 4#16) s = .next (s.setChan c { v with abort := true })) ∧
      (halted → exec (.kick 2#16) s = .next s ∧ exec (.stop 3#16) s = .next s ∧ exec (.abort 4#16) s = .next s) ∧
      exec (.clrcred 5#16) s =
        .next (s.setChan c { v with pcnt := min v.pcnt (s.hitCount Reg.DMA_CPCNT c 0), satRep := false })) ∧
    (∀ (v : Word) (s : State), (v ≠ 1#16 → exec (.dmaStart v) s = .next s) ∧ (v ≠ 2#16 → exec (.kick v) s = .next s) ∧
      (v ≠ 3#16 → exec (.stop v) s = .next s) ∧ (v ≠ 4#16 → exec (.abort v) s = .next s) ∧ (v ≠ 5#16 → exec (.clrcred v) s = .next s))) ∧
  (
    let begun := fun (v w : Chan) =>
      (dPace w.desc = false → w.st = .moving ∧ w.pcnt = v.pcnt) ∧
      (dPace w.desc = true → v.pcnt = 0 → w.st = .credit ∧ w.pcnt = 0) ∧
      (dPace w.desc = true → 1 ≤ v.pcnt → w.st = .moving ∧ w.pcnt = v.pcnt - 1)
    (∀ (c : Nat) (s : State), c < 32 → (s.chan c).fetch = true → (s.chan c).idx < 256 →
      let v := s.chan c
      let a := descAddr c v.idx
      let d := s.latVals a 8
      let fails := fun (t : State) (stat : Nat) => (t.chan c).st = .error ∧ (t.chan c).errStat = stat ∧ (t.chan c).errIdx = v.idx ∧
        (t.chan c).fetch = false ∧ t.dma.errors = satInc 255 s.dma.errors
      (s.latOkN a 8 = false → ∃ t, exec (.descriptorFetch c) s = .next t ∧ fails t 4 ∧ t.lat.mem = s.lat.mem) ∧
      (s.latOkN a 8 = true → dOwn d = false → ∃ t, exec (.descriptorFetch c) s = .next t ∧
        t.chan c = { v with fetch := v.kickP, kickP := false }) ∧
      (s.latOkN a 8 = true → dOwn d = true → descOk d = false → ∃ t, exec (.descriptorFetch c) s = .next t ∧ fails t 3 ∧
        t.latVal (a + 6) = 0x3000 ∧ t.latVal (a + 7) = dLen d ∧ bit (t.latVal a) 15 = false) ∧
      (s.latOkN a 8 = true → dOwn d = true → descOk d = true → dSg d = false → ∃ t, exec (.descriptorFetch c) s = .next t ∧
        (t.chan c).desc = d ∧ (t.chan c).total = dLen d ∧ (t.chan c).moved = 0 ∧ (t.chan c).ranges = [(dLaddr d, dLen d)] ∧
        begun v (t.chan c))) ∧
    (∀ (c : Nat) (l r : List Nat) (s : State), s.dma.credits = l ++ c :: r → c ∉ l → let v := s.chan c
      ∃ t, exec (.pacingCredit c) s = .next t ∧ t.dma.credits = l ++ r ∧
        (255 ≤ v.pcnt → (t.chan c).pcnt = v.pcnt ∧ newReports s t (if v.satRep then [] else [(0x2A14, c)])) ∧
        (v.pcnt < 255 → v.st ≠ .credit → (t.chan c).pcnt = v.pcnt + 1) ∧
        (v.pcnt < 255 → v.st = .credit → begun { v with pcnt := v.pcnt + 1 } (t.chan c))) ∧
    (∀ (c a k p : Nat) (s : State), c < 32 → p < 2 → (s.chan c).st = .moving → (s.chan c).abort = false → (s.chan c).ranges = [(a, k)] →
      (∀ j, j < 32 → (s.chan j).st = .moving → (s.chan j).abort = false → (c + 32 - s.dma.turn % 32) % 32 ≤ (j + 32 - s.dma.turn % 32) % 32) →
      (s.chan c).total = (s.chan c).moved + k → 1 ≤ k → let v := s.chan c
      dPeer v.desc = 1 + p → dTwin v.desc = false →
      let n := min k 64
      let went := fun (t : State) => t.dma.turn = (c + 1) % 32 ∧ (k ≤ 64 → dBar v.desc = true → (t.chan c).st = .barrier ∧ (t.chan c).moved = v.total) ∧
        (64 < k → (t.chan c).st = .moving ∧ (t.chan c).moved = v.moved + 64 ∧ (t.chan c).ranges = [(a + 64, k - 64)])
      (dIn v.desc = false → s.latOkN a n = true → (s.twn.shadow && s.twn.paired) = false → (s.port p).stx.length + n ≤ 512 →
        ∃ t, exec .dmaBurst s = .next t ∧ went t ∧ (t.port p).stx = (s.port p).stx ++ (s.latVals a n).map toWord) ∧
      (dIn v.desc = true → n ≤ (s.port p).srx.length → (∀ i, i < n → s.latLocked (a + i) = false) → a + n ≤ 0x80000 →
        ∃ t, exec .dmaBurst s = .next t ∧ went t ∧ (t.port p).srx = (s.port p).srx.drop n ∧
          (k > 64 ∨ dBar v.desc = true → ∀ i, i < n → t.latVal (a + i) = (nth 0 (s.port p).srx i).toNat)) ∧
      (dIn v.desc = true → (s.port p).srx = [] → ∃ t, exec .dmaBurst s = .next t ∧ t.lat = s.lat ∧ (t.chan c).st = .moving ∧
        (t.chan c).moved = v.moved)) ∧
    (∀ (c : Nat) (s : State), c < 32 → (s.chan c).idx < 256 → (s.chan c).st = .barrier → let v := s.chan c
      let a := descAddr c v.idx
      ∃ t, exec (.barrierEnd c) s = .next t ∧ (t.chan c).st = (if v.stopP || v.abort then .stopped else .idle) ∧
        (t.chan c).idx = (v.idx + 1) % max 1 (s.cfg Reg.DMA_CCFG c) ∧ bits (t.latVal (a + 6)) 15 12 = 1 ∧ t.latVal (a + 7) = 0 ∧
        bit (t.latVal a) 15 = (dKeep v.desc && dOwn v.desc)))

/-! ### Command ports -/

/-- R497 to R502, R504 to R506: a frame and its slots, the sync word, and what becomes of a packet received whole: it enters the port's
order, or the HOST island answers it for its length, its CRC or because nothing serves it.
Where the rules leave a point open it says what the model chose (notes 51, 53). -/
def Obligations.FramesAndReception : Prop :=
  (∀ (p : Nat) (s : State), p < 2 → let v := s.port p
    (v.csnLow = false → s.pwr.rung = 0 → exec (.csnFall p) s =
      .next (s.setPort p { v with csnLow := true, outWord := v.tx.head?.getD 0#16, outReal := !v.tx.isEmpty })) ∧
    (v.csnLow = true → v.inPacket = false → exec (.csnRise p) s = .next (s.setPort p { v with csnLow := false, outReal := false })) ∧
    (v.csnLow = true → v.inPacket = true → exec (.csnRise p) s = .next (((s.setPort p { v with
      csnLow := false, outReal := false, inPacket := false, hunt := true, cFrame := satInc 15 v.cFrame }).hit (Reg.CMD_CNT0 + p) 0 8).reportBlock 0x2B02 p p)) ∧
    (v.csnLow = true → v.hunt = true → s.pwr.rung = 0 →
      exec (.syncWordFound p) s = .next (s.setPort p { v with hunt := false, inPacket := true })) ∧
    (v.csnLow = true → s.pwr.rung = 0 → v.outReal = false → exec (.replyWordSlot p) s =
      .next (s.setPort p { v with outWord := v.tx.head?.getD 0#16, outReal := !v.tx.isEmpty })) ∧
    (v.csnLow = true → s.pwr.rung = 0 → v.outReal = true → ∃ t m, exec (.replyWordSlot p) s = .next t ∧
      (t.port p).tx = v.tx.tail ++ m ∧ ((∀ x ∈ v.rx, x.host = none) → m = []) ∧
      (t.port p).outWord = (t.port p).tx.head?.getD 0#16 ∧ (t.port p).outReal = !(t.port p).tx.isEmpty)) ∧
  (∀ (p : Nat) (opw seq len crc : Word) (params : List Word) (s : State), p < 2 → (s.port p).csnLow = true →
    (s.port p).inPacket = true → s.pwr.rung = 0 → (len.toNat ≤ 518 → params.length = len.toNat) →
    let v := s.port p
    let c := Instr.packetReceived p opw seq len params crc
    let sum := crc16 (opw :: seq :: len :: params) = crc.toNat
    let served := s.sup.running = true ∧ s.pwr.ready = true ∨ (s.sup.running && s.pwr.ready) = false ∧ s.sup.rom = true ∧
      (opw.toNat / 256 = 0x01 ∨ 0x70 ≤ opw.toNat / 256 ∧ opw.toNat / 256 ≤ 0x72)
    let reply := fun (op : Word) (status detail : Nat) =>
      let body := [op, seq, toWord (status * 256), toWord detail, 0#16]
      0xC35A#16 :: (body ++ [toWord (crc16 body)])
    (len.toNat ≤ 518 → v.rxWords + len.toNat + 5 ≤ 2048 → sum → served → (∀ x ∈ v.rx, x.host = none) → exec c s =
      .next (s.setPort p { v with inPacket := false, hunt := true, rx := v.rx ++ [⟨opw.toNat, seq.toNat, len.toNat, params, none⟩] })) ∧
    (v.rx = [] → v.tx.length + 7 ≤ 2048 → (∀ q o n, s.cmd.cur = some (q, o, n) → q ≠ p) →
      (518 < len.toNat → exec c s = .next ((s.setPort p { v with
        inPacket := false, hunt := true, tx := v.tx ++ reply opw 0x11 518, cReject := satInc 15 v.cReject }).hit (Reg.CMD_CNT0 + p) 0 4)) ∧
      (len.toNat ≤ 518 → sum → ¬ served → exec c s = .next (s.setPort p { v with
        inPacket := false, hunt := true, tx := v.tx ++ reply (toWord (opw.toNat / 256 * 256)) 0x08 0 })) ∧
      (len.toNat ≤ 518 → ¬ sum → ∃ t, exec c s = .next t ∧ t.port p = { v with
        inPacket := false, hunt := true, tx := v.tx ++ reply opw 0x10 0, cCrc := satInc 15 v.cCrc })))

/-- R505 to R511: how the supervisors take a packet: a duplicate gets the stored reply, checks 5 to 9 refuse the rest, and a command
whose opcode is not that of the packet next in turn does nothing; how a reply ends.
Where the rules leave a point open it says what the model chose (notes 51, 52, 57). -/
def Obligations.PacketsTaken : Prop :=
  let table : List (Instr × Nat) := [(.nopPacket, 0x00), (.ident, 0x01), (.rd, 0x10), (.wr false, 0x11), (.wr true, 0x11), (.arm, 0x20),
    (.cancel, 0x21), (.rcpswap, 0x22), (.commit, 0x30), (.cmtcancel, 0x31), (.sin, 0x40), (.sout, 0x41), (.takeover, 0x50),
    (.release, 0x51), (.rejoin, 0x52), (.domain, 0x60), (.domread, 0x61), (.fwopen, 0x70), (.fwdata, 0x71), (.fwclose, 0x72),
    (.cfgstore, 0x74), (.cfgerase, 0x75), (.rung, 0x78), (.reset, 0x79)]
  (∀ (c : Instr) (op p : Nat) (k : Packet) (s : State), (c, op) ∈ table → s.nextPacket = some (p, k) →
    (k.opw / 256 ≠ op → exec c s = .next s) ∧
    (k.opw / 256 = op → (s.port p).isDup k = true → exec c s = .next
      (({ s with cmd := { s.cmd with turn := 1 - p } }.setPort p { s.port p with rx := (s.port p).rx.drop 1 }).sendLast p)) ∧
    (∀ st d, k.opw / 256 = op → (s.port p).isDup k = false → s.packetFault p k = some (st, d) →
      exec c s = .next (
        if st = 0x15 then ((s.taken p k).report 0x5B04 p).finishPacket st d []
        else if st = 0x17 then ((s.taken p k).reportBlock 0x2B05 p p).finishPacket st d []
        else s.answered p k st d))) ∧
  (∀ (p : Nat) (k : Packet) (s : State), s.nextPacket = some (p, k) → (s.port p).isDup k = false →
    k.opw / 256 ∉ table.map (fun x => x.2) → exec .undefinedOpcodePacket s = .next (s.answered p k 0x13 0)) ∧
  (∀ (c : Instr) (op : Nat) (s : State), (c, op) ∈ table → s.nextPacket = none → exec c s = .next s) ∧
  (∀ (p opw seq status detail : Nat) (res : List Word) (s : State), s.cmd.cur = some (p, opw, seq) → p < 2 →
    let r := replyWords opw seq status detail false res
    let t := s.finishPacket status detail res
    t.cmd.cur = none ∧ (t.port p).last = r ∧ ∃ m, (t.port p).tx = (s.port p).tx ++ r ++ m)

/-- R15, R16, R55, R375, R505 to R519, R525, R594, R598, R632, R644, R652, R657, R694: what the packets do: values read and written, requests,
commits, streams, image and configuration words, a rung or a reset (an access to the window of a lane waits for the lane's next cycle); and a register write of the supervisors.
Where the rules leave a point open it says what the model chose (notes 46, 51, 52, 53). -/
def Obligations.PacketsExecuted : Prop :=
  ∀ (p : Nat) (k : Packet) (s : State), let w := fun (i : Nat) => nth 0 (pairValues k.params) i
    let st := s.taken p k
    let a := w 0 + 65536 * w 1
    let ws := (pairValues k.params).drop 3
    let done := fun (c : Instr) (t : State) (res : List Word) => exec c s = .next (t.finishPacket 0x00 0 res)
    let refused := fun (c : Instr) (status detail : Nat) => exec c s = .next (s.answered p k status detail)
    let window := a = Reg.LAN_RDL ∧ s.laneOn s.laneSel = true
    (s.executing 0x00 p k → done .nopPacket st []) ∧
    (s.executing 0x01 p k → let id := fun (ver build : Nat) => twinList ([0x4812, s.fuse 1, ver, build, s.fuse 6, s.fuse 7, p,
        s.fuse 2, s.fuse 3, s.fuse 4, s.fuse 5])
      (s.sup.rom = false → done .ident st (id (s.slotWord s.fus.bootB 3) (s.slotWord s.fus.bootB 4))) ∧
      (s.sup.rom = true → ∃ n x y, done .ident { st with free := n } (id x y))) ∧
    (s.executing 0x10 p k → let n := w 2
      (256 ≤ w 1 → refused .rd 0x14 2) ∧ (w 1 < 256 → n = 0 ∨ 256 < n → refused .rd 0x14 4) ∧
      (w 1 < 256 → 1 ≤ n → n ≤ 256 →
        (oneRegion a n = false → refused .rd 0x16 0) ∧
        (a + n ≤ 0x80000 → s.latOkN a n = true →
          done .rd (st.latTouchN a n) (if bit k.opw 0 then (s.latVals a n).map toWord else twinList (s.latVals a n))) ∧
        (∀ i, a + n ≤ 0x80000 → i < n → s.latOkN a i = true → s.latOk (a + i) = false →
          ∃ res, exec .rd s = .next ((st.latTouchN a n).finishPacket 0x01 i res)) ∧
        (window → n = 1 → exec .rd s = .next (st.later (st.cycleNext st.laneSel) (.rdPacket (bit k.opw 0) a 1))) ∧
        (0xF00000 ≤ a → a < 0xF01300 → n = 1 → ¬ window → let r := st.readReg a
          done .rd r.2 (if bit k.opw 0 then [toWord r.1] else twinWords r.1)))) ∧
    (∀ high, s.executing 0x11 p k → w 1 < 256 → 1 ≤ w 2 → w 2 ≤ 256 → ws.length = w 2 →
      (a + w 2 ≤ 0x40000 ∨ 0x44000 ≤ a ∧ a + w 2 ≤ 0x80000 → (s.isShadow = true → refused (.wr high) 0x1C 0) ∧
        (∀ i, s.isShadow = false → s.flag Reg.LAT_INJ 0 15 = false → i ≤ w 2 → (∀ j, j < i → s.latLocked (a + j) = false) →
          (i = w 2 ∨ s.latLocked (a + i) = true) → ∃ t, exec (.wr high) s = .next t ∧
            (∀ j, j < i → t.latVal (a + j) = nth 0 ws j % 65536 ∧ t.latOk (a + j) = true) ∧
            (∀ b, b < a ∨ a + i ≤ b → t.latRead b = s.latRead b) ∧
            (t.port p).last = (if i = w 2 then replyWords k.opw k.seq 0x00 0 false [] else replyWords k.opw k.seq 0x18 i false []))) ∧
      (0xF00000 ≤ a → a < 0xF01300 → w 2 = 1 → let v := nth 0 ws 0
        (fieldOk a v = false → refused (.wr high) 0x14 6) ∧
        (fieldOk a v = true → s.isShadow = true → (addrGroup a).getD 99 ≤ 14 → refused (.wr high) 0x1C 0) ∧
        (fieldOk a v = true → s.isShadow = false ∨ 14 < (addrGroup a).getD 99 →
          (window → exec (.wr high) s = .next (st.later (st.cycleNext st.laneSel) (.wrPacket high a ws))) ∧
          (¬ window → st.writeReg a v high = none → refused (.wr high) 0x19 0) ∧
          (∀ t, ¬ window → st.writeReg a v high = some t → done (.wr high) (t.mirrorWrite a v) [])))) ∧
    (s.executing 0x20 p k → (8192 ≤ w 0 → refused .arm 0x14 0) ∧ (w 0 < 8192 → (s.isShadow = true → refused .arm 0x1C 0) ∧
      (s.isShadow = false → exec .arm s = .next { st with evq := { st.evq with
        armBusy := true, reqs := s.evq.reqs ++ [.arm (w 0) (.port p)] } }))) ∧
    (s.executing 0x21 p k → (fieldOk Reg.EVQ_CAN_CMD (w 1) = false → refused .cancel 0x14 2) ∧
      (fieldOk Reg.EVQ_CAN_CMD (w 1) = true → s.isShadow = true → refused .cancel 0x1C 0) ∧
      (fieldOk Reg.EVQ_CAN_CMD (w 1) = true → s.isShadow = false → ∃ t, exec .cancel s = .next t ∧ t.cfg Reg.EVQ_CAN_TAG 0 = w 0 % 65536 ∧
        t.evq.reqs = s.evq.reqs ++ [.cancel (w 0) (bit (w 1) 8) (bits (w 1) 6 0) (.port p)] ∧ t.cmd = st.cmd)) ∧
    (s.executing 0x22 p k → (1024 < w 0 → refused .rcpswap 0x14 0) ∧ (w 0 ≤ 1024 → s.isShadow = true → refused .rcpswap 0x1C 0) ∧
      (w 0 ≤ 1024 → s.isShadow = false → (s.evq.rcpPend ≠ none → refused .rcpswap 0x1B 0) ∧ (s.evq.rcpPend = none → done .rcpswap (st.requestSwap (w 0)) []))) ∧
    (s.executing 0x30 p k → let c := ofWords (((pairValues k.params).drop 1).take 4 |>.map toWord)
      (w 0 ≠ 1 → w 0 ≠ 2 → refused .commit 0x14 0) ∧
      (∀ i, i < 4 → w 0 = 1 → (∀ j, j < i → w (1 + j) = 0) → w (1 + i) ≠ 0 → refused .commit 0x14 (2 + 2 * i)) ∧
      (w 0 = 2 ∨ w 0 = 1 ∧ w 1 = 0 ∧ w 2 = 0 ∧ w 3 = 0 ∧ w 4 = 0 →
        (s.isShadow = true ∨ s.staged = [] → refused .commit 0x1C 0) ∧
        (s.isShadow = false → s.staged ≠ [] →
          (s.commit.pending = true → refused .commit 0x1B 0) ∧
          (s.commit.pending = false →
            (w 0 = 2 → c < s.replicaNow 1 + s.cfg Reg.TB_CLEAD 0 → refused .commit 0x1A 1) ∧
            (w 0 = 2 → s.replicaNow 1 + s.cfg Reg.TB_CLEAD 0 ≤ c → s.replicaNow 1 + 4294967296 < c → refused .commit 0x1A 2) ∧
            (w 0 = 2 → s.replicaNow 1 + s.cfg Reg.TB_CLEAD 0 ≤ c → c ≤ s.replicaNow 1 + 4294967296 →
              (s.setOk = false → refused .commit 0x19 0) ∧ (s.setOk = true → done .commit (st.closeSet .launch c) [])) ∧
            (w 0 = 1 → (s.setOk = false → refused .commit 0x19 0) ∧ (s.setOk = true → done .commit (st.closeSet .cycle 0) [])))))) ∧
    (s.executing 0x31 p k → (s.isShadow = true ∨ s.cancellable = false → refused .cmtcancel 0x1C 0) ∧
      (s.isShadow = false → s.cancellable = true → done .cmtcancel (st.dropSet 2) [])) ∧
    (s.executing 0x40 p k → (s.isShadow = true → refused .sin 0x1C 0) ∧ (s.isShadow = false → s.mirrors = false →
      let in_ := k.params.take (512 - (s.port p).srx.length)
      done .sin (st.setPort p { st.port p with srx := (s.port p).srx ++ in_ }) (twinWords in_.length))) ∧
    (s.executing 0x41 p k → (w 0 = 0 ∨ 512 < w 0 → refused .sout 0x14 0) ∧ (1 ≤ w 0 → w 0 ≤ 512 →
      done .sout (st.setPort p { st.port p with stx := (s.port p).stx.drop (w 0) }) ((s.port p).stx.take (w 0)))) ∧
    (s.executing 0x61 p k → (16 < w 0 → refused .domread 0x14 0) ∧ (w 0 ≤ 16 →
      (s.elxOn = false ∨ s.elx.arole ≠ 2 → refused .domread 0x1C 0) ∧ (s.elxOn = true → s.elx.arole = 2 →
        done .domread st (twinList (if w 0 = 0 then s.domOutcome else s.joinPage (w 0)))))) ∧
    (s.executing 0x70 p k → (a < 73 → refused .fwopen 0x14 0) ∧ (786432 < a → refused .fwopen 0x14 2) ∧ (73 ≤ a → a ≤ 786432 →
      ∃ t, exec .fwopen s = .next t ∧ t.fus.fw = .erasing ∧ t.fus.len = a ∧ t.fus.received = 0 ∧ t.fus.vres = s.fus.vres ∧
        t.slotFactory (!s.fus.bootB) = false ∧ ∀ i, i < 0xC0000 → t.flashWord (slotBase (!s.fus.bootB) + i) = 0xFFFF ∧
          t.flashWord (slotBase s.fus.bootB + i) = s.flashWord (slotBase s.fus.bootB + i))) ∧
    (s.executing 0x71 p k → let vs := (pairValues k.params).drop 2
      (s.fus.fw ≠ .receiving ∨ a ≠ s.fus.received ∨ s.fus.len < a + vs.length → refused .fwdata 0x1C 0) ∧
      (s.fus.fw = .receiving → a = s.fus.received → a + vs.length ≤ s.fus.len → ∃ t, exec .fwdata s = .next t ∧
        t.fus.received = a + vs.length ∧ (t.port p).last = replyWords k.opw k.seq 0 0 false [] ∧
        ∀ i, i < vs.length → t.flashWord (slotBase (!s.fus.bootB) + a + i) = nth 0 vs i % 65536)) ∧
    (s.executing 0x72 p k → let r := s.imageVres (!s.fus.bootB) s.fus.received
      let open_ := (s.fus.fw = .receiving ∨ s.fus.fw = .closed) ∧ s.fus.received = s.fus.len
      (1 < w 0 → refused .fwclose 0x14 0) ∧ (w 0 ≤ 1 → (¬ open_ → refused .fwclose 0x1C 0) ∧ (open_ →
        ∃ t, exec .fwclose s = .next t ∧ t.fus.fw = .closed ∧ t.fus.vres = r ∧ (t.port p).last = replyWords k.opw k.seq 0 0 false (twinWords r) ∧
          t.fus.markB = (if w 0 = 1 ∧ r = 1 then !s.fus.bootB else s.fus.markB)))) ∧
    (s.executing 0x74 p k → let vs := (pairValues k.params).drop 2
      let blank := ∀ i, i < vs.length → s.flashWord (0x180000 + a + i) = 0xFFFF
      (bit s.locks 1 = true → refused .cfgstore 0x17 19) ∧ (bit s.locks 1 = false →
        (0x40000 < a + vs.length → refused .cfgstore 0x16 0) ∧ (a + vs.length ≤ 0x40000 →
          (s.pwr.cfgBusy = true ∨ ¬ blank → refused .cfgstore 0x1C 0) ∧ (s.pwr.cfgBusy = false → blank → ∃ t,
            exec .cfgstore s = .next t ∧ (t.port p).last = replyWords k.opw k.seq 0 0 false [] ∧
            ∀ i, i < vs.length → t.flashWord (0x180000 + a + i) = nth 0 vs i % 65536)))) ∧
    (s.executing 0x75 p k → (bit s.locks 1 = true → refused .cfgerase 0x17 19) ∧ (bit s.locks 1 = false →
      (s.pwr.cfgBusy = true → refused .cfgerase 0x1C 0) ∧ (s.pwr.cfgBusy = false → ∃ t, exec .cfgerase s = .next t ∧
        t.pwr.cfgBusy = true ∧ ∀ i, i < 0x40000 → t.flashWord (0x180000 + i) = 0xFFFF))) ∧
    (s.executing 0x78 p k → (w 0 = 0 ∨ 7 < w 0 → refused .rung 0x14 0) ∧ (1 ≤ w 0 → w 0 ≤ 7 →
      (s.rungOk (w 0) = false → refused .rung 0x1C 0) ∧ (s.rungOk (w 0) = true → let t := s.answered p k 0x00 0
        exec .rung s = .next { t with pwr := { t.pwr with entering := some ⟨w 0, p, (t.port p).tx.length, s.tb⟩ } }))) ∧
    (s.executing 0x79 p k → (w 0 ≠ 1 → refused .reset 0x14 0) ∧ (w 0 = 1 → let t := s.answered p k 0x00 0
      exec .reset s = .next { t with pwr := { t.pwr with resetAt := some s.tb } }))

/-- R15, R16, R55, R66, R214, R215, R516, R692: a register write of the supervisors: an RW register takes its value at once, an RWS
register in the open set; a value with a reserved bit, or an address that is no register's, changes nothing.
R15, R61, R65, R102, R135, R173, R215, R216, R242, R265, R305, R335 to R337, R382, R452, R475, R476, R495, R526, R578, R610, R637: each
of these commands clears exactly the counts or flags its value names, and what was counted or set in the same tick stands (how often is
the model's choice, note 76); a value with a reserved bit, or one given while its unit does not take it, changes nothing. A read of
TB_NOW0 captures the 64 bits of the SUP replica, which TB_NOW0 to TB_NOW3 then show.
Where the rules leave a point open it says what the model chose (notes 52, 54, 76). -/
def Obligations.RegisterWritesAndCounts : Prop :=
  (
    (∀ (a : Nat) (v : Word) (high : Bool) (s : State), isRegAddr a = false ∨ fieldOk a v.toNat = false →
      exec (.registerWrite a v high) s = .next s) ∧
    (∀ (a : Nat) (v : Word) (high : Bool) (s : State), (a = Reg.TB_CLEAD ∧ 2000 ≤ v.toNat) ∨ a = Reg.EVQ_CAN_TAG ∨
      (a = Reg.EVQ_QSEL ∧ v.toNat < 96) ∨ (a = Reg.EVQ_SLSEL ∧ v.toNat < 8192) → exec (.registerWrite a v high) s = .next (s.setCfg a 0 v.toNat)) ∧
    (∀ (a : Nat) (v : Word) (high : Bool) (s : State), a ∈ [Reg.EVQ_GBASE_LO, Reg.EVQ_RBASE_LO] ∨
      (a ∈ [Reg.EVQ_GBASE_HI, Reg.EVQ_RBASE_HI] ∧ v.toNat < 8) ∨ (a = Reg.EVQ_RCTL ∧ v.toNat ≤ 4) ∨ (a = Reg.EVQ_CTL ∧ v.toNat < 4) →
      ∃ t, exec (.registerWrite a v high) s = .next t ∧ t.cfgStaged a 0 = v.toNat ∧ t.regs = s.regs ∧
        ∀ b i, (b, i) ≠ (a, 0) → b < 16777216 → t.cfgStaged b i = s.cfgStaged b i)) ∧
  (
    let z := fun (b : Bool) (x k : Nat) => if b then k else x
    let k := fun (s : State) (a i lo m : Nat) => min m (s.hitCount a i lo)
    (∀ s : State, ∃ t, exec .tbNow0Read s = .next t ∧ t = { s with time := { s.time with cap := s.replicaNow 1 % 2 ^ 64 } } ∧
      ∀ j, j < 4 → t.readTb j = s.replicaNow 1 / 65536 ^ j % 65536) ∧
    (∀ s : State, exec .tbStaleClr s = .next { s with time := { s.time with stale := 0 } }) ∧
    (∀ s : State, exec .evqRlostClr s = .next { s with evq := { s.evq with rlost := k s Reg.EVQ_RLOST 0 0 255 } }) ∧
    (∀ s : State, (s.tanBusy = true → exec .clrcnt s = .next s) ∧ (s.tanBusy = false →
      exec .clrcnt s = .next { s with tan := { s.tan with early := 0, late := 0, jumps := 0 } })) ∧
    (∀ (v : Word) (s : State), v.toNat < 8 → ∃ t, exec (.angCntClr v) s = .next t ∧
      (∀ i, i < 6 → t.input i = if i < 2 then { s.input i with
          spacing := z (bit v.toNat i) (s.input i).spacing (k s Reg.ANG_CNT_CRK0 i 1 255)
          noise := z (bit v.toNat i) (s.input i).noise (k s Reg.ANG_CNT_CRK0 i 2 255)
          ambig := z (bit v.toNat i) (s.input i).ambig (k s Reg.ANG_CNT_CRK0 i 3 15) }
        else { s.input i with spacing := z (bit v.toNat 2) (s.input i).spacing (k s Reg.ANG_CNT_CRK0 i 1 15) }) ∧
      { t with wheel := { t.wheel with inp := s.wheel.inp } } = s) ∧
    (∀ (v : Word) (s : State), v.toNat < 4 → ∀ hi lo, hi = bit v.toNat 1 → lo = bit v.toNat 0 →
      exec (.synClr v) s = .next { s with sync := { s.sync with
        camErr := z hi s.sync.camErr (k s Reg.SYN_CNT 0 0 255), losses := z lo s.sync.losses (k s Reg.SYN_CNT 0 8 255) } } ∧
      exec (.evqCntClr v) s = .next { s with evq := { s.evq with
        drops := z hi s.evq.drops (k s Reg.EVQ_CNT 0 8 255), lates := z lo s.evq.lates (k s Reg.EVQ_CNT 0 0 255) } } ∧
      exec (.arcCntClr v) s = .next { s with arcs := { s.arcs with
        overlap := z hi s.arcs.overlap (k s Reg.ARC_CNT 0 8 255), miss := z lo s.arcs.miss (k s Reg.ARC_CNT 0 0 255) } } ∧
      exec (.cmbCntClr v) s = .next { s with cmb := { s.cmb with
        overrun := z hi s.cmb.overrun (k s Reg.CMB_CNT 0 8 255), misfire := z lo s.cmb.misfire (k s Reg.CMB_CNT 0 0 255) } } ∧
      exec (.drvCntClr v) s = .next { s with drv := { s.drv with
        delays := z hi s.drv.delays (k s Reg.DRV_CNT 0 8 255), drops := z lo s.drv.drops (k s Reg.DRV_CNT 0 0 255) } } ∧
      exec (.vlvCntClr v) s = .next { s with drv := { s.drv with
        latches := z hi s.drv.latches (k s Reg.VLV_CNT 0 8 255), opens := z lo s.drv.opens (k s Reg.VLV_CNT 0 0 255) } } ∧
      exec (.dmaCntClr v) s = .next { s with dma := { s.dma with
        errors := z hi s.dma.errors (k s Reg.DMA_CNT 0 8 255), aborts := z lo s.dma.aborts (k s Reg.DMA_CNT 0 0 255) } } ∧
      exec (.latCntClr v) s = .next { s with lat := { s.lat with
        ce := z hi s.lat.ce (k s Reg.LAT_CNT 0 8 255), ue := z lo s.lat.ue (k s Reg.LAT_CNT 0 0 255) } } ∧
      (s.domOn 11 = true →
        exec (.twnCntClr v) s = .next { s with twn := { s.twn with
          linkerr := z hi s.twn.linkerr (k s Reg.TWN_CNT 0 0 255), dmis := z lo s.twn.dmis (k s Reg.TWN_CNT 0 8 255) } } ∧
        exec (.elxCntClr v) s = .next { s with elx := { s.elx with
          linkerr := z hi s.elx.linkerr (k s Reg.ELX_CNT 0 8 255), drops := z lo s.elx.drops (k s Reg.ELX_CNT 0 0 255) } }) ∧
      (∃ t, exec (.cmdCntClr v) s = .next t ∧ (∀ p, p < 2 → t.port p = if bit v.toNat p then { s.port p with
          cCrc := k s (Reg.CMD_CNT0 + p) 0 12 15, cFrame := k s (Reg.CMD_CNT0 + p) 0 8 15
          cReject := k s (Reg.CMD_CNT0 + p) 0 4 15, cLost := k s (Reg.CMD_CNT0 + p) 0 0 15 } else s.port p) ∧
        { t with cmd := { t.cmd with p0 := s.cmd.p0, p1 := s.cmd.p1 } } = s)) ∧
    (∀ (v : Word) (s : State), v.toNat < 8 → exec (.ignCntClr v) s = .next { s with drv := { s.drv with
      overdwell := z (bit v.toNat 2) s.drv.overdwell (k s Reg.IGN_CNT 0 8 255)
      shortdwell := z (bit v.toNat 1) s.drv.shortdwell (k s Reg.IGN_CNT 0 4 15)
      ignDrops := z (bit v.toNat 0) s.drv.ignDrops (k s Reg.IGN_CNT 0 0 15) } }) ∧
    (∀ (v : Word) (s : State), v.toNat < 64 → let d := Reg.DRV_DG_CNT0
      exec (.drvDgClr v) s = .next { s with drv := { s.drv with
        dgOpen := z (bit v.toNat 5) s.drv.dgOpen (k s d 0 8 255), dgShort := z (bit v.toNat 4) s.drv.dgShort (k s d 0 0 255)
        dgPnr := z (bit v.toNat 3) s.drv.dgPnr (k s (d + 1) 0 8 255), dgClamp := z (bit v.toNat 2) s.drv.dgClamp (k s (d + 1) 0 0 255)
        dgBnr := z (bit v.toNat 1) s.drv.dgBnr (k s (d + 2) 0 8 255)
        dgDec := z (bit v.toNat 0) s.drv.dgDec (k s (d + 2) 0 0 255) } }) ∧
    (∀ (v : Word) (s : State), v.toNat < 8 → s.laneOn s.laneSel = true → let c := s.lane s.laneSel
      let set := fun (i : Nat) => decide (0 < s.hitCount Reg.LAN_CLR s.laneSel i)
      exec (.lanClr v) s = .next (s.setLane s.laneSel { c with
        cov0 := c.cov0 && (!bit v.toNat 2 || set 2), cov1 := c.cov1 && (!bit v.toNat 1 || set 1)
        vov := c.vov && (!bit v.toNat 0 || set 0) })) ∧
    (∀ (v : Word) (s : State), bits v.toNat 14 8 = 0 → bit v.toNat 15 = true →
      exec (.ircStraycntClr v) s = .next { s with irc := { s.irc with strayCnt := k s Reg.IRC_STRAYCNT 0 0 255 } } ∧
      exec (.ircFlostClr v) s = .next { s with irc := { s.irc with flost := k s Reg.IRC_FLOST 0 0 255 } }) ∧
    (∀ s : State, s.domOn 11 = true →
      exec .elxFrlostClr s = .next { s with elx := { s.elx with frlost := k s Reg.ELX_FRLOST 0 0 255 } }) ∧
    (∀ (v : Word) (s : State), s.domOn 8 = true → v.toNat < 4 → let n := s.fld Reg.FBK_SEL 0 0 0
      let p := if bit v.toNat 1 then { s.inc n with posok := true } else s.inc n
      let c := fun (lo : Nat) => k s Reg.FBK_CNT n lo 15
      let q := if bit v.toNat 0 then { p with trk := c 12, sig := c 8, qerr := c 4, qrej := c 0 } else p
      (bit v.toNat 0 = true → exec (.fbkClrcnt v) s = .next (s.setInc n q)) ∧
      (bit v.toNat 1 = true → exec (.clrpok v) s = .next (s.setInc n q))) ∧
    (∀ (c : Instr) (v : Word) (s : State),
      (c ∈ [.synClr v, .evqCntClr v, .arcCntClr v, .cmbCntClr v, .drvCntClr v, .vlvCntClr v, .dmaCntClr v, .latCntClr v, .twnCntClr v,
        .elxCntClr v, .cmdCntClr v, .fbkClrcnt v, .clrpok v] ∧ 4 ≤ v.toNat ∨
       c ∈ [.angCntClr v, .ignCntClr v, .lanClr v] ∧ 8 ≤ v.toNat ∨ c = .drvDgClr v ∧ 64 ≤ v.toNat ∨
       c ∈ [.ircStraycntClr v, .ircFlostClr v] ∧ bits v.toNat 14 8 ≠ 0 ∨
       c ∈ [.twnCntClr v, .elxCntClr v, .elxFrlostClr] ∧ s.domOn 11 = false ∨
       c ∈ [.fbkClrcnt v, .clrpok v] ∧ s.domOn 8 = false ∨ c = .lanClr v ∧ s.laneOn s.laneSel = false) → exec c s = .next s))

/-! ### The twin pair -/

/-- R528, R537 to R545, R559, R571: the Belith link up and down, frames discarded, acknowledged and sent again, pairing and roles,
heartbeats and their loss. Where the rules leave a point open it says what the model chose (notes 59, 61). -/
def Obligations.BelithLinkAndPairing : Prop :=
  let next := fun (s : State) => match s.twn.rxSeq with | some r => (r + 1) % 65536 | none => 0
  (∀ s : State, s.fuse 6 ≠ 0 → s.domOn 11 = true → s.twn.link = false → ∃ t, exec .belithLinkUp s = .next t ∧ t.twn.link = true ∧
    t.twn.refused = false ∧ t.twn.tx = [] ∧ t.twn.rxSeq = none ∧ t.irc.arrivals = s.irc.arrivals ++ [0x0A5] ∧
    Tbl.find? 0x01 t.twn.sent = some (twinList ([s.fuse 6, s.fuse 2, s.fuse 3, s.fuse 4, s.fuse 5, s.stateFormat, s.twn.own, s.twn.jstate,
      s.synStat]))) ∧
  (∀ (lost : Bool) (s : State), s.twn.link = true → lost = true ∨ s.twn.lastRx + 1200 ≤ s.tb → ∃ t, exec (.belithLinkDown lost) s = .next t ∧
    t.twn.link = false ∧ t.twn.tx = [] ∧ t.twn.rxSeq = none ∧ t.twn.own = s.twn.own ∧ t.twn.shadow = s.twn.shadow ∧
    (2 ≤ s.twn.jstate → s.twn.jstate ≤ 4 → t.twn.jstate = 0 ∧ t.twn.jres = 4) ∧
    (s.twn.jstate < 2 ∨ 4 < s.twn.jstate → t.twn.jstate = s.twn.jstate)) ∧
  (∀ (q x y z u v w : Nat) (a b : Bool) (ws : List Word) (m : JoinMsg) (c : Instr) (s : State),
    c ∈ [.belithHello 1 x y z u v w, .belithHeartbeat 1 a x b y z u a w, .digest 1 x a y z u, .releaseFrame 1 x y z, .handreq 1 a x b a y,
      .mirror 1 q a x ws b, .areq 1 q x y z u v, .bulk 1 q x y ws a, .delta 1 q x ws, .belithJoin 1 q m, .belithDma 1 q ws, .belithAck 1 x] →
    (s.twn.link = true → exec c s = .next ({ s with twn := { s.twn with linkerr := satInc 255 s.twn.linkerr } }.hit Reg.TWN_CNT 0 0)) ∧
    (s.twn.link = false → exec c s = .next s)) ∧
  (∀ (q x y z u v : Nat) (a b : Bool) (ws : List Word) (m : JoinMsg) (c : Instr) (s : State), s.twn.link = true → q ≠ next s →
    c ∈ [.mirror 0 q a x ws b, .areq 0 q x y z u v, .bulk 0 q x y ws a, .delta 0 q x ws, .belithJoin 0 q m, .belithDma 0 q ws] →
    exec c s = .next { s with twn := { s.twn with lastRx := s.tb } }) ∧
  (∀ (l r : List SentFrame) (f : SentFrame) (s : State), s.twn.link = true → s.twn.tx = l ++ f :: r → (∀ x ∈ l, x.seq ≠ f.seq) →
    exec (.belithAck 0 f.seq) s = .next { s with twn := { s.twn with lastRx := s.tb, tx := r, resends := 0 } }) ∧
  (∀ (f : SentFrame) (l : List SentFrame) (s : State), s.twn.tx = f :: l → s.twn.link = true → f.at_ + 512 ≤ s.tb →
    (s.twn.resends < 8 → exec .belithResendTimeout s = .next { s with twn := { s.twn with
      resends := s.twn.resends + 1, tx := s.twn.tx.map (fun x => { x with at_ := s.tb }) } }) ∧
    (8 ≤ s.twn.resends → ∃ t, exec .belithResendTimeout s = .next t ∧ t.twn.link = false ∧ t.twn.tx = [])) ∧
  (∀ (pid serial fmt own jst syn : Nat) (s : State), s.twn.link = true → s.twn.refused = false →
    let match_ := pid = s.fuse 6 ∧ fmt = s.stateFormat
    let mine := onesOf s.twn.own 11
    let theirs := onesOf own 11
    let less := mine < theirs ∨ mine = theirs ∧ serial < s.serialNo
    ∃ t, exec (.belithHello 0 pid serial fmt own jst syn) s = .next t ∧ t.twn.soloDone = true ∧
      (¬ match_ → t.twn.paired = false ∧ t.twn.refused = true ∧ t.twn.jres = (if pid = s.fuse 6 then 3 else 2) ∧ t.twn.jstate = 0) ∧
      (match_ → t.twn.paired = true ∧ t.twn.pown = own % 2048 ∧ t.twn.lost = false ∧ t.twn.hbSeen = some s.tb ∧
        (less → t.twn.shadow = true ∧ t.twn.jstate = 1) ∧ (¬ less → t.twn.shadow = false ∧
          t.twn.jstate = (if s.flag Reg.TWN_CFG 0 0 then 2 else 1) ∧
          (s.twn.own = 0 → own % 2048 = 0 → s.twn.fault = false → t.twn.probes = s.twn.probes ++ [(0x7FF, s.tb, 5)])))) ∧
  (∀ (sh fault al : Bool) (jst own t1 t4 syn : Nat) (s : State), s.twn.link = true → s.twn.paired = true →
    ∃ t, exec (.belithHeartbeat 0 sh jst fault own t1 t4 al syn) s = .next t ∧ t.twn.pfault = fault ∧ t.twn.psyn = syn ∧
      t.twn.hbSeen = some s.tb ∧ t.twn.lost = false ∧ t.twn.lastRx = s.tb ∧
      ∀ t3, s.twn.hbSent = some t3 → let o := diff32 s.tb t1 - diff32 t4 t3
        t.twn.ofs = o.tdiv 2 ∧ (s.twn.shadow = true → s.twn.jstate = 5 → s.fusedRole = 0 → al = false → s.time.aligned = false →
          s.maySlew = true → (2 ≤ o → t.time.slew = -1) ∧ (o ≤ -2 → t.time.slew = 1))) ∧
  (∀ s : State, s.twn.paired = true → s.twn.link = true → s.tb % 400 = (if s.twn.shadow then 200 else 0) → s.twn.hbSent ≠ some s.tb →
    ∃ t, exec .heartbeatSend s = .next t ∧ t.twn.hbSent = some s.tb ∧ Tbl.find? 0x02 t.twn.sent = some (twinList
      [b2n s.twn.shadow * 32768 + s.twn.jstate * 4096 + b2n s.twn.fault * 2048 + s.twn.own, s.tb % 65536, s.tb / 65536 % 65536, s.synStat])) ∧
  (∀ (x : Tick) (s : State), s.twn.hbSeen = some x → s.twn.paired = true → s.twn.lost = false → x + 1200 ≤ s.tb →
    ∃ t, exec .heartbeatLoss s = .next t ∧ t.twn.lost = true ∧ 0x0A2 ∈ t.irc.arrivals ∧
      (s.mayTake = true → t.twn.paired = true ∧ t.twn.probes = s.twn.probes ++ [(s.twn.pown, s.tb + 1, 2)]) ∧
      (s.mayTake = false → t.twn.paired = false ∧ t.twn.jstate = 0)) ∧
  (∀ s : State, s.fuse 6 ≠ 0 → s.pwr.ready = true → s.flag Reg.TWN_CFG 0 2 = true → s.twn.soloDone = false →
    s.pwr.readyAt + 4000000 ≤ s.tb → s.twn.own = 0 → s.twn.fault = false →
    exec .soloTimeout s = .next { s with twn := { s.twn with soloDone := true, probes := s.twn.probes ++ [(0x7FF, s.tb, 5)] } })

/-- R534, R556 to R563, R574: a probe's units are taken or not, a fault releases or takes the drive, and a handover runs from its
request to its release. Where the rules leave a point open it says what the model chose (note 62). -/
def Obligations.ProbesAndHandovers : Prop :=
  (∀ (driven units cause : Nat) (start : Tick) (rest : List (Nat × Tick × Nat)) (s : State),
    s.twn.probes = (units, start, cause) :: rest → start + 48 ≤ s.tb →
    let d := units &&& driven &&& s.unitsWithNets
    let on := unitsMinus (s.unitsOn units) d
    let und := unitsMinus units (if s.twn.fault then units else unitsMinus units on)
    ∃ t, exec (.probeResult driven) s = .next t ∧ t.twn.probes = rest ∧ t.twn.gsns = (unitsMinus s.twn.gsns units ||| d) ∧
      (cause = 1 ∨ cause = 2 → s.twn.fault = false → t.twn.own = (if (s.twn.own ^^^ (s.twn.own ||| s.unitsOn und)) % 2048 = 0 then s.twn.own
        else s.twn.own ||| s.unitsOn und) ∧ (cause = 2 → t.twn.paired = false ∧ t.twn.jstate = 0)) ∧
      (cause = 5 → und ≠ 0 → t.twn.takes = s.twn.takes ++ [(und, start + 49, 5)] ∧ t.twn.own = s.twn.own) ∧
      (3 ≤ cause → cause ≠ 5 → und ≠ 0 → t.twn.takes = s.twn.takes ++ [(und, start + 56, cause)] ∧ t.twn.own = s.twn.own)) ∧
  (∀ (units tick : Nat) (s : State), s.twn.link = true → s.twn.paired = true → s.twn.lost = false →
    ∃ t, exec (.releaseFrame 0 units 1 tick) s = .next t ∧ t.twn.pfault = true ∧
      (s.mayTake = true → t.twn.probes = s.twn.probes ++ [((s.twn.pown ||| units) % 2048, s.tb, 1)]) ∧
      (s.mayTake = false → t.twn.probes = s.twn.probes)) ∧
  (∀ s : State, s.twn.faultAt.isSome = true → s.twn.fault = true → ∃ t, exec .ownFaultRelease s = .next t ∧ t.twn.fault = true ∧ t.twn.faultAt = none ∧
    t.twn.takes = [] ∧ (s.twn.own < 2048 → t.twn.own = 0) ∧ (s.twn.own < 2048 → s.twn.own ≠ 0 → t.twn.lastCause = 6) ∧
    ∃ l, t.irc.reports = l ++ [⟨0x7C0C, s.twn.own % 65536, s.tb⟩]) ∧
  (∀ (units r : Nat) (idle role : Bool) (s : State), s.twn.link = true → s.twn.paired = true → s.twn.hand = none →
    ∃ t h, exec (.handreq 0 false units idle role r) s = .next t ∧ t.twn.hand = some h ∧ h.units = units % 2048 ∧ h.idle = idle ∧
      h.role = role ∧ h.r = r ∧ h.released = 0 ∧ h.taker = !decide (unitsMinus units s.twn.own = 0)) ∧
  (∀ (units tick : Nat) (idle role : Bool) (h : Handover) (s : State), s.twn.link = true → s.twn.hand = some h → h.taker = false →
    ∃ t, exec (.handreq 0 true units idle role tick) s = .next t ∧
      t.twn.hand = some { h with back := h.back ++ [(h.released &&& units, tick + 128)] }) ∧
  (∀ (units : Nat) (h : Handover) (s : State), s.twn.hand = some h → h.r ≤ s.tb → units ≠ 0 →
    let left := unitsMinus (unitsMinus h.units h.released) h.done
    unitsMinus units left = 0 → (h.idle = false → units = left) →
    (h.idle = true → ∀ u, u < 11 → bit units u = true → s.unitIdle u = true) →
    ∃ t, exec (.handoverRelease units) s = .next t ∧ t.twn.hand = some { h with released := h.released ||| units } ∧
      (h.taker = true → t.twn.probes = s.twn.probes ++ [(units, s.tb + 8, h.cause)] ∧ t.twn.own = s.twn.own) ∧
      (h.taker = false → units < 2048 → s.twn.own < 2048 → t.twn.own = unitsMinus s.twn.own units)) ∧
  (∀ (h : Handover) (s : State), s.twn.hand = some h → h.idle = true → h.r + 67108864 ≤ s.tb → h.back = [] →
    unitsMinus h.units (h.done ||| unitsMinus h.units h.released) = 0 → ∃ t, exec .handoverIdleTimeout s = .next t ∧ t.twn.hand = none ∧
      t.twn.own = s.twn.own ∧ (h.role = true → t.twn.shadow = !s.twn.shadow) ∧ (h.role = false → t.twn.shadow = s.twn.shadow)) ∧
  (∀ (take : Bool) (p : Nat) (k : Packet) (s : State), s.executing (if take then 0x50 else 0x51) p k →
    let w := fun i => nth 0 (pairValues k.params) i
    let c := if take then Instr.takeover else Instr.release
    let units := w 0 % 2048
    (bits (w 0) 14 11 ≠ 0 → exec c s = .next (s.answered p k 0x14 0)) ∧
    (bits (w 0) 14 11 = 0 → 1 < w 1 → exec c s = .next (s.answered p k 0x14 2)) ∧
    (bits (w 0) 14 11 = 0 → w 1 ≤ 1 →
      (s.handRefused units (bit (w 0) 15) take = true → exec c s = .next (s.answered p k 0x1C 0)) ∧
      (s.handRefused units (bit (w 0) 15) take = false → units ≠ 0 → ∃ t h, exec c s = .next t ∧ t.twn.hand = some h ∧ h.units = units ∧
        h.idle = decide (w 1 = 1) ∧ h.role = bit (w 0) 15 ∧ h.taker = take ∧ h.r = s.tb + 1024 ∧ t.cmd = (s.taken p k).cmd ∧
        Tbl.find? 0x05 t.twn.sent = some (twinList ([units, w 1, b2n (bit (w 0) 15)] ++ (wordsOf (s.tb + 1024) 4).map (fun x => x.toNat)))))) ∧
  (∀ (p : Nat) (k : Packet) (s : State), s.executing 0x52 p k →
    (s.mayJoin = false → exec .rejoin s = .next (s.answered p k 0x1C 0)) ∧
    (s.mayJoin = true → s.twn.shadow = false → ∃ t, exec .rejoin s = .next t ∧ t.twn.jstate = 2 ∧ t.twn.delta = true ∧
      (t.port p).last = replyWords k.opw k.seq 0 0 false []) ∧
    (s.mayJoin = true → s.twn.shadow = true → ∃ t m, exec .rejoin s = .next t ∧ t.twn.tx = s.twn.tx ++ [m] ∧ m.type = 0x0A ∧
      m.body = twinList [1] ∧ t.cmd = (s.taken p k).cmd))

/-- R538, R547 to R555, R566 to R572: forwarded writes and requests, copied state, digests compared, and the course of a join.
Where the rules leave a point open it says what the model chose (notes 58, 60, 63). -/
def Obligations.MirroringAndJoins : Prop :=
  let next := fun (s : State) => match s.twn.rxSeq with | some r => (r + 1) % 65536 | none => 0
  (∀ (a : Nat) (vals : List Word) (high : Bool) (s : State), s.twn.link = true → s.isShadow = true → a + vals.length ≤ 0x80000 →
    ∃ t, exec (.mirror 0 (next s) false a vals high) s = .next t ∧ t.twn.rxSeq = some (next s) ∧
      (∀ i, i < vals.length → t.latVal (a + i) = (nth 0#16 vals i).toNat) ∧ (∀ b, b < a ∨ a + vals.length ≤ b → t.latRead b = s.latRead b)) ∧
  (∀ (p : Nat) (vals : List Word) (high : Bool) (s : State), s.twn.link = true → s.isShadow = true →
    ∃ t, exec (.mirror 0 (next s) true p vals high) s = .next t ∧ (t.port p).srx = ((s.port p).srx ++ vals).take 512) ∧
  (∀ (q x y z u v : Nat) (a b : Bool) (ws : List Word) (m : JoinMsg) (c : Instr) (s : State), s.twn.link = true → q = next s →
    c ∈ [.mirror 2 q a x ws b, .areq 2 q x y z u v, .bulk 2 q x y ws a, .delta 2 q x ws, .belithJoin 2 q m] →
    ∃ t, exec c s = .next t ∧ t.twn.rxSeq = some q ∧ (∃ l, t.irc.reports = s.irc.reports ++ ⟨0x5C0A, 0, s.tb⟩ :: l) ∧ t.lat = s.lat ∧ t.cmd = s.cmd ∧
      (2 ≤ s.twn.jstate → s.twn.jstate ≤ 4 → t.twn.jstate = 0 ∧ t.twn.jres = 7)) ∧
  (∀ (a b c time : Nat) (s : State), s.twn.link = true → s.isShadow = true →
    (∃ t, exec (.areq 0 (next s) 2 a b c time) s = .next t ∧ t.evq.rcpPend = some (a, time)) ∧
    (s.staged ≠ [] → s.commit.pending = false → ∃ t, exec (.areq 0 (next s) 5 a b c time) s = .next t ∧ t.staged = [] ∧
      t.commit.pending = true ∧ t.commit.closed = s.staged ∧ t.commit.mode = (if a = 2 then .launch else .cycle)) ∧
    (s.commit.pending = true → ∃ t, exec (.areq 0 (next s) 6 a b c time) s = .next t ∧ t.commit.pending = false ∧ t.commit.result = a)) ∧
  (∀ (a : Nat) (vals : List Word) (s : State), s.twn.link = true → s.twn.shadow = true → 2 ≤ s.twn.jstate → s.twn.jstate ≤ 4 →
    a + vals.length ≤ 0x80000 → ∀ c ∈ [Instr.delta 0 (next s) a vals, .bulk 0 (next s) a 0 vals false], ∃ t, exec c s = .next t ∧
      (∀ i, i < vals.length → t.latVal (a + i) = (nth 0#16 vals i).toNat) ∧ (∀ b, b < a ∨ a + vals.length ≤ b → t.latRead b = s.latRead b)) ∧
  (∀ (a i : Nat) (v : Word) (s : State), s.twn.link = true → s.twn.shadow = true → 2 ≤ s.twn.jstate → s.twn.jstate ≤ 4 →
    isRegAddr a = true → (∃ t, exec (.bulk 0 (next s) a i [v] false) s = .next t ∧ t.cfg a i = v.toNat) ∧
      (∃ t, exec (.bulk 0 (next s) a i [v] true) s = .next t ∧ t.cfgStaged a i = v.toNat ∧ t.regs = s.regs)) ∧
  (∀ (vals : List Word) (s : State), s.twn.link = true → s.twn.paired = true → ∃ t, exec (.belithDma 0 (next s) vals) s = .next t ∧
    t.twn.dmaRx = s.twn.dmaRx ++ vals) ∧
  (∀ (pos cyc stamp sum : Nat) (half : Bool) (m : VertexDigest) (s : State), s.twn.link = true → s.twn.paired = true → s.twn.mine = [m] →
    s.twn.jstate = 5 → let mine := m.pos = pos ∧ m.half = half ∧ m.cyc = cyc
    ∃ t, exec (.digest 0 pos half cyc stamp sum) s = .next t ∧
      (¬ mine → t.twn.mine = [m] ∧ t.twn.misRun = s.twn.misRun ∧ (s.twn.theirs.length < 64 → t.twn.theirs.length = s.twn.theirs.length + 1)) ∧
      (mine → t.twn.mine = [] ∧ (m.digest = sum → t.twn.misRun = 0 ∧ t.twn.dmis = s.twn.dmis) ∧
        (m.digest ≠ sum → t.twn.misRun = s.twn.misRun + 1 ∧ t.twn.dmis = satInc 255 s.twn.dmis ∧
          (t.twn.misRun = s.fld Reg.TWN_CFG 0 11 8 → t.irc.arrivals = s.irc.arrivals ++ [0x0A3])))) ∧
  (∀ (m : VertexDigest) (s : State), s.twn.mine = [m] →
    (s.tb ≤ m.due → ∃ t, exec .digestTimeout s = .next t ∧ t.twn.mine = [m] ∧ t.twn.dmis = s.twn.dmis) ∧
    (m.due < s.tb → ∃ t, exec .digestTimeout s = .next t ∧ t.twn.mine = [] ∧ t.twn.dmis = satInc 255 s.twn.dmis ∧
      t.twn.misRun = s.twn.misRun + 1)) ∧
  (∀ (time : Nat) (s : State), s.twn.paired = true → s.twn.jstate = 2 → ∃ t, exec (.copyDone time) s = .next t ∧ t.twn.jstate = 3 ∧
    (s.twn.shadow = false → t.tb = s.tb) ∧
    (s.twn.shadow = true → t.twn.adopting = true ∧ t.evq.flight = [] ∧ t.drv.waiting = [] ∧ (∀ n, (t.replica n).inFlight = [] ∧ (t.replica n).held = []))) ∧
  (∀ s : State, s.twn.link = true → (s.twn.paired = true → s.twn.shadow = false → s.joining = false → ∃ t,
      exec (.belithJoin 0 (next s) .ask) s = .next t ∧ t.twn.jstate = 2 ∧ t.twn.delta = true) ∧
    (s.twn.paired = true → s.twn.shadow = true → ∃ t, exec (.belithJoin 0 (next s) .start) s = .next t ∧ t.twn.jstate = 2) ∧
    (s.twn.shadow = false → s.twn.jstate = 3 → ∃ t, exec (.belithJoin 0 (next s) .adopted) s = .next t ∧ t.twn.jstate = 4) ∧
    (∀ i : StateImage, s.twn.shadow = true → s.twn.jstate = 4 → ∃ t, exec (.belithJoin 0 (next s) (.image i)) s = .next t ∧
      t.dma.ch = i.ch ∧ t.tan.g = i.g ∧ t.tan.r = i.r ∧ (s.sync.state = .stall → t.twn.jstate = 5 ∧ t.twn.jres = 1)) ∧
    (s.twn.shadow = false → s.twn.jstate = 4 → ∃ t, exec (.belithJoin 0 (next s) .applied) s = .next t ∧
      (s.twn.joinIn = some 5 → t.twn.jstate = 5 ∧ t.twn.jres = 1) ∧ (s.twn.joinIn ≠ some 5 → t.twn.jstate = 4 ∧ t.twn.applied = true)) ∧
    (∀ r, 2 ≤ s.twn.jstate → s.twn.jstate ≤ 4 → ∃ t, exec (.belithJoin 0 (next s) (.failed r)) s = .next t ∧ t.twn.jstate = 0 ∧ t.twn.jres = r)) ∧
  (∀ (b : Tick) (s : State), 2 ≤ s.twn.jstate → s.twn.jstate ≤ 4 → s.twn.bs = some b → 4 ≤ s.twn.cycles →
    ∃ t, exec .joinTimeout s = .next t ∧ t.twn.jstate = 0 ∧ t.twn.jres = 6 ∧
      t.twn.rejoinAt = (if !s.twn.shadow && s.flag Reg.TWN_CFG 0 0 then some (s.tb + 1048576) else none)) ∧
  (∀ (x : Tick) (s : State), s.twn.rejoinAt = some x → x ≤ s.tb → s.mayJoin = true → s.twn.shadow = false → s.flag Reg.TWN_CFG 0 0 = true →
    ∃ t, exec .rejoinTimer s = .next t ∧ t.twn.jstate = 2 ∧ t.twn.delta = true ∧ t.twn.rejoinAt = none)

/-! ### The Elrex domain -/

/-- R583 to R587: frames discarded, ports coming up and going down, HELLOs, resends and acknowledgements, and joining.
Where the rules leave a point open it says what the model chose (notes 64, 65). -/
def Obligations.ElrexPortsAndJoining : Prop :=
  let open_ := fun (s : State) (p : Nat) => s.elxOn = true ∧ p < 5 ∧ (s.elxPort p).up = true
  let next := fun (s : State) (p : Nat) => match (s.elxPort p).rxSeq with | some r => (r + 1) % 16 | none => 0
  (∀ (p x y z u v w err q : Nat) (b : Bool) (r : DomRec) (c : Instr) (s : State), s.elxOn = true → p < 5 → (s.elxPort p).up = true →
    (err = 1 ∨ err = 2) → c ∈ [.elrexHello p err x y z u v b, .tmark p err x y z u b, .dreq p err x y, .dresp p err x y,
      .dcmd p err q x y z u w, .dack p err q x y z u, .frep p err q r, .notice p err q x y z, .elrexJoin p err q x y z u, .jres p err q x y z,
      .lack p err w] →
    ∃ t, exec c s = .next t ∧ t.elx = { s.elx with linkerr := satInc 255 s.elx.linkerr } ∧
      newReports s t (if err = 2 then [(0x5D09, s.nodeId)] else [])) ∧
  (∀ (p x y z u w q : Nat) (r : DomRec) (c : Instr) (s : State), open_ s p → q ≠ next s p →
    c ∈ [.dcmd p 0 q x y z u w, .dack p 0 q x y z u, .frep p 0 q r, .notice p 0 q x y z, .elrexJoin p 0 q x y z u, .jres p 0 q x y z] →
    exec c s = .next (s.setElxPort p { s.elxPort p with lastRx := s.tb })) ∧
  (∀ (p peer frole arole epoch depth : Nat) (al : Bool) (s : State), s.elxOn = true → p < 5 →
    ∃ t, exec (.elrexHello p 0 peer frole arole epoch depth al) s = .next t ∧ t.elxPort p = { s.elxPort p with
      lastRx := s.tb, lock := true, seenHello := satInc 2 (s.elxPort p).seenHello, peer := peer % 4096, peerRole := arole
      peerEpoch := epoch % 256, peerDepth := depth % 32, peerAligned := al }) ∧
  (∀ (p : Nat) (s : State), p < 5 → s.elxOn = true → (∀ x, (s.elxPort p).helloAt = some x → x + 65536 ≤ s.tb) →
    ∃ t, exec (.elrexHelloSend p) s = .next t ∧ (t.elxPort p).helloAt = some s.tb ∧
      (t.elxPort p).sentHello = satInc 2 (s.elxPort p).sentHello ∧
      Tbl.find? 0x01 (t.elxPort p).sent = some (twinList [s.nodeId, s.fusedRole, s.elx.arole, s.elx.epoch, s.elx.depth, b2n s.time.aligned])) ∧
  (∀ (p : Nat) (s : State), let v := s.elxPort p
    p < 5 → s.elxOn = true → v.lock = true → 2 ≤ v.sentHello → 2 ≤ v.seenHello → v.up = false →
    ∃ t, exec (.elrexPortUp p) s = .next t ∧ (t.elxPort p).up = true ∧ (t.elxPort p).rxSeq = none ∧ 0x0B2 ∈ t.irc.arrivals ∧
      (s.fusedRole = 2 → s.elx.arole = 2 → p ≠ 0 → v.peerRole = 2 → s.elx.epoch < v.peerEpoch →
        t.elx.arole = 1 ∧ t.elx.reversed = true ∧ t.elx.table = []) ∧
      (s.elx.arole ≠ 2 → p = s.upPort → t.elx.joinAt = some s.tb ∧ t.elx.arole = s.elx.arole)) ∧
  (∀ (p : Nat) (lost : Bool) (s : State), let v := s.elxPort p
    p < 5 → v.up = true → lost = true ∨ v.lastRx + 4000 ≤ s.tb → ∃ t, exec (.elrexPortDown p lost) s = .next t ∧
      (t.elxPort p).up = false ∧ (t.elxPort p).lock = false ∧ (t.elxPort p).tx = [] ∧ 0x0B2 ∈ t.irc.arrivals ∧
      (p = s.upPort → t.elx.accepted = false ∧ t.elx.mark = none ∧ (s.time.aligned = true → t.elx.holdFrom.isSome = true) ∧
        t.time.aligned = s.time.aligned)) ∧
  (∀ (p : Nat) (f : SentFrame) (l : List SentFrame) (s : State), let v := s.elxPort p
    v.tx = f :: l → v.up = true → f.at_ + 2048 ≤ s.tb →
    (v.resends < 8 → exec (.elrexResendTimeout p) s =
      .next (s.setElxPort p { v with resends := v.resends + 1, tx := v.tx.map (fun x => { x with at_ := s.tb }) })) ∧
    (8 ≤ v.resends → ∃ t, exec (.elrexResendTimeout p) s = .next t ∧ (t.elxPort p).up = false ∧ (t.elxPort p).tx = [])) ∧
  (∀ (p : Nat) (l r : List SentFrame) (f : SentFrame) (s : State), open_ s p → (s.elxPort p).tx = l ++ f :: r → (∀ x ∈ l, x.seq ≠ f.seq) →
    ∃ t, exec (.lack p 0 f.seq) s = .next t ∧ (t.elxPort p).tx = r ∧ (t.elxPort p).resends = 0) ∧
  (∀ (p id frole serial depth : Nat) (s : State), open_ s p → let q := next s p
    ∃ t, exec (.elrexJoin p 0 q id frole serial depth) s = .next t ∧ (t.elxPort p).rxSeq = some q ∧
      (s.elx.arole = 2 → (∀ e ∈ s.elx.table, e.1 = id → e.2.1 = serial) →
        t.elx.table = (id, serial, s.tb) :: s.elx.table.filter (fun e => e.1 != id)) ∧
      (s.elx.arole = 2 → (∃ e ∈ s.elx.table, e.1 = id ∧ e.2.1 ≠ serial) → t.elx.table = s.elx.table) ∧
      (s.elx.arole ≠ 2 → (s.elxPort s.upPort).up = true → p ≠ s.upPort → ∃ m, (t.elxPort s.upPort).tx = (s.elxPort s.upPort).tx ++ [m] ∧
        m.type = 0x09 ∧ m.body = twinList ([id, frole] ++ (wordsOf serial 4).map (fun w => w.toNat) ++ [depth]))) ∧
  (∀ (id serial result : Nat) (s : State), let p := s.upPort
    open_ s p → s.elx.arole ≠ 2 → ∃ t, exec (.jres p 0 (next s p) id serial result) s = .next t ∧ (t.elxPort p).rxSeq = some (next s p) ∧
      (id = s.nodeId → serial = s.serialNo → result ≠ 1 ∨ 16 < (s.elxPort p).peerDepth + 1 →
        t.elx.refused = true ∧ t.elx.accepted = false ∧ t.elx.arole = 0 ∧ t.time.aligned = false) ∧
      (id = s.nodeId → serial = s.serialNo → result = 1 → (s.elxPort p).peerDepth + 1 ≤ 16 →
        t.elx.accepted = true ∧ t.elx.depth = (s.elxPort p).peerDepth + 1 ∧ t.elx.arole = (if s.fusedRole = 3 then 3 else 1) ∧
        t.elx.held = []) ∧
      (id ≠ s.nodeId → t.elx.accepted = s.elx.accepted ∧ t.elx.depth = s.elx.depth)) ∧
  (∀ (x : Tick) (s : State), s.elx.joinAt = some x → s.elx.accepted = true → s.elxOn = true → (s.elxPort s.upPort).up = true →
    x + 67108864 ≤ s.tb → ∃ t, exec .joinRefresh s = .next t ∧ t.elx.joinAt = some s.tb ∧
      (t.elxPort s.upPort).tx.length = (s.elxPort s.upPort).tx.length + 1) ∧
  (∀ s : State, exec .joinEntryExpiry s =
    .next { s with elx := { s.elx with table := s.elx.table.filter (fun e => decide (s.tb < e.2.2 + 134217728)) } })

/-- R588 to R593, R599: marks, delay requests and their answers; the offset slews or steps the Time Base; holdover; the STANDBY's
takeover. Where the rules leave a point open it says what the model chose (notes 55, 64, 65). -/
def Obligations.ElrexAlignment : Prop :=
  let open_ := fun (s : State) (p : Nat) => s.elxOn = true ∧ p < 5 ∧ (s.elxPort p).up = true
  (∀ (t1 frac epoch depth : Nat) (al : Bool) (s : State), let p := s.upPort
    open_ s p → s.elx.arole ≠ 2 → ∃ t, exec (.tmark p 0 t1 frac epoch depth al) s = .next t ∧
      t.elx.mark = some (t1, 16 * s.tb + frac % 16) ∧ t.elx.lastMark = some s.tb ∧ t.elx.holdFrom = none ∧
      (al = false → t.time.aligned = false ∧ t.elx.good = 0) ∧
      (s.elx.accepted = true → depth + 1 ≤ 16 → t.elx.depth = depth + 1 ∧ t.elx.epoch = (if epoch % 256 = s.elx.epoch then s.elx.epoch else epoch % 256)) ∧
      (s.elx.accepted = true → 16 < depth + 1 → t.elx.refused = true ∧ t.elx.arole = 0)) ∧
  (∀ (p delay : Nat) (s : State), s.elxOn = true → s.time.aligned = true → s.tb % 2000 = 0 → p ∈ s.downPorts → (s.elxPort p).up = true →
    ∃ t, exec (.tmarkSend p delay) s = .next t ∧ Tbl.find? 0x02 (t.elxPort p).sent = some (twinList (
      (wordsOf ((16 * s.tb + delay) / 16) 4).map (fun w => w.toNat) ++ [(16 * s.tb + delay) % 16, s.elx.epoch, s.elx.depth, 1]))) ∧
  (∀ (delay t1 t2 : Nat) (s : State), s.elx.mark = some (t1, t2) → s.elxOn = true → s.elx.accepted = true → s.tb % 2000 = 1000 →
    (s.elxPort s.upPort).up = true → ∃ t, exec (.dreqSend delay) s = .next t ∧ t.elx.t3 = some (16 * s.tb + delay) ∧
      Tbl.find? 0x03 (t.elxPort s.upPort).sent = some (twinList [t1 / 32000 % 65536])) ∧
  (∀ (p num frac : Nat) (s : State), open_ s p → p ∈ s.downPorts → ∃ t, exec (.dreq p 0 num frac) s = .next t ∧
    Tbl.find? 0x04 (t.elxPort p).sent = some (twinList (num :: (wordsOf (16 * s.tb + frac % 16) 5).map (fun w => w.toNat)))) ∧
  (∀ (t1 t2 t3 t4 : Nat) (s : State), let p := s.upPort
    open_ s p → s.elx.accepted = true → s.elx.mark = some (t1, t2) → s.elx.t3 = some t3 →
    let a : Int := (t2 : Int) - t1
    let b : Int := (t4 : Int) - t3
    let o := fdiv (a - b) 2
    let far := s.elx.placed = false ∧ (o ≤ -1024 ∨ 1024 ≤ o)
    ∃ t, exec (.dresp p 0 (t1 / 32000 % 65536) t4) s = .next t ∧ t.elx.d = (fdiv (a + b) 2).toNat ∧
      (far → s.drivesDisabled = true → s.noLaunch = true → t.tb = ((s.tb : Int) - fdiv o 16).toNat ∧ t.elx.o = o - 16 * fdiv o 16 ∧
        t.elx.placed = true) ∧
      (far → s.drivesDisabled = false ∨ s.noLaunch = false → t.tb = s.tb ∧ t.elx.o = o ∧ t.elx.stepblk = true ∧
        (s.elx.stepblk = false → ∃ l, t.irc.reports = s.irc.reports ++ l ∧ l.length ≤ 1)) ∧
      (¬ far → t.tb = s.tb ∧ t.elx.placed = true ∧
        (-16 < o → o < 16 → t.elx.o = o ∧ t.elx.good = s.elx.good + 1 ∧
          ((s.elxPort p).peerAligned = true → 3 ≤ s.elx.good → t.time.aligned = true)) ∧
        (16 ≤ o → s.maySlew = true → t.time.slew = -1 ∧ t.elx.o = o - 16 ∧ t.elx.good = 0) ∧
        (o ≤ -16 → s.maySlew = true → t.time.slew = 1 ∧ t.elx.o = o + 16 ∧ t.elx.good = 0) ∧
        (o ≤ -16 ∨ 16 ≤ o → s.maySlew = false → t.elx.o = o ∧ t.time.slew = s.time.slew) ∧
        (o < -128 ∨ 128 < o → t.time.aligned = false))) ∧
  (∀ (x : Tick) (s : State), s.elx.lastMark = some x → s.elxOn = true → s.elx.arole ≠ 2 → s.time.aligned = true →
    s.elx.holdFrom = none → x + 4000 ≤ s.tb → ∃ t, exec .holdoverStart s = .next t ∧ t.elx.holdFrom = some s.tb ∧
      t.irc.arrivals = s.irc.arrivals ++ [0x0B1]) ∧
  (∀ (x : Tick) (s : State), s.elx.holdFrom = some x → x + s.fld Reg.ELX_TIM 0 15 8 * 2000 ≤ s.tb →
    ∃ t, exec .holdoverEnd s = .next t ∧ t.elx.holdFrom = none ∧ t.time.aligned = false) ∧
  (∀ (x : Tick) (s : State), s.elx.lastMark = some x → s.elxOn = true → s.elx.arole = 3 → s.elx.goodMark = true →
    x + s.fld Reg.ELX_TIM 0 3 0 * 2000 ≤ s.tb ∨ (s.elxPort 0).up = false → ∃ t, exec .standbyTakeover s = .next t ∧
      t.elx.arole = 2 ∧ t.elx.epoch = (s.elx.epoch + 1) % 256 ∧ t.elx.depth = 0 ∧ t.elx.table = [] ∧ t.time.aligned = true ∧
      t.elx.holdFrom = none)

/-- R594 to R605: the origin issues a command that goes down the tree, is acted on, queued or refused, and is answered upwards;
queued actions take effect as the SUP replica reaches T; records merge and close; notices go down.
Where the rules leave a point open it says what the model chose (notes 64, 65). -/
def Obligations.DomainCommandsAndRecords : Prop :=
  let open_ := fun (s : State) (p : Nat) => s.elxOn = true ∧ p < 5 ∧ (s.elxPort p).up = true
  let next := fun (s : State) (p : Nat) => match (s.elxPort p).rxSeq with | some r => (r + 1) % 16 | none => 0
  let named := fun (s : State) (target : Nat) => bits target 15 14 = 0 ∨ bits target 15 14 = 1 ∧ bits target 11 0 = s.nodeId ∨
    bits target 15 14 = 2 ∧ (target % 256 &&& s.fld Reg.ELX_CFG 0 15 8) ≠ 0
  (∀ (p : Nat) (k : Packet) (s : State), s.executing 0x60 p k → let w := fun i => nth 0 (pairValues k.params) i
    let good := domainFault (pairValues k.params) = none
    (w 0 = 0 ∨ 4 < w 0 → exec .domain s = .next (s.answered p k 0x14 0)) ∧
    (∀ i, domainFault (pairValues k.params) = some i → exec .domain s = .next (s.answered p k 0x14 i)) ∧
    (good → s.elxOn = false ∨ s.elx.arole ≠ 2 ∨ (w 0 = 4 ∧ s.originBelow = false) → exec .domain s = .next (s.answered p k 0x1C 0)) ∧
    (good → s.elxOn = true → s.elx.arole = 2 → (w 0 = 4 → s.originBelow = true) → (∃ c, s.elx.cmd = some c ∧ c.done = false) →
      exec .domain s = .next (s.answered p k 0x1B 0)) ∧
    (good → s.elxOn = true → s.elx.arole = 2 → (w 0 = 4 → s.originBelow = true) → (∀ c, s.elx.cmd = some c → c.done = true) →
      s.launchFault (ofWords (((pairValues k.params).drop 3).take 4 |>.map toWord)) = none → ∃ t c, exec .domain s = .next t ∧
        t.elx.cmd = some c ∧ c.cnum = s.elx.cnum ∧ c.action = w 0 ∧ c.done = false ∧ c.waits = s.downPorts.filter (fun q => (s.elxPort q).up) ∧
        t.elx.cnum = (s.elx.cnum + 1) % 65536 ∧ (t.port p).last = replyWords k.opw k.seq 0 0 false (twinWords s.elx.cnum))) ∧
  (∀ (cnum action arg target tick : Nat) (s : State), let p := s.upPort
    open_ s p → s.elx.arole ≠ 2 → let now := s.replicaNow 1
    ∃ t c, exec (.dcmd p 0 (next s p) cnum action arg target tick) s = .next t ∧ t.elx.fwd = some c ∧ c.cnum = cnum ∧
      (¬ named s target → c.applied = 0 ∧ c.refused = 0 ∧ c.late = 0 ∧ t.elx.queued = s.elx.queued) ∧
      (named s target → tick < now + 1024 → c.late = 1 ∧ c.applied = 0 ∧ t.elx.drops = satInc 255 s.elx.drops ∧ t.elx.queued = s.elx.queued) ∧
      (named s target → now + 1024 ≤ tick → action ≠ 1 → c.applied = 1 ∧ t.elx.queued = s.elx.queued ++ [(action, arg, tick)]) ∧
      (named s target → now + 1024 ≤ tick → action = 1 → s.commit.pending = true ∨ s.staged = [] → c.refused = 1 ∧ c.applied = 0 ∧
        t.commit = s.commit) ∧
      (named s target → now + 1024 ≤ tick → action = 1 → s.commit.pending = false → s.staged ≠ [] → s.setOk = true → c.applied = 1 ∧
        t.commit.pending = true ∧ t.commit.mode = .launch ∧ t.commit.c = tick ∧ t.staged = []) ∧
      ((∀ q ∈ s.downPorts, (s.elxPort q).up = false) → c.done = true) ∧
      ((∃ q ∈ s.downPorts, (s.elxPort q).up = true) → c.done = false)) ∧
  (∀ (p cnum ap re la : Nat) (c : DomCmd) (s : State), open_ s p → c.cnum = cnum → c.done = false → p ∈ c.waits →
    ∃ t d, exec (.dack p 0 (next s p) cnum ap re la) s = .next t ∧ d.applied = c.applied + ap ∧ d.refused = c.refused + re ∧
      d.late = c.late + la ∧ d.waits = c.waits.filter (fun x => decide (x ≠ p)) ∧
      (s.elx.arole = 2 → s.elx.cmd = some c → t.elx.cmd = some d) ∧
      (s.elx.arole ≠ 2 → s.elx.fwd = some c → t.elx.fwd = some d ∧ (d.done = true ↔ d.waits = []))) ∧
  (∀ (c : DomCmd) (s : State), s.elx.fwd = some c → c.done = false → c.t ≤ s.tb + 256 → s.upPort < 5 → ∃ t m, exec .dackDeadline s = .next t ∧
    t.elx.fwd = some { c with done := true } ∧ (t.elxPort s.upPort).tx = (s.elxPort s.upPort).tx ++ [m] ∧ m.type = 0x06 ∧
    m.body = twinList [c.cnum, c.applied, c.refused, c.late]) ∧
  (∀ (c : DomCmd) (s : State), s.elx.cmd = some c → s.elx.arole = 2 → c.done = false → c.waits = [] ∨ c.t ≤ s.tb →
    ∃ t d, exec .domainCommandComplete s = .next t ∧ t.elx.cmd = some d ∧ d.done = true ∧
      d.noanswer = s.elx.table.length - (c.applied + c.refused + c.late) ∧ t.irc.arrivals = s.irc.arrivals ++ [0x0B4]) ∧
  (∀ (c : Instr) (action arg : Nat) (tick : Tick) (l r : List (Nat × Nat × Tick)) (s : State), s.elx.queued = l ++ (action, arg, tick) :: r →
    (s.replica 1).stopped = false → tick ≤ s.replicaNow 1 → (∀ x ∈ l, x.1 ≠ action ∨ x.2.1 ≠ arg ∨ s.replicaNow 1 < x.2.2) →
    (action = 2 → c = .domevt arg → ∃ t, exec c s = .next t ∧ t.elx.queued = l ++ r ∧ t.irc.arrivals = s.irc.arrivals ++ [0x0B8 + arg]) ∧
    (action = 3 → arg = 0 → c = .ignsoft → ∃ t u, exec c s = .next t ∧ t.elx.queued = l ++ r ∧ exec (.soft 1#16) s = .next u ∧ t.drv = u.drv) ∧
    (action = 4 → arg = 0 → c = .origin → ∃ t, exec c s = .next t ∧ t.elx.queued = l ++ r ∧
      (s.fusedRole = 2 → s.elx.reversed = true → t.elx.arole = 2 ∧ t.elx.reversed = false ∧ t.elx.epoch = (s.elx.epoch + 1) % 256 ∧ t.elx.depth = 0) ∧
      (s.fusedRole ≠ 2 → s.elx.arole = 2 → t.elx.arole = (if s.fusedRole = 3 then 3 else 1) ∧ t.elx.depth = 1 ∧ t.elx.accepted = true) ∧
      (s.fusedRole ≠ 2 → s.elx.arole ≠ 2 → t.elx.arole = s.elx.arole ∧ t.elx.depth = s.elx.depth))) ∧
  (∀ (p : Nat) (r : DomRec) (s : State), open_ s p → p ∈ s.downPorts → (∀ x ∈ s.elx.open_, x.joins r = false) → s.elx.open_.length < 32 →
    ∃ t, exec (.frep p 0 (next s p) r) s = .next t ∧ t.elx.open_ = s.elx.open_ ++ [r]) ∧
  (∀ (p : Nat) (r x : DomRec) (s : State), open_ s p → p ∈ s.downPorts → s.elx.open_ = [x] → x.joins r = true →
    ∃ t y, exec (.frep p 0 (next s p) r) s = .next t ∧ t.elx.open_ = [y] ∧ y.count = min (x.count + r.count) 4095 ∧ y.code = x.code ∧
      y.subj = x.subj) ∧
  (∀ s : State, let wait : Nat := 20000 + 2000 * (16 - min s.elx.depth 16)
    ∃ t, exec .domainRecordClose s = .next t ∧ t.elx.open_ = s.elx.open_.filter (fun r => decide (diff32 s.tb r.first < (wait : Int)))) ∧
  (∀ (kind subj epoch : Nat) (s : State), let p := s.upPort
    open_ s p → s.elx.arole ≠ 2 → ∃ t, exec (.notice p 0 (next s p) kind subj epoch) s = .next t ∧
      ∀ q ∈ s.downPorts, (s.elxPort q).up = true → ∃ m, (t.elxPort q).tx = (s.elxPort q).tx ++ [m] ∧ m.type = 0x08 ∧
        m.body = twinList [kind, subj, epoch])

/-! ### Integrity, the fuses and the flash -/

/-- R619 to R625, R637: one clock of the scrubber in one bank, the late pass, the end of a row's copy, and an injection.
R612 to R617, R626 to R629, R632, R657: a held pair that passes its check changes nothing, one that fails is restored or lost as its
chapter says; a fuse field is programmed; the ends of the flash erases.
Where the rules leave a point open it says what the model chose (notes 69, 71). -/
def Obligations.IntegrityFusesAndFlash : Prop :=
  (
    (∀ s : State, ∃ t, exec .scrubRead s = .next t ∧ t.lat.mem = s.lat.mem ∧ ∀ b, b < 4 →
      let own := fun (x : State) => (x.lat.writeBack.filter (fun a => a % 4 == b), x.lat.maps.filter (fun m => m.bank == b))
      (∀ a r, (own s).1 = a :: r → t.latErrs a = [] ∧ a ∉ (own t).1 ∧ t.scrubOf b = s.scrubOf b) ∧
      ((own s).1 = [] → (∀ m ∈ (own s).2, m.left = 0) → s.sup.running = true → (s.scrubOf b).pos < 131072 →
        let a := 4 * (s.scrubOf b).pos + b
        (t.scrubOf b).pos = (s.scrubOf b).pos + 1 ∧
        (s.latErrs a = [] → (own t).1 = []) ∧
        (∀ e, s.latErrs a = [e] → (own t).1 = [a] ∧ (a, e) ∈ (t.scrubOf b).seen) ∧
        (2 ≤ (s.latErrs a).length → (own s).2.length < 16 → (∀ m ∈ (own s).2, m.row ≠ bits a 18 10) →
          (own t).2 = (own s).2 ++ [⟨b, bits a 18 10, (own s).2.length, true, 512⟩])) ∧
      (∀ pre m post, (own s).1 = [] → (own s).2 = pre ++ m :: post → (∀ x ∈ pre, x.left = 0) → 0 < m.left →
        (own t).2 = pre ++ { m with left := m.left - 1 } :: post ∧ t.scrubOf b = s.scrubOf b) ∧
      ((own s).1 = [] → (∀ m ∈ (own s).2, m.left = 0) → s.sup.running = false → t.scrubOf b = s.scrubOf b)) ∧
    (∀ (b : Nat) (s : State), b < 4 → (s.scrubOf b).late = false → (s.scrubOf b).start + 10000000 ≤ s.tb →
      ∃ t, exec (.scrubPassTimeout b) s = .next t ∧ (t.scrubOf b).late = true ∧ newReports s t [(0x2E05, b * 512)]) ∧
    (∀ (b : Nat) (m : RowMap) (s : State), s.lat.maps.find? (fun x => x.bank == b && x.copying && decide (x.left = 0)) = some m →
      ∃ t, exec (.rowCopyDone b) s = .next t ∧ t.lat.maps = s.lat.maps.map (fun x => if x = m then { x with copying := false } else x) ∧
        ∀ k, k < 256 → let a := m.row * 1024 + 4 * k + b
          t.latErrs a = [] ∧ (s.latUnc a = true → t.latOk a = false) ∧ (s.latUnc a = false → t.latRead a = s.latRead a)) ∧
    (∀ (v : Word) (s : State), (injOk v.toNat = true → exec (.latInj v) s = .next (s.setCfg Reg.LAT_INJ 0 v.toNat)) ∧
      (injOk v.toNat = false → exec (.latInj v) s = .next s))) ∧
  (
    (∀ (q : HeldPair) (s : State), exec (.pairWalkCheck q true) s = .next s) ∧
    (∀ (s : State) (i n out : Nat) (e : QEntry), (s.queue out)[i]? = some e → ∃ t, exec (.pairWalkCheck (.entry out i) false) s = .next t ∧
      newReports s t [(0x53F2, e.org.tag)] ∧ (s.restorable e.org = true → (t.queue out)[i]? = some { e with bad := true }) ∧
      (s.restorable e.org = false → (t.queue out).length + 1 = (s.queue out).length) ∧
      (n ≠ out → t.queue n = s.queue n)) ∧
    (∀ (s : State) (i : Nat), (∃ t, exec (.pairWalkCheck (.geometry i false) false) s = .next t ∧ Tbl.get 0 i t.tan.g = 0 ∧
        newReports s t [(0x51F2, 0)] ∧ ∀ j, j ≠ i → Tbl.get 0 j t.tan.g = Tbl.get 0 j s.tan.g) ∧
      (∃ t, exec (.pairWalkCheck (.ripple i) false) s = .next t ∧ Tbl.get 0 i t.tan.r = 0 ∧ newReports s t [(0x51F2, 0)])) ∧
    (∀ (s : State) (f : Nat), ∃ t, exec (.pairWalkCheck (.fuse f) false) s = .next t ∧
      t.fuse f = (fuseUse f (Tbl.get 0 f s.fus.array)).1 % 65536 ∧ t.fus.array = s.fus.array) ∧
    (∀ (s : State) (c : Nat), (Tbl.find? c s.cmb.param).isSome = true →
      ∃ t, exec (.pairWalkCheck (.combustion c) false) s = .next t ∧ Tbl.find? c t.cmb.param = none ∧ newReports s t [(0x55F2, c)]) ∧
    (∀ (v : Word) (s : State), let f := s.fld Reg.FUS_SEL 0 6 0
      let may := bit s.locks 2 = false ∧ 6 ≤ f ∧ f ≤ 16 ∧ s.fuseKind f = 0 ∧ s.fus.prog = none
      (may → exec (.fusProg v) s = .next { s with fus := { s.fus with prog := some (f, v.toNat) } }) ∧
      (¬ may → exec (.fusProg v) s = .next s)) ∧
    (∀ (f v : Nat) (s : State), s.fus.prog = some (f, v) → 6 ≤ f → f ≤ 16 → 1 ≤ v → v < 65536 →
      ∃ t, exec .fuseProgramDone s = .next t ∧ t.fus.prog = none ∧ t.fuse f = v ∧ Tbl.get 0 f t.fus.array = v + 65536 * (65535 - v)) ∧
    (∀ s : State, (s.fus.fw = .erasing → exec .flashEraseDone s = .next { s with fus := { s.fus with fw := .receiving } }) ∧
      exec .cfgEraseDone s = .next { s with pwr := { s.pwr with cfgBusy := false } }))

/-! ### Power, resets and the boot -/

/-- R472, R640, R642 to R650, R664: domains and VGD, the entry to a rung and the return to Run with the Time Base restored, and the
keep timer. Where the rules leave a point open it says what the model chose (notes 66, 67, 72). -/
def Obligations.DomainsAndRungs : Prop :=
  (∀ (d : Nat) (s : State), (∃ c, (d, c) ∈ s.pwr.rising) → s.domOn d = false → ∃ t, exec (.domainOn d) s = .next t ∧
    t.domOn d = true ∧ (∀ c, (d, c) ∉ t.pwr.rising) ∧ ∀ a i, a < 16777216 → regDoms a i = [d] → t.cfg a i = regReset t a i) ∧
  (∀ s : State, s.pwr.vgdok = true ∨ s.pwr.vgdRep = false → ∃ t, exec .vgdLow s = .next t ∧ t.pwr.vgdok = false ∧ t.pwr.vgdRep = true ∧
    (s.pwr.vgdRep = false → ∃ l, t.irc.reports = l ++ [⟨0x3F45, 0, s.tb⟩])) ∧
  (∀ s : State, ∃ t, exec .vgdGood s = .next t ∧ t.pwr.vgdok = true ∧ t.pwr.vgdRep = false ∧ t.irc = s.irc) ∧
  (∀ (e : RungEntry) (s : State), s.pwr.entering = some e →
    (e.left ≠ 0 → s.tb < e.since + 20000 → exec .rungEntry s = .next s) ∧
    (e.left = 0 ∨ e.since + 20000 ≤ s.tb → ∃ t, exec .rungEntry s = .next t ∧ t.pwr.rung = e.code ∧ t.pwr.entering = none ∧
      t.pwr.tbStop = s.tb ∧ t.pwr.ready = (s.pwr.ready && decide (e.code < 5)) ∧
      t.pwr.pwren = (s.pwr.pwren && !(decide (6 ≤ e.code) && s.flag Reg.PWR_CTL 0 0)) ∧
      ∀ d, d < 12 → s.dom d ≠ .off →
        (e.code ≤ 2 → t.dom d = .gated) ∧ (e.code = 3 → t.dom d = .ret) ∧
        (e.code = 4 → t.dom d = if d = 1 ∨ d = 2 ∨ 4 ≤ d ∧ d < 8 then .ret else .off) ∧
        (e.code = 5 → t.dom d = if d = 1 then .ret else .off) ∧ (6 ≤ e.code → t.dom d = .off))) ∧
  (∀ (k : Nat) (s : State), let r := s.pwr.rung
    (r = 0 ∨ s.pwr.wake = false → exec (.rungExit k) s = .next s) ∧
    (1 ≤ r → r ≤ 6 → s.pwr.wake = true → ∃ t, exec (.rungExit k) s = .next t ∧ t.pwr.rung = 0 ∧ t.pwr.wake = false ∧
      t.pwr.wakeFrom = r ∧ t.pwr.pwren = true ∧ (∃ l, t.irc.reports = l ++ [⟨0x1F41, r, t.tb⟩]) ∧
      (r ≤ 2 → t.tb = s.tb) ∧ (3 ≤ r → t.tb = s.pwr.tbStop + max k 1 * 390625 / 64 ∧ t.pwr.tbrest = true) ∧
      (r ≤ 3 → ∀ d, d < 12 → s.flag Reg.PWR_DOM 0 d = true → t.domOn d = true) ∧
      (5 ≤ r → t.pwr.booting = true ∧ t.pwr.bootFrom = r)) ∧
    (7 ≤ r → s.pwr.wake = true → exec (.rungExit k) s = .next ((s.deviceReset 5).wakeDone r))) ∧
  (∀ s : State, (s.pwr.ktRun = false → exec .keepTimerExpiry s = .next s) ∧ (s.pwr.ktRun = true → ∃ t, exec .keepTimerExpiry s = .next t ∧
    t.pwr.ktim = 0 ∧ t.pwr.ktRun = false ∧
    (s.fld Reg.IRC_WCFG 14 14 13 ≠ 0 → s.pwr.rung = 0 → s.domOn 2 = true → t.irc.arrivals = s.irc.arrivals ++ [0x0CE]) ∧
    (s.fld Reg.IRC_WCFG 14 14 13 ≠ 0 → s.pwr.rung ≠ 0 → 14 ∈ t.irc.latches))) ∧
  (∀ (v : Word) (s : State), let n := v.toNat + 65536 * s.cfg Reg.PWR_KTIM_HI 0
    ∃ t, exec (.pwrKtimLo v) s = .next t ∧ t.pwr = { s.pwr with ktim := n, ktRun := decide (n ≠ 0) } ∧
      t.cfg Reg.PWR_KTIM_LO 0 = v.toNat)

/-- R628, R651 to R660, R686: the resets, the cold boot to READY or ROM mode, the hostless limit, and the test access port.
Where the rules leave a point open it says what the model chose (notes 9, 68, 69, 70). -/
def Obligations.ResetsBootAndTap : Prop :=
  let resets := fun (c : Instr) (s : State) (cause : Nat) => ∃ t, exec c s = .next t ∧ t.pwr.rcause = cause ∧ t.tb = 0 ∧
    t.pwr.ready = false ∧ t.pwr.booting = true ∧ t.pwr.rung = 0 ∧ t.drivesNothing = true ∧ t.irc.reports = [⟨0x1F40, cause % 65536, 0⟩] ∧
    t.fus.flash = s.fus.flash ∧ (cause ≠ 1 → t.lat.mem = s.lat.mem) ∧ t.pending = s.pending ∧ (∀ l, (t.lane l).st = .halted) ∧
    (∀ a i, a < 16777216 → (cause ≠ 1 → keepReg a = true → t.cfg a i = s.cfg a i) ∧ (cause = 1 ∨ keepReg a = false →
      t.cfg a i = regReset t a i))
  (∀ s : State, resets .powerOnReset s 1 ∧ (s.pwr.pwren = true → resets .supplyReset s 2) ∧
    (s.pwr.pwren = false → exec .supplyReset s = .next s) ∧
    (∀ n, 200 ≤ n → resets (.pinReset n) s 3) ∧ (∀ n, n < 20 → exec (.pinReset n) s = .next s) ∧
    (∀ n, 20 ≤ n → n < 200 → resets (.pinReset n) s 3 ∨ ∃ m, exec (.pinReset n) s = .next { s with free := m }) ∧
    (∀ x, s.pwr.resetAt = some x → x + 10000 ≤ s.tb → resets .commandReset s 4) ∧
    (∀ x, s.pwr.resetAt = some x → s.tb < x + 10000 → exec .commandReset s = .next s)) ∧
  (∀ (c r : Nat) (bad : List (Nat × Nat)) (s0 : State), let from_ := if s0.pwr.bootFrom = 0 then 0 else s0.tb
    let lead := if s0.pwr.bootFrom = 5 then 2300000 else 3900000
    let s := { s0 with tb := from_ }
    s.pwr.booting = true → s.sup.rom = false → from_ ≤ c → c ≤ from_ + lead → c ≤ r → r ≤ from_ + lead + 100000 →
    let u := if s.pwr.bootFrom = 5 then s else s.bootFuses
    let known := s.pwr.bootFrom = 5 ∨ s.pwr.bootFrom = 6 ∧ s.pwr.verified = true
    (known ∨ u.slotOk s.fus.markB = true ∨ u.slotOk (!s.fus.markB) = true → ∃ t, exec (.coldBoot c r bad) s0 = .next t ∧
      t.pwr.ready = true ∧ t.pwr.booting = false ∧ t.pwr.readyAt = t.tb ∧ t.pwr.readyPulse = some (t.tb + 200) ∧ r ≤ t.tb) ∧
    (¬ known → u.slotOk s.fus.markB = false → u.slotOk (!s.fus.markB) = false → ∃ t, exec (.coldBoot c r bad) s0 = .next t ∧
      t.sup.rom = true ∧ t.sup.running = false ∧ t.pwr.booting = false ∧ t.pwr.ready = s.pwr.ready ∧ t.tb = c ∧
      ∃ l, t.irc.reports = l ++ [⟨0x4F05, b2n s.fus.markB, from_⟩])) ∧
  (∀ (x : Tick) (s : State), s.pwr.readyPulse = some x → x ≤ s.tb →
    exec .readyPulseEnd s = .next { s with pwr := { s.pwr with readyPulse := none } }) ∧
  (∀ s : State, exec .claim s = .next { s with pwr := { s.pwr with limited := false } }) ∧
  (∀ s : State, s.pwr.limited = true → s.pwr.hltmo ≠ 0 → s.pwr.limFrom + s.pwr.hltmo * 1048576 ≤ s.tb →
    ∃ t, exec .hostlessLimit s = .next t ∧ t.pwr.limited = false ∧ (∃ l, t.irc.reports = l ++ [⟨0x4F44, 0, s.tb⟩]) ∧
      (∀ n, n < 8 → t.fld Reg.VLV_CFG n 1 0 = 0) ∧ ∀ i ∈ [0, 1, 2, 3, 4, 5, 8, 9], t.flag Reg.DRV_CTL 0 i = false) ∧
  (∀ (rise tms tdi trstn : Bool) (s : State), let c := Instr.tckEdge rise tms tdi trstn
    (trstn = false ∨ bit s.locks 0 = true → exec c s = .next { s with tap := { tck := rise, cells := s.tap.cells } }) ∧
    (trstn = true → bit s.locks 0 = false → ∃ t, exec c s = .next t ∧
      (rise = true → s.tap.tck = false → t.tap.tck = true ∧ t.tap.st = s.tap.st.succ tms ∧
        (s.tap.st = .shDr ∨ s.tap.st = .shIr → t.tap.sh = s.tap.sh.drop 1 ++ [tdi]) ∧
        (s.tap.st = .capDr → s.tap.instr = .idcode → t.tap.sh = lowFirst 32 0x1481274B) ∧
        (s.tap.st = .capDr → s.tap.instr = .bypass → t.tap.sh = [false]) ∧
        (t.tap.st = .reset → t.tap.instr = .idcode)) ∧
      (rise = false → s.tap.tck = true → t.tap.tck = false ∧ t.tap.st = s.tap.st ∧
        t.tap.tdo = (if s.tap.st = .shDr ∨ s.tap.st = .shIr then s.tap.sh.head? else none) ∧
        (s.tap.st = .upDr → s.tap.instr = .extest ∨ s.tap.instr = .sample → t.tap.cells = s.tap.sh))))

/-! ### Frames -/

/-- What each command leaves as it was: wherever it answers a next state, every part of the state not listed beside it is unchanged,
register by register and word by word. The pads of the lanes, their memories and items are the part `lanes`; the values in effect of RW and
RWS registers are the part `registers`. Where the rules leave a point open it says what the model chose (note 5). -/
def Obligations.CommandFrames : Prop :=
  (∀ (v0 : Word), ∀ c ∈ ([.latInj v0] : List Instr), changesOnly c [.registers]) ∧
  (∀ c ∈ ([.tbNow0Read, .tbStaleClr] : List Instr), changesOnly c [.time]) ∧
  (∀ c ∈ ([.supervisorRestartDone] : List Instr), changesOnly c [.supervisors]) ∧
  (∀ (x0 : Nat) (v0 : Word), ∀ c ∈ ([.rowCopyDone x0, .latCntClr v0] : List Instr), changesOnly c [.lattice]) ∧
  (∀ (v0 : Word) (x0 : Nat), ∀ c ∈ ([.ircAckcnt v0, .ircHvecRead x0, .ircStraycntClr v0, .ircFlostClr v0] : List Instr),
    changesOnly c [.interrupts]) ∧
  (∀ (v0 : Word), ∀ c ∈ ([.fusProg v0, .flashEraseDone] : List Instr), changesOnly c [.fuses]) ∧
  (∀ c ∈ ([.cfgEraseDone, .claim, .readyPulseEnd] : List Instr), changesOnly c [.power]) ∧
  (∀ (x0 : Nat) (v0 : Word), ∀ c ∈ ([.vrPeakRecord x0, .armThresholdTimeout x0, .angCntClr v0] : List Instr),
    changesOnly c [.crank]) ∧
  (∀ (v0 : Word), ∀ c ∈ ([.syncStallTimeout, .synClr v0] : List Instr), changesOnly c [.sync]) ∧
  (∀ c ∈ ([.save, .load, .clrgeo, .clrrip, .clrcnt, .angAccLoRead, .angS16PerlRead, .offsetRebuildDone, .speedWindowStopped] : List Instr),
    changesOnly c [.tangent]) ∧
  (∀ (v0 : Word), ∀ c ∈ ([.evqArm v0, .evqCanCmd v0, .evqRlostClr, .evqCntClr v0] : List Instr), changesOnly c [.events]) ∧
  (∀ (v0 : Word) (x0 : Nat), ∀ c ∈ ([.cmdCntClr v0, .csnFall x0, .syncWordFound x0] : List Instr), changesOnly c [.ports]) ∧
  (∀ (v0 : Word), ∀ c ∈ ([.arcCntClr v0] : List Instr), changesOnly c [.arcs]) ∧
  (∀ (v0 : Word), ∀ c ∈ ([.cmbCntClr v0] : List Instr), changesOnly c [.combustion]) ∧
  (∀ (v0 : Word) (x0 : Nat) (b0 : Bool), ∀ c ∈ ([.clrpok v0, .fbkClrcnt v0, .fbkPosLoRead, .fbkSsiD0Read,
    .ssiPeriodicTrigger x0 b0, .start v0 b0, .ssiFrameBegin x0] : List Instr), changesOnly c [.feedback]) ∧
  (∀ (x0 x1 : Nat) (v0 : Word), ∀ c ∈ ([.minSwitchTimeExpiry x0, .boostIlimReached x0, .boostTonmaxExpiry x0,
    .boostToffExpiry x0, .drvCntClr v0, .rampEnd x0, .soft v0, .ignCntClr v0, .valveCurrentResult x0 x1, .valveTonExpiry x0,
    .latch v0, .vlvCntClr v0, .drvDgClr v0] : List Instr), changesOnly c [.drive]) ∧
  (∀ (v0 : Word) (x0 : Nat), ∀ c ∈ ([.lanCmdHalt v0, .lanCmdStart v0, .lanCmdContinue v0, .lanClr v0, .spareIdle v0,
    .spareNow v0, .spareCancel v0, .memoryFillDone x0] : List Instr), changesOnly c [.lanes]) ∧
  (∀ (v0 : Word), ∀ c ∈ ([.dmaCntClr v0] : List Instr), changesOnly c [.dma]) ∧
  (∀ (v0 : Word), ∀ c ∈ ([.heartbeatSend, .soloTimeout, .twnCntClr v0] : List Instr), changesOnly c [.twin]) ∧
  (∀ (x0 x1 : Nat) (v0 : Word), ∀ c ∈ ([.elrexHelloSend x0, .tmarkSend x0 x1, .dreqSend x0, .joinRefresh, .joinEntryExpiry,
    .elxCntClr v0, .elxFrlostClr] : List Instr), changesOnly c [.elrex]) ∧
  (∀ (x0 : Nat) (b0 : Bool) (v0 : Word), ∀ c ∈ ([.camEdge x0 b0, .dirTrailingEdge x0, .dirReverseDecision x0, .lanRdlRead,
    .lanRdlWrite v0] : List Instr), changesOnly c [.work]) ∧
  (∀ (v0 : Word), ∀ c ∈ ([.ircScfg v0] : List Instr), changesOnly c [.registers, .interrupts]) ∧
  (∀ (v0 : Word), ∀ c ∈ ([.pwrKtimLo v0] : List Instr), changesOnly c [.registers, .power]) ∧
  (∀ (v0 : Word), ∀ c ∈ ([.angVtxSel v0] : List Instr), changesOnly c [.registers, .crank]) ∧
  (∀ (v0 : Word), ∀ c ∈ ([.fbkCmpvLo v0, .disarm v0] : List Instr), changesOnly c [.registers, .feedback]) ∧
  (∀ (x0 : Nat), ∀ c ∈ ([.fbkStillTimeout x0] : List Instr), changesOnly c [.tangent, .feedback]) ∧
  (∀ (v0 : Word), ∀ c ∈ ([.drvTrcCtl v0] : List Instr), changesOnly c [.registers, .drive]) ∧
  (∀ c ∈ ([.vgdGood] : List Instr), changesOnly c [.power, .drive]) ∧
  (∀ (x0 : Nat), ∀ c ∈ ([.islandAck x0] : List Instr), changesOnly c [.commit, .twin]) ∧
  (∀ (b0 : Bool), ∀ c ∈ ([.belithResendTimeout, .belithLinkUp, .belithLinkDown b0, .joinTimeout] : List Instr),
    changesOnly c [.interrupts, .twin]) ∧
  (∀ (v0 : Word), ∀ c ∈ ([.evqRcpCmd v0] : List Instr), changesOnly c [.events, .twin]) ∧
  (∀ (x0 : Nat), ∀ c ∈ ([.domevt x0, .holdoverStart] : List Instr), changesOnly c [.interrupts, .elrex]) ∧
  (∀ c ∈ ([.ignsoft] : List Instr), changesOnly c [.drive, .elrex]) ∧
  (∀ (b0 b1 b2 b3 : Bool), ∀ c ∈ ([.tckEdge b0 b1 b2 b3] : List Instr), changesOnly c [.free, .tap]) ∧
  (∀ (x0 x1 : Nat) (klistword0 : List Word), ∀ c ∈ ([.belithDma x0 x1 klistword0, .belithAck x0 x1] : List Instr),
    changesOnly c [.twin, .marks]) ∧
  (∀ (x0 x1 : Nat) (b0 : Bool), ∀ c ∈ ([.crankEdge x0 ⟨b0, x1⟩] : List Instr), changesOnly c [.crank, .work]) ∧
  (∀ (v0 : Word), ∀ c ∈ ([.cal v0] : List Instr), changesOnly c [.arcs, .work]) ∧
  (∀ (x0 : Nat), ∀ c ∈ ([.deliverySelection x0] : List Instr), changesOnly c [.registers, .interrupts, .power]) ∧
  (∀ c ∈ ([.supervisorLockstepMismatch] : List Instr), changesOnly c [.supervisors, .interrupts, .twin]) ∧
  (∀ (x0 : Nat), ∀ c ∈ ([.faultRecordClose, .scrubPassTimeout x0] : List Instr), changesOnly c [.lattice, .interrupts, .twin]) ∧
  (∀ (x0 : Nat), ∀ c ∈ ([.calibrationTimeout x0] : List Instr), changesOnly c [.interrupts, .arcs, .twin]) ∧
  (∀ (x0 x1 : Nat), ∀ c ∈ ([.ssiTimeout x0 x1, .ssiFrameComplete x0 x1] : List Instr),
    changesOnly c [.interrupts, .feedback, .twin]) ∧
  (∀ (x0 x1 : Nat) (b0 : Bool), ∀ c ∈ ([.boostMonitorResult x0 x1 b0] : List Instr), changesOnly c [.interrupts, .drive, .twin]) ∧
  (∀ (x0 : Nat), ∀ c ∈ ([.spareTakeover x0] : List Instr), changesOnly c [.interrupts, .lanes, .twin]) ∧
  (∀ (x0 : Nat), ∀ c ∈ ([.origin, .elrexPortUp x0] : List Instr), changesOnly c [.time, .interrupts, .elrex]) ∧
  (∀ (x0 : Nat) (b0 : Bool), ∀ c ∈ ([.elrexResendTimeout x0, .elrexPortDown x0 b0] : List Instr),
    changesOnly c [.interrupts, .twin, .elrex]) ∧
  (∀ (x0 : Nat) (b0 : Bool), ∀ c ∈ ([.wakeLatchEdge x0 b0, .keepTimerExpiry] : List Instr),
    changesOnly c [.interrupts, .power, .marks]) ∧
  (∀ (x0 : Nat), ∀ c ∈ ([.replyWordSlot x0] : List Instr), changesOnly c [.power, .ports, .marks]) ∧
  (∀ (x0 x1 x2 x3 x4 : Nat) (b0 : Bool), ∀ c ∈ ([.digest x0 x1 b0 x2 x3 x4, .digestTimeout] : List Instr),
    changesOnly c [.interrupts, .twin, .marks]) ∧
  (∀ c ∈ ([.rejoinTimer] : List Instr), changesOnly c [.interrupts, .twin, .image]) ∧
  (∀ c ∈ ([.holdoverEnd, .standbyTakeover] : List Instr), changesOnly c [.time, .interrupts, .twin, .elrex]) ∧
  (∀ (x0 : Nat) (v0 v1 v2 v3 : Word) (klistword0 : List Word), ∀ c ∈ ([.csnRise x0, .packetReceived x0 v0 v1 v2 klistword0 v3,
    .sin, .sout, .domread, .nopPacket, .undefinedOpcodePacket] : List Instr), changesOnly c [.interrupts, .ports, .twin, .marks]) ∧
  (∀ c ∈ ([.armRequest] : List Instr), changesOnly c [.events, .ports, .twin, .marks]) ∧
  (∀ (x0 : Nat), ∀ c ∈ ([.pulseDurExpiry x0, .overdwell x0, .ignOutputFault x0, .valvePeriodEnd x0] : List Instr),
    changesOnly c [.interrupts, .drive, .twin, .marks]) ∧
  (∀ (x0 x1 : Nat) (b0 : Bool), ∀ c ∈ ([.larNop x0, .larHalt x0, .larRet x0, .larRetv x0, .larTrap x0, .larJr x0, .larAdd x0,
    .larAdc x0, .larSub x0, .larSbc x0, .larAnd x0, .larOr x0, .larXor x0, .larCmp x0, .larMov x0, .larTst x0, .larNeg x0,
    .larNot x0, .larMulu x0, .larMuls x0, .larDivu x0, .larDivs x0, .larShl x0, .larShr x0, .larSar x0, .larRor x0, .larRol x0,
    .larPar x0, .larBrev x0, .larSwpb x0, .larShli x0, .larShri x0, .larSari x0, .larRori x0, .larAddi x0, .larSubi x0,
    .larCmpi x0, .larMovi x0, .larBrevn x0, .larLd x0, .larSt x0, .larLdi x0, .larLda x0, .larSta x0, .larJmp x0, .larCall x0,
    .larDjnz x0, .larBr x0, .larMfsl x0, .larMfsh x0, .larMtsl x0, .larMtsh x0, .larCtcRun x0, .larCtcStop x0, .larCtcClear x0,
    .larPclr x0, .larPset x0, .larPtgl x0, .larPmovc x0, .larWait x0, .larShift x0, .larCrcb x0, .larRep x0, .larBmov x0,
    .larBfil x0, .larBcmp x0, .larBcrc x0, .larTang x0, .larTrate x0, .larTpred x0, .larTrpm x0, .larTsyn x0, .larTvtx x0,
    .larTa2t x0, .larC32i x0, .larC32w x0, .larC32f x0, .larC16w x0, .larHshi x0, .larHshw x0, .larLwr x0, .larLww x0,
    .larLwri x0, .larLwwi x0, .larCmbrdPstat x0, .larCmbrdPmax x0, .larCmbrdImep x0, .larCmbrdQmax x0, .larCmbrdA10A50 x0,
    .larCmbrdA90Lat x0, .larCmbrdKstat x0, .larCmbrdKint x0, .compareMatch x0 x1, .gpPinEdge x0 b0, .vectorEntry x0,
    .handshakeEnd x0, .undefinedInstruction x0, .counterWrap x0 x1] : List Instr),
    changesOnly c [.interrupts, .lanes, .twin, .marks]) ∧
  (∀ (x0 : Nat) (v0 : Word), ∀ c ∈ ([.sourceArrival x0, .ircSet v0, .pacingCredit x0] : List Instr),
    changesOnly c [.interrupts, .dma, .twin, .marks]) ∧
  (∀ (x0 x1 x2 x3 x4 x5 x6 : Nat) (b0 : Bool), ∀ c ∈ ([.elrexHello x0 x1 x2 x3 x4 x5 x6 b0, .dreq x0 x1 x2 x3,
    .dack x0 x1 x2 x3 x4 x5 x6, .dackDeadline, .domainCommandComplete, .notice x0 x1 x2 x3 x4 x5,
    .elrexJoin x0 x1 x2 x3 x4 x5 x6, .lack x0 x1 x2] : List Instr), changesOnly c [.interrupts, .twin, .elrex, .marks]) ∧
  (∀ (x0 x1 x2 x3 x4 x5 x6 : Nat), ∀ c ∈ ([.belithHello x0 x1 x2 x3 x4 x5 x6] : List Instr),
    changesOnly c [.interrupts, .twin, .marks, .image]) ∧
  (∀ (x0 x1 x2 : Nat), ∀ c ∈ ([.calibrationDone x0 x1 x2] : List Instr), changesOnly c [.staged, .lattice, .interrupts, .arcs, .twin]) ∧
  (∀ c ∈ ([.fuseProgramDone] : List Instr), changesOnly c [.time, .interrupts, .fuses, .twin, .elrex]) ∧
  (∀ c ∈ ([.scrubRead] : List Instr), changesOnly c [.lattice, .interrupts, .fuses, .twin, .marks]) ∧
  (∀ (x0 : Nat), ∀ c ∈ ([.strayTimeout x0] : List Instr), changesOnly c [.registers, .interrupts, .power, .twin, .marks]) ∧
  (∀ c ∈ ([.ident] : List Instr), changesOnly c [.free, .interrupts, .ports, .twin, .marks]) ∧
  (∀ c ∈ ([.fwdata, .fwclose, .cfgstore] : List Instr), changesOnly c [.interrupts, .fuses, .ports, .twin, .marks]) ∧
  (∀ c ∈ ([.rung, .reset] : List Instr), changesOnly c [.interrupts, .power, .ports, .twin, .marks]) ∧
  (∀ c ∈ ([.arm, .rcpswap] : List Instr), changesOnly c [.interrupts, .events, .ports, .twin, .marks]) ∧
  (∀ (x0 : Nat) (b0 b1 : Bool), ∀ c ∈ ([.quadEdge x0 b0 b1] : List Instr),
    changesOnly c [.interrupts, .tangent, .feedback, .twin, .marks]) ∧
  (∀ (x0 : Nat), ∀ c ∈ ([.decayTimeout x0] : List Instr), changesOnly c [.registers, .interrupts, .drive, .twin, .marks]) ∧
  (∀ (x0 : Nat), ∀ c ∈ ([.pulseStart x0, .startDropTimeout x0, .phaseTimer x0, .openLoadCheck x0] : List Instr),
    changesOnly c [.interrupts, .events, .drive, .twin, .marks]) ∧
  (∀ (x0 x1 x2 x3 : Nat), ∀ c ∈ ([.takeover, .release, .releaseFrame x0 x1 x2 x3, .handoverRelease x0, .handoverIdleTimeout,
    .probeResult x0, .ownFaultRelease] : List Instr), changesOnly c [.interrupts, .ports, .drive, .twin, .marks]) ∧
  (∀ (x0 : Nat), ∀ c ∈ ([.waitSatisfied x0, .shiftEdge x0] : List Instr),
    changesOnly c [.registers, .interrupts, .lanes, .twin, .marks]) ∧
  (∀ (x0 x1 x2 : Nat) (klistword0 : List Word), ∀ c ∈ ([.delta x0 x1 x2 klistword0] : List Instr),
    changesOnly c [.lattice, .interrupts, .lanes, .twin, .marks]) ∧
  (∀ (x0 : Nat), ∀ c ∈ ([.larEwr x0, .larEarm x0, .larEcan x0] : List Instr),
    changesOnly c [.interrupts, .events, .lanes, .twin, .marks]) ∧
  (∀ (v0 : Word) (x0 : Nat), ∀ c ∈ ([.dmaStart v0, .kick v0, .stop v0, .abort v0, .clrcred v0, .barrierEnd x0] : List Instr),
    changesOnly c [.lattice, .interrupts, .dma, .twin, .marks]) ∧
  (∀ (x0 x1 x2 x3 x4 x5 : Nat) (b0 : Bool), ∀ c ∈ ([.tmark x0 x1 x2 x3 x4 x5 b0, .jres x0 x1 x2 x3 x4 x5] : List Instr),
    changesOnly c [.time, .interrupts, .twin, .elrex, .marks]) ∧
  (∀ (x0 x1 x2 : Nat) (kdomrec0 : Machine.DomRec), ∀ c ∈ ([.frep x0 x1 x2 kdomrec0, .domainRecordClose] : List Instr),
    changesOnly c [.lattice, .interrupts, .twin, .elrex, .marks]) ∧
  (∀ (x0 x1 x2 : Nat) (b0 b1 b2 : Bool), ∀ c ∈ ([.handreq x0 b0 x1 b1 b2 x2] : List Instr),
    changesOnly c [.interrupts, .events, .twin, .marks, .image]) ∧
  (∀ c ∈ ([.rejoin] : List Instr), changesOnly c [.interrupts, .ports, .twin, .marks, .image]) ∧
  (∀ (x0 : Nat) (b0 : Bool), ∀ c ∈ ([.bridgeMessage x0 b0] : List Instr),
    changesOnly c [.time, .bridge, .interrupts, .crank, .events, .twin]) ∧
  (∀ c ∈ ([.fwopen, .cfgerase] : List Instr), changesOnly c [.interrupts, .fuses, .power, .ports, .twin, .marks]) ∧
  (∀ c ∈ ([.cancel] : List Instr), changesOnly c [.registers, .interrupts, .events, .ports, .twin, .marks]) ∧
  (∀ c ∈ ([.frameProcessing] : List Instr), changesOnly c [.registers, .lattice, .interrupts, .combustion, .twin, .marks]) ∧
  (∀ (x0 x1 x2 : Nat), ∀ c ∈ ([.fbkSincosSample x0 x1 x2, .observerUpdate x0] : List Instr),
    changesOnly c [.free, .interrupts, .tangent, .feedback, .twin, .marks]) ∧
  (∀ c ∈ ([.bridgeSilence] : List Instr), changesOnly c [.bridge, .interrupts, .events, .drive, .twin, .marks]) ∧
  (∀ c ∈ ([.vgdLow] : List Instr), changesOnly c [.interrupts, .power, .events, .drive, .twin, .marks]) ∧
  (∀ (x0 : Nat), ∀ c ∈ ([.descriptorFetch x0] : List Instr), changesOnly c [.free, .lattice, .interrupts, .dma, .twin, .marks]) ∧
  (∀ c ∈ ([.resultRecordWrite] : List Instr), changesOnly c [.lattice, .interrupts, .combustion, .dma, .twin, .marks]) ∧
  (∀ (x0 : Nat), ∀ c ∈ ([.faultReport x0] : List Instr), changesOnly c [.lattice, .interrupts, .dma, .twin, .elrex, .marks]) ∧
  (∀ (x0 : Nat), ∀ c ∈ ([.guardExpiry x0, .startStatus] : List Instr),
    changesOnly c [.lattice, .interrupts, .events, .twin, .marks, .work]) ∧
  (∀ c ∈ ([.heartbeatLoss] : List Instr), changesOnly c [.interrupts, .ports, .drive, .twin, .marks, .image]) ∧
  (∀ c ∈ ([.commitDecision] : List Instr), changesOnly c [.commit, .lattice, .power, .arcs, .combustion, .drive, .twin]) ∧
  (∀ (x0 : Nat), ∀ c ∈ ([.domainOn x0] : List Instr), changesOnly c [.registers, .time, .bridge, .power, .drive, .lanes, .elrex]) ∧
  (∀ c ∈ ([.commit] : List Instr), changesOnly c [.staged, .commit, .lattice, .interrupts, .ports, .twin, .marks]) ∧
  (∀ (x0 x1 : Nat), ∀ c ∈ ([.fullValueMessage x0 x1, .grayCodeParityFailure x0] : List Instr),
    changesOnly c [.time, .bridge, .interrupts, .events, .drive, .twin, .marks]) ∧
  (∀ (x0 x1 : Nat) (b0 : Bool), ∀ c ∈ ([.bankCurrentResult x0 x1 b0] : List Instr),
    changesOnly c [.registers, .lattice, .interrupts, .events, .drive, .twin, .marks]) ∧
  (∀ c ∈ ([.hostlessLimit] : List Instr), changesOnly c [.registers, .interrupts, .power, .events, .drive, .twin, .marks]) ∧
  (∀ (x0 x1 x2 x3 : Nat) (klistword0 : List Word) (b0 : Bool), ∀ c ∈ ([.bulk x0 x1 x2 x3 klistword0 b0] : List Instr),
    changesOnly c [.registers, .staged, .lattice, .interrupts, .lanes, .twin, .marks]) ∧
  (∀ (x0 : Nat), ∀ c ∈ ([.extUnitAnswer x0] : List Instr),
    changesOnly c [.registers, .lattice, .interrupts, .events, .lanes, .twin, .marks]) ∧
  (∀ (x0 x1 x2 x3 x4 x5 x6 x7 : Nat), ∀ c ∈ ([.dcmd x0 x1 x2 x3 x4 x5 x6 x7] : List Instr),
    changesOnly c [.staged, .commit, .lattice, .interrupts, .twin, .elrex, .marks]) ∧
  (∀ c ∈ ([.armRecordRead, .cancelRequest] : List Instr),
    changesOnly c [.lattice, .interrupts, .events, .ports, .twin, .marks, .work]) ∧
  (∀ (x0 x1 x2 x3 : Nat), ∀ c ∈ ([.dresp x0 x1 x2 x3] : List Instr),
    changesOnly c [.timeBase, .time, .interrupts, .twin, .elrex, .marks, .work]) ∧
  (∀ (x0 : Nat), ∀ c ∈ ([.islandPrepare x0] : List Instr),
    changesOnly c [.commit, .lattice, .interrupts, .arcs, .combustion, .drive, .twin, .marks]) ∧
  (∀ c ∈ ([.dmaBurst] : List Instr), changesOnly c [.free, .lattice, .interrupts, .ports, .lanes, .dma, .twin, .marks]) ∧
  (∀ c ∈ ([.domain] : List Instr), changesOnly c [.staged, .commit, .lattice, .interrupts, .ports, .twin, .elrex, .marks]) ∧
  (∀ (x0 : Nat), ∀ c ∈ ([.copyDone x0] : List Instr),
    changesOnly c [.timeBase, .time, .interrupts, .events, .arcs, .drive, .twin, .work]) ∧
  (∀ (x0 x1 : Nat), ∀ c ∈ ([.conversionResult x0 x1, .referenceCheck x0 x1] : List Instr),
    changesOnly c [.lattice, .interrupts, .arcs, .combustion, .dma, .twin, .marks, .work]) ∧
  (∀ (x0 : Nat), ∀ c ∈ ([.conversionTimeout x0] : List Instr),
    changesOnly c [.lattice, .interrupts, .arcs, .combustion, .feedback, .dma, .twin, .marks, .work]) ∧
  (∀ c ∈ ([.cmtcancel] : List Instr),
    changesOnly c [.commit, .lattice, .interrupts, .power, .ports, .arcs, .combustion, .drive, .twin, .marks]) ∧
  (∀ c ∈ ([.cycleBoundary, .tableSaveDone, .tableReloadDone] : List Instr),
    changesOnly c [.commit, .lattice, .interrupts, .sync, .tangent, .events, .twin, .marks, .work, .image]) ∧
  (∀ (x0 x1 : Nat) (kjoinmsg0 : Machine.JoinMsg), ∀ c ∈ ([.belithJoin x0 x1 kjoinmsg0] : List Instr),
    changesOnly c [.interrupts, .tangent, .events, .ports, .arcs, .drive, .lanes, .dma, .twin, .marks, .image]) ∧
  (∀ (x0 x1 x2 x3 x4 x5 : Nat) (b0 b1 b2 : Bool), ∀ c ∈ ([.belithHeartbeat x0 b0 x1 b1 x2 x3 x4 b2 x5] : List Instr),
    changesOnly c [.time, .interrupts, .crank, .sync, .tangent, .ports, .drive, .twin, .marks, .work, .image]) ∧
  (∀ (x0 : Nat), ∀ c ∈ ([.launchArrival x0, .fireMessage x0] : List Instr),
    changesOnly c [.time, .bridge, .lattice, .interrupts, .events, .arcs, .combustion, .drive, .dma, .twin, .marks, .work]) ∧
  (∀ (x0 : Nat), ∀ c ∈ ([.launchExecute x0] : List Instr),
    changesOnly c [.time, .lattice, .interrupts, .events, .arcs, .combustion, .drive, .lanes, .dma, .twin, .marks, .work]) ∧
  (∀ c ∈ ([.rd] : List Instr),
    changesOnly c [.free, .registers, .time, .lattice, .interrupts, .power, .tangent, .ports, .feedback, .lanes, .twin, .marks,
      .work]) ∧
  (∀ (x0 : Nat), ∀ c ∈ ([.synCmdSearch, .eventFire x0, .pulseEndFire x0, .entryRebuildDone x0] : List Instr),
    changesOnly c [.commit, .lattice, .interrupts, .crank, .sync, .tangent, .events, .arcs, .combustion, .dma, .twin, .marks,
      .work, .image]) ∧
  (∀ (x0 : Nat), ∀ c ∈ ([.arcLaunchSend x0] : List Instr),
    changesOnly c [.time, .commit, .lattice, .interrupts, .crank, .sync, .tangent, .events, .arcs, .combustion, .dma, .twin,
      .marks, .work, .image]) ∧
  (∀ (kheldpair0 : HeldPair) (b0 : Bool), ∀ c ∈ ([.pairWalkCheck kheldpair0 b0] : List Instr),
    changesOnly c [.registers, .commit, .lattice, .interrupts, .fuses, .tangent, .events, .arcs, .combustion, .feedback, .drive,
      .lanes, .dma, .twin, .marks, .work]) ∧
  (∀ c ∈ ([.commitApply] : List Instr),
    changesOnly c [.registers, .commit, .lattice, .interrupts, .power, .tangent, .events, .arcs, .combustion, .feedback, .drive,
      .lanes, .dma, .twin, .elrex, .marks, .work]) ∧
  (∀ (x0 x1 x2 x3 x4 x5 x6 : Nat), ∀ c ∈ ([.areq x0 x1 x2 x3 x4 x5 x6] : List Instr),
    changesOnly c [.registers, .staged, .commit, .lattice, .interrupts, .power, .tangent, .events, .arcs, .combustion, .feedback,
      .drive, .lanes, .dma, .twin, .elrex, .marks, .work, .image]) ∧
  (∀ c ∈ ([.rungEntry] : List Instr),
    changesOnly c [.registers, .staged, .time, .commit, .bridge, .supervisors, .lattice, .interrupts, .power, .crank, .sync,
      .tangent, .events, .ports, .arcs, .combustion, .feedback, .drive, .lanes, .dma, .twin, .elrex, .work]) ∧
  (∀ (x0 x1 x2 : Nat) (v0 : Word) (b0 b1 : Bool) (klistword0 : List Word), ∀ c ∈ ([.registerWrite x0 v0 b0, .wr b0,
    .mirror x0 x1 b0 x2 klistword0 b1] : List Instr),
    changesOnly c [.registers, .staged, .time, .commit, .lattice, .interrupts, .fuses, .power, .crank, .sync, .tangent, .events,
      .ports, .arcs, .combustion, .feedback, .drive, .lanes, .dma, .twin, .elrex, .marks, .work, .image]) ∧
  (∀ (x0 x1 : Nat) (klistnatnat0 : List (Nat × Nat)), ∀ c ∈ ([.coldBoot x0 x1 klistnatnat0] : List Instr),
    changesOnly c [.timeBase, .registers, .staged, .time, .commit, .supervisors, .lattice, .interrupts, .fuses, .power, .crank,
      .sync, .tangent, .events, .ports, .arcs, .combustion, .feedback, .drive, .lanes, .dma, .twin, .elrex, .marks, .work,
      .image]) ∧
  (∀ (x0 : Nat), ∀ c ∈ ([.rungExit x0, .powerOnReset, .supplyReset, .pinReset x0, .commandReset] : List Instr),
    changesOnly c [.free, .timeBase, .registers, .staged, .time, .commit, .bridge, .supervisors, .lattice, .interrupts, .fuses,
      .power, .crank, .sync, .tangent, .events, .ports, .arcs, .combustion, .feedback, .drive, .lanes, .dma, .twin, .elrex,
      .marks, .work, .image])
end

