-- ==== Sys2Proof/Laws/Foot.lean ====
section
/-! SUPPORT. Footprints: which parts of the state an operation may change. `Foot m s t` says that t is s but for the parts whose bit
is set in m, and that the memories keep their canonical form. -/

namespace Sys2Proof.Machine

/-- A state with the parts whose bit is set in m wiped. -/
def State.wipe (m : Nat) (s : State) : State :=
  { pending := bif m.testBit 0 then [] else s.pending
    free := bif m.testBit 1 then 0 else s.free
    tb := bif m.testBit 2 then 0 else s.tb
    regs := bif m.testBit 3 then [] else s.regs
    staged := bif m.testBit 4 then [] else s.staged
    time := bif m.testBit 5 then {} else s.time
    commit := bif m.testBit 6 then {} else s.commit
    bridge := bif m.testBit 7 then {} else s.bridge
    sup := bif m.testBit 8 then {} else s.sup
    lat := bif m.testBit 9 then {} else s.lat
    irc := bif m.testBit 10 then {} else s.irc
    fus := bif m.testBit 11 then {} else s.fus
    pwr := bif m.testBit 12 then {} else s.pwr
    wheel := bif m.testBit 13 then {} else s.wheel
    sync := bif m.testBit 14 then {} else s.sync
    tan := bif m.testBit 15 then {} else s.tan
    evq := bif m.testBit 16 then {} else s.evq
    cmd := bif m.testBit 17 then {} else s.cmd
    arcs := bif m.testBit 18 then {} else s.arcs
    cmb := bif m.testBit 19 then {} else s.cmb
    fbk := bif m.testBit 20 then {} else s.fbk
    drv := bif m.testBit 21 then {} else s.drv
    lan := bif m.testBit 22 then {} else s.lan
    dma := bif m.testBit 23 then {} else s.dma
    twn := bif m.testBit 24 then {} else s.twn
    elx := bif m.testBit 25 then {} else s.elx
    tap := bif m.testBit 26 then {} else s.tap
    hits := bif m.testBit 27 then [] else s.hits
    agenda := bif m.testBit 28 then [] else s.agenda
    image := bif m.testBit 29 then none else s.image }

/-- t is s but for the parts whose bit is set in m, and its memories keep their canonical form. -/
def Foot (m : Nat) (s t : State) : Prop :=
  t.wipe m = s.wipe m ∧ (s.memoriesWf = true → t.memoriesWf = true)

theorem wiped_twice {α : Type} (a b : Bool) (d x : α) :
    (bif b then d else bif a then d else x) = bif a || b then d else x := by cases a <;> cases b <;> rfl

theorem State.wipe_wipe (m n : Nat) (s : State) : (s.wipe m).wipe n = s.wipe (m ||| n) := by
  simp only [State.wipe, Nat.testBit_or, wiped_twice]

theorem Foot.refl {m : Nat} {s : State} : Foot m s s := ⟨rfl, id⟩

theorem Foot.id_ {m : Nat} {s : State} : Foot m s (id s) := Foot.refl

theorem Foot.mono {m n : Nat} {s t : State} (h : Foot m s t) (hm : m ||| n = n) : Foot n s t := by
  refine ⟨?_, h.2⟩
  have := congrArg (State.wipe n) h.1
  rwa [State.wipe_wipe, State.wipe_wipe, hm] at this

theorem Foot.trans {m : Nat} {s t u : State} (h : Foot m s t) (k : Foot m t u) : Foot m s u :=
  ⟨k.1.trans h.1, fun x => k.2 (h.2 x)⟩

/-- An operation of a smaller footprint comes last. -/
theorem Foot.via {m n : Nat} {s t u : State} (k : Foot m t u) (hm : m ||| n = n) (h : Foot n s t) : Foot n s u :=
  h.trans (k.mono hm)

/-! ### Record updates -/

/-- A bit of a mask is set. -/
theorem bit_of_or {i n : Nat} (h : 2 ^ i ||| n = n) : n.testBit i = true := by
  rw [← h, Nat.testBit_or, Nat.testBit_two_pow_self, Bool.true_or]

theorem Foot.free {n : Nat} {s t : State} {x : Nat} (hb : 2 ||| n = n) (h : Foot n s t) : Foot n s { t with free := x } :=
  h.trans ⟨by simp only [State.wipe, bit_of_or (i := 1) hb, cond_true], id⟩

theorem Foot.tb {n : Nat} {s t : State} {x : Tick} (hb : 4 ||| n = n) (h : Foot n s t) : Foot n s { t with tb := x } :=
  h.trans ⟨by simp only [State.wipe, bit_of_or (i := 2) hb, cond_true], id⟩

theorem Foot.regs {n : Nat} {s t : State} {x : Tbl Word} (hb : 8 ||| n = n) (h : Foot n s t) : Foot n s { t with regs := x } :=
  h.trans ⟨by simp only [State.wipe, bit_of_or (i := 3) hb, cond_true], id⟩

theorem Foot.staged {n : Nat} {s t : State} {x : Tbl Word} (hb : 16 ||| n = n) (h : Foot n s t) : Foot n s { t with staged := x } :=
  h.trans ⟨by simp only [State.wipe, bit_of_or (i := 4) hb, cond_true], id⟩

theorem Foot.time {n : Nat} {s t : State} {x : TimeBase} (hb : 32 ||| n = n) (h : Foot n s t) : Foot n s { t with time := x } :=
  h.trans ⟨by simp only [State.wipe, bit_of_or (i := 5) hb, cond_true], id⟩

theorem Foot.commit {n : Nat} {s t : State} {x : Commit} (hb : 64 ||| n = n) (h : Foot n s t) : Foot n s { t with commit := x } :=
  h.trans ⟨by simp only [State.wipe, bit_of_or (i := 6) hb, cond_true], id⟩

theorem Foot.bridge {n : Nat} {s t : State} {x : Bridge} (hb : 128 ||| n = n) (h : Foot n s t) : Foot n s { t with bridge := x } :=
  h.trans ⟨by simp only [State.wipe, bit_of_or (i := 7) hb, cond_true], id⟩

theorem Foot.sup {n : Nat} {s t : State} {x : Sup} (hb : 256 ||| n = n) (h : Foot n s t) : Foot n s { t with sup := x } :=
  h.trans ⟨by simp only [State.wipe, bit_of_or (i := 8) hb, cond_true], id⟩

theorem Foot.lat {n : Nat} {s t : State} {x : Lattice} (hb : 512 ||| n = n) (hx : x.mem = t.lat.mem) (h : Foot n s t) :
    Foot n s { t with lat := x } :=
  h.trans ⟨by simp only [State.wipe, bit_of_or (i := 9) hb, cond_true], by simp only [State.memoriesWf, hx]; exact id⟩

theorem Foot.lat_mem {n : Nat} {s t : State} {x : Lattice} (hb : 512 ||| n = n)
    (hx : Tbl.wf latFill t.lat.mem = true → Tbl.wf latFill x.mem = true) (h : Foot n s t) : Foot n s { t with lat := x } :=
  h.trans ⟨by simp only [State.wipe, bit_of_or (i := 9) hb, cond_true], by
    simp only [State.memoriesWf, Bool.and_eq_true]
    exact fun ⟨⟨a, b⟩, c⟩ => ⟨⟨hx a, b⟩, c⟩⟩

theorem Foot.irc {n : Nat} {s t : State} {x : Irc} (hb : 1024 ||| n = n) (h : Foot n s t) : Foot n s { t with irc := x } :=
  h.trans ⟨by simp only [State.wipe, bit_of_or (i := 10) hb, cond_true], id⟩

theorem Foot.fus {n : Nat} {s t : State} {x : Fuse} (hb : 2048 ||| n = n) (hx : x.flash = t.fus.flash) (h : Foot n s t) :
    Foot n s { t with fus := x } :=
  h.trans ⟨by simp only [State.wipe, bit_of_or (i := 11) hb, cond_true], by simp only [State.memoriesWf, hx]; exact id⟩

theorem Foot.fus_mem {n : Nat} {s t : State} {x : Fuse} (hb : 2048 ||| n = n)
    (hx : Tbl.wf 0xFFFF#16 t.fus.flash = true → Tbl.wf 0xFFFF#16 x.flash = true) (h : Foot n s t) : Foot n s { t with fus := x } :=
  h.trans ⟨by simp only [State.wipe, bit_of_or (i := 11) hb, cond_true], by
    simp only [State.memoriesWf, Bool.and_eq_true]
    exact fun ⟨⟨a, b⟩, c⟩ => ⟨⟨a, b⟩, hx c⟩⟩

theorem Foot.pwr {n : Nat} {s t : State} {x : Power} (hb : 4096 ||| n = n) (h : Foot n s t) : Foot n s { t with pwr := x } :=
  h.trans ⟨by simp only [State.wipe, bit_of_or (i := 12) hb, cond_true], id⟩

theorem Foot.wheel {n : Nat} {s t : State} {x : Wheel} (hb : 8192 ||| n = n) (h : Foot n s t) : Foot n s { t with wheel := x } :=
  h.trans ⟨by simp only [State.wipe, bit_of_or (i := 13) hb, cond_true], id⟩

theorem Foot.sync {n : Nat} {s t : State} {x : Sync} (hb : 16384 ||| n = n) (h : Foot n s t) : Foot n s { t with sync := x } :=
  h.trans ⟨by simp only [State.wipe, bit_of_or (i := 14) hb, cond_true], id⟩

theorem Foot.tan {n : Nat} {s t : State} {x : Tangent} (hb : 32768 ||| n = n) (h : Foot n s t) : Foot n s { t with tan := x } :=
  h.trans ⟨by simp only [State.wipe, bit_of_or (i := 15) hb, cond_true], id⟩

theorem Foot.evq {n : Nat} {s t : State} {x : Events} (hb : 65536 ||| n = n) (h : Foot n s t) : Foot n s { t with evq := x } :=
  h.trans ⟨by simp only [State.wipe, bit_of_or (i := 16) hb, cond_true], id⟩

theorem Foot.cmd {n : Nat} {s t : State} {x : Cmd} (hb : 131072 ||| n = n) (h : Foot n s t) : Foot n s { t with cmd := x } :=
  h.trans ⟨by simp only [State.wipe, bit_of_or (i := 17) hb, cond_true], id⟩

theorem Foot.arcs {n : Nat} {s t : State} {x : Arcs} (hb : 262144 ||| n = n) (h : Foot n s t) : Foot n s { t with arcs := x } :=
  h.trans ⟨by simp only [State.wipe, bit_of_or (i := 18) hb, cond_true], id⟩

theorem Foot.cmb {n : Nat} {s t : State} {x : Cmb} (hb : 524288 ||| n = n) (h : Foot n s t) : Foot n s { t with cmb := x } :=
  h.trans ⟨by simp only [State.wipe, bit_of_or (i := 19) hb, cond_true], id⟩

theorem Foot.fbk {n : Nat} {s t : State} {x : Feedback} (hb : 1048576 ||| n = n) (h : Foot n s t) : Foot n s { t with fbk := x } :=
  h.trans ⟨by simp only [State.wipe, bit_of_or (i := 20) hb, cond_true], id⟩

theorem Foot.drv {n : Nat} {s t : State} {x : Drive} (hb : 2097152 ||| n = n) (h : Foot n s t) : Foot n s { t with drv := x } :=
  h.trans ⟨by simp only [State.wipe, bit_of_or (i := 21) hb, cond_true], id⟩

theorem Foot.lan {n : Nat} {s t : State} {x : Lanes} (hb : 4194304 ||| n = n) (hx : x.mem = t.lan.mem) (h : Foot n s t) :
    Foot n s { t with lan := x } :=
  h.trans ⟨by simp only [State.wipe, bit_of_or (i := 22) hb, cond_true], by simp only [State.memoriesWf, hx]; exact id⟩

theorem Foot.lan_mem {n : Nat} {s t : State} {x : Lanes} (hb : 4194304 ||| n = n)
    (hx : Tbl.wf 0xFFFF#16 t.lan.mem = true → Tbl.wf 0xFFFF#16 x.mem = true) (h : Foot n s t) : Foot n s { t with lan := x } :=
  h.trans ⟨by simp only [State.wipe, bit_of_or (i := 22) hb, cond_true], by
    simp only [State.memoriesWf, Bool.and_eq_true]
    exact fun ⟨⟨a, b⟩, c⟩ => ⟨⟨a, hx b⟩, c⟩⟩

theorem Foot.dma {n : Nat} {s t : State} {x : Dma} (hb : 8388608 ||| n = n) (h : Foot n s t) : Foot n s { t with dma := x } :=
  h.trans ⟨by simp only [State.wipe, bit_of_or (i := 23) hb, cond_true], id⟩

theorem Foot.twn {n : Nat} {s t : State} {x : Twin} (hb : 16777216 ||| n = n) (h : Foot n s t) : Foot n s { t with twn := x } :=
  h.trans ⟨by simp only [State.wipe, bit_of_or (i := 24) hb, cond_true], id⟩

theorem Foot.elx {n : Nat} {s t : State} {x : Elrex} (hb : 33554432 ||| n = n) (h : Foot n s t) : Foot n s { t with elx := x } :=
  h.trans ⟨by simp only [State.wipe, bit_of_or (i := 25) hb, cond_true], id⟩

theorem Foot.tap {n : Nat} {s t : State} {x : Tap} (hb : 67108864 ||| n = n) (h : Foot n s t) : Foot n s { t with tap := x } :=
  h.trans ⟨by simp only [State.wipe, bit_of_or (i := 26) hb, cond_true], id⟩

theorem Foot.hits {n : Nat} {s t : State} {x : List (Nat × Nat)} (hb : 134217728 ||| n = n) (h : Foot n s t) : Foot n s { t with hits := x } :=
  h.trans ⟨by simp only [State.wipe, bit_of_or (i := 27) hb, cond_true], id⟩

theorem Foot.agenda {n : Nat} {s t : State} {x : List (Tick × Work)} (hb : 268435456 ||| n = n) (h : Foot n s t) : Foot n s { t with agenda := x } :=
  h.trans ⟨by simp only [State.wipe, bit_of_or (i := 28) hb, cond_true], id⟩

theorem Foot.image {n : Nat} {s t : State} {x : Option StateImage} (hb : 536870912 ||| n = n) (h : Foot n s t) : Foot n s { t with image := x } :=
  h.trans ⟨by simp only [State.wipe, bit_of_or (i := 29) hb, cond_true], id⟩

theorem cond_same {α : Type} {b : Bool} {d x y : α} (h : x = y ∨ b = true) : (bif b then d else x) = bif b then d else y := by
  cases h with
  | inl h => rw [h]
  | inr h => rw [h, cond_true, cond_true]

/-- Several parts are replaced at once. -/
theorem Foot.many {n : Nat} {s t : State} {f0 : List Instr} {f1 : Nat} {f2 : Tick} {f3 : Tbl Word} {f4 : Tbl Word} {f5 : TimeBase} {f6 : Commit} {f7 : Bridge} {f8 : Sup} {f9 : Lattice} {f10 : Irc} {f11 : Fuse} {f12 : Power} {f13 : Wheel} {f14 : Sync} {f15 : Tangent} {f16 : Events} {f17 : Cmd} {f18 : Arcs} {f19 : Cmb} {f20 : Feedback} {f21 : Drive} {f22 : Lanes} {f23 : Dma} {f24 : Twin} {f25 : Elrex} {f26 : Tap} {f27 : List (Nat × Nat)} {f28 : List (Tick × Work)} {f29 : Option StateImage}
    (h0 : f0 = t.pending)
    (h1 : f1 = t.free ∨ 2 ||| n = n := by first | exact .inl (by with_reducible rfl) | exact .inr (by decide))
    (h2 : f2 = t.tb ∨ 4 ||| n = n := by first | exact .inl (by with_reducible rfl) | exact .inr (by decide))
    (h3 : f3 = t.regs ∨ 8 ||| n = n := by first | exact .inl (by with_reducible rfl) | exact .inr (by decide))
    (h4 : f4 = t.staged ∨ 16 ||| n = n := by first | exact .inl (by with_reducible rfl) | exact .inr (by decide))
    (h5 : f5 = t.time ∨ 32 ||| n = n := by first | exact .inl (by with_reducible rfl) | exact .inr (by decide))
    (h6 : f6 = t.commit ∨ 64 ||| n = n := by first | exact .inl (by with_reducible rfl) | exact .inr (by decide))
    (h7 : f7 = t.bridge ∨ 128 ||| n = n := by first | exact .inl (by with_reducible rfl) | exact .inr (by decide))
    (h8 : f8 = t.sup ∨ 256 ||| n = n := by first | exact .inl (by with_reducible rfl) | exact .inr (by decide))
    (h9 : f9 = t.lat ∨ 512 ||| n = n := by first | exact .inl (by with_reducible rfl) | exact .inr (by decide))
    (h10 : f10 = t.irc ∨ 1024 ||| n = n := by first | exact .inl (by with_reducible rfl) | exact .inr (by decide))
    (h11 : f11 = t.fus ∨ 2048 ||| n = n := by first | exact .inl (by with_reducible rfl) | exact .inr (by decide))
    (h12 : f12 = t.pwr ∨ 4096 ||| n = n := by first | exact .inl (by with_reducible rfl) | exact .inr (by decide))
    (h13 : f13 = t.wheel ∨ 8192 ||| n = n := by first | exact .inl (by with_reducible rfl) | exact .inr (by decide))
    (h14 : f14 = t.sync ∨ 16384 ||| n = n := by first | exact .inl (by with_reducible rfl) | exact .inr (by decide))
    (h15 : f15 = t.tan ∨ 32768 ||| n = n := by first | exact .inl (by with_reducible rfl) | exact .inr (by decide))
    (h16 : f16 = t.evq ∨ 65536 ||| n = n := by first | exact .inl (by with_reducible rfl) | exact .inr (by decide))
    (h17 : f17 = t.cmd ∨ 131072 ||| n = n := by first | exact .inl (by with_reducible rfl) | exact .inr (by decide))
    (h18 : f18 = t.arcs ∨ 262144 ||| n = n := by first | exact .inl (by with_reducible rfl) | exact .inr (by decide))
    (h19 : f19 = t.cmb ∨ 524288 ||| n = n := by first | exact .inl (by with_reducible rfl) | exact .inr (by decide))
    (h20 : f20 = t.fbk ∨ 1048576 ||| n = n := by first | exact .inl (by with_reducible rfl) | exact .inr (by decide))
    (h21 : f21 = t.drv ∨ 2097152 ||| n = n := by first | exact .inl (by with_reducible rfl) | exact .inr (by decide))
    (h22 : f22 = t.lan ∨ 4194304 ||| n = n := by first | exact .inl (by with_reducible rfl) | exact .inr (by decide))
    (h23 : f23 = t.dma ∨ 8388608 ||| n = n := by first | exact .inl (by with_reducible rfl) | exact .inr (by decide))
    (h24 : f24 = t.twn ∨ 16777216 ||| n = n := by first | exact .inl (by with_reducible rfl) | exact .inr (by decide))
    (h25 : f25 = t.elx ∨ 33554432 ||| n = n := by first | exact .inl (by with_reducible rfl) | exact .inr (by decide))
    (h26 : f26 = t.tap ∨ 67108864 ||| n = n := by first | exact .inl (by with_reducible rfl) | exact .inr (by decide))
    (h27 : f27 = t.hits ∨ 134217728 ||| n = n := by first | exact .inl (by with_reducible rfl) | exact .inr (by decide))
    (h28 : f28 = t.agenda ∨ 268435456 ||| n = n := by first | exact .inl (by with_reducible rfl) | exact .inr (by decide))
    (h29 : f29 = t.image ∨ 536870912 ||| n = n := by first | exact .inl (by with_reducible rfl) | exact .inr (by decide))
    (hm : (Tbl.wf latFill t.lat.mem = true → Tbl.wf latFill f9.mem = true) ∧ (Tbl.wf 0xFFFF#16 t.lan.mem = true → Tbl.wf 0xFFFF#16 f22.mem = true) ∧
      (Tbl.wf 0xFFFF#16 t.fus.flash = true → Tbl.wf 0xFFFF#16 f11.flash = true) := by exact ⟨id, id, id⟩)
    (h : Foot n s t) : Foot n s ⟨f0, f1, f2, f3, f4, f5, f6, f7, f8, f9, f10, f11, f12, f13, f14, f15, f16, f17, f18, f19, f20, f21, f22, f23, f24, f25, f26, f27, f28, f29⟩ := by
  refine h.trans ⟨?_, ?_⟩
  · simp only [State.wipe, State.mk.injEq]
    exact ⟨cond_same (.inl h0), cond_same (h1.imp_right (bit_of_or (i := 1))), cond_same (h2.imp_right (bit_of_or (i := 2))), cond_same (h3.imp_right (bit_of_or (i := 3))), cond_same (h4.imp_right (bit_of_or (i := 4))), cond_same (h5.imp_right (bit_of_or (i := 5))), cond_same (h6.imp_right (bit_of_or (i := 6))), cond_same (h7.imp_right (bit_of_or (i := 7))), cond_same (h8.imp_right (bit_of_or (i := 8))), cond_same (h9.imp_right (bit_of_or (i := 9))), cond_same (h10.imp_right (bit_of_or (i := 10))), cond_same (h11.imp_right (bit_of_or (i := 11))), cond_same (h12.imp_right (bit_of_or (i := 12))), cond_same (h13.imp_right (bit_of_or (i := 13))), cond_same (h14.imp_right (bit_of_or (i := 14))), cond_same (h15.imp_right (bit_of_or (i := 15))), cond_same (h16.imp_right (bit_of_or (i := 16))), cond_same (h17.imp_right (bit_of_or (i := 17))), cond_same (h18.imp_right (bit_of_or (i := 18))), cond_same (h19.imp_right (bit_of_or (i := 19))), cond_same (h20.imp_right (bit_of_or (i := 20))), cond_same (h21.imp_right (bit_of_or (i := 21))), cond_same (h22.imp_right (bit_of_or (i := 22))), cond_same (h23.imp_right (bit_of_or (i := 23))), cond_same (h24.imp_right (bit_of_or (i := 24))), cond_same (h25.imp_right (bit_of_or (i := 25))), cond_same (h26.imp_right (bit_of_or (i := 26))), cond_same (h27.imp_right (bit_of_or (i := 27))), cond_same (h28.imp_right (bit_of_or (i := 28))), cond_same (h29.imp_right (bit_of_or (i := 29)))⟩
  · simp only [State.memoriesWf, Bool.and_eq_true]
    exact fun ⟨⟨a, b⟩, c⟩ => ⟨⟨hm.1 a, hm.2.1 b⟩, hm.2.2 c⟩

/-! ### Choices and loops -/

theorem Foot.ite {n : Nat} {s t u : State} {c : Prop} [Decidable c] (h : Foot n s t) (k : Foot n s u) :
    Foot n s (if c then t else u) := by split <;> assumption

theorem Foot.cond {n : Nat} {s t u : State} {c : Bool} (h : Foot n s t) (k : Foot n s u) :
    Foot n s (bif c then t else u) := by cases c <;> assumption

theorem Foot.forUpTo {m : Nat} {f : Nat → State → State} {i n : Nat} {s t : State} (h : Foot m s t)
    (k : ∀ j u, Foot m u (f j u)) : Foot m s (forUpTo f i n t) := by
  induction n generalizing i t with
  | zero => exact h
  | succ n ih => exact ih (h.trans (k i t))

theorem Foot.foldl {α : Type} {m : Nat} {f : State → α → State} {l : List α} {s t : State} (h : Foot m s t)
    (k : ∀ u a, Foot m u (f u a)) : Foot m s (l.foldl f t) := by
  induction l generalizing t with
  | nil => exact h
  | cons a l ih => exact ih (h.trans (k t a))

theorem Foot.after {m : Nat} {o : Host.Outcome State Fault Refusal} {s t : State} (h : Foot m s t)
    (k : ∀ u, o = .next u → Foot m t u) : Foot m s (after o t) := by
  cases o with
  | next u => exact h.trans (k u rfl)
  | fault r => exact h
  | refused r => exact h

theorem Foot.then_ {m : Nat} {s t u : State} (k : Foot m t u) (h : Foot m s t) : Foot m s u := h.trans k

theorem Foot.getD {m : Nat} {o : Option State} {s t : State} (h : Foot m s t) (k : ∀ u, o = some u → Foot m t u) :
    Foot m s (o.getD t) := by
  cases o with
  | none => exact h
  | some u => exact h.trans (k u rfl)

theorem or_sub {a b m : Nat} (h : a ||| b = b) (k : b ||| m = m) : a ||| m = m := by
  rw [← k, ← Nat.or_assoc, h]

/-- What happens in another tick leaves the Time Base as it stands. -/
theorem Foot.inTick {m : Nat} {s u : State} {t : Tick} {f : State → State} (h : Foot m s u)
    (k : ∀ v, Foot (m ||| 4) v (f v)) : Foot m s (u.inTick t f) := by
  refine h.trans ⟨?_, fun x => (k { u with tb := t }).2 x⟩
  have e := (k { u with tb := t }).1
  have q : ∀ i, i ≠ 2 → Nat.testBit 4 i = false := fun i hi => by
    rw [show (4 : Nat) = 2 ^ 2 from rfl, Nat.testBit_two_pow]
    exact decide_eq_false (Ne.symm hi)
  simp only [State.wipe, State.mk.injEq, Nat.testBit_or, q 0 (by decide), q 1 (by decide), q 3 (by decide), q 4 (by decide), q 5 (by decide), q 6 (by decide), q 7 (by decide), q 8 (by decide), q 9 (by decide), q 10 (by decide), q 11 (by decide), q 12 (by decide), q 13 (by decide), q 14 (by decide), q 15 (by decide), q 16 (by decide), q 17 (by decide), q 18 (by decide), q 19 (by decide), q 20 (by decide), q 21 (by decide), q 22 (by decide), q 23 (by decide), q 24 (by decide), q 25 (by decide), q 26 (by decide), q 27 (by decide), q 28 (by decide), q 29 (by decide), Bool.or_false] at e
  obtain ⟨e0, e1, e2, e3, e4, e5, e6, e7, e8, e9, e10, e11, e12, e13, e14, e15, e16, e17, e18, e19, e20, e21, e22, e23, e24, e25, e26, e27, e28, e29⟩ := e
  simp only [State.wipe, State.inTick, State.mk.injEq]
  exact ⟨e0, e1, trivial, e3, e4, e5, e6, e7, e8, e9, e10, e11, e12, e13, e14, e15, e16, e17, e18, e19, e20, e21, e22, e23, e24, e25, e26, e27, e28, e29⟩

theorem Foot.ofEq {m : Nat} {s t u : State} (e : u = t) (h : Foot m s t) : Foot m s u := e ▸ h

end Sys2Proof.Machine
end

