-- ==== Sys2Proof/Laws/Tables.lean ====
section
/-! SUPPORT. The laws of the sparse tables: the canonical form is kept, a stored value is read back, and other keys read as before. -/

namespace Sys2Proof

variable {α : Type}

/-- The canonical form said with the library's predicates. -/
theorem Tbl.wf_iff [DecidableEq α] (d : α) (t : Tbl α) :
    Tbl.wf d t = true ↔ t.Pairwise (fun a b => a.1 < b.1) ∧ ∀ p ∈ t, p.2 ≠ d := by
  induction t with
  | nil => simp [Tbl.wf]
  | cons a t ih =>
    obtain ⟨j, v⟩ := a
    cases t with
    | nil => simp [Tbl.wf]
    | cons b t =>
      obtain ⟨k, w⟩ := b
      simp only [Tbl.wf, Bool.and_eq_true, decide_eq_true_eq, ih, List.pairwise_cons, List.mem_cons, forall_eq_or_imp]
      constructor
      · rintro ⟨⟨h1, h2⟩, ⟨h3, h4⟩, h5, h6⟩
        exact ⟨⟨⟨h1, fun p hp => Nat.lt_trans h1 (h3 p hp)⟩, h3, h4⟩, h2, h5, h6⟩
      · rintro ⟨⟨⟨h1, _⟩, h3, h4⟩, h2, h5, h6⟩
        exact ⟨⟨h1, h2⟩, ⟨h3, h4⟩, h5, h6⟩

theorem Tbl.wf_nil [DecidableEq α] (d : α) : Tbl.wf d ([] : Tbl α) = true := rfl

theorem Tbl.wf_sublist [DecidableEq α] {d : α} {t u : Tbl α} (h : Tbl.wf d t = true) (hs : u.Sublist t) :
    Tbl.wf d u = true := by
  rw [Tbl.wf_iff] at h ⊢
  exact ⟨h.1.sublist hs, fun p hp => h.2 p (hs.subset hp)⟩

theorem Tbl.wf_filter [DecidableEq α] {d : α} {t : Tbl α} {p : Nat × α → Bool} (h : Tbl.wf d t = true) :
    Tbl.wf d (t.filter p) = true := Tbl.wf_sublist h List.filter_sublist

theorem Tbl.erase_sublist (k : Nat) (t : Tbl α) : (Tbl.erase k t).Sublist t := by
  induction t with
  | nil => exact List.Sublist.refl _
  | cons a t ih =>
    obtain ⟨j, v⟩ := a
    unfold Tbl.erase
    split
    · exact ih.cons _
    · exact ih.cons_cons _

theorem Tbl.mem_insert {k : Nat} {v : α} {t : Tbl α} {p : Nat × α} (h : p ∈ Tbl.insert k v t) : p = (k, v) ∨ p ∈ t := by
  induction t with
  | nil => simpa [Tbl.insert] using h
  | cons a t ih =>
    obtain ⟨j, w⟩ := a
    unfold Tbl.insert at h
    split at h
    · rcases List.mem_cons.1 h with h | h
      · exact .inl h
      · exact .inr (List.mem_cons_of_mem _ h)
    · split at h
      · rcases List.mem_cons.1 h with h | h
        · exact .inl h
        · exact .inr h
      · rcases List.mem_cons.1 h with h | h
        · exact .inr (h ▸ List.mem_cons_self)
        · exact (ih h).imp_right (List.mem_cons_of_mem _)

theorem Tbl.pairwise_insert {k : Nat} {v : α} {t : Tbl α} (h : t.Pairwise (fun a b => a.1 < b.1)) :
    (Tbl.insert k v t).Pairwise (fun a b => a.1 < b.1) := by
  induction t with
  | nil => simp [Tbl.insert]
  | cons a t ih =>
    obtain ⟨j, w⟩ := a
    rw [List.pairwise_cons] at h
    unfold Tbl.insert
    split
    · rename_i e
      exact List.pairwise_cons.2 ⟨fun p hp => e ▸ h.1 p hp, h.2⟩
    · split
      · rename_i hlt
        refine List.pairwise_cons.2 ⟨fun p hp => ?_, List.pairwise_cons.2 h⟩
        rcases List.mem_cons.1 hp with rfl | hp
        · exact hlt
        · exact Nat.lt_trans hlt (h.1 p hp)
      · rename_i hne hlt
        refine List.pairwise_cons.2 ⟨fun p hp => ?_, ih h.2⟩
        rcases Tbl.mem_insert hp with rfl | hp
        · show j < k
          omega
        · exact h.1 p hp

theorem Tbl.wf_put [DecidableEq α] {d : α} {k : Nat} {v : α} {t : Tbl α} (h : Tbl.wf d t = true) :
    Tbl.wf d (Tbl.put d k v t) = true := by
  unfold Tbl.put
  split
  · exact Tbl.wf_sublist h (Tbl.erase_sublist k t)
  · rename_i hv
    rw [Tbl.wf_iff] at h ⊢
    refine ⟨Tbl.pairwise_insert h.1, fun p hp => ?_⟩
    rcases Tbl.mem_insert hp with rfl | hp
    · exact hv
    · exact h.2 p hp

@[simp] theorem Tbl.get_insert_same (d : α) (k : Nat) (v : α) (t : Tbl α) : Tbl.get d k (Tbl.insert k v t) = v := by
  induction t with
  | nil => simp [Tbl.insert, Tbl.get]
  | cons a t ih =>
    obtain ⟨j, w⟩ := a
    unfold Tbl.insert
    split
    · simp [Tbl.get]
    · split
      · simp [Tbl.get]
      · rename_i h1 h2
        simp [Tbl.get, h1, ih]

@[simp] theorem Tbl.get_insert_other (d : α) {k i : Nat} (h : i ≠ k) (v : α) (t : Tbl α) :
    Tbl.get d i (Tbl.insert k v t) = Tbl.get d i t := by
  induction t with
  | nil => simp only [Tbl.insert, Tbl.get, if_neg (Ne.symm h)]
  | cons a t ih =>
    obtain ⟨j, w⟩ := a
    unfold Tbl.insert
    split
    · rename_i e
      subst e
      simp only [Tbl.get, if_neg (Ne.symm h)]
    · split
      · simp only [Tbl.get, if_neg (Ne.symm h)]
      · simp only [Tbl.get, ih]

@[simp] theorem Tbl.get_erase_same (d : α) (k : Nat) (t : Tbl α) : Tbl.get d k (Tbl.erase k t) = d := by
  induction t with
  | nil => rfl
  | cons a t ih =>
    obtain ⟨j, w⟩ := a
    unfold Tbl.erase
    split
    · exact ih
    · rename_i h
      simp only [Tbl.get, if_neg h, ih]

@[simp] theorem Tbl.get_erase_other (d : α) {k i : Nat} (h : i ≠ k) (t : Tbl α) : Tbl.get d i (Tbl.erase k t) = Tbl.get d i t := by
  induction t with
  | nil => rfl
  | cons a t ih =>
    obtain ⟨j, w⟩ := a
    unfold Tbl.erase
    split
    · rename_i e
      subst e
      simp only [Tbl.get, if_neg (Ne.symm h), ih]
    · simp only [Tbl.get, ih]

/-- What was stored at a key is read there. -/
@[simp] theorem Tbl.get_put_same [DecidableEq α] (d : α) (k : Nat) (v : α) (t : Tbl α) :
    Tbl.get d k (Tbl.put d k v t) = v := by
  unfold Tbl.put
  split
  · rename_i e
    rw [e, Tbl.get_erase_same]
  · rw [Tbl.get_insert_same]

/-- A store leaves every other key as it was. -/
@[simp] theorem Tbl.get_put_other [DecidableEq α] (d : α) {k i : Nat} (h : i ≠ k) (v : α) (t : Tbl α) :
    Tbl.get d i (Tbl.put d k v t) = Tbl.get d i t := by
  unfold Tbl.put
  split
  · exact Tbl.get_erase_other d h t
  · exact Tbl.get_insert_other d h v t

@[simp] theorem Tbl.find?_insert_same (k : Nat) (v : α) (t : Tbl α) : Tbl.find? k (Tbl.insert k v t) = some v := by
  induction t with
  | nil => simp [Tbl.insert, Tbl.find?]
  | cons a t ih =>
    obtain ⟨j, w⟩ := a
    unfold Tbl.insert
    split
    · simp [Tbl.find?]
    · split
      · simp [Tbl.find?]
      · rename_i h1 h2
        simp only [Tbl.find?, if_neg h1, ih]

@[simp] theorem Tbl.find?_insert_other {k i : Nat} (h : i ≠ k) (v : α) (t : Tbl α) :
    Tbl.find? i (Tbl.insert k v t) = Tbl.find? i t := by
  induction t with
  | nil => simp only [Tbl.insert, Tbl.find?, if_neg (Ne.symm h)]
  | cons a t ih =>
    obtain ⟨j, w⟩ := a
    unfold Tbl.insert
    split
    · rename_i e
      subst e
      simp only [Tbl.find?, if_neg (Ne.symm h)]
    · split
      · simp only [Tbl.find?, if_neg (Ne.symm h)]
      · simp only [Tbl.find?, ih]

/-- The second of two values listed at one key stays. -/
@[simp] theorem Tbl.insert_insert (k : Nat) (v w : α) (t : Tbl α) : Tbl.insert k w (Tbl.insert k v t) = Tbl.insert k w t := by
  induction t with
  | nil => simp [Tbl.insert]
  | cons a t ih =>
    obtain ⟨j, x⟩ := a
    by_cases h : j = k
    · simp [Tbl.insert, h]
    · by_cases h2 : k < j
      · simp [Tbl.insert, h, h2]
      · simp [Tbl.insert, h, h2, ih]

end Sys2Proof
end

