-- ==== Sys2Proof/Laws/FootOps.lean ====
section
/-! SUPPORT. Footprints of the operations of Machine/Ops.lean. -/

namespace Sys2Proof.Machine

theorem State.setSource_foot {s x1 x2} : Foot 1024 s (State.setSource s x1 x2) := by
  unfold State.setSource
  try dsimp only
  repeat' first
    | with_reducible apply Foot.refl
    | with_reducible_and_instances rfl
    | with_reducible apply Foot.irc

theorem State.setTarget_foot {s x1 x2} : Foot 1024 s (State.setTarget s x1 x2) := by
  unfold State.setTarget
  try dsimp only
  repeat' first
    | with_reducible apply Foot.refl
    | with_reducible_and_instances rfl
    | with_reducible apply Foot.irc

theorem State.arrive_foot {s x1} : Foot 1024 s (State.arrive s x1) := by
  unfold State.arrive
  try dsimp only
  repeat' first
    | with_reducible apply Foot.refl
    | with_reducible_and_instances rfl
    | with_reducible apply Foot.irc

theorem State.hit_foot {s x1 x2 x3} : Foot 134217728 s (State.hit s x1 x2 x3) := by
  unfold State.hit
  try dsimp only
  repeat' first
    | with_reducible apply Foot.refl
    | with_reducible_and_instances rfl
    | with_reducible apply Foot.hits

theorem State.report_foot {s x1 x2} : Foot 16778240 s (State.report s x1 x2) := by
  unfold State.report
  try dsimp only
  repeat' first
    | with_reducible apply Foot.refl
    | with_reducible_and_instances rfl
    | with_reducible apply Foot.ite
    | split
    | with_reducible apply Foot.irc
    | with_reducible apply Foot.twn
    | with_reducible refine Foot.many rfl (h := ?_)

theorem State.twnSend_foot {s x1 x2} : Foot 16777216 s (State.twnSend s x1 x2) := by
  unfold State.twnSend
  try dsimp only
  repeat' first
    | with_reducible apply Foot.refl
    | with_reducible_and_instances rfl
    | with_reducible apply Foot.twn

theorem State.deltaFrame_foot {s x1 x2} : Foot 16777216 s (State.deltaFrame s x1 x2) := by
  unfold State.deltaFrame
  try dsimp only
  repeat' first
    | with_reducible apply Foot.refl
    | with_reducible_and_instances rfl
    | with_reducible apply Foot.via State.twnSend_foot
    | with_reducible apply Foot.ite
    | split

theorem State.latWrite_foot {s x1 x2} : Foot 16777728 s (State.latWrite s x1 x2) := by
  unfold State.latWrite
  try dsimp only
  repeat' first
    | exact fun hx => Tbl.wf_put hx
    | exact fun hx => Tbl.wf_filter hx
    | exact fun _ => rfl
    | with_reducible apply Foot.refl
    | with_reducible_and_instances rfl
    | with_reducible apply Foot.via State.deltaFrame_foot
    | with_reducible apply Foot.ite
    | split
    | with_reducible apply Foot.lat_mem

theorem State.latPut_foot {s x1 x2} : Foot 16777728 s (State.latPut s x1 x2) := by
  unfold State.latPut
  try dsimp only
  repeat' first
    | with_reducible apply Foot.refl
    | with_reducible_and_instances rfl
    | with_reducible apply Foot.via State.latWrite_foot

theorem State.latPuts_foot {s x1 x2} : Foot 16777728 s (State.latPuts s x1 x2) := by
  induction x2 generalizing s x1 with
  | nil => simp only [State.latPuts]; exact Foot.refl
  | cons v vs ih =>
    rw [State.latPuts]
    try dsimp only
    repeat' first
      | with_reducible apply Foot.refl
      | with_reducible assumption
      | with_reducible_and_instances rfl
      | with_reducible apply Foot.then_ ih
      | with_reducible apply Foot.via State.latPut_foot

theorem State.reportIn_foot {s x1 x2 x3 x4} : Foot 16778240 s (State.reportIn s x1 x2 x3 x4) := by
  unfold State.reportIn
  try dsimp only
  repeat' first
    | with_reducible apply Foot.refl
    | with_reducible_and_instances rfl
    | with_reducible apply Foot.via State.report_foot
    | with_reducible apply Foot.ite
    | split
    | with_reducible apply Foot.irc

theorem State.reportCycle_foot {s x1 x2 x3} : Foot 16778240 s (State.reportCycle s x1 x2 x3) := by
  unfold State.reportCycle
  try dsimp only
  repeat' first
    | with_reducible apply Foot.refl
    | with_reducible_and_instances rfl
    | with_reducible apply Foot.via State.reportIn_foot

theorem State.later_foot {s x1 x2} : Foot 268435456 s (State.later s x1 x2) := by
  unfold State.later
  try dsimp only
  repeat' first
    | with_reducible apply Foot.refl
    | with_reducible_and_instances rfl
    | with_reducible apply Foot.agenda

theorem State.newPeriod_foot {s} : Foot 1024 s (State.newPeriod s) := by
  unfold State.newPeriod
  try dsimp only
  repeat' first
    | with_reducible apply Foot.refl
    | with_reducible_and_instances rfl
    | with_reducible apply Foot.irc

theorem State.setCfg_foot {s x1 x2 x3} : Foot 8 s (State.setCfg s x1 x2 x3) := by
  unfold State.setCfg
  try dsimp only
  repeat' first
    | with_reducible apply Foot.refl
    | with_reducible_and_instances rfl
    | with_reducible apply Foot.regs

theorem State.setFlag_foot {s x1 x2 x3 x4} : Foot 8 s (State.setFlag s x1 x2 x3 x4) := by
  unfold State.setFlag
  try dsimp only
  repeat' first
    | with_reducible apply Foot.refl
    | with_reducible_and_instances rfl
    | with_reducible apply Foot.via State.setCfg_foot

theorem State.mapRow_foot {s x1 x2} : Foot 16778752 s (State.mapRow s x1 x2) := by
  unfold State.mapRow
  try dsimp only
  repeat' first
    | with_reducible apply Foot.refl
    | with_reducible_and_instances rfl
    | with_reducible apply Foot.via State.report_foot
    | with_reducible apply Foot.ite
    | split
    | with_reducible apply Foot.lat
    | dsimp only

theorem State.latTouch_foot {s x1} : Foot 150996480 s (State.latTouch s x1) := by
  unfold State.latTouch
  try dsimp only
  repeat' first
    | with_reducible apply Foot.refl
    | with_reducible_and_instances rfl
    | with_reducible apply Foot.via State.hit_foot
    | with_reducible apply Foot.via State.mapRow_foot
    | with_reducible apply Foot.via State.report_foot
    | with_reducible apply Foot.ite
    | split
    | with_reducible apply Foot.lat

theorem State.reportBlock_foot {s x1 x2 x3} : Foot 16778240 s (State.reportBlock s x1 x2 x3) := by
  unfold State.reportBlock
  try dsimp only
  repeat' first
    | with_reducible apply Foot.refl
    | with_reducible_and_instances rfl
    | with_reducible apply Foot.via State.reportIn_foot

theorem State.setInc_foot {s x1 x2} : Foot 1048576 s (State.setInc s x1 x2) := by
  unfold State.setInc
  try dsimp only
  repeat' first
    | with_reducible apply Foot.refl
    | with_reducible_and_instances rfl
    | with_reducible apply Foot.ite
    | split
    | with_reducible apply Foot.fbk

theorem State.setReplica_foot {s x1 x2} : Foot 32 s (State.setReplica s x1 x2) := by
  unfold State.setReplica
  try dsimp only
  repeat' first
    | with_reducible apply Foot.refl
    | with_reducible_and_instances rfl
    | with_reducible apply Foot.time

theorem State.sendLaunch_foot {s x1 x2} : Foot 32 s (State.sendLaunch s x1 x2) := by
  unfold State.sendLaunch
  try dsimp only
  repeat' first
    | with_reducible apply Foot.refl
    | with_reducible_and_instances rfl
    | with_reducible apply Foot.via State.setReplica_foot
    | with_reducible apply Foot.ite
    | split

theorem State.freeVal_foot {s} : Foot 2 s (State.freeVal s).2 := by
  unfold State.freeVal
  try dsimp only
  repeat' first
    | with_reducible apply Foot.refl
    | with_reducible_and_instances rfl
    | with_reducible apply Foot.free
    | dsimp only

theorem State.freeVal_foot' {s t c0} (h : State.freeVal s = (c0, t)) : Foot 2 s t := by
  have k : Foot 2 s (State.freeVal s).2 := State.freeVal_foot
  rwa [h] at k

theorem State.latTouchN_foot {s x1 x2} : Foot 150996480 s (State.latTouchN s x1 x2) := by
  induction x2 generalizing s x1 with
  | zero => simp only [State.latTouchN]; exact Foot.refl
  | succ n ih =>
    rw [State.latTouchN]
    try dsimp only
    repeat' first
      | with_reducible apply Foot.refl
      | with_reducible assumption
      | with_reducible_and_instances rfl
      | with_reducible apply Foot.then_ ih
      | with_reducible apply Foot.via State.latTouch_foot

theorem State.twnShow_foot {s x1 x2} : Foot 16777216 s (State.twnShow s x1 x2) := by
  unfold State.twnShow
  try dsimp only
  repeat' first
    | with_reducible apply Foot.refl
    | with_reducible_and_instances rfl
    | with_reducible apply Foot.twn

theorem State.stale_foot {s x1 x2} : Foot 16778272 s (State.stale s x1 x2) := by
  unfold State.stale
  try dsimp only
  repeat' first
    | with_reducible apply Foot.refl
    | with_reducible_and_instances rfl
    | with_reducible apply Foot.via State.report_foot
    | with_reducible apply Foot.time

end Sys2Proof.Machine
end

