-- ==== Sys2Proof/Laws/FootStage.lean ====
section
/-! SUPPORT. Footprints of the operations of Machine/Stage.lean. -/

namespace Sys2Proof.Machine

theorem State.logWrite_foot {s x1 x2} : Foot 16777728 s (State.logWrite s x1 x2) := by
  unfold State.logWrite
  try dsimp only
  repeat' first
    | with_reducible apply Foot.refl
    | with_reducible_and_instances rfl
    | with_reducible apply Foot.via State.latPut_foot
    | with_reducible apply Foot.via State.latPuts_foot
    | with_reducible apply Foot.ite
    | split

theorem State.logAll_foot {s x1} : Foot 16777728 s (State.logAll s x1) := by
  induction x1 generalizing s  with
  | nil => simp only [State.logAll]; exact Foot.refl
  | cons v vs ih =>
    rw [State.logAll]
    try dsimp only
    repeat' first
      | with_reducible apply Foot.refl
      | with_reducible assumption
      | with_reducible_and_instances rfl
      | with_reducible apply Foot.then_ ih
      | with_reducible apply Foot.via State.logWrite_foot

theorem State.logRestart_foot {s} : Foot 16777728 s (State.logRestart s) := by
  unfold State.logRestart
  try dsimp only
  repeat' first
    | with_reducible apply Foot.refl
    | with_reducible_and_instances rfl
    | with_reducible apply Foot.via State.latPuts_foot
    | with_reducible apply Foot.via State.logAll_foot

theorem State.stage_foot {s x1 x2 x3} : Foot 16777744 s (State.stage s x1 x2 x3) := by
  unfold State.stage
  try dsimp only
  repeat' first
    | with_reducible apply Foot.refl
    | with_reducible_and_instances rfl
    | with_reducible apply Foot.via State.logWrite_foot
    | with_reducible apply Foot.staged

theorem State.logClose_foot {s} : Foot 16777728 s (State.logClose s) := by
  unfold State.logClose
  try dsimp only
  repeat' first
    | with_reducible apply Foot.refl
    | with_reducible_and_instances rfl
    | with_reducible apply Foot.via State.latPut_foot

end Sys2Proof.Machine
end

