-- ==== Sys2Proof/Laws/FootReply.lean ====
section
/-! SUPPORT. Footprints of the operations of Machine/Reply.lean. -/

namespace Sys2Proof.Machine

theorem State.setPort_foot {s x1 x2} : Foot 131072 s (State.setPort s x1 x2) := by
  unfold State.setPort
  try dsimp only
  repeat' first
    | with_reducible apply Foot.refl
    | with_reducible_and_instances rfl
    | with_reducible apply Foot.ite
    | split
    | with_reducible apply Foot.cmd

theorem State.hitReject_foot {s x1 x2} : Foot 134217728 s (State.hitReject s x1 x2) := by
  unfold State.hitReject
  try dsimp only
  repeat' first
    | with_reducible apply Foot.refl
    | with_reducible_and_instances rfl
    | with_reducible apply Foot.via State.hit_foot
    | with_reducible apply Foot.ite
    | split

theorem State.hostReplies_foot {s x1} : Foot 134348800 s (State.hostReplies s x1) := by
  unfold State.hostReplies
  try dsimp only
  repeat' first
    | with_reducible apply Foot.refl
    | with_reducible_and_instances rfl
    | with_reducible apply Foot.via State.hitReject_foot
    | with_reducible apply Foot.via State.setPort_foot
    | with_reducible apply Foot.ite
    | with_reducible apply Foot.foldl
    | with_reducible intro _ _
    | split
    | dsimp only

theorem State.finishPacket_foot {s x1 x2 x3} : Foot 134348800 s (State.finishPacket s x1 x2 x3) := by
  unfold State.finishPacket
  try dsimp only
  repeat' first
    | with_reducible apply Foot.refl
    | with_reducible_and_instances rfl
    | with_reducible apply Foot.via State.hitReject_foot
    | with_reducible apply Foot.via State.hostReplies_foot
    | with_reducible apply Foot.via State.setPort_foot
    | split
    | with_reducible apply Foot.cmd

end Sys2Proof.Machine
end

