-- ==== Sys2Proof/Laws/FootDomainRecords.lean ====
section
/-! SUPPORT. Footprints of the operations of Machine/DomainRecords.lean. -/

namespace Sys2Proof.Machine

theorem State.setElxPort_foot {s x1 x2} : Foot 33554432 s (State.setElxPort s x1 x2) := by
  unfold State.setElxPort
  try dsimp only
  repeat' first
    | with_reducible apply Foot.refl
    | with_reducible_and_instances rfl
    | with_reducible apply Foot.elx

theorem State.elxSend_foot {s x1 x2 x3} : Foot 33554432 s (State.elxSend s x1 x2 x3) := by
  unfold State.elxSend
  try dsimp only
  repeat' first
    | with_reducible apply Foot.refl
    | with_reducible_and_instances rfl
    | with_reducible apply Foot.via State.setElxPort_foot

theorem State.elxSendDown_foot {s x1 x2} : Foot 33554432 s (State.elxSendDown s x1 x2) := by
  unfold State.elxSendDown
  try dsimp only
  repeat' first
    | with_reducible apply Foot.refl
    | with_reducible_and_instances rfl
    | with_reducible apply Foot.via State.elxSend_foot
    | with_reducible apply Foot.foldl
    | with_reducible intro _ _
    | dsimp only

theorem State.domLost_foot {s} : Foot 184550400 s (State.domLost s) := by
  unfold State.domLost
  try dsimp only
  repeat' first
    | with_reducible apply Foot.refl
    | with_reducible_and_instances rfl
    | with_reducible apply Foot.via State.hit_foot
    | with_reducible apply Foot.via State.reportBlock_foot
    | with_reducible apply Foot.elx

theorem State.domEmit_foot {s x1} : Foot 184550912 s (State.domEmit s x1) := by
  unfold State.domEmit
  try dsimp only
  repeat' first
    | with_reducible apply Foot.refl
    | with_reducible_and_instances rfl
    | with_reducible apply Foot.via State.arrive_foot
    | with_reducible apply Foot.via State.domLost_foot
    | with_reducible apply Foot.via State.elxSend_foot
    | with_reducible apply Foot.via State.latPut_foot
    | with_reducible apply Foot.via State.latPuts_foot
    | with_reducible apply Foot.ite
    | split
    | with_reducible apply Foot.elx

theorem State.domClose_foot {s x1} : Foot 184550912 s (State.domClose s x1) := by
  unfold State.domClose
  try dsimp only
  repeat' first
    | with_reducible apply Foot.refl
    | with_reducible_and_instances rfl
    | with_reducible apply Foot.via State.domEmit_foot
    | with_reducible apply Foot.elx

theorem State.domEnter_foot {s x1} : Foot 184550912 s (State.domEnter s x1) := by
  unfold State.domEnter
  try dsimp only
  repeat' first
    | with_reducible apply Foot.refl
    | with_reducible_and_instances rfl
    | with_reducible apply Foot.via State.domClose_foot
    | with_reducible apply Foot.ite
    | split
    | with_reducible apply Foot.elx
    | dsimp only

theorem State.domReport_foot {s x1 x2 x3 x4} : Foot 184550912 s (State.domReport s x1 x2 x3 x4) := by
  unfold State.domReport
  try dsimp only
  repeat' first
    | with_reducible apply Foot.refl
    | with_reducible_and_instances rfl
    | with_reducible apply Foot.via State.domEnter_foot
    | with_reducible apply Foot.ite
    | split

theorem State.elxShow_foot {s x1 x2 x3} : Foot 33554432 s (State.elxShow s x1 x2 x3) := by
  unfold State.elxShow
  try dsimp only
  repeat' first
    | with_reducible apply Foot.refl
    | with_reducible_and_instances rfl
    | with_reducible apply Foot.via State.setElxPort_foot

end Sys2Proof.Machine
end

