-- ==== Sys2Proof/Laws/FootIrc.lean ====
section
/-! SUPPORT. Footprints of the operations of Machine/Irc.lean. -/

namespace Sys2Proof.Machine

theorem State.strayRefresh_foot {s x1} : Foot 1024 s (State.strayRefresh s x1) := by
  unfold State.strayRefresh
  try dsimp only
  repeat' first
    | with_reducible apply Foot.refl
    | with_reducible_and_instances rfl
    | with_reducible apply Foot.via State.setSource_foot
    | with_reducible apply Foot.ite
    | split

theorem State.ackSource_foot {s x1 x2} : Foot 1024 s (State.ackSource s x1 x2) := by
  unfold State.ackSource
  try dsimp only
  repeat' first
    | with_reducible apply Foot.refl
    | with_reducible_and_instances rfl
    | with_reducible apply Foot.via State.setSource_foot
    | with_reducible apply Foot.via State.strayRefresh_foot

theorem State.paceFrom_foot {s x1 x2} : Foot 8388608 s (State.paceFrom s x1 x2) := by
  unfold State.paceFrom
  try dsimp only
  repeat' first
    | with_reducible apply Foot.refl
    | with_reducible_and_instances rfl
    | with_reducible apply Foot.dma

theorem State.countArrival_foot {s x1} : Foot 159384576 s (State.countArrival s x1) := by
  unfold State.countArrival
  try dsimp only
  repeat' first
    | with_reducible apply Foot.refl
    | with_reducible_and_instances rfl
    | with_reducible apply Foot.via State.hit_foot
    | with_reducible apply Foot.via State.paceFrom_foot
    | with_reducible apply Foot.via State.report_foot
    | with_reducible apply Foot.via State.setSource_foot
    | with_reducible apply Foot.via State.strayRefresh_foot
    | with_reducible apply Foot.ite
    | split

theorem State.strayRefreshAll_foot {s} : Foot 1024 s (State.strayRefreshAll s) := by
  unfold State.strayRefreshAll
  try dsimp only
  repeat' first
    | with_reducible apply Foot.refl
    | with_reducible_and_instances rfl
    | with_reducible apply Foot.via State.strayRefresh_foot
    | with_reducible apply Foot.foldl
    | with_reducible intro _ _
    | dsimp only

theorem State.putRecord_foot {s x1 x2} : Foot 16777728 s (State.putRecord s x1 x2) := by
  unfold State.putRecord
  try dsimp only
  repeat' first
    | with_reducible apply Foot.refl
    | with_reducible_and_instances rfl
    | with_reducible apply Foot.via State.latPut_foot
    | with_reducible apply Foot.via State.latPuts_foot

theorem State.closeRecord_foot {s x1} : Foot 16778752 s (State.closeRecord s x1) := by
  unfold State.closeRecord
  try dsimp only
  repeat' first
    | with_reducible apply Foot.refl
    | with_reducible_and_instances rfl
    | with_reducible apply Foot.via State.putRecord_foot
    | split
    | with_reducible apply Foot.irc

theorem State.closeDue_foot {s} : Foot 16778752 s (State.closeDue s) := by
  unfold State.closeDue
  try dsimp only
  repeat' first
    | with_reducible apply Foot.refl
    | with_reducible_and_instances rfl
    | with_reducible apply Foot.via State.closeRecord_foot
    | with_reducible apply Foot.foldl
    | with_reducible intro _ _
    | dsimp only

theorem State.roomForRecord_foot {s} : Foot 16778752 s (State.roomForRecord s) := by
  unfold State.roomForRecord
  try dsimp only
  repeat' first
    | with_reducible apply Foot.refl
    | with_reducible_and_instances rfl
    | with_reducible apply Foot.via State.closeRecord_foot
    | with_reducible apply Foot.ite
    | split

theorem State.openRecord_foot {s x1 x2 x3} : Foot 192939520 s (State.openRecord s x1 x2 x3) := by
  unfold State.openRecord
  try dsimp only
  repeat' first
    | with_reducible apply Foot.refl
    | with_reducible_and_instances rfl
    | with_reducible apply Foot.via State.countArrival_foot
    | with_reducible apply Foot.via State.domReport_foot
    | with_reducible apply Foot.via State.hit_foot
    | with_reducible apply Foot.via State.putRecord_foot
    | with_reducible apply Foot.via State.roomForRecord_foot
    | with_reducible apply Foot.ite
    | split
    | with_reducible apply Foot.irc

theorem State.handleReport_foot {s x1} : Foot 192939520 s (State.handleReport s x1).1 := by
  unfold State.handleReport
  try dsimp only
  repeat' first
    | with_reducible apply Foot.refl
    | with_reducible_and_instances rfl
    | with_reducible apply Foot.via State.closeDue_foot
    | with_reducible apply Foot.via State.openRecord_foot
    | with_reducible apply Foot.ite
    | split
    | with_reducible apply Foot.irc
    | dsimp only

theorem State.handleReport_foot' {s x1 t c0} (h : State.handleReport s x1 = (t, c0)) : Foot 192939520 s t := by
  have k : Foot 192939520 s (State.handleReport s x1).1 := State.handleReport_foot
  rwa [h] at k

end Sys2Proof.Machine
end

