-- ==== Sys2Proof/Laws/FootCombustion.lean ====
section
/-! SUPPORT. Footprints of the operations of Machine/Combustion.lean. -/

namespace Sys2Proof.Machine

theorem State.writeRecord_foot {s x1} : Foot 159909376 s (State.writeRecord s x1) := by
  unfold State.writeRecord
  try dsimp only
  repeat' first
    | with_reducible apply Foot.refl
    | with_reducible_and_instances rfl
    | with_reducible apply Foot.via State.countArrival_foot
    | with_reducible apply Foot.via State.latPut_foot
    | with_reducible apply Foot.via State.latPuts_foot
    | with_reducible apply Foot.ite
    | split
    | with_reducible apply Foot.cmb

theorem State.overrun_foot {s x1} : Foot 159909376 s (State.overrun s x1) := by
  unfold State.overrun
  try dsimp only
  repeat' first
    | with_reducible apply Foot.refl
    | with_reducible_and_instances rfl
    | with_reducible apply Foot.via State.hit_foot
    | with_reducible apply Foot.via State.report_foot
    | with_reducible apply Foot.via State.writeRecord_foot
    | with_reducible apply Foot.cmb

theorem State.handOff_foot {s x1} : Foot 159909376 s (State.handOff s x1) := by
  unfold State.handOff
  try dsimp only
  repeat' first
    | with_reducible apply Foot.refl
    | with_reducible_and_instances rfl
    | with_reducible apply Foot.via State.overrun_foot
    | with_reducible apply Foot.ite
    | split
    | with_reducible apply Foot.cmb

theorem State.cmbDisable_foot {s x1} : Foot 524296 s (State.cmbDisable s x1) := by
  unfold State.cmbDisable
  try dsimp only
  repeat' first
    | with_reducible apply Foot.refl
    | with_reducible_and_instances rfl
    | with_reducible apply Foot.via State.setFlag_foot
    | with_reducible apply Foot.ite
    | split
    | with_reducible apply Foot.cmb

theorem State.cmbApplyOne_foot {x0 x1 x2 s} : Foot 524296 s (State.cmbApplyOne x0 x1 x2 s) := by
  unfold State.cmbApplyOne
  try dsimp only
  repeat' first
    | with_reducible apply Foot.refl
    | with_reducible_and_instances rfl
    | with_reducible apply Foot.via State.cmbDisable_foot
    | with_reducible apply Foot.ite
    | split
    | with_reducible apply Foot.cmb

theorem State.cmbApply_foot {s x1 x2} : Foot 524296 s (State.cmbApply s x1 x2) := by
  unfold State.cmbApply
  try dsimp only
  repeat' first
    | with_reducible apply Foot.refl
    | with_reducible_and_instances rfl
    | with_reducible apply Foot.via State.cmbApplyOne_foot
    | with_reducible apply Foot.forUpTo
    | with_reducible intro _ _
    | with_reducible apply Foot.cmb

theorem execCmbCntClr_foot {x0 s t} (h : execCmbCntClr x0 s = .next t) : Foot 524288 s t := by
  unfold execCmbCntClr at h
  injection h with h
  subst h
  try dsimp only
  repeat' first
    | with_reducible apply Foot.refl
    | with_reducible_and_instances rfl
    | with_reducible apply Foot.ite
    | split
    | with_reducible apply Foot.cmb
    | dsimp only

theorem State.cmbLoadOne_foot {s x1} : Foot 151520768 s (State.cmbLoadOne s x1) := by
  unfold State.cmbLoadOne
  try dsimp only
  repeat' first
    | with_reducible apply Foot.refl
    | with_reducible_and_instances rfl
    | with_reducible apply Foot.via State.latTouchN_foot
    | with_reducible apply Foot.via State.report_foot
    | with_reducible apply Foot.ite
    | split
    | with_reducible apply Foot.cmb

theorem State.cmbPrepare_foot {s} : Foot 151520768 s (State.cmbPrepare s) := by
  unfold State.cmbPrepare
  try dsimp only
  repeat' first
    | with_reducible apply Foot.refl
    | with_reducible_and_instances rfl
    | with_reducible apply Foot.via State.cmbLoadOne_foot
    | with_reducible apply Foot.ite
    | with_reducible apply Foot.forUpTo
    | with_reducible intro _ _
    | split
    | with_reducible apply Foot.cmb
    | dsimp only

theorem State.cmbBad_foot {s x1} : Foot 17302528 s (State.cmbBad s x1) := by
  unfold State.cmbBad
  try dsimp only
  repeat' first
    | with_reducible apply Foot.refl
    | with_reducible_and_instances rfl
    | with_reducible apply Foot.via State.report_foot
    | with_reducible apply Foot.cmb

theorem State.cmbPairFail_foot {s x1} : Foot 17302536 s (State.cmbPairFail s x1) := by
  unfold State.cmbPairFail
  try dsimp only
  repeat' first
    | with_reducible apply Foot.refl
    | with_reducible_and_instances rfl
    | with_reducible apply Foot.via State.cmbDisable_foot
    | with_reducible apply Foot.via State.report_foot
    | with_reducible apply Foot.ite
    | split

theorem State.readGood_foot {s x1 x2} : Foot 150996480 s (State.readGood s x1 x2).1 := by
  induction x2 generalizing s x1 with
  | zero => simp only [State.readGood]; exact Foot.refl
  | succ n ih =>
    rw [State.readGood]
    try dsimp only
    repeat' first
      | with_reducible apply Foot.refl
      | with_reducible assumption
      | with_reducible_and_instances rfl
      | with_reducible apply Foot.then_ ih
      | with_reducible apply Foot.via State.latTouch_foot
      | with_reducible apply Foot.ite
      | split
      | dsimp only

theorem State.readGood_foot' {s x1 x2 t c0} (h : State.readGood s x1 x2 = (t, c0)) : Foot 150996480 s t := by
  have k : Foot 150996480 s (State.readGood s x1 x2).1 := State.readGood_foot
  rwa [h] at k

theorem State.process_foot {s x1 x2} : Foot 151520768 s (State.process s x1 x2) := by
  unfold State.process
  try dsimp only
  repeat' first
    | with_reducible apply Foot.refl
    | with_reducible_and_instances rfl
    | with_reducible apply Foot.via State.cmbBad_foot
    | with_reducible apply Foot.via State.readGood_foot
    | with_reducible refine Foot.via (State.readGood_foot' (by assumption)) (by decide) ?_
    | with_reducible apply Foot.ite
    | split
    | with_reducible apply Foot.cmb
    | dsimp only

theorem State.readAgain_foot {s x1} : Foot 151520768 s (State.readAgain s x1).1 := by
  unfold State.readAgain
  try dsimp only
  repeat' first
    | with_reducible apply Foot.refl
    | with_reducible_and_instances rfl
    | with_reducible apply Foot.via State.process_foot
    | with_reducible apply Foot.via State.readGood_foot
    | with_reducible refine Foot.via (State.readGood_foot' (by assumption)) (by decide) ?_
    | with_reducible apply Foot.via State.report_foot
    | with_reducible apply Foot.ite
    | split
    | dsimp only

theorem State.readAgain_foot' {s x1 t c0} (h : State.readAgain s x1 = (t, c0)) : Foot 151520768 s t := by
  have k : Foot 151520768 s (State.readAgain s x1).1 := State.readAgain_foot
  rwa [h] at k

theorem execFrameProcessing_foot {s t} (h : execFrameProcessing s = .next t) : Foot 151520776 s t := by
  unfold execFrameProcessing at h
  injection h with h
  subst h
  try dsimp only
  repeat' first
    | with_reducible apply Foot.refl
    | with_reducible_and_instances rfl
    | with_reducible apply Foot.via State.cmbApplyOne_foot
    | with_reducible apply Foot.via State.process_foot
    | split
    | with_reducible apply Foot.cmb
    | dsimp only

theorem execResultRecordWrite_foot {s t} (h : execResultRecordWrite s = .next t) : Foot 159909376 s t := by
  unfold execResultRecordWrite at h
  injection h with h
  subst h
  try dsimp only
  repeat' first
    | with_reducible apply Foot.refl
    | with_reducible_and_instances rfl
    | with_reducible apply Foot.via State.hit_foot
    | with_reducible apply Foot.via State.readAgain_foot
    | with_reducible refine Foot.via (State.readAgain_foot' (by assumption)) (by decide) ?_
    | with_reducible apply Foot.via State.reportCycle_foot
    | with_reducible apply Foot.via State.writeRecord_foot
    | with_reducible apply Foot.ite
    | split
    | with_reducible apply Foot.cmb
    | dsimp only

end Sys2Proof.Machine
end

