-- ==== Sys2Proof/Laws/FootArcs.lean ====
section
/-! SUPPORT. Footprints of the operations of Machine/Arcs.lean. -/

namespace Sys2Proof.Machine

theorem State.frameEnd_foot {s x1} : Foot 160171520 s (State.frameEnd s x1) := by
  unfold State.frameEnd
  try dsimp only
  repeat' first
    | with_reducible apply Foot.refl
    | with_reducible_and_instances rfl
    | with_reducible apply Foot.via State.arrive_foot
    | with_reducible apply Foot.via State.handOff_foot
    | with_reducible apply Foot.via State.latPuts_foot
    | with_reducible apply Foot.ite
    | split
    | with_reducible apply Foot.arcs
    | dsimp only

theorem State.setFrame_foot {s x1} : Foot 262144 s (State.setFrame s x1) := by
  unfold State.setFrame
  try dsimp only
  repeat' first
    | with_reducible apply Foot.refl
    | with_reducible_and_instances rfl
    | with_reducible apply Foot.ite
    | split
    | with_reducible apply Foot.arcs
    | dsimp only

theorem State.frameTotal_foot {s x1 x2 x3 x4} : Foot 160171520 s (State.frameTotal s x1 x2 x3 x4) := by
  unfold State.frameTotal
  try dsimp only
  repeat' first
    | with_reducible apply Foot.refl
    | with_reducible_and_instances rfl
    | with_reducible apply Foot.via State.frameEnd_foot
    | with_reducible apply Foot.via State.setFrame_foot
    | with_reducible apply Foot.ite
    | split

theorem State.setArc_foot {s x1 x2} : Foot 262144 s (State.setArc s x1 x2) := by
  unfold State.setArc
  try dsimp only
  repeat' first
    | with_reducible apply Foot.refl
    | with_reducible_and_instances rfl
    | with_reducible apply Foot.arcs

theorem State.passOver_foot {s x1 x2 x3} : Foot 262144 s (State.passOver s x1 x2 x3) := by
  unfold State.passOver
  try dsimp only
  repeat' first
    | with_reducible apply Foot.refl
    | with_reducible_and_instances rfl
    | with_reducible apply Foot.via State.setArc_foot
    | with_reducible apply Foot.ite
    | split

theorem State.arcEnd_foot {s x1 x2 x3} : Foot 160171520 s (State.arcEnd s x1 x2 x3) := by
  unfold State.arcEnd
  try dsimp only
  repeat' first
    | with_reducible apply Foot.refl
    | with_reducible_and_instances rfl
    | with_reducible apply Foot.via State.frameTotal_foot
    | with_reducible apply Foot.via State.passOver_foot
    | with_reducible apply Foot.via State.setArc_foot
    | split

theorem State.arcsEndAll_foot {s x1 x2} : Foot 160171520 s (State.arcsEndAll s x1 x2) := by
  unfold State.arcsEndAll
  try dsimp only
  repeat' first
    | with_reducible apply Foot.refl
    | with_reducible_and_instances rfl
    | with_reducible apply Foot.via State.arcEnd_foot
    | with_reducible apply Foot.foldl
    | with_reducible intro _ _
    | dsimp only

theorem State.arcApplyOne_foot {s x1} : Foot 160171528 s (State.arcApplyOne s x1) := by
  unfold State.arcApplyOne
  try dsimp only
  repeat' first
    | with_reducible apply Foot.refl
    | with_reducible_and_instances rfl
    | with_reducible apply Foot.via State.arcEnd_foot
    | with_reducible apply Foot.via State.setArc_foot
    | with_reducible apply Foot.via State.setFlag_foot
    | with_reducible apply Foot.ite
    | split
    | dsimp only

theorem State.arcApply_foot {s x1} : Foot 160171528 s (State.arcApply s x1) := by
  unfold State.arcApply
  try dsimp only
  repeat' first
    | with_reducible apply Foot.refl
    | with_reducible_and_instances rfl
    | with_reducible apply Foot.via State.arcApplyOne_foot
    | with_reducible apply Foot.ite
    | with_reducible apply Foot.forUpTo
    | with_reducible intro _ _
    | split
    | with_reducible apply Foot.arcs
    | dsimp only

theorem execArcCntClr_foot {x0 s t} (h : execArcCntClr x0 s = .next t) : Foot 262144 s t := by
  unfold execArcCntClr at h
  injection h with h
  subst h
  try dsimp only
  repeat' first
    | with_reducible apply Foot.refl
    | with_reducible_and_instances rfl
    | with_reducible apply Foot.ite
    | split
    | with_reducible apply Foot.arcs
    | dsimp only

theorem State.setConv_foot {s x1 x2} : Foot 262144 s (State.setConv s x1 x2) := by
  unfold State.setConv
  try dsimp only
  repeat' first
    | with_reducible apply Foot.refl
    | with_reducible_and_instances rfl
    | with_reducible apply Foot.arcs

theorem execCal_foot {x0 s t} (h : execCal x0 s = .next t) : Foot 268697600 s t := by
  unfold execCal at h
  injection h with h
  subst h
  try dsimp only
  repeat' first
    | with_reducible apply Foot.refl
    | with_reducible_and_instances rfl
    | with_reducible apply Foot.via State.later_foot
    | with_reducible apply Foot.via State.setConv_foot
    | with_reducible apply Foot.ite
    | split
    | dsimp only

theorem State.arcNext_foot {s x1} : Foot 268435456 s (State.arcNext s x1) := by
  unfold State.arcNext
  try dsimp only
  repeat' first
    | with_reducible apply Foot.refl
    | with_reducible_and_instances rfl
    | with_reducible apply Foot.via State.later_foot

theorem State.setRun_foot {s x1 x2} : Foot 262144 s (State.setRun s x1 x2) := by
  unfold State.setRun
  try dsimp only
  repeat' first
    | with_reducible apply Foot.refl
    | with_reducible_and_instances rfl
    | with_reducible apply Foot.via State.setArc_foot

theorem State.arcSend_foot {s x1 x2 x3} : Foot 262176 s (State.arcSend s x1 x2 x3) := by
  unfold State.arcSend
  try dsimp only
  repeat' first
    | with_reducible apply Foot.refl
    | with_reducible_and_instances rfl
    | with_reducible apply Foot.via State.sendLaunch_foot
    | with_reducible apply Foot.via State.setRun_foot

theorem State.frameShift_foot {s x1} : Foot 262144 s (State.frameShift s x1) := by
  unfold State.frameShift
  try dsimp only
  repeat' first
    | with_reducible apply Foot.refl
    | with_reducible_and_instances rfl
    | with_reducible apply Foot.via State.passOver_foot
    | with_reducible apply Foot.via State.setFrame_foot
    | split

theorem State.arcAdvance_foot {s x1 x2} : Foot 428607008 s (State.arcAdvance s x1 x2) := by
  unfold State.arcAdvance
  try dsimp only
  repeat' first
    | with_reducible apply Foot.refl
    | with_reducible_and_instances rfl
    | with_reducible apply Foot.via State.arcNext_foot
    | with_reducible apply Foot.via State.arcSend_foot
    | with_reducible apply Foot.via State.frameShift_foot
    | with_reducible apply Foot.via State.frameTotal_foot
    | with_reducible apply Foot.via State.passOver_foot
    | with_reducible apply Foot.via State.setRun_foot
    | with_reducible apply Foot.ite
    | split

theorem State.arcEndCommit_foot {s x1 x2} : Foot 428607008 s (State.arcEndCommit s x1 x2) := by
  unfold State.arcEndCommit
  try dsimp only
  repeat' first
    | with_reducible apply Foot.refl
    | with_reducible_and_instances rfl
    | with_reducible apply Foot.via State.arcAdvance_foot
    | with_reducible apply Foot.via State.passOver_foot
    | with_reducible apply Foot.via State.setRun_foot
    | with_reducible apply Foot.ite
    | split

theorem State.arcOverlap_foot {s x1} : Foot 151258112 s (State.arcOverlap s x1) := by
  unfold State.arcOverlap
  try dsimp only
  repeat' first
    | with_reducible apply Foot.refl
    | with_reducible_and_instances rfl
    | with_reducible apply Foot.via State.hit_foot
    | with_reducible apply Foot.via State.report_foot
    | with_reducible apply Foot.arcs

theorem State.arcSeen_foot {s x1 x2} : Foot 262144 s (State.arcSeen s x1 x2) := by
  unfold State.arcSeen
  try dsimp only
  repeat' first
    | with_reducible apply Foot.refl
    | with_reducible_and_instances rfl
    | with_reducible apply Foot.via State.setArc_foot

theorem State.arcBegin_foot {s x1 x2 x3 x4 x5} : Foot 17039872 s (State.arcBegin s x1 x2 x3 x4 x5) := by
  unfold State.arcBegin
  try dsimp only
  repeat' first
    | with_reducible apply Foot.refl
    | with_reducible_and_instances rfl
    | with_reducible apply Foot.via State.latPuts_foot
    | with_reducible apply Foot.via State.setArc_foot
    | with_reducible apply Foot.arcs

theorem State.arcStart_foot {s x1 x2 x3} : Foot 285475360 s (State.arcStart s x1 x2 x3) := by
  unfold State.arcStart
  try dsimp only
  repeat' first
    | with_reducible apply Foot.refl
    | with_reducible_and_instances rfl
    | with_reducible apply Foot.via State.arcBegin_foot
    | with_reducible apply Foot.via State.arcNext_foot
    | with_reducible apply Foot.via State.arcSend_foot
    | with_reducible apply Foot.via State.frameShift_foot
    | with_reducible apply Foot.via State.passOver_foot
    | with_reducible apply Foot.via State.setRun_foot
    | with_reducible apply Foot.ite
    | split

theorem State.arcAtAnchor_foot {s x1 x2} : Foot 428607008 s (State.arcAtAnchor s x1 x2) := by
  unfold State.arcAtAnchor
  try dsimp only
  repeat' first
    | with_reducible apply Foot.refl
    | with_reducible_and_instances rfl
    | with_reducible apply Foot.via State.arcAdvance_foot
    | with_reducible apply Foot.via State.arcEndCommit_foot
    | with_reducible apply Foot.via State.arcOverlap_foot
    | with_reducible apply Foot.via State.arcSeen_foot
    | with_reducible apply Foot.via State.arcStart_foot
    | with_reducible apply Foot.ite
    | split

theorem State.frameFlush_foot {s x1 x2 x3} : Foot 160171520 s (State.frameFlush s x1 x2 x3) := by
  induction x3 generalizing s  with
  | zero => simp only [State.frameFlush]; exact Foot.refl
  | succ n ih =>
    rw [State.frameFlush]
    try dsimp only
    repeat' first
      | with_reducible apply Foot.refl
      | with_reducible assumption
      | with_reducible_and_instances rfl
      | with_reducible apply Foot.then_ ih
      | with_reducible apply Foot.via State.frameEnd_foot
      | with_reducible apply Foot.via State.latPut_foot
      | with_reducible apply Foot.via State.setFrame_foot
      | with_reducible apply Foot.ite
      | split

theorem State.frameMissing_foot {s x1 x2 x3} : Foot 160171520 s (State.frameMissing s x1 x2 x3) := by
  unfold State.frameMissing
  try dsimp only
  repeat' first
    | with_reducible apply Foot.refl
    | with_reducible_and_instances rfl
    | with_reducible apply Foot.via State.frameEnd_foot
    | with_reducible apply Foot.via State.frameFlush_foot
    | with_reducible apply Foot.via State.hit_foot
    | with_reducible apply Foot.via State.reportCycle_foot
    | with_reducible apply Foot.via State.setFrame_foot
    | split
    | with_reducible apply Foot.arcs

theorem State.arcSkip_foot {s x1 x2 x3 x4 x5} : Foot 428607008 s (State.arcSkip s x1 x2 x3 x4 x5) := by
  induction x5 generalizing s  with
  | zero => unfold State.arcSkip; exact Foot.refl
  | succ n ih =>
    unfold State.arcSkip
    try dsimp only
    repeat' first
      | with_reducible apply Foot.refl
      | with_reducible assumption
      | with_reducible_and_instances rfl
      | with_reducible apply Foot.then_ ih
      | with_reducible apply Foot.via State.arcAdvance_foot
      | with_reducible apply Foot.via State.frameFlush_foot
      | with_reducible apply Foot.via State.frameMissing_foot
      | with_reducible apply Foot.via State.frameTotal_foot
      | with_reducible apply Foot.via State.passOver_foot
      | with_reducible apply Foot.via State.setRun_foot
      | with_reducible apply Foot.ite
      | split

theorem State.arcSkipEnd_foot {s x1 x2} : Foot 428607008 s (State.arcSkipEnd s x1 x2) := by
  unfold State.arcSkipEnd
  try dsimp only
  repeat' first
    | with_reducible apply Foot.refl
    | with_reducible_and_instances rfl
    | with_reducible apply Foot.via State.arcAdvance_foot
    | with_reducible apply Foot.via State.passOver_foot
    | with_reducible apply Foot.via State.setRun_foot
    | with_reducible apply Foot.ite
    | split

theorem State.arcSkipFirst_foot {s x1 x2} : Foot 428607008 s (State.arcSkipFirst s x1 x2) := by
  unfold State.arcSkipFirst
  try dsimp only
  repeat' first
    | with_reducible apply Foot.refl
    | with_reducible_and_instances rfl
    | with_reducible apply Foot.via State.arcAdvance_foot
    | with_reducible apply Foot.via State.frameMissing_foot
    | with_reducible apply Foot.via State.passOver_foot
    | with_reducible apply Foot.via State.setRun_foot
    | with_reducible apply Foot.ite
    | split

theorem State.arcStartSkipped_foot {s x1 x2 x3 x4 x5} : Foot 428607010 s (State.arcStartSkipped s x1 x2 x3 x4 x5) := by
  unfold State.arcStartSkipped
  try dsimp only
  repeat' first
    | with_reducible apply Foot.refl
    | with_reducible_and_instances rfl
    | with_reducible apply Foot.via State.arcBegin_foot
    | with_reducible apply Foot.via State.arcSkip_foot
    | with_reducible apply Foot.via State.arcSkipEnd_foot
    | with_reducible apply Foot.via State.arcSkipFirst_foot
    | with_reducible apply Foot.via State.freeVal_foot
    | with_reducible refine Foot.via (State.freeVal_foot' (by assumption)) (by decide) ?_
    | with_reducible apply Foot.ite
    | split
    | dsimp only

theorem State.arcEarly_foot {s x1 x2 x3 x4 x5} : Foot 428607010 s (State.arcEarly s x1 x2 x3 x4 x5) := by
  unfold State.arcEarly
  try dsimp only
  repeat' first
    | with_reducible apply Foot.refl
    | with_reducible_and_instances rfl
    | with_reducible apply Foot.via State.arcAtAnchor_foot
    | with_reducible apply Foot.via State.arcOverlap_foot
    | with_reducible apply Foot.via State.arcSeen_foot
    | with_reducible apply Foot.via State.arcSkip_foot
    | with_reducible apply Foot.via State.arcSkipEnd_foot
    | with_reducible apply Foot.via State.arcSkipFirst_foot
    | with_reducible apply Foot.via State.arcStartSkipped_foot
    | with_reducible apply Foot.via State.passOver_foot
    | with_reducible apply Foot.ite
    | split
    | dsimp only

theorem State.arcLaunchSend_foot {s x1} : Foot 268697632 s (State.arcLaunchSend s x1) := by
  unfold State.arcLaunchSend
  try dsimp only
  repeat' first
    | with_reducible apply Foot.refl
    | with_reducible_and_instances rfl
    | with_reducible apply Foot.via State.arcNext_foot
    | with_reducible apply Foot.via State.arcSend_foot
    | with_reducible apply Foot.via State.passOver_foot
    | with_reducible apply Foot.ite
    | split

theorem State.arcLoadOne_foot {s x1} : Foot 151258624 s (State.arcLoadOne s x1) := by
  unfold State.arcLoadOne
  try dsimp only
  repeat' first
    | with_reducible apply Foot.refl
    | with_reducible_and_instances rfl
    | with_reducible apply Foot.via State.latTouchN_foot
    | with_reducible apply Foot.via State.report_foot
    | with_reducible apply Foot.ite
    | split
    | with_reducible apply Foot.arcs
    | dsimp only

theorem State.arcPairFail_foot {s x1} : Foot 160171528 s (State.arcPairFail s x1) := by
  unfold State.arcPairFail
  try dsimp only
  repeat' first
    | with_reducible apply Foot.refl
    | with_reducible_and_instances rfl
    | with_reducible apply Foot.via State.arcEnd_foot
    | with_reducible apply Foot.via State.report_foot
    | with_reducible apply Foot.via State.setArc_foot
    | with_reducible apply Foot.via State.setFlag_foot
    | with_reducible apply Foot.ite
    | split

theorem State.arcPrepare_foot {s} : Foot 151258624 s (State.arcPrepare s) := by
  unfold State.arcPrepare
  try dsimp only
  repeat' first
    | with_reducible apply Foot.refl
    | with_reducible_and_instances rfl
    | with_reducible apply Foot.via State.arcLoadOne_foot
    | with_reducible apply Foot.ite
    | with_reducible apply Foot.forUpTo
    | with_reducible intro _ _
    | split
    | with_reducible apply Foot.arcs
    | dsimp only

theorem State.arcsAtAnchor_foot {s x1} : Foot 428607008 s (State.arcsAtAnchor s x1) := by
  unfold State.arcsAtAnchor
  try dsimp only
  repeat' first
    | with_reducible apply Foot.refl
    | with_reducible_and_instances rfl
    | with_reducible apply Foot.via State.arcAtAnchor_foot
    | with_reducible apply Foot.foldl
    | with_reducible intro _ _
    | dsimp only

theorem State.arcsEarly_foot {s x1 x2 x3 x4} : Foot 428607010 s (State.arcsEarly s x1 x2 x3 x4) := by
  unfold State.arcsEarly
  try dsimp only
  repeat' first
    | with_reducible apply Foot.refl
    | with_reducible_and_instances rfl
    | with_reducible apply Foot.via State.arcEarly_foot
    | with_reducible apply Foot.foldl
    | with_reducible intro _ _
    | dsimp only

theorem State.refsDue_foot {s} : Foot 268697600 s (State.refsDue s) := by
  unfold State.refsDue
  try dsimp only
  repeat' first
    | with_reducible apply Foot.refl
    | with_reducible_and_instances rfl
    | with_reducible apply Foot.via State.later_foot
    | with_reducible apply Foot.via State.setConv_foot
    | with_reducible apply Foot.ite
    | with_reducible apply Foot.forUpTo
    | with_reducible intro _ _
    | split
    | dsimp only

theorem State.convSlot_foot {s x1} : Foot 268697600 s (State.convSlot s x1) := by
  unfold State.convSlot
  try dsimp only
  repeat' first
    | with_reducible apply Foot.refl
    | with_reducible_and_instances rfl
    | with_reducible apply Foot.via State.later_foot
    | with_reducible apply Foot.via State.setConv_foot
    | with_reducible apply Foot.ite
    | split

theorem State.convSlotHold_foot {s x1} : Foot 262144 s (State.convSlotHold s x1) := by
  unfold State.convSlotHold
  try dsimp only
  repeat' first
    | with_reducible apply Foot.refl
    | with_reducible_and_instances rfl
    | with_reducible apply Foot.via State.setConv_foot
    | split

theorem State.calFail_foot {s x1} : Foot 17040384 s (State.calFail s x1) := by
  unfold State.calFail
  try dsimp only
  repeat' first
    | with_reducible apply Foot.refl
    | with_reducible_and_instances rfl
    | with_reducible apply Foot.via State.report_foot
    | with_reducible apply Foot.via State.setConv_foot

theorem State.convFault_foot {s x1} : Foot 134479872 s (State.convFault s x1) := by
  unfold State.convFault
  try dsimp only
  repeat' first
    | with_reducible apply Foot.refl
    | with_reducible_and_instances rfl
    | with_reducible apply Foot.via State.hit_foot
    | with_reducible apply Foot.arcs

theorem State.convFreed_foot {s x1 x2 x3} : Foot 268697600 s (State.convFreed s x1 x2 x3) := by
  unfold State.convFreed
  try dsimp only
  repeat' first
    | with_reducible apply Foot.refl
    | with_reducible_and_instances rfl
    | with_reducible apply Foot.via State.convSlot_foot
    | with_reducible apply Foot.via State.setConv_foot

theorem State.convHold_foot {x0 s} : Foot 262144 s (State.convHold x0 s) := by
  unfold State.convHold
  try dsimp only
  repeat' first
    | with_reducible apply Foot.refl
    | with_reducible_and_instances rfl
    | with_reducible apply Foot.via State.passOver_foot
    | with_reducible apply Foot.via State.setConv_foot
    | with_reducible apply Foot.ite
    | split

theorem State.convLate_foot {s x1} : Foot 151258112 s (State.convLate s x1) := by
  unfold State.convLate
  try dsimp only
  repeat' first
    | with_reducible apply Foot.refl
    | with_reducible_and_instances rfl
    | with_reducible apply Foot.via State.convFault_foot
    | with_reducible apply Foot.via State.report_foot
    | with_reducible apply Foot.via State.setConv_foot

theorem State.frameSample_foot {s x1 x2 x3 x4 x5} : Foot 160171520 s (State.frameSample s x1 x2 x3 x4 x5) := by
  unfold State.frameSample
  try dsimp only
  repeat' first
    | with_reducible apply Foot.refl
    | with_reducible_and_instances rfl
    | with_reducible apply Foot.via State.frameEnd_foot
    | with_reducible apply Foot.via State.frameFlush_foot
    | with_reducible apply Foot.via State.latPut_foot
    | with_reducible apply Foot.via State.setFrame_foot
    | split

theorem State.sampleArrives_foot {s x1 x2 x3} : Foot 160171520 s (State.sampleArrives s x1 x2 x3) := by
  unfold State.sampleArrives
  try dsimp only
  repeat' first
    | with_reducible apply Foot.refl
    | with_reducible_and_instances rfl
    | with_reducible apply Foot.via State.frameEnd_foot
    | with_reducible apply Foot.via State.frameMissing_foot
    | with_reducible apply Foot.via State.passOver_foot
    | with_reducible apply Foot.via State.setConv_foot
    | with_reducible apply Foot.ite
    | split

theorem State.sampleStale_foot {s x1 x2 x3} : Foot 160171520 s (State.sampleStale s x1 x2 x3) := by
  unfold State.sampleStale
  try dsimp only
  repeat' first
    | with_reducible apply Foot.refl
    | with_reducible_and_instances rfl
    | with_reducible apply Foot.via State.frameEnd_foot
    | with_reducible apply Foot.via State.frameMissing_foot
    | with_reducible apply Foot.via State.passOver_foot
    | split

theorem State.trackLate_foot {s x1} : Foot 152306688 s (State.trackLate s x1) := by
  unfold State.trackLate
  try dsimp only
  repeat' first
    | with_reducible apply Foot.refl
    | with_reducible_and_instances rfl
    | with_reducible apply Foot.via State.convLate_foot
    | with_reducible apply Foot.via State.setInc_foot
    | with_reducible apply Foot.ite
    | split
    | dsimp only

theorem execCalibrationDone_foot {x0 x1 x2 s t} (h : execCalibrationDone x0 x1 x2 s = .next t) : Foot 17040912 s t := by
  unfold execCalibrationDone at h
  injection h with h
  subst h
  try dsimp only
  repeat' first
    | with_reducible apply Foot.refl
    | with_reducible_and_instances rfl
    | with_reducible apply Foot.via State.calFail_foot
    | with_reducible apply Foot.via State.setConv_foot
    | with_reducible apply Foot.via State.stage_foot
    | with_reducible apply Foot.ite
    | split
    | dsimp only

theorem execCalibrationTimeout_foot {x0 s t} (h : execCalibrationTimeout x0 s = .next t) : Foot 17040384 s t := by
  unfold execCalibrationTimeout at h
  injection h with h
  subst h
  try dsimp only
  repeat' first
    | with_reducible apply Foot.refl
    | with_reducible_and_instances rfl
    | with_reducible apply Foot.via State.calFail_foot
    | with_reducible apply Foot.ite
    | split
    | dsimp only

theorem execConversionResult_foot {x0 x1 s t} (h : execConversionResult x0 x1 s = .next t) : Foot 428606976 s t := by
  unfold execConversionResult at h
  injection h with h
  subst h
  try dsimp only
  repeat' first
    | with_reducible apply Foot.refl
    | with_reducible_and_instances rfl
    | with_reducible apply Foot.via State.convFreed_foot
    | with_reducible apply Foot.via State.frameSample_foot
    | with_reducible apply Foot.ite
    | split
    | dsimp only

theorem execConversionTimeout_foot {x0 s t} (h : execConversionTimeout x0 s = .next t) : Foot 429655552 s t := by
  unfold execConversionTimeout at h
  injection h with h
  subst h
  try dsimp only
  repeat' first
    | with_reducible apply Foot.refl
    | with_reducible_and_instances rfl
    | with_reducible apply Foot.via State.convFreed_foot
    | with_reducible apply Foot.via State.convLate_foot
    | with_reducible apply Foot.via State.frameMissing_foot
    | with_reducible apply Foot.via State.trackLate_foot
    | with_reducible exact (execConversionResult_foot (by assumption)).mono (by decide)
    | with_reducible refine Foot.via (execConversionResult_foot (by assumption)) (by decide) ?_
    | with_reducible apply Foot.ite
    | split
    | dsimp only

theorem execReferenceCheck_foot {x0 x1 s t} (h : execReferenceCheck x0 x1 s = .next t) : Foot 428606976 s t := by
  unfold execReferenceCheck at h
  injection h with h
  subst h
  try dsimp only
  repeat' first
    | with_reducible apply Foot.refl
    | with_reducible_and_instances rfl
    | with_reducible apply Foot.via State.convFault_foot
    | with_reducible apply Foot.via State.convFreed_foot
    | with_reducible apply Foot.via State.report_foot
    | with_reducible exact (execConversionResult_foot (by assumption)).mono (by decide)
    | with_reducible refine Foot.via (execConversionResult_foot (by assumption)) (by decide) ?_
    | with_reducible apply Foot.ite
    | split
    | dsimp only

end Sys2Proof.Machine
end

