-- ==== Sys2Proof/Laws/FootQueues.lean ====
section
/-! SUPPORT. Footprints of the operations of Machine/Queues.lean. -/

namespace Sys2Proof.Machine

theorem State.countOutcome_foot {s x1} : Foot 134283264 s (State.countOutcome s x1) := by
  unfold State.countOutcome
  try dsimp only
  repeat' first
    | with_reducible apply Foot.refl
    | with_reducible_and_instances rfl
    | with_reducible apply Foot.via State.hit_foot
    | with_reducible apply Foot.ite
    | split
    | with_reducible apply Foot.evq

theorem State.writeReport_foot {s x1 x2 x3 x4 x5} : Foot 151062016 s (State.writeReport s x1 x2 x3 x4 x5) := by
  unfold State.writeReport
  try dsimp only
  repeat' first
    | with_reducible apply Foot.refl
    | with_reducible_and_instances rfl
    | with_reducible apply Foot.via State.arrive_foot
    | with_reducible apply Foot.via State.hit_foot
    | with_reducible apply Foot.via State.latPuts_foot
    | with_reducible apply Foot.via State.reportCycle_foot
    | with_reducible apply Foot.ite
    | split
    | with_reducible apply Foot.evq

theorem State.outcome_foot {s x1 x2 x3 x4 x5 x6} : Foot 151062016 s (State.outcome s x1 x2 x3 x4 x5 x6) := by
  unfold State.outcome
  try dsimp only
  repeat' first
    | with_reducible apply Foot.refl
    | with_reducible_and_instances rfl
    | with_reducible apply Foot.via State.countOutcome_foot
    | with_reducible apply Foot.via State.reportCycle_foot
    | with_reducible apply Foot.via State.writeReport_foot
    | with_reducible apply Foot.ite
    | split

theorem State.unlock_foot {s x1} : Foot 65536 s (State.unlock s x1) := by
  unfold State.unlock
  try dsimp only
  repeat' first
    | with_reducible apply Foot.refl
    | with_reducible_and_instances rfl
    | with_reducible apply Foot.ite
    | split
    | with_reducible apply Foot.evq

theorem State.dropEntry_foot {s x1 x2 x3} : Foot 151062016 s (State.dropEntry s x1 x2 x3) := by
  unfold State.dropEntry
  try dsimp only
  repeat' first
    | with_reducible apply Foot.refl
    | with_reducible_and_instances rfl
    | with_reducible apply Foot.via State.outcome_foot
    | with_reducible apply Foot.via State.unlock_foot

theorem State.dropEntries_foot {s x1 x2} : Foot 151062016 s (State.dropEntries s x1 x2) := by
  induction x2 generalizing s  with
  | nil => simp only [State.dropEntries]; exact Foot.refl
  | cons v vs ih =>
    rw [State.dropEntries]
    try dsimp only
    repeat' first
      | with_reducible apply Foot.refl
      | with_reducible assumption
      | with_reducible_and_instances rfl
      | with_reducible apply Foot.then_ ih
      | with_reducible apply Foot.via State.dropEntry_foot

theorem State.cancelGone_foot {s x1 x2} : Foot 419497472 s (State.cancelGone s x1 x2) := by
  unfold State.cancelGone
  try dsimp only
  repeat' first
    | with_reducible apply Foot.refl
    | with_reducible_and_instances rfl
    | with_reducible apply Foot.via State.dropEntries_foot
    | with_reducible apply Foot.agenda

theorem State.setQueue_foot {s x1 x2} : Foot 65536 s (State.setQueue s x1 x2) := by
  unfold State.setQueue
  try dsimp only
  repeat' first
    | with_reducible apply Foot.refl
    | with_reducible_and_instances rfl
    | with_reducible apply Foot.evq

theorem State.commitHead_foot {s x1} : Foot 419497472 s (State.commitHead s x1) := by
  unfold State.commitHead
  try dsimp only
  repeat' first
    | with_reducible apply Foot.refl
    | with_reducible_and_instances rfl
    | with_reducible apply Foot.via State.dropEntry_foot
    | with_reducible apply Foot.via State.later_foot
    | with_reducible apply Foot.via State.setQueue_foot
    | with_reducible apply Foot.ite
    | split
    | dsimp only

theorem State.setActive_foot {s x1 x2} : Foot 65536 s (State.setActive s x1 x2) := by
  unfold State.setActive
  try dsimp only
  repeat' first
    | with_reducible apply Foot.refl
    | with_reducible_and_instances rfl
    | with_reducible apply Foot.evq

theorem State.commitEnd_foot {s x1} : Foot 419497472 s (State.commitEnd s x1) := by
  unfold State.commitEnd
  try dsimp only
  repeat' first
    | with_reducible apply Foot.refl
    | with_reducible_and_instances rfl
    | with_reducible apply Foot.via State.commitHead_foot
    | with_reducible apply Foot.via State.setActive_foot
    | with_reducible apply Foot.ite
    | split
    | dsimp only

theorem State.noteFire_foot {s x1 x2} : Foot 65536 s (State.noteFire s x1 x2) := by
  unfold State.noteFire
  try dsimp only
  repeat' first
    | with_reducible apply Foot.refl
    | with_reducible_and_instances rfl
    | with_reducible apply Foot.evq

theorem State.sendFire_foot {s x1 x2} : Foot 65536 s (State.sendFire s x1 x2) := by
  unfold State.sendFire
  try dsimp only
  repeat' first
    | with_reducible apply Foot.refl
    | with_reducible_and_instances rfl
    | with_reducible apply Foot.ite
    | split
    | with_reducible apply Foot.evq

theorem State.fireEnd_foot {s x1 x2 x3} : Foot 151062016 s (State.fireEnd s x1 x2 x3) := by
  unfold State.fireEnd
  try dsimp only
  repeat' first
    | with_reducible apply Foot.refl
    | with_reducible_and_instances rfl
    | with_reducible apply Foot.via State.noteFire_foot
    | with_reducible apply Foot.via State.outcome_foot
    | with_reducible apply Foot.via State.sendFire_foot
    | with_reducible apply Foot.via State.setActive_foot
    | with_reducible apply Foot.via State.unlock_foot
    | with_reducible apply Foot.ite
    | split

theorem State.cancelOut_foot {s x1 x2} : Foot 419497472 s (State.cancelOut s x1 x2).1 := by
  unfold State.cancelOut
  try dsimp only
  repeat' first
    | with_reducible apply Foot.refl
    | with_reducible_and_instances rfl
    | with_reducible apply Foot.via State.commitEnd_foot
    | with_reducible apply Foot.via State.dropEntries_foot
    | with_reducible apply Foot.via State.fireEnd_foot
    | with_reducible apply Foot.via State.setQueue_foot
    | with_reducible apply Foot.ite
    | split
    | dsimp only

theorem State.cancelOut_foot' {s x1 x2 t c0} (h : State.cancelOut s x1 x2 = (t, c0)) : Foot 419497472 s t := by
  have k : Foot 419497472 s (State.cancelOut s x1 x2).1 := State.cancelOut_foot
  rwa [h] at k

theorem State.cancelRange_foot {s x1 x2 x3 x4} : Foot 419497472 s (State.cancelRange s x1 x2 x3 x4).1 := by
  induction x3 generalizing s x2 x4 with
  | zero => simp only [State.cancelRange]; exact Foot.refl
  | succ n ih =>
    rw [State.cancelRange]
    try dsimp only
    repeat' first
      | with_reducible apply Foot.refl
      | with_reducible assumption
      | with_reducible_and_instances rfl
      | with_reducible apply Foot.then_ ih
      | with_reducible apply Foot.via State.cancelOut_foot
      | with_reducible refine Foot.via (State.cancelOut_foot' (by assumption)) (by decide) ?_
      | split
      | dsimp only

theorem State.cancelRange_foot' {s x1 x2 x3 x4 t c0} (h : State.cancelRange s x1 x2 x3 x4 = (t, c0)) : Foot 419497472 s t := by
  have k : Foot 419497472 s (State.cancelRange s x1 x2 x3 x4).1 := State.cancelRange_foot
  rwa [h] at k

theorem State.softAll_foot {s x1} : Foot 65536 s (State.softAll s x1) := by
  unfold State.softAll
  try dsimp only
  repeat' first
    | with_reducible apply Foot.refl
    | with_reducible_and_instances rfl
    | with_reducible apply Foot.evq

theorem State.cancelSync_foot {s x1 x2 x3 x4 x5} : Foot 419497472 s (State.cancelSync s x1 x2 x3 x4 x5) := by
  unfold State.cancelSync
  try dsimp only
  repeat' first
    | with_reducible apply Foot.refl
    | with_reducible_and_instances rfl
    | with_reducible apply Foot.via State.cancelGone_foot
    | with_reducible apply Foot.via State.cancelRange_foot
    | with_reducible refine Foot.via (State.cancelRange_foot' (by assumption)) (by decide) ?_
    | with_reducible apply Foot.via State.report_foot
    | with_reducible apply Foot.via State.softAll_foot
    | with_reducible apply Foot.ite
    | split
    | dsimp only

theorem State.keyAll_foot {s x1 x2} : Foot 151062016 s (State.keyAll s x1 x2) := by
  unfold State.keyAll
  try dsimp only
  repeat' first
    | with_reducible apply Foot.refl
    | with_reducible_and_instances rfl
    | with_reducible apply Foot.via State.dropEntries_foot
    | with_reducible apply Foot.via State.setQueue_foot
    | with_reducible apply Foot.ite
    | split
    | dsimp only

theorem State.keyRange_foot {s x1 x2 x3} : Foot 419497472 s (State.keyRange s x1 x2 x3) := by
  unfold State.keyRange
  try dsimp only
  repeat' first
    | with_reducible apply Foot.refl
    | with_reducible_and_instances rfl
    | with_reducible apply Foot.via State.keyAll_foot
    | with_reducible apply Foot.via State.later_foot
    | with_reducible apply Foot.forUpTo
    | with_reducible intro _ _
    | dsimp only

theorem State.lockSlot_foot {s x1 x2 x3} : Foot 65536 s (State.lockSlot s x1 x2 x3) := by
  unfold State.lockSlot
  try dsimp only
  repeat' first
    | with_reducible apply Foot.refl
    | with_reducible_and_instances rfl
    | with_reducible apply Foot.ite
    | split
    | with_reducible apply Foot.evq

theorem State.outAtB_foot {s x1 x2 x3 x4} : Foot 419497472 s (State.outAtB s x1 x2 x3 x4) := by
  unfold State.outAtB
  try dsimp only
  repeat' first
    | with_reducible apply Foot.refl
    | with_reducible_and_instances rfl
    | with_reducible apply Foot.via State.commitEnd_foot
    | with_reducible apply Foot.via State.setActive_foot
    | with_reducible apply Foot.via State.setQueue_foot
    | split
    | dsimp only

theorem State.setAside_foot {s x1 x2 x3 x4 x5 x6 x7 x8} : Foot 65536 s (State.setAside s x1 x2 x3 x4 x5 x6 x7 x8) := by
  unfold State.setAside
  try dsimp only
  repeat' first
    | with_reducible apply Foot.refl
    | with_reducible_and_instances rfl
    | with_reducible apply Foot.via State.setQueue_foot

theorem State.headNext_foot {s x1} : Foot 268435456 s (State.headNext s x1) := by
  unfold State.headNext
  try dsimp only
  repeat' first
    | with_reducible apply Foot.refl
    | with_reducible_and_instances rfl
    | with_reducible apply Foot.via State.later_foot

theorem State.insertEntry_foot {s x1 x2} : Foot 65536 s (State.insertEntry s x1 x2) := by
  unfold State.insertEntry
  try dsimp only
  repeat' first
    | with_reducible apply Foot.refl
    | with_reducible_and_instances rfl
    | with_reducible apply Foot.via State.lockSlot_foot
    | with_reducible apply Foot.via State.setQueue_foot
    | with_reducible apply Foot.ite
    | split

theorem State.commitOut_foot {s x1} : Foot 419497472 s (State.commitOut s x1) := by
  unfold State.commitOut
  try dsimp only
  repeat' first
    | with_reducible apply Foot.refl
    | with_reducible_and_instances rfl
    | with_reducible apply Foot.via State.commitEnd_foot
    | with_reducible apply Foot.via State.commitHead_foot

theorem State.commitAll_foot {s} : Foot 419497472 s (State.commitAll s) := by
  unfold State.commitAll
  try dsimp only
  repeat' first
    | with_reducible apply Foot.refl
    | with_reducible_and_instances rfl
    | with_reducible apply Foot.via State.commitOut_foot
    | with_reducible apply Foot.forUpTo
    | with_reducible intro _ _
    | dsimp only

theorem State.endSkipped_foot {s x1 x2 x3 x4 x5} : Foot 419497472 s (State.endSkipped s x1 x2 x3 x4 x5) := by
  unfold State.endSkipped
  try dsimp only
  repeat' first
    | with_reducible apply Foot.refl
    | with_reducible_and_instances rfl
    | with_reducible apply Foot.via State.commitEnd_foot
    | with_reducible apply Foot.via State.fireEnd_foot
    | with_reducible apply Foot.via State.setActive_foot
    | with_reducible apply Foot.ite
    | split

theorem State.fireEntry_foot {s x1 x2} : Foot 151062016 s (State.fireEntry s x1 x2) := by
  unfold State.fireEntry
  try dsimp only
  repeat' first
    | with_reducible apply Foot.refl
    | with_reducible_and_instances rfl
    | with_reducible apply Foot.via State.dropEntry_foot
    | with_reducible apply Foot.via State.lockSlot_foot
    | with_reducible apply Foot.via State.noteFire_foot
    | with_reducible apply Foot.via State.outcome_foot
    | with_reducible apply Foot.via State.sendFire_foot
    | with_reducible apply Foot.via State.setActive_foot
    | with_reducible apply Foot.via State.unlock_foot
    | with_reducible apply Foot.ite
    | split

theorem State.fireSkipped_foot {s x1 x2 x3} : Foot 151062016 s (State.fireSkipped s x1 x2 x3) := by
  induction x3 generalizing s  with
  | zero => simp only [State.fireSkipped]; exact Foot.refl
  | succ n ih =>
    rw [State.fireSkipped]
    try dsimp only
    repeat' first
      | with_reducible apply Foot.refl
      | with_reducible assumption
      | with_reducible_and_instances rfl
      | with_reducible apply Foot.then_ ih
      | with_reducible apply Foot.via State.dropEntry_foot
      | with_reducible apply Foot.via State.fireEntry_foot
      | with_reducible apply Foot.via State.setQueue_foot
      | with_reducible apply Foot.ite
      | split

theorem State.earlyFires_foot {s x1 x2 x3 x4 x5} : Foot 419497472 s (State.earlyFires s x1 x2 x3 x4 x5) := by
  unfold State.earlyFires
  try dsimp only
  repeat' first
    | with_reducible apply Foot.refl
    | with_reducible_and_instances rfl
    | with_reducible apply Foot.via State.dropEntries_foot
    | with_reducible apply Foot.via State.endSkipped_foot
    | with_reducible apply Foot.via State.fireSkipped_foot
    | with_reducible apply Foot.forUpTo
    | with_reducible intro _ _
    | dsimp only

theorem State.retireEnd_foot {s x1 x2} : Foot 65536 s (State.retireEnd s x1 x2) := by
  unfold State.retireEnd
  try dsimp only
  repeat' first
    | with_reducible apply Foot.refl
    | with_reducible_and_instances rfl
    | with_reducible apply Foot.via State.noteFire_foot
    | with_reducible apply Foot.via State.setActive_foot
    | with_reducible apply Foot.via State.unlock_foot

end Sys2Proof.Machine
end

