-- ==== Sys2Proof/Laws/FootEvents.lean ====
section
/-! SUPPORT. Footprints of the operations of Machine/Events.lean. -/

namespace Sys2Proof.Machine

theorem State.rearmStop_foot {s} : Foot 268435456 s (State.rearmStop s) := by
  unfold State.rearmStop
  try dsimp only
  repeat' first
    | with_reducible apply Foot.refl
    | with_reducible_and_instances rfl
    | split
    | with_reducible apply Foot.agenda
    | dsimp only

theorem State.rearmFrom_foot {s x1 x2} : Foot 268435456 s (State.rearmFrom s x1 x2) := by
  unfold State.rearmFrom
  try dsimp only
  repeat' first
    | with_reducible apply Foot.refl
    | with_reducible_and_instances rfl
    | with_reducible apply Foot.via State.later_foot
    | with_reducible apply Foot.ite
    | with_reducible apply Foot.forUpTo
    | with_reducible intro _ _
    | split
    | dsimp only

theorem State.rearm_foot {s x1} : Foot 268435456 s (State.rearm s x1) := by
  unfold State.rearm
  try dsimp only
  repeat' first
    | with_reducible apply Foot.refl
    | with_reducible_and_instances rfl
    | with_reducible apply Foot.via State.rearmFrom_foot

theorem State.swapNotice_foot {s x1} : Foot 16777216 s (State.swapNotice s x1) := by
  unfold State.swapNotice
  try dsimp only
  repeat' first
    | with_reducible apply Foot.refl
    | with_reducible_and_instances rfl
    | with_reducible apply Foot.via State.twnSend_foot
    | with_reducible apply Foot.ite
    | split

theorem State.swapNow_foot {s x1} : Foot 65536 s (State.swapNow s x1) := by
  unfold State.swapNow
  try dsimp only
  repeat' first
    | with_reducible apply Foot.refl
    | with_reducible_and_instances rfl
    | with_reducible apply Foot.evq

theorem State.swapAt_foot {s x1} : Foot 16842752 s (State.swapAt s x1) := by
  unfold State.swapAt
  try dsimp only
  repeat' first
    | with_reducible apply Foot.refl
    | with_reducible_and_instances rfl
    | with_reducible apply Foot.via State.swapNotice_foot
    | with_reducible apply Foot.via State.swapNow_foot
    | with_reducible apply Foot.ite
    | split
    | with_reducible apply Foot.twn

theorem State.areq_foot {s x1 x2} : Foot 16777216 s (State.areq s x1 x2) := by
  unfold State.areq
  try dsimp only
  repeat' first
    | with_reducible apply Foot.refl
    | with_reducible_and_instances rfl
    | with_reducible apply Foot.via State.twnSend_foot
    | with_reducible apply Foot.ite
    | split
    | dsimp only

theorem State.requestSwap_foot {s x1} : Foot 16842752 s (State.requestSwap s x1) := by
  unfold State.requestSwap
  try dsimp only
  repeat' first
    | with_reducible apply Foot.refl
    | with_reducible_and_instances rfl
    | with_reducible apply Foot.via State.areq_foot
    | with_reducible apply Foot.evq

theorem State.pushReq_foot {s x1} : Foot 65536 s (State.pushReq s x1) := by
  unfold State.pushReq
  try dsimp only
  repeat' first
    | with_reducible apply Foot.refl
    | with_reducible_and_instances rfl
    | with_reducible apply Foot.evq

theorem State.hostArm_foot {s x1 x2} : Foot 65536 s (State.hostArm s x1 x2) := by
  unfold State.hostArm
  try dsimp only
  repeat' first
    | with_reducible apply Foot.refl
    | with_reducible_and_instances rfl
    | with_reducible apply Foot.via State.pushReq_foot
    | with_reducible apply Foot.evq

theorem execEvqArm_foot {x0 s t} (h : execEvqArm x0 s = .next t) : Foot 65536 s t := by
  unfold execEvqArm at h
  injection h with h
  subst h
  try dsimp only
  repeat' first
    | with_reducible apply Foot.refl
    | with_reducible_and_instances rfl
    | with_reducible apply Foot.via State.hostArm_foot
    | with_reducible apply Foot.ite
    | split
    | dsimp only

theorem execEvqCanCmd_foot {x0 s t} (h : execEvqCanCmd x0 s = .next t) : Foot 65536 s t := by
  unfold execEvqCanCmd at h
  injection h with h
  subst h
  try dsimp only
  repeat' first
    | with_reducible apply Foot.refl
    | with_reducible_and_instances rfl
    | with_reducible apply Foot.via State.pushReq_foot
    | with_reducible apply Foot.ite
    | split
    | dsimp only

theorem execEvqCntClr_foot {x0 s t} (h : execEvqCntClr x0 s = .next t) : Foot 65536 s t := by
  unfold execEvqCntClr at h
  injection h with h
  subst h
  try dsimp only
  repeat' first
    | with_reducible apply Foot.refl
    | with_reducible_and_instances rfl
    | with_reducible apply Foot.ite
    | split
    | with_reducible apply Foot.evq
    | dsimp only

theorem execEvqRlostClr_foot {s t} (h : execEvqRlostClr s = .next t) : Foot 65536 s t := by
  unfold execEvqRlostClr at h
  injection h with h
  subst h
  try dsimp only
  repeat' first
    | with_reducible apply Foot.refl
    | with_reducible_and_instances rfl
    | with_reducible apply Foot.evq
    | dsimp only

theorem State.armResult_foot {s x1} : Foot 65536 s (State.armResult s x1) := by
  unfold State.armResult
  try dsimp only
  repeat' first
    | with_reducible apply Foot.refl
    | with_reducible_and_instances rfl
    | with_reducible apply Foot.ite
    | split
    | with_reducible apply Foot.evq

theorem State.armDone_foot {s x1 x2 x3 x4 x5} : Foot 151191552 s (State.armDone s x1 x2 x3 x4 x5) := by
  unfold State.armDone
  try dsimp only
  repeat' first
    | with_reducible apply Foot.refl
    | with_reducible_and_instances rfl
    | with_reducible apply Foot.via State.areq_foot
    | with_reducible apply Foot.via State.armResult_foot
    | with_reducible apply Foot.via State.finishPacket_foot
    | split
    | with_reducible apply Foot.evq

theorem State.armFail_foot {s x1 x2 x3 x4} : Foot 151191552 s (State.armFail s x1 x2 x3 x4) := by
  unfold State.armFail
  try dsimp only
  repeat' first
    | with_reducible apply Foot.refl
    | with_reducible_and_instances rfl
    | with_reducible apply Foot.via State.armDone_foot
    | with_reducible apply Foot.evq

theorem State.armChecks_foot {s x1 x2 x3} : Foot 419628544 s (State.armChecks s x1 x2 x3) := by
  unfold State.armChecks
  try dsimp only
  repeat' first
    | with_reducible apply Foot.refl
    | with_reducible_and_instances rfl
    | with_reducible apply Foot.via State.armDone_foot
    | with_reducible apply Foot.via State.armFail_foot
    | with_reducible apply Foot.via State.headNext_foot
    | with_reducible apply Foot.via State.insertEntry_foot
    | with_reducible apply Foot.via State.latTouchN_foot
    | with_reducible apply Foot.via State.report_foot
    | with_reducible apply Foot.ite
    | split
    | with_reducible apply Foot.evq

theorem State.rearmOne_foot {s x1 x2} : Foot 419497472 s (State.rearmOne s x1 x2) := by
  unfold State.rearmOne
  try dsimp only
  repeat' first
    | with_reducible apply Foot.refl
    | with_reducible_and_instances rfl
    | with_reducible apply Foot.via State.headNext_foot
    | with_reducible apply Foot.via State.latTouchN_foot
    | with_reducible apply Foot.via State.outcome_foot
    | with_reducible apply Foot.via State.reportCycle_foot
    | with_reducible apply Foot.via State.setQueue_foot
    | with_reducible apply Foot.ite
    | split

theorem State.cancelDone_foot {s x1 x2 x3 x4 x5} : Foot 151191552 s (State.cancelDone s x1 x2 x3 x4 x5) := by
  unfold State.cancelDone
  try dsimp only
  repeat' first
    | with_reducible apply Foot.refl
    | with_reducible_and_instances rfl
    | with_reducible apply Foot.via State.areq_foot
    | with_reducible apply Foot.via State.armDone_foot
    | with_reducible apply Foot.via State.finishPacket_foot
    | split
    | with_reducible apply Foot.evq

theorem State.pulseEndFire_foot {s x1} : Foot 419497472 s (State.pulseEndFire s x1) := by
  unfold State.pulseEndFire
  try dsimp only
  repeat' first
    | with_reducible apply Foot.refl
    | with_reducible_and_instances rfl
    | with_reducible apply Foot.via State.fireEnd_foot
    | with_reducible apply Foot.via State.headNext_foot
    | with_reducible apply Foot.via State.retireEnd_foot
    | with_reducible apply Foot.ite
    | split

theorem State.cancelTag_foot {s x1 x2} : Foot 419497472 s (State.cancelTag s x1 x2).1 := by
  unfold State.cancelTag
  try dsimp only
  repeat' first
    | with_reducible apply Foot.refl
    | with_reducible_and_instances rfl
    | with_reducible apply Foot.via State.dropEntries_foot
    | with_reducible apply Foot.via State.headNext_foot
    | with_reducible apply Foot.via State.pulseEndFire_foot
    | with_reducible apply Foot.via State.setQueue_foot
    | with_reducible apply Foot.ite
    | split
    | dsimp only

theorem State.cancelTag_foot' {s x1 x2 t c0} (h : State.cancelTag s x1 x2 = (t, c0)) : Foot 419497472 s t := by
  have k : Foot 419497472 s (State.cancelTag s x1 x2).1 := State.cancelTag_foot
  rwa [h] at k

theorem State.cancelTags_foot {s x1 x2 x3 x4 x5} : Foot 419497472 s (State.cancelTags s x1 x2 x3 x4 x5).1 := by
  induction x3 generalizing s x2 x4 x5 with
  | zero => simp only [State.cancelTags]; exact Foot.refl
  | succ n ih =>
    rw [State.cancelTags]
    try dsimp only
    repeat' first
      | with_reducible apply Foot.refl
      | with_reducible assumption
      | with_reducible_and_instances rfl
      | with_reducible apply Foot.then_ ih
      | with_reducible apply Foot.via State.cancelTag_foot
      | with_reducible refine Foot.via (State.cancelTag_foot' (by assumption)) (by decide) ?_
      | split
      | dsimp only

theorem State.cancelTags_foot' {s x1 x2 x3 x4 x5 t c0} (h : State.cancelTags s x1 x2 x3 x4 x5 = (t, c0)) : Foot 419497472 s t := by
  have k : Foot 419497472 s (State.cancelTags s x1 x2 x3 x4 x5).1 := State.cancelTags_foot
  rwa [h] at k

theorem State.dropBad_foot {s x1} : Foot 65536 s (State.dropBad s x1) := by
  induction x1 generalizing s  with
  | nil => simp only [State.dropBad]; exact Foot.refl
  | cons v vs ih =>
    rw [State.dropBad]
    try dsimp only
    repeat' first
      | with_reducible apply Foot.refl
      | with_reducible assumption
      | with_reducible_and_instances rfl
      | with_reducible apply Foot.then_ ih
      | with_reducible apply Foot.via State.unlock_foot

theorem State.eventFire_foot {s x1} : Foot 419497472 s (State.eventFire s x1) := by
  unfold State.eventFire
  try dsimp only
  repeat' first
    | with_reducible apply Foot.refl
    | with_reducible_and_instances rfl
    | with_reducible apply Foot.via State.fireEntry_foot
    | with_reducible apply Foot.via State.headNext_foot
    | with_reducible apply Foot.via State.setQueue_foot
    | with_reducible apply Foot.ite
    | split

theorem State.rebuildOut_foot {s x1} : Foot 419497472 s (State.rebuildOut s x1) := by
  unfold State.rebuildOut
  try dsimp only
  repeat' first
    | with_reducible apply Foot.refl
    | with_reducible_and_instances rfl
    | with_reducible apply Foot.via State.dropBad_foot
    | with_reducible apply Foot.via State.fireEnd_foot
    | with_reducible apply Foot.via State.pulseEndFire_foot
    | with_reducible apply Foot.via State.setActive_foot
    | with_reducible apply Foot.via State.setQueue_foot
    | with_reducible apply Foot.ite
    | split
    | dsimp only

theorem State.entryRebuilt_foot {s x1} : Foot 419497472 s (State.entryRebuilt s x1) := by
  unfold State.entryRebuilt
  try dsimp only
  repeat' first
    | with_reducible apply Foot.refl
    | with_reducible_and_instances rfl
    | with_reducible apply Foot.via State.eventFire_foot
    | with_reducible apply Foot.via State.fireEntry_foot
    | with_reducible apply Foot.via State.headNext_foot
    | with_reducible apply Foot.via State.rebuildOut_foot
    | with_reducible apply Foot.via State.setQueue_foot
    | with_reducible apply Foot.ite
    | split

theorem execArmRecordRead_foot {s t} (h : execArmRecordRead s = .next t) : Foot 419628544 s t := by
  unfold execArmRecordRead at h
  injection h with h
  subst h
  try dsimp only
  repeat' first
    | with_reducible apply Foot.refl
    | with_reducible_and_instances rfl
    | with_reducible apply Foot.via State.armChecks_foot
    | split
    | dsimp only

theorem execArmRequest_foot {s t} (h : execArmRequest s = .next t) : Foot 151191552 s t := by
  unfold execArmRequest at h
  injection h with h
  subst h
  try dsimp only
  repeat' first
    | with_reducible apply Foot.refl
    | with_reducible_and_instances rfl
    | with_reducible apply Foot.via State.armDone_foot
    | with_reducible apply Foot.ite
    | split
    | with_reducible apply Foot.evq
    | dsimp only

theorem execCancelRequest_foot {s t} (h : execCancelRequest s = .next t) : Foot 419628544 s t := by
  unfold execCancelRequest at h
  injection h with h
  subst h
  try dsimp only
  repeat' first
    | with_reducible apply Foot.refl
    | with_reducible_and_instances rfl
    | with_reducible apply Foot.via State.cancelDone_foot
    | with_reducible apply Foot.via State.cancelTags_foot
    | with_reducible refine Foot.via (State.cancelTags_foot' (by assumption)) (by decide) ?_
    | with_reducible exact (execArmRequest_foot (by assumption)).mono (by decide)
    | with_reducible refine Foot.via (execArmRequest_foot (by assumption)) (by decide) ?_
    | with_reducible apply Foot.ite
    | split
    | with_reducible apply Foot.evq
    | dsimp only

theorem execEvqRcpCmd_foot {x0 s t} (h : execEvqRcpCmd x0 s = .next t) : Foot 16842752 s t := by
  unfold execEvqRcpCmd at h
  injection h with h
  subst h
  try dsimp only
  repeat' first
    | with_reducible apply Foot.refl
    | with_reducible_and_instances rfl
    | with_reducible apply Foot.via State.requestSwap_foot
    | with_reducible apply Foot.ite
    | split
    | dsimp only

theorem execGuardExpiry_foot {x0 s t} (h : execGuardExpiry x0 s = .next t) : Foot 419497472 s t := by
  unfold execGuardExpiry at h
  injection h with h
  subst h
  try dsimp only
  repeat' first
    | with_reducible apply Foot.refl
    | with_reducible_and_instances rfl
    | with_reducible apply Foot.via State.dropEntries_foot
    | with_reducible apply Foot.via State.headNext_foot
    | with_reducible apply Foot.via State.setQueue_foot
    | with_reducible apply Foot.ite
    | split
    | dsimp only

theorem execStartStatus_foot {s t} (h : execStartStatus s = .next t) : Foot 419497472 s t := by
  unfold execStartStatus at h
  injection h with h
  subst h
  try dsimp only
  repeat' first
    | with_reducible apply Foot.refl
    | with_reducible_and_instances rfl
    | with_reducible apply Foot.via State.headNext_foot
    | with_reducible apply Foot.via State.outcome_foot
    | with_reducible apply Foot.via State.pulseEndFire_foot
    | with_reducible apply Foot.via State.retireEnd_foot
    | with_reducible apply Foot.via State.setActive_foot
    | with_reducible apply Foot.ite
    | split
    | with_reducible apply Foot.evq
    | dsimp only

end Sys2Proof.Machine
end

