-- ==== Sys2Proof/Laws/FootSync.lean ====
section
/-! SUPPORT. Footprints of the operations of Machine/Sync.lean. -/

namespace Sys2Proof.Machine

theorem State.floorArm_foot {s} : Foot 8192 s (State.floorArm s) := by
  unfold State.floorArm
  try dsimp only
  repeat' first
    | with_reducible apply Foot.refl
    | with_reducible_and_instances rfl
    | with_reducible apply Foot.wheel

theorem State.rearmHeld_foot {s} : Foot 268435456 s (State.rearmHeld s) := by
  unfold State.rearmHeld
  try dsimp only
  repeat' first
    | with_reducible apply Foot.refl
    | with_reducible_and_instances rfl
    | with_reducible apply Foot.via State.rearmStop_foot
    | with_reducible apply Foot.ite
    | split

theorem State.stopTangent_foot {s x1 x2} : Foot 32768 s (State.stopTangent s x1 x2) := by
  unfold State.stopTangent
  try dsimp only
  repeat' first
    | with_reducible apply Foot.refl
    | with_reducible_and_instances rfl
    | with_reducible apply Foot.tan

theorem State.go_foot {s x1 x2 x3 x4} : Foot 428729856 s (State.go s x1 x2 x3 x4) := by
  unfold State.go
  extract_lets v_from wasFull old isFull s1 keeps sflt old_1 s2 old_2 old_3 s3 s4 s5 all
  clear_value v_from
  clear_value wasFull
  clear_value old
  clear_value isFull
  have h_s1 : Foot 428729856 s s1 := by
    simp only [s1]
    repeat' first
      | with_reducible apply Foot.refl
      | with_reducible apply Foot.id_
      | with_reducible assumption
      | with_reducible_and_instances rfl
      | with_reducible apply Foot.via State.arcsEndAll_foot
      | with_reducible apply Foot.via State.arrive_foot
      | with_reducible apply Foot.via State.cancelSync_foot
      | with_reducible apply Foot.via State.floorArm_foot
      | with_reducible apply Foot.via State.newPeriod_foot
      | with_reducible apply Foot.via State.rearmHeld_foot
      | with_reducible apply Foot.via State.stopTangent_foot
      | with_reducible apply Foot.ite
      | with_reducible apply Foot.forUpTo
      | with_reducible apply Foot.foldl
      | with_reducible intro _ _
      | split
      | with_reducible apply Foot.sync
      | with_reducible apply Foot.tan
      | with_reducible apply Foot.twn
      | with_reducible refine Foot.many rfl (h := ?_)
      | dsimp only
  clear_value s1
  clear_value keeps
  clear_value sflt
  clear_value old_1
  have h_s2 : Foot 428729856 s s2 := by
    simp only [s2]
    repeat' first
      | with_reducible apply Foot.refl
      | with_reducible apply Foot.id_
      | with_reducible assumption
      | with_reducible_and_instances rfl
      | with_reducible apply Foot.via State.arcsEndAll_foot
      | with_reducible apply Foot.via State.arrive_foot
      | with_reducible apply Foot.via State.cancelSync_foot
      | with_reducible apply Foot.via State.floorArm_foot
      | with_reducible apply Foot.via State.newPeriod_foot
      | with_reducible apply Foot.via State.rearmHeld_foot
      | with_reducible apply Foot.via State.stopTangent_foot
      | with_reducible apply Foot.ite
      | with_reducible apply Foot.forUpTo
      | with_reducible apply Foot.foldl
      | with_reducible intro _ _
      | split
      | with_reducible apply Foot.sync
      | with_reducible apply Foot.tan
      | with_reducible apply Foot.twn
      | with_reducible refine Foot.many rfl (h := ?_)
      | dsimp only
  clear_value s2
  have h_old_2 : Foot 428729856 s old_2 := by
    simp only [old_2]
    repeat' first
      | with_reducible apply Foot.refl
      | with_reducible apply Foot.id_
      | with_reducible assumption
      | with_reducible_and_instances rfl
      | with_reducible apply Foot.via State.arcsEndAll_foot
      | with_reducible apply Foot.via State.arrive_foot
      | with_reducible apply Foot.via State.cancelSync_foot
      | with_reducible apply Foot.via State.floorArm_foot
      | with_reducible apply Foot.via State.newPeriod_foot
      | with_reducible apply Foot.via State.rearmHeld_foot
      | with_reducible apply Foot.via State.stopTangent_foot
      | with_reducible apply Foot.ite
      | with_reducible apply Foot.forUpTo
      | with_reducible apply Foot.foldl
      | with_reducible intro _ _
      | split
      | with_reducible apply Foot.sync
      | with_reducible apply Foot.tan
      | with_reducible apply Foot.twn
      | with_reducible refine Foot.many rfl (h := ?_)
      | dsimp only
  clear_value old_2
  clear_value old_3
  have h_s3 : Foot 428729856 s s3 := by
    simp only [s3]
    repeat' first
      | with_reducible apply Foot.refl
      | with_reducible apply Foot.id_
      | with_reducible assumption
      | with_reducible_and_instances rfl
      | with_reducible apply Foot.via State.arcsEndAll_foot
      | with_reducible apply Foot.via State.arrive_foot
      | with_reducible apply Foot.via State.cancelSync_foot
      | with_reducible apply Foot.via State.floorArm_foot
      | with_reducible apply Foot.via State.newPeriod_foot
      | with_reducible apply Foot.via State.rearmHeld_foot
      | with_reducible apply Foot.via State.stopTangent_foot
      | with_reducible apply Foot.ite
      | with_reducible apply Foot.forUpTo
      | with_reducible apply Foot.foldl
      | with_reducible intro _ _
      | split
      | with_reducible apply Foot.sync
      | with_reducible apply Foot.tan
      | with_reducible apply Foot.twn
      | with_reducible refine Foot.many rfl (h := ?_)
      | dsimp only
  clear_value s3
  have h_s4 : Foot 428729856 s s4 := by
    simp only [s4]
    repeat' first
      | with_reducible apply Foot.refl
      | with_reducible apply Foot.id_
      | with_reducible assumption
      | with_reducible_and_instances rfl
      | with_reducible apply Foot.via State.arcsEndAll_foot
      | with_reducible apply Foot.via State.arrive_foot
      | with_reducible apply Foot.via State.cancelSync_foot
      | with_reducible apply Foot.via State.floorArm_foot
      | with_reducible apply Foot.via State.newPeriod_foot
      | with_reducible apply Foot.via State.rearmHeld_foot
      | with_reducible apply Foot.via State.stopTangent_foot
      | with_reducible apply Foot.ite
      | with_reducible apply Foot.forUpTo
      | with_reducible apply Foot.foldl
      | with_reducible intro _ _
      | split
      | with_reducible apply Foot.sync
      | with_reducible apply Foot.tan
      | with_reducible apply Foot.twn
      | with_reducible refine Foot.many rfl (h := ?_)
      | dsimp only
  clear_value s4
  have h_s5 : Foot 428729856 s s5 := by
    simp only [s5]
    repeat' first
      | with_reducible apply Foot.refl
      | with_reducible apply Foot.id_
      | with_reducible assumption
      | with_reducible_and_instances rfl
      | with_reducible apply Foot.via State.arcsEndAll_foot
      | with_reducible apply Foot.via State.arrive_foot
      | with_reducible apply Foot.via State.cancelSync_foot
      | with_reducible apply Foot.via State.floorArm_foot
      | with_reducible apply Foot.via State.newPeriod_foot
      | with_reducible apply Foot.via State.rearmHeld_foot
      | with_reducible apply Foot.via State.stopTangent_foot
      | with_reducible apply Foot.ite
      | with_reducible apply Foot.forUpTo
      | with_reducible apply Foot.foldl
      | with_reducible intro _ _
      | split
      | with_reducible apply Foot.sync
      | with_reducible apply Foot.tan
      | with_reducible apply Foot.twn
      | with_reducible refine Foot.many rfl (h := ?_)
      | dsimp only
  clear_value s5
  clear_value all
  repeat' first
    | with_reducible apply Foot.refl
    | with_reducible apply Foot.id_
    | with_reducible assumption
    | with_reducible_and_instances rfl
    | with_reducible apply Foot.via State.arcsEndAll_foot
    | with_reducible apply Foot.via State.arrive_foot
    | with_reducible apply Foot.via State.cancelSync_foot
    | with_reducible apply Foot.via State.floorArm_foot
    | with_reducible apply Foot.via State.newPeriod_foot
    | with_reducible apply Foot.via State.rearmHeld_foot
    | with_reducible apply Foot.via State.stopTangent_foot
    | with_reducible apply Foot.ite
    | with_reducible apply Foot.forUpTo
    | with_reducible apply Foot.foldl
    | with_reducible intro _ _
    | split
    | with_reducible apply Foot.sync
    | with_reducible apply Foot.tan
    | with_reducible apply Foot.twn
    | with_reducible refine Foot.many rfl (h := ?_)
    | dsimp only

theorem State.goReport_foot {s x1 x2 x3 x4} : Foot 428729856 s (State.goReport s x1 x2 x3 x4) := by
  unfold State.goReport
  try dsimp only
  repeat' first
    | with_reducible apply Foot.refl
    | with_reducible apply Foot.id_
    | with_reducible_and_instances rfl
    | with_reducible apply Foot.via State.go_foot
    | with_reducible apply Foot.via State.report_foot
    | with_reducible apply Foot.ite
    | with_reducible apply Foot.forUpTo
    | with_reducible apply Foot.foldl
    | with_reducible intro _ _
    | split
    | dsimp only

theorem State.found_foot {s x1} : Foot 16384 s (State.found s x1) := by
  unfold State.found
  try dsimp only
  repeat' first
    | with_reducible apply Foot.refl
    | with_reducible_and_instances rfl
    | with_reducible apply Foot.sync

theorem State.syncErr_foot {s} : Foot 16794624 s (State.syncErr s) := by
  unfold State.syncErr
  try dsimp only
  repeat' first
    | with_reducible apply Foot.refl
    | with_reducible_and_instances rfl
    | with_reducible apply Foot.via State.found_foot
    | with_reducible apply Foot.via State.report_foot
    | with_reducible apply Foot.ite
    | split
    | with_reducible apply Foot.sync

end Sys2Proof.Machine
end

