-- ==== Sys2Proof/Laws/FootTangent.lean ====
section
/-! SUPPORT. Footprints of the operations of Machine/Tangent.lean. -/

namespace Sys2Proof.Machine

theorem State.applyGeo_foot {s} : Foot 32768 s (State.applyGeo s) := by
  unfold State.applyGeo
  try dsimp only
  repeat' first
    | with_reducible apply Foot.refl
    | with_reducible_and_instances rfl
    | split
    | with_reducible apply Foot.tan

theorem State.install_foot {s x1} : Foot 32768 s (State.install s x1) := by
  unfold State.install
  try dsimp only
  repeat' first
    | with_reducible apply Foot.refl
    | with_reducible_and_instances rfl
    | with_reducible apply Foot.tan

theorem State.xAnchor_foot {s x1} : Foot 32768 s (State.xAnchor s x1) := by
  unfold State.xAnchor
  try dsimp only
  repeat' first
    | with_reducible apply Foot.refl
    | with_reducible_and_instances rfl
    | split
    | with_reducible apply Foot.tan

theorem State.startAt_foot {s x1 x2 x3 x4 x5 x6} : Foot 32768 s (State.startAt s x1 x2 x3 x4 x5 x6) := by
  unfold State.startAt
  try dsimp only
  repeat' first
    | with_reducible apply Foot.refl
    | with_reducible_and_instances rfl
    | with_reducible apply Foot.via State.applyGeo_foot
    | with_reducible apply Foot.via State.install_foot
    | with_reducible apply Foot.via State.xAnchor_foot
    | with_reducible apply Foot.ite
    | split
    | with_reducible apply Foot.tan

theorem State.stepAngle_foot {s x1 x2} : Foot 32768 s (State.stepAngle s x1 x2) := by
  unfold State.stepAngle
  try dsimp only
  repeat' first
    | with_reducible apply Foot.refl
    | with_reducible_and_instances rfl
    | with_reducible apply Foot.ite
    | split
    | with_reducible apply Foot.tan

theorem State.anchorNext_foot {s x1 x2 x3 x4 x5} : Foot 268435456 s (State.anchorNext s x1 x2 x3 x4 x5) := by
  unfold State.anchorNext
  try dsimp only
  repeat' first
    | with_reducible apply Foot.refl
    | with_reducible_and_instances rfl
    | with_reducible apply Foot.via State.later_foot
    | with_reducible apply Foot.ite
    | split

theorem State.camJudge_foot {s x1} : Foot 16384 s (State.camJudge s x1) := by
  unfold State.camJudge
  try dsimp only
  repeat' first
    | with_reducible apply Foot.refl
    | with_reducible_and_instances rfl
    | with_reducible apply Foot.ite
    | split
    | with_reducible apply Foot.sync

theorem State.camError_foot {s x1} : Foot 134234112 s (State.camError s x1) := by
  unfold State.camError
  try dsimp only
  repeat' first
    | with_reducible apply Foot.refl
    | with_reducible_and_instances rfl
    | with_reducible apply Foot.via State.hit_foot
    | with_reducible apply Foot.sync

theorem State.camUnmatched_foot {s x1} : Foot 134234112 s (State.camUnmatched s x1) := by
  unfold State.camUnmatched
  try dsimp only
  repeat' first
    | with_reducible apply Foot.refl
    | with_reducible_and_instances rfl
    | with_reducible apply Foot.via State.camError_foot
    | with_reducible apply Foot.ite
    | with_reducible apply Foot.foldl
    | with_reducible intro _ _
    | split
    | dsimp only

theorem State.camAtB_foot {s} : Foot 151012352 s (State.camAtB s) := by
  unfold State.camAtB
  try dsimp only
  repeat' first
    | with_reducible apply Foot.refl
    | with_reducible_and_instances rfl
    | with_reducible apply Foot.via State.camJudge_foot
    | with_reducible apply Foot.via State.camUnmatched_foot
    | with_reducible apply Foot.via State.found_foot
    | with_reducible apply Foot.via State.report_foot
    | with_reducible apply Foot.via State.reportCycle_foot
    | with_reducible apply Foot.ite
    | with_reducible apply Foot.forUpTo
    | with_reducible intro _ _
    | split
    | with_reducible apply Foot.sync
    | dsimp only

theorem State.captureImage_foot {s x1} : Foot 553648128 s (State.captureImage s x1) := by
  unfold State.captureImage
  try dsimp only
  repeat' first
    | with_reducible apply Foot.refl
    | with_reducible_and_instances rfl
    | with_reducible apply Foot.via State.twnSend_foot
    | with_reducible apply Foot.image

theorem State.commitAtB_foot {s x1} : Foot 16777280 s (State.commitAtB s x1) := by
  unfold State.commitAtB
  try dsimp only
  repeat' first
    | with_reducible apply Foot.refl
    | with_reducible_and_instances rfl
    | with_reducible apply Foot.ite
    | split
    | with_reducible apply Foot.commit
    | with_reducible apply Foot.twn
    | with_reducible refine Foot.many rfl (h := ?_)

theorem State.errorsAtB_foot {s x1} : Foot 16811008 s (State.errorsAtB s x1) := by
  unfold State.errorsAtB
  try dsimp only
  repeat' first
    | with_reducible apply Foot.refl
    | with_reducible_and_instances rfl
    | with_reducible apply Foot.via State.arrive_foot
    | with_reducible apply Foot.via State.report_foot
    | with_reducible apply Foot.ite
    | split
    | with_reducible apply Foot.tan

theorem State.boundary_foot {s x1} : Foot 956417600 s (State.boundary s x1) := by
  unfold State.boundary
  try dsimp only
  repeat' first
    | with_reducible apply Foot.refl
    | with_reducible_and_instances rfl
    | with_reducible apply Foot.via State.camAtB_foot
    | with_reducible apply Foot.via State.captureImage_foot
    | with_reducible apply Foot.via State.commitAtB_foot
    | with_reducible apply Foot.via State.errorsAtB_foot
    | with_reducible apply Foot.via State.keyRange_foot
    | with_reducible apply Foot.via State.later_foot
    | with_reducible apply Foot.via State.newPeriod_foot
    | with_reducible apply Foot.via State.outAtB_foot
    | with_reducible apply Foot.via State.rearm_foot
    | with_reducible apply Foot.via State.swapAt_foot
    | with_reducible apply Foot.ite
    | with_reducible apply Foot.forUpTo
    | with_reducible intro _ _
    | split
    | with_reducible apply Foot.sync
    | with_reducible apply Foot.tan
    | with_reducible apply Foot.twn
    | with_reducible refine Foot.many rfl (h := ?_)
    | dsimp only

theorem State.learn_foot {s x1 x2} : Foot 16811008 s (State.learn s x1 x2) := by
  unfold State.learn
  try dsimp only
  repeat' first
    | with_reducible apply Foot.refl
    | with_reducible_and_instances rfl
    | with_reducible apply Foot.via State.reportCycle_foot
    | with_reducible apply Foot.ite
    | with_reducible apply Foot.foldl
    | with_reducible intro _ _
    | split
    | with_reducible apply Foot.tan
    | dsimp only

theorem State.learnRev_foot {s x1} : Foot 16811008 s (State.learnRev s x1) := by
  unfold State.learnRev
  try dsimp only
  repeat' first
    | with_reducible apply Foot.refl
    | with_reducible_and_instances rfl
    | with_reducible apply Foot.via State.reportCycle_foot
    | with_reducible apply Foot.ite
    | split
    | with_reducible apply Foot.tan
    | dsimp only

theorem State.predError_foot {s x1 x2} : Foot 32768 s (State.predError s x1 x2) := by
  unfold State.predError
  try dsimp only
  repeat' first
    | with_reducible apply Foot.refl
    | with_reducible_and_instances rfl
    | with_reducible apply Foot.ite
    | split
    | with_reducible apply Foot.tan

theorem State.anchorAt_foot {s x1 x2 x3 x4 x5} : Foot 956417600 s (State.anchorAt s x1 x2 x3 x4 x5) := by
  unfold State.anchorAt
  extract_lets old a4 s1 b1 s2 a seg old_1 s3 a5 u5 atB d early old_2 s4 old_3 j s5 s6 gone s7
  clear_value old
  clear_value a4
  have h_s1 : Foot 956417600 s s1 := by
    simp only [s1]
    repeat' first
      | with_reducible apply Foot.refl
      | with_reducible assumption
      | with_reducible_and_instances rfl
      | with_reducible apply Foot.via State.anchorNext_foot
      | with_reducible apply Foot.via State.applyGeo_foot
      | with_reducible apply Foot.via State.boundary_foot
      | with_reducible apply Foot.via State.learn_foot
      | with_reducible apply Foot.via State.learnRev_foot
      | with_reducible apply Foot.via State.predError_foot
      | with_reducible apply Foot.via State.setAside_foot
      | with_reducible apply Foot.via State.xAnchor_foot
      | with_reducible apply Foot.ite
      | with_reducible apply Foot.forUpTo
      | with_reducible intro _ _
      | split
      | with_reducible apply Foot.tan
      | dsimp only
  clear_value s1
  clear_value b1
  have h_s2 : Foot 956417600 s s2 := by
    simp only [s2]
    repeat' first
      | with_reducible apply Foot.refl
      | with_reducible assumption
      | with_reducible_and_instances rfl
      | with_reducible apply Foot.via State.anchorNext_foot
      | with_reducible apply Foot.via State.applyGeo_foot
      | with_reducible apply Foot.via State.boundary_foot
      | with_reducible apply Foot.via State.learn_foot
      | with_reducible apply Foot.via State.learnRev_foot
      | with_reducible apply Foot.via State.predError_foot
      | with_reducible apply Foot.via State.setAside_foot
      | with_reducible apply Foot.via State.xAnchor_foot
      | with_reducible apply Foot.ite
      | with_reducible apply Foot.forUpTo
      | with_reducible intro _ _
      | split
      | with_reducible apply Foot.tan
      | dsimp only
  clear_value s2
  clear_value a
  clear_value seg
  clear_value old_1
  have h_s3 : Foot 956417600 s s3 := by
    simp only [s3]
    repeat' first
      | with_reducible apply Foot.refl
      | with_reducible assumption
      | with_reducible_and_instances rfl
      | with_reducible apply Foot.via State.anchorNext_foot
      | with_reducible apply Foot.via State.applyGeo_foot
      | with_reducible apply Foot.via State.boundary_foot
      | with_reducible apply Foot.via State.learn_foot
      | with_reducible apply Foot.via State.learnRev_foot
      | with_reducible apply Foot.via State.predError_foot
      | with_reducible apply Foot.via State.setAside_foot
      | with_reducible apply Foot.via State.xAnchor_foot
      | with_reducible apply Foot.ite
      | with_reducible apply Foot.forUpTo
      | with_reducible intro _ _
      | split
      | with_reducible apply Foot.tan
      | dsimp only
  clear_value s3
  clear_value a5
  clear_value u5
  clear_value atB
  clear_value d
  clear_value early
  clear_value old_2
  have h_s4 : Foot 956417600 s s4 := by
    simp only [s4]
    repeat' first
      | with_reducible apply Foot.refl
      | with_reducible assumption
      | with_reducible_and_instances rfl
      | with_reducible apply Foot.via State.anchorNext_foot
      | with_reducible apply Foot.via State.applyGeo_foot
      | with_reducible apply Foot.via State.boundary_foot
      | with_reducible apply Foot.via State.learn_foot
      | with_reducible apply Foot.via State.learnRev_foot
      | with_reducible apply Foot.via State.predError_foot
      | with_reducible apply Foot.via State.setAside_foot
      | with_reducible apply Foot.via State.xAnchor_foot
      | with_reducible apply Foot.ite
      | with_reducible apply Foot.forUpTo
      | with_reducible intro _ _
      | split
      | with_reducible apply Foot.tan
      | dsimp only
  clear_value s4
  clear_value old_3
  have h_j : Foot 956417600 s j := by
    simp only [j]
    repeat' first
      | with_reducible apply Foot.refl
      | with_reducible assumption
      | with_reducible_and_instances rfl
      | with_reducible apply Foot.via State.anchorNext_foot
      | with_reducible apply Foot.via State.applyGeo_foot
      | with_reducible apply Foot.via State.boundary_foot
      | with_reducible apply Foot.via State.learn_foot
      | with_reducible apply Foot.via State.learnRev_foot
      | with_reducible apply Foot.via State.predError_foot
      | with_reducible apply Foot.via State.setAside_foot
      | with_reducible apply Foot.via State.xAnchor_foot
      | with_reducible apply Foot.ite
      | with_reducible apply Foot.forUpTo
      | with_reducible intro _ _
      | split
      | with_reducible apply Foot.tan
      | dsimp only
  clear_value j
  have h_s5 : Foot 956417600 s s5 := by
    simp only [s5]
    repeat' first
      | with_reducible apply Foot.refl
      | with_reducible assumption
      | with_reducible_and_instances rfl
      | with_reducible apply Foot.via State.anchorNext_foot
      | with_reducible apply Foot.via State.applyGeo_foot
      | with_reducible apply Foot.via State.boundary_foot
      | with_reducible apply Foot.via State.learn_foot
      | with_reducible apply Foot.via State.learnRev_foot
      | with_reducible apply Foot.via State.predError_foot
      | with_reducible apply Foot.via State.setAside_foot
      | with_reducible apply Foot.via State.xAnchor_foot
      | with_reducible apply Foot.ite
      | with_reducible apply Foot.forUpTo
      | with_reducible intro _ _
      | split
      | with_reducible apply Foot.tan
      | dsimp only
  clear_value s5
  have h_s6 : Foot 956417600 s s6 := by
    simp only [s6]
    repeat' first
      | with_reducible apply Foot.refl
      | with_reducible assumption
      | with_reducible_and_instances rfl
      | with_reducible apply Foot.via State.anchorNext_foot
      | with_reducible apply Foot.via State.applyGeo_foot
      | with_reducible apply Foot.via State.boundary_foot
      | with_reducible apply Foot.via State.learn_foot
      | with_reducible apply Foot.via State.learnRev_foot
      | with_reducible apply Foot.via State.predError_foot
      | with_reducible apply Foot.via State.setAside_foot
      | with_reducible apply Foot.via State.xAnchor_foot
      | with_reducible apply Foot.ite
      | with_reducible apply Foot.forUpTo
      | with_reducible intro _ _
      | split
      | with_reducible apply Foot.tan
      | dsimp only
  clear_value s6
  clear_value gone
  have h_s7 : Foot 956417600 s s7 := by
    simp only [s7]
    repeat' first
      | with_reducible apply Foot.refl
      | with_reducible assumption
      | with_reducible_and_instances rfl
      | with_reducible apply Foot.via State.anchorNext_foot
      | with_reducible apply Foot.via State.applyGeo_foot
      | with_reducible apply Foot.via State.boundary_foot
      | with_reducible apply Foot.via State.learn_foot
      | with_reducible apply Foot.via State.learnRev_foot
      | with_reducible apply Foot.via State.predError_foot
      | with_reducible apply Foot.via State.setAside_foot
      | with_reducible apply Foot.via State.xAnchor_foot
      | with_reducible apply Foot.ite
      | with_reducible apply Foot.forUpTo
      | with_reducible intro _ _
      | split
      | with_reducible apply Foot.tan
      | dsimp only
  clear_value s7
  repeat' first
    | with_reducible apply Foot.refl
    | with_reducible assumption
    | with_reducible_and_instances rfl
    | with_reducible apply Foot.via State.anchorNext_foot
    | with_reducible apply Foot.via State.applyGeo_foot
    | with_reducible apply Foot.via State.boundary_foot
    | with_reducible apply Foot.via State.learn_foot
    | with_reducible apply Foot.via State.learnRev_foot
    | with_reducible apply Foot.via State.predError_foot
    | with_reducible apply Foot.via State.setAside_foot
    | with_reducible apply Foot.via State.xAnchor_foot
    | with_reducible apply Foot.ite
    | with_reducible apply Foot.forUpTo
    | with_reducible intro _ _
    | split
    | with_reducible apply Foot.tan
    | dsimp only

theorem execClrcnt_foot {s t} (h : execClrcnt s = .next t) : Foot 32768 s t := by
  unfold execClrcnt at h
  injection h with h
  subst h
  try dsimp only
  repeat' first
    | with_reducible apply Foot.refl
    | with_reducible_and_instances rfl
    | with_reducible apply Foot.ite
    | split
    | with_reducible apply Foot.tan
    | dsimp only

theorem State.clearGeo_foot {s} : Foot 32768 s (State.clearGeo s) := by
  unfold State.clearGeo
  try dsimp only
  repeat' first
    | with_reducible apply Foot.refl
    | with_reducible_and_instances rfl
    | with_reducible apply Foot.tan

theorem execClrgeo_foot {s t} (h : execClrgeo s = .next t) : Foot 32768 s t := by
  unfold execClrgeo at h
  injection h with h
  subst h
  try dsimp only
  repeat' first
    | with_reducible apply Foot.refl
    | with_reducible_and_instances rfl
    | with_reducible apply Foot.via State.clearGeo_foot
    | with_reducible apply Foot.ite
    | split
    | dsimp only

theorem execClrrip_foot {s t} (h : execClrrip s = .next t) : Foot 32768 s t := by
  unfold execClrrip at h
  injection h with h
  subst h
  try dsimp only
  repeat' first
    | with_reducible apply Foot.refl
    | with_reducible_and_instances rfl
    | with_reducible apply Foot.ite
    | split
    | with_reducible apply Foot.tan
    | dsimp only

theorem execLoad_foot {s t} (h : execLoad s = .next t) : Foot 32768 s t := by
  unfold execLoad at h
  injection h with h
  subst h
  try dsimp only
  repeat' first
    | with_reducible apply Foot.refl
    | with_reducible_and_instances rfl
    | with_reducible apply Foot.ite
    | split
    | with_reducible apply Foot.tan
    | dsimp only

theorem State.beginSave_foot {s} : Foot 32768 s (State.beginSave s) := by
  unfold State.beginSave
  try dsimp only
  repeat' first
    | with_reducible apply Foot.refl
    | with_reducible_and_instances rfl
    | with_reducible apply Foot.tan

theorem execSave_foot {s t} (h : execSave s = .next t) : Foot 32768 s t := by
  unfold execSave at h
  injection h with h
  subst h
  try dsimp only
  repeat' first
    | with_reducible apply Foot.refl
    | with_reducible_and_instances rfl
    | with_reducible apply Foot.via State.beginSave_foot
    | with_reducible apply Foot.ite
    | split
    | dsimp only

theorem State.catchUp_foot {s x1} : Foot 956417600 s (State.catchUp s x1) := by
  unfold State.catchUp
  try dsimp only
  repeat' first
    | with_reducible apply Foot.refl
    | with_reducible_and_instances rfl
    | with_reducible apply Foot.via State.boundary_foot
    | with_reducible refine Foot.inTick ?_ (fun _ => ?_)
    | split
    | dsimp only

theorem State.s16Edge_foot {s x1 x2} : Foot 32768 s (State.s16Edge s x1 x2) := by
  unfold State.s16Edge
  try dsimp only
  repeat' first
    | with_reducible apply Foot.refl
    | with_reducible_and_instances rfl
    | with_reducible apply Foot.foldl
    | with_reducible intro _ _
    | with_reducible apply Foot.tan

theorem execAngAccLoRead_foot {s t} (h : execAngAccLoRead s = .next t) : Foot 32768 s t := by
  unfold execAngAccLoRead at h
  injection h with h
  subst h
  try dsimp only
  repeat' first
    | with_reducible apply Foot.refl
    | with_reducible_and_instances rfl
    | with_reducible apply Foot.tan
    | dsimp only

theorem execAngS16PerlRead_foot {s t} (h : execAngS16PerlRead s = .next t) : Foot 32768 s t := by
  unfold execAngS16PerlRead at h
  injection h with h
  subst h
  try dsimp only
  repeat' first
    | with_reducible apply Foot.refl
    | with_reducible_and_instances rfl
    | with_reducible apply Foot.tan
    | dsimp only

theorem State.noLearn_foot {s} : Foot 32768 s (State.noLearn s) := by
  unfold State.noLearn
  try dsimp only
  repeat' first
    | with_reducible apply Foot.refl
    | with_reducible_and_instances rfl
    | with_reducible apply Foot.tan

theorem State.loadFail_foot {s x1 x2} : Foot 16811008 s (State.loadFail s x1 x2) := by
  unfold State.loadFail
  try dsimp only
  repeat' first
    | with_reducible apply Foot.refl
    | with_reducible_and_instances rfl
    | with_reducible apply Foot.via State.arrive_foot
    | with_reducible apply Foot.via State.report_foot
    | with_reducible apply Foot.tan

theorem State.takeTables_foot {s} : Foot 16811008 s (State.takeTables s) := by
  unfold State.takeTables
  try dsimp only
  repeat' first
    | with_reducible apply Foot.refl
    | with_reducible_and_instances rfl
    | with_reducible apply Foot.via State.arrive_foot
    | with_reducible apply Foot.via State.learnRev_foot
    | with_reducible apply Foot.via State.loadFail_foot
    | with_reducible apply Foot.via State.reportCycle_foot
    | with_reducible apply Foot.ite
    | split
    | with_reducible apply Foot.tan
    | dsimp only

theorem State.readTables_foot {s} : Foot 151029248 s (State.readTables s) := by
  unfold State.readTables
  try dsimp only
  repeat' first
    | with_reducible apply Foot.refl
    | with_reducible_and_instances rfl
    | with_reducible apply Foot.via State.latTouchN_foot
    | with_reducible apply Foot.via State.takeTables_foot

theorem State.writeTables_foot {s} : Foot 16777728 s (State.writeTables s) := by
  unfold State.writeTables
  try dsimp only
  repeat' first
    | with_reducible apply Foot.refl
    | with_reducible_and_instances rfl
    | with_reducible apply Foot.via State.latPut_foot
    | with_reducible apply Foot.via State.latPuts_foot
    | with_reducible apply Foot.forUpTo
    | with_reducible intro _ _
    | dsimp only

theorem execCycleBoundary_foot {s t} (h : execCycleBoundary s = .next t) : Foot 956417600 s t := by
  unfold execCycleBoundary at h
  injection h with h
  subst h
  try dsimp only
  repeat' first
    | with_reducible apply Foot.refl
    | with_reducible_and_instances rfl
    | with_reducible apply Foot.via State.catchUp_foot
    | dsimp only

theorem execOffsetRebuildDone_foot {s t} (h : execOffsetRebuildDone s = .next t) : Foot 32768 s t := by
  unfold execOffsetRebuildDone at h
  injection h with h
  subst h
  try dsimp only
  repeat' first
    | with_reducible apply Foot.refl
    | with_reducible_and_instances rfl
    | with_reducible apply Foot.ite
    | split
    | with_reducible apply Foot.tan
    | dsimp only

theorem execSpeedWindowStopped_foot {s t} (h : execSpeedWindowStopped s = .next t) : Foot 32768 s t := by
  unfold execSpeedWindowStopped at h
  injection h with h
  subst h
  try dsimp only
  repeat' first
    | with_reducible apply Foot.refl
    | with_reducible_and_instances rfl
    | with_reducible apply Foot.ite
    | split
    | with_reducible apply Foot.tan
    | dsimp only

theorem execTableReloadDone_foot {s t} (h : execTableReloadDone s = .next t) : Foot 956417600 s t := by
  unfold execTableReloadDone at h
  injection h with h
  subst h
  try dsimp only
  repeat' first
    | with_reducible apply Foot.refl
    | with_reducible_and_instances rfl
    | with_reducible apply Foot.via State.boundary_foot
    | with_reducible apply Foot.via State.readTables_foot
    | split
    | dsimp only

theorem execTableSaveDone_foot {s t} (h : execTableSaveDone s = .next t) : Foot 956417600 s t := by
  unfold execTableSaveDone at h
  injection h with h
  subst h
  try dsimp only
  repeat' first
    | with_reducible apply Foot.refl
    | with_reducible_and_instances rfl
    | with_reducible apply Foot.via State.arrive_foot
    | with_reducible apply Foot.via State.boundary_foot
    | with_reducible apply Foot.via State.writeTables_foot
    | split
    | with_reducible apply Foot.tan
    | dsimp only

end Sys2Proof.Machine
end

