-- ==== Sys2Proof/Laws/FootDrive.lean ====
section
/-! SUPPORT. Footprints of the operations of Machine/Drive.lean. -/

namespace Sys2Proof.Machine

theorem State.conflict_foot {s x1} : Foot 136314880 s (State.conflict s x1) := by
  unfold State.conflict
  try dsimp only
  repeat' first
    | with_reducible apply Foot.refl
    | with_reducible_and_instances rfl
    | with_reducible apply Foot.via State.hit_foot
    | with_reducible apply Foot.drv

theorem State.tellStart_foot {s x1 x2 x3 x4 x5 x6} : Foot 65536 s (State.tellStart s x1 x2 x3 x4 x5 x6) := by
  unfold State.tellStart
  try dsimp only
  repeat' first
    | with_reducible apply Foot.refl
    | with_reducible_and_instances rfl
    | with_reducible apply Foot.evq

theorem State.unwait_foot {s x1} : Foot 2097152 s (State.unwait s x1) := by
  unfold State.unwait
  try dsimp only
  repeat' first
    | with_reducible apply Foot.refl
    | with_reducible_and_instances rfl
    | with_reducible apply Foot.drv
    | dsimp only

theorem State.dropStart_foot {s x1 x2} : Foot 153158656 s (State.dropStart s x1 x2) := by
  unfold State.dropStart
  try dsimp only
  repeat' first
    | with_reducible apply Foot.refl
    | with_reducible_and_instances rfl
    | with_reducible apply Foot.via State.conflict_foot
    | with_reducible apply Foot.via State.hit_foot
    | with_reducible apply Foot.via State.reportCycle_foot
    | with_reducible apply Foot.via State.tellStart_foot
    | with_reducible apply Foot.via State.unwait_foot
    | with_reducible apply Foot.ite
    | split
    | with_reducible apply Foot.drv

theorem State.setBank_foot {s x1 x2} : Foot 2097152 s (State.setBank s x1 x2) := by
  unfold State.setBank
  try dsimp only
  repeat' first
    | with_reducible apply Foot.refl
    | with_reducible_and_instances rfl
    | with_reducible apply Foot.drv

theorem State.toDecay_foot {s x1} : Foot 2097152 s (State.toDecay s x1) := by
  unfold State.toDecay
  try dsimp only
  repeat' first
    | with_reducible apply Foot.refl
    | with_reducible_and_instances rfl
    | with_reducible apply Foot.via State.setBank_foot
    | with_reducible apply Foot.drv

theorem State.endPulse_foot {s x1} : Foot 2097152 s (State.endPulse s x1) := by
  unfold State.endPulse
  try dsimp only
  repeat' first
    | with_reducible apply Foot.refl
    | with_reducible_and_instances rfl
    | with_reducible apply Foot.via State.toDecay_foot
    | split

theorem State.bankStop_foot {s x1} : Foot 153158656 s (State.bankStop s x1) := by
  unfold State.bankStop
  try dsimp only
  repeat' first
    | with_reducible apply Foot.refl
    | with_reducible_and_instances rfl
    | with_reducible apply Foot.via State.dropStart_foot
    | with_reducible apply Foot.via State.endPulse_foot
    | with_reducible apply Foot.foldl
    | with_reducible intro _ _
    | dsimp only

theorem State.setBoost_foot {s x1 x2} : Foot 2097152 s (State.setBoost s x1 x2) := by
  unfold State.setBoost
  try dsimp only
  repeat' first
    | with_reducible apply Foot.refl
    | with_reducible_and_instances rfl
    | with_reducible apply Foot.ite
    | split
    | with_reducible apply Foot.drv

theorem State.profApply_foot {s x1} : Foot 2097160 s (State.profApply s x1) := by
  unfold State.profApply
  try dsimp only
  repeat' first
    | with_reducible apply Foot.refl
    | with_reducible_and_instances rfl
    | with_reducible apply Foot.via State.setCfg_foot
    | split
    | with_reducible apply Foot.drv
    | dsimp only

theorem State.driveApply_foot {s x1 x2 x3} : Foot 153158664 s (State.driveApply s x1 x2 x3) := by
  unfold State.driveApply
  try dsimp only
  repeat' first
    | with_reducible apply Foot.refl
    | with_reducible_and_instances rfl
    | with_reducible apply Foot.via State.bankStop_foot
    | with_reducible apply Foot.via State.profApply_foot
    | with_reducible apply Foot.via State.setBank_foot
    | with_reducible apply Foot.via State.setBoost_foot
    | with_reducible apply Foot.ite
    | with_reducible apply Foot.forUpTo
    | with_reducible intro _ _
    | split
    | dsimp only

theorem State.traceArm_foot {s x1} : Foot 2097160 s (State.traceArm s x1) := by
  unfold State.traceArm
  try dsimp only
  repeat' first
    | with_reducible apply Foot.refl
    | with_reducible_and_instances rfl
    | with_reducible apply Foot.via State.setCfg_foot
    | with_reducible apply Foot.ite
    | split
    | with_reducible apply Foot.drv

theorem execDrvCntClr_foot {x0 s t} (h : execDrvCntClr x0 s = .next t) : Foot 2097152 s t := by
  unfold execDrvCntClr at h
  injection h with h
  subst h
  try dsimp only
  repeat' first
    | with_reducible apply Foot.refl
    | with_reducible_and_instances rfl
    | with_reducible apply Foot.ite
    | split
    | with_reducible apply Foot.drv
    | dsimp only

theorem execDrvDgClr_foot {x0 s t} (h : execDrvDgClr x0 s = .next t) : Foot 2097152 s t := by
  unfold execDrvDgClr at h
  injection h with h
  subst h
  try dsimp only
  repeat' first
    | with_reducible apply Foot.refl
    | with_reducible_and_instances rfl
    | with_reducible apply Foot.ite
    | split
    | with_reducible apply Foot.drv
    | dsimp only

theorem State.traceBegin_foot {s x1 x2} : Foot 2097152 s (State.traceBegin s x1 x2) := by
  unfold State.traceBegin
  try dsimp only
  repeat' first
    | with_reducible apply Foot.refl
    | with_reducible_and_instances rfl
    | with_reducible apply Foot.ite
    | split
    | with_reducible apply Foot.drv

theorem State.beginStart_foot {s x1 x2} : Foot 153158656 s (State.beginStart s x1 x2) := by
  unfold State.beginStart
  try dsimp only
  repeat' first
    | with_reducible apply Foot.refl
    | with_reducible_and_instances rfl
    | with_reducible apply Foot.via State.conflict_foot
    | with_reducible apply Foot.via State.hit_foot
    | with_reducible apply Foot.via State.reportCycle_foot
    | with_reducible apply Foot.via State.setBank_foot
    | with_reducible apply Foot.via State.tellStart_foot
    | with_reducible apply Foot.via State.traceBegin_foot
    | with_reducible apply Foot.via State.unwait_foot
    | with_reducible apply Foot.ite
    | split
    | with_reducible apply Foot.drv

theorem State.diag_foot {s x1 x2 x3 x4} : Foot 153093120 s (State.diag s x1 x2 x3 x4) := by
  unfold State.diag
  try dsimp only
  repeat' first
    | with_reducible apply Foot.refl
    | with_reducible_and_instances rfl
    | with_reducible apply Foot.via State.hit_foot
    | with_reducible apply Foot.via State.reportCycle_foot
    | with_reducible apply Foot.ite
    | split
    | with_reducible apply Foot.drv

theorem State.noteBnr_foot {s x1} : Foot 153093120 s (State.noteBnr s x1) := by
  unfold State.noteBnr
  try dsimp only
  repeat' first
    | with_reducible apply Foot.refl
    | with_reducible_and_instances rfl
    | with_reducible apply Foot.via State.diag_foot
    | with_reducible apply Foot.ite
    | split
    | with_reducible apply Foot.drv
    | dsimp only

theorem State.boostDecides_foot {s x1} : Foot 153158656 s (State.boostDecides s x1) := by
  unfold State.boostDecides
  try dsimp only
  repeat' first
    | with_reducible apply Foot.refl
    | with_reducible_and_instances rfl
    | with_reducible apply Foot.via State.beginStart_foot
    | with_reducible apply Foot.via State.dropStart_foot
    | with_reducible apply Foot.via State.noteBnr_foot
    | with_reducible apply Foot.ite
    | split

theorem State.boostFollow_foot {s x1 x2} : Foot 2097152 s (State.boostFollow s x1 x2) := by
  unfold State.boostFollow
  try dsimp only
  repeat' first
    | with_reducible apply Foot.refl
    | with_reducible_and_instances rfl
    | with_reducible apply Foot.via State.setBoost_foot
    | with_reducible apply Foot.ite
    | split

theorem State.noteReady_foot {s x1} : Foot 2097152 s (State.noteReady s x1) := by
  unfold State.noteReady
  try dsimp only
  repeat' first
    | with_reducible apply Foot.refl
    | with_reducible_and_instances rfl
    | with_reducible apply Foot.via State.setBank_foot
    | with_reducible apply Foot.ite
    | with_reducible apply Foot.forUpTo
    | with_reducible intro _ _
    | split
    | dsimp only

theorem State.boostResult_foot {s x1 x2} : Foot 18875392 s (State.boostResult s x1 x2) := by
  unfold State.boostResult
  try dsimp only
  repeat' first
    | with_reducible apply Foot.refl
    | with_reducible_and_instances rfl
    | with_reducible apply Foot.via State.noteReady_foot
    | with_reducible apply Foot.via State.report_foot
    | with_reducible apply Foot.via State.setBoost_foot
    | with_reducible apply Foot.ite
    | split

theorem State.profTake_foot {s} : Foot 18875392 s (State.profTake s) := by
  unfold State.profTake
  try dsimp only
  repeat' first
    | with_reducible apply Foot.refl
    | with_reducible_and_instances rfl
    | with_reducible apply Foot.via State.report_foot
    | split
    | with_reducible apply Foot.drv

theorem State.drivePrepare_foot {s} : Foot 153093632 s (State.drivePrepare s) := by
  unfold State.drivePrepare
  try dsimp only
  repeat' first
    | with_reducible apply Foot.refl
    | with_reducible_and_instances rfl
    | with_reducible apply Foot.via State.latTouchN_foot
    | with_reducible apply Foot.via State.profTake_foot
    | with_reducible apply Foot.ite
    | split

theorem State.traceEnd_foot {s x1} : Foot 2097160 s (State.traceEnd s x1) := by
  unfold State.traceEnd
  try dsimp only
  repeat' first
    | with_reducible apply Foot.refl
    | with_reducible_and_instances rfl
    | with_reducible apply Foot.via State.setFlag_foot
    | with_reducible apply Foot.ite
    | split
    | with_reducible apply Foot.drv

theorem State.decayDone_foot {s x1} : Foot 153093128 s (State.decayDone s x1) := by
  unfold State.decayDone
  try dsimp only
  repeat' first
    | with_reducible apply Foot.refl
    | with_reducible_and_instances rfl
    | with_reducible apply Foot.via State.diag_foot
    | with_reducible apply Foot.via State.setBank_foot
    | with_reducible apply Foot.via State.traceEnd_foot
    | with_reducible apply Foot.ite
    | split
    | with_reducible apply Foot.drv

theorem execPulseStart_foot {x0 s t} (h : execPulseStart x0 s = .next t) : Foot 153158656 s t := by
  unfold execPulseStart at h
  injection h with h
  subst h
  try dsimp only
  repeat' first
    | with_reducible apply Foot.refl
    | with_reducible_and_instances rfl
    | with_reducible apply Foot.via State.boostDecides_foot
    | with_reducible apply Foot.via State.dropStart_foot
    | with_reducible apply Foot.ite
    | split
    | dsimp only

theorem State.solenoidEnd_foot {s x1} : Foot 153158656 s (State.solenoidEnd s x1) := by
  unfold State.solenoidEnd
  try dsimp only
  repeat' first
    | with_reducible apply Foot.refl
    | with_reducible_and_instances rfl
    | with_reducible apply Foot.via State.dropStart_foot
    | with_reducible apply Foot.via State.endPulse_foot
    | with_reducible exact (execPulseStart_foot (by assumption)).mono (by decide)
    | with_reducible refine Foot.via (execPulseStart_foot (by assumption)) (by decide) ?_
    | with_reducible apply Foot.ite
    | split

theorem State.solenoidPin_foot {s x1} : Foot 153158656 s (State.solenoidPin s x1) := by
  unfold State.solenoidPin
  try dsimp only
  repeat' first
    | with_reducible apply Foot.refl
    | with_reducible_and_instances rfl
    | with_reducible apply Foot.via State.dropStart_foot
    | with_reducible exact (execPulseStart_foot (by assumption)).mono (by decide)
    | with_reducible refine Foot.via (execPulseStart_foot (by assumption)) (by decide) ?_
    | with_reducible apply Foot.ite
    | split
    | with_reducible apply Foot.drv
    | dsimp only

theorem State.peakCheck_foot {s x1} : Foot 153093120 s (State.peakCheck s x1) := by
  unfold State.peakCheck
  try dsimp only
  repeat' first
    | with_reducible apply Foot.refl
    | with_reducible_and_instances rfl
    | with_reducible apply Foot.via State.diag_foot
    | with_reducible apply Foot.ite
    | split

theorem State.openCheck_foot {s x1} : Foot 153158656 s (State.openCheck s x1).1 := by
  unfold State.openCheck
  try dsimp only
  repeat' first
    | with_reducible apply Foot.refl
    | with_reducible_and_instances rfl
    | with_reducible apply Foot.via State.diag_foot
    | with_reducible apply Foot.via State.peakCheck_foot
    | with_reducible apply Foot.via State.setBank_foot
    | with_reducible apply Foot.via State.toDecay_foot
    | with_reducible exact (execPulseStart_foot (by assumption)).mono (by decide)
    | with_reducible refine Foot.via (execPulseStart_foot (by assumption)) (by decide) ?_
    | with_reducible apply Foot.ite
    | split
    | dsimp only

theorem State.openCheck_foot' {s x1 t c0} (h : State.openCheck s x1 = (t, c0)) : Foot 153158656 s t := by
  have k : Foot 153158656 s (State.openCheck s x1).1 := State.openCheck_foot
  rwa [h] at k

theorem State.profilesLost_foot {s} : Foot 2097152 s (State.profilesLost s) := by
  unfold State.profilesLost
  try dsimp only
  repeat' first
    | with_reducible apply Foot.refl
    | with_reducible_and_instances rfl
    | with_reducible apply Foot.via State.endPulse_foot
    | with_reducible apply Foot.forUpTo
    | with_reducible intro _ _
    | with_reducible apply Foot.drv
    | dsimp only

theorem State.timers_foot {s x1} : Foot 153158656 s (State.timers s x1) := by
  unfold State.timers
  try dsimp only
  repeat' first
    | with_reducible apply Foot.refl
    | with_reducible_and_instances rfl
    | with_reducible apply Foot.via State.openCheck_foot
    | with_reducible refine Foot.via (State.openCheck_foot' (by assumption)) (by decide) ?_
    | with_reducible apply Foot.via State.peakCheck_foot
    | with_reducible apply Foot.via State.setBank_foot
    | with_reducible apply Foot.via State.toDecay_foot
    | with_reducible apply Foot.ite
    | split
    | dsimp only

theorem State.traceSample_foot {s x1 x2 x3} : Foot 18874888 s (State.traceSample s x1 x2 x3) := by
  unfold State.traceSample
  try dsimp only
  repeat' first
    | with_reducible apply Foot.refl
    | with_reducible_and_instances rfl
    | with_reducible apply Foot.via State.latPut_foot
    | with_reducible apply Foot.via State.traceEnd_foot
    | with_reducible apply Foot.ite
    | split
    | with_reducible apply Foot.drv

theorem State.sampleAct_foot {s x1 x2 x3 x4} : Foot 153159176 s (State.sampleAct s x1 x2 x3 x4) := by
  unfold State.sampleAct
  try dsimp only
  repeat' first
    | with_reducible apply Foot.refl
    | with_reducible_and_instances rfl
    | with_reducible apply Foot.via State.decayDone_foot
    | with_reducible apply Foot.via State.diag_foot
    | with_reducible apply Foot.via State.endPulse_foot
    | with_reducible apply Foot.via State.openCheck_foot
    | with_reducible refine Foot.via (State.openCheck_foot' (by assumption)) (by decide) ?_
    | with_reducible apply Foot.via State.setBank_foot
    | with_reducible apply Foot.via State.timers_foot
    | with_reducible apply Foot.via State.toDecay_foot
    | with_reducible apply Foot.via State.traceSample_foot
    | with_reducible apply Foot.ite
    | split
    | dsimp only

theorem execBankCurrentResult_foot {x0 x1 x2 s t} (h : execBankCurrentResult x0 x1 x2 s = .next t) : Foot 153159176 s t := by
  unfold execBankCurrentResult at h
  injection h with h
  subst h
  try dsimp only
  repeat' first
    | with_reducible apply Foot.refl
    | with_reducible_and_instances rfl
    | with_reducible apply Foot.via State.sampleAct_foot
    | with_reducible apply Foot.ite
    | split
    | dsimp only

theorem execBoostIlimReached_foot {x0 s t} (h : execBoostIlimReached x0 s = .next t) : Foot 2097152 s t := by
  unfold execBoostIlimReached at h
  injection h with h
  subst h
  try dsimp only
  repeat' first
    | with_reducible apply Foot.refl
    | with_reducible_and_instances rfl
    | with_reducible apply Foot.via State.setBoost_foot
    | with_reducible apply Foot.ite
    | split
    | dsimp only

theorem execBoostMonitorResult_foot {x0 x1 x2 s t} (h : execBoostMonitorResult x0 x1 x2 s = .next t) : Foot 18875392 s t := by
  unfold execBoostMonitorResult at h
  injection h with h
  subst h
  try dsimp only
  repeat' first
    | with_reducible apply Foot.refl
    | with_reducible_and_instances rfl
    | with_reducible apply Foot.via State.boostFollow_foot
    | with_reducible apply Foot.via State.boostResult_foot
    | with_reducible apply Foot.ite
    | split
    | with_reducible apply Foot.drv
    | dsimp only

theorem execBoostToffExpiry_foot {x0 s t} (h : execBoostToffExpiry x0 s = .next t) : Foot 2097152 s t := by
  unfold execBoostToffExpiry at h
  injection h with h
  subst h
  try dsimp only
  repeat' first
    | with_reducible apply Foot.refl
    | with_reducible_and_instances rfl
    | with_reducible apply Foot.via State.setBoost_foot
    | with_reducible apply Foot.ite
    | split
    | dsimp only

theorem execBoostTonmaxExpiry_foot {x0 s t} (h : execBoostTonmaxExpiry x0 s = .next t) : Foot 2097152 s t := by
  unfold execBoostTonmaxExpiry at h
  injection h with h
  subst h
  try dsimp only
  repeat' first
    | with_reducible apply Foot.refl
    | with_reducible_and_instances rfl
    | with_reducible apply Foot.via State.setBoost_foot
    | with_reducible apply Foot.ite
    | split
    | dsimp only

theorem execDecayTimeout_foot {x0 s t} (h : execDecayTimeout x0 s = .next t) : Foot 153093128 s t := by
  unfold execDecayTimeout at h
  injection h with h
  subst h
  try dsimp only
  repeat' first
    | with_reducible apply Foot.refl
    | with_reducible_and_instances rfl
    | with_reducible apply Foot.via State.decayDone_foot
    | with_reducible apply Foot.via State.diag_foot
    | with_reducible apply Foot.ite
    | split
    | dsimp only

theorem execDrvTrcCtl_foot {x0 s t} (h : execDrvTrcCtl x0 s = .next t) : Foot 2097160 s t := by
  unfold execDrvTrcCtl at h
  injection h with h
  subst h
  try dsimp only
  repeat' first
    | with_reducible apply Foot.refl
    | with_reducible_and_instances rfl
    | with_reducible apply Foot.via State.traceArm_foot
    | with_reducible apply Foot.ite
    | split
    | dsimp only

theorem execMinSwitchTimeExpiry_foot {x0 s t} (h : execMinSwitchTimeExpiry x0 s = .next t) : Foot 2097152 s t := by
  unfold execMinSwitchTimeExpiry at h
  injection h with h
  subst h
  try dsimp only
  repeat' first
    | with_reducible apply Foot.refl
    | with_reducible_and_instances rfl
    | with_reducible apply Foot.via State.setBank_foot
    | with_reducible apply Foot.ite
    | split
    | dsimp only

theorem execOpenLoadCheck_foot {x0 s t} (h : execOpenLoadCheck x0 s = .next t) : Foot 153158656 s t := by
  unfold execOpenLoadCheck at h
  injection h with h
  subst h
  try dsimp only
  repeat' first
    | with_reducible apply Foot.refl
    | with_reducible_and_instances rfl
    | with_reducible apply Foot.via State.openCheck_foot
    | with_reducible refine Foot.via (State.openCheck_foot' (by assumption)) (by decide) ?_
    | with_reducible apply Foot.ite
    | split
    | dsimp only

theorem execPhaseTimer_foot {x0 s t} (h : execPhaseTimer x0 s = .next t) : Foot 153158656 s t := by
  unfold execPhaseTimer at h
  injection h with h
  subst h
  try dsimp only
  repeat' first
    | with_reducible apply Foot.refl
    | with_reducible_and_instances rfl
    | with_reducible apply Foot.via State.timers_foot
    | dsimp only

theorem execStartDropTimeout_foot {x0 s t} (h : execStartDropTimeout x0 s = .next t) : Foot 153158656 s t := by
  unfold execStartDropTimeout at h
  injection h with h
  subst h
  try dsimp only
  repeat' first
    | with_reducible apply Foot.refl
    | with_reducible_and_instances rfl
    | with_reducible apply Foot.via State.dropStart_foot
    | with_reducible apply Foot.via State.noteBnr_foot
    | with_reducible exact (execPulseStart_foot (by assumption)).mono (by decide)
    | with_reducible refine Foot.via (execPulseStart_foot (by assumption)) (by decide) ?_
    | with_reducible apply Foot.ite
    | split
    | dsimp only

end Sys2Proof.Machine
end

