-- ==== Sys2Proof/Laws/FootIgnition.lean ====
section
/-! SUPPORT. Footprints of the operations of Machine/Ignition.lean. -/

namespace Sys2Proof.Machine

theorem State.setIgn_foot {s x1 x2} : Foot 2097152 s (State.setIgn s x1 x2) := by
  unfold State.setIgn
  try dsimp only
  repeat' first
    | with_reducible apply Foot.refl
    | with_reducible_and_instances rfl
    | with_reducible apply Foot.drv

theorem State.ignFloat_foot {s} : Foot 2097152 s (State.ignFloat s) := by
  unfold State.ignFloat
  try dsimp only
  repeat' first
    | with_reducible apply Foot.refl
    | with_reducible_and_instances rfl
    | with_reducible apply Foot.via State.setIgn_foot
    | with_reducible apply Foot.forUpTo
    | with_reducible intro _ _
    | dsimp only

theorem State.driveFloat_foot {s x1} : Foot 153158656 s (State.driveFloat s x1) := by
  unfold State.driveFloat
  try dsimp only
  repeat' first
    | with_reducible apply Foot.refl
    | with_reducible_and_instances rfl
    | with_reducible apply Foot.via State.bankStop_foot
    | with_reducible apply Foot.via State.ignFloat_foot
    | with_reducible apply Foot.via State.setBoost_foot
    | with_reducible apply Foot.ite
    | with_reducible apply Foot.forUpTo
    | with_reducible intro _ _
    | split
    | dsimp only

theorem State.setValve_foot {s x1 x2} : Foot 2097152 s (State.setValve s x1 x2) := by
  unfold State.setValve
  try dsimp only
  repeat' first
    | with_reducible apply Foot.refl
    | with_reducible_and_instances rfl
    | with_reducible apply Foot.drv

theorem State.vlvStop_foot {s x1} : Foot 2097152 s (State.vlvStop s x1) := by
  unfold State.vlvStop
  try dsimp only
  repeat' first
    | with_reducible apply Foot.refl
    | with_reducible_and_instances rfl
    | with_reducible apply Foot.via State.setValve_foot

theorem State.driveOff_foot {s x1} : Foot 153158656 s (State.driveOff s x1) := by
  unfold State.driveOff
  try dsimp only
  repeat' first
    | with_reducible apply Foot.refl
    | with_reducible_and_instances rfl
    | with_reducible apply Foot.via State.driveFloat_foot
    | with_reducible apply Foot.via State.vlvStop_foot
    | with_reducible apply Foot.ite
    | with_reducible apply Foot.forUpTo
    | with_reducible intro _ _
    | split
    | dsimp only

theorem State.softEnd_foot {s x1 x2} : Foot 2097152 s (State.softEnd s x1 x2) := by
  unfold State.softEnd
  try dsimp only
  repeat' first
    | with_reducible apply Foot.refl
    | with_reducible_and_instances rfl
    | with_reducible apply Foot.via State.setIgn_foot
    | with_reducible apply Foot.ite
    | split

theorem State.vlvBegin_foot {s x1 x2 x3 x4} : Foot 2097152 s (State.vlvBegin s x1 x2 x3 x4) := by
  unfold State.vlvBegin
  try dsimp only
  repeat' first
    | with_reducible apply Foot.refl
    | with_reducible_and_instances rfl
    | with_reducible apply Foot.via State.setValve_foot
    | with_reducible apply Foot.ite
    | split

theorem State.vlvFirst_foot {s x1 x2} : Foot 2097152 s (State.vlvFirst s x1 x2) := by
  unfold State.vlvFirst
  try dsimp only
  repeat' first
    | with_reducible apply Foot.refl
    | with_reducible_and_instances rfl
    | with_reducible apply Foot.via State.vlvBegin_foot

theorem State.vlvModeChange_foot {s x1} : Foot 2097152 s (State.vlvModeChange s x1) := by
  unfold State.vlvModeChange
  try dsimp only
  repeat' first
    | with_reducible apply Foot.refl
    | with_reducible_and_instances rfl
    | with_reducible apply Foot.via State.setValve_foot
    | with_reducible apply Foot.via State.vlvFirst_foot
    | with_reducible apply Foot.via State.vlvStop_foot
    | with_reducible apply Foot.ite
    | split

theorem State.ignVlvApply_foot {s x1 x2 x3} : Foot 2097152 s (State.ignVlvApply s x1 x2 x3) := by
  unfold State.ignVlvApply
  try dsimp only
  repeat' first
    | with_reducible apply Foot.refl
    | with_reducible_and_instances rfl
    | with_reducible apply Foot.via State.softEnd_foot
    | with_reducible apply Foot.via State.vlvModeChange_foot
    | with_reducible apply Foot.ite
    | with_reducible apply Foot.forUpTo
    | with_reducible intro _ _
    | split
    | dsimp only

theorem State.vlvUnlatch_foot {s x1} : Foot 2097152 s (State.vlvUnlatch s x1) := by
  unfold State.vlvUnlatch
  try dsimp only
  repeat' first
    | with_reducible apply Foot.refl
    | with_reducible_and_instances rfl
    | with_reducible apply Foot.via State.setValve_foot
    | with_reducible apply Foot.via State.vlvBegin_foot
    | with_reducible apply Foot.ite
    | split

theorem execIgnCntClr_foot {x0 s t} (h : execIgnCntClr x0 s = .next t) : Foot 2097152 s t := by
  unfold execIgnCntClr at h
  injection h with h
  subst h
  try dsimp only
  repeat' first
    | with_reducible apply Foot.refl
    | with_reducible_and_instances rfl
    | with_reducible apply Foot.ite
    | split
    | with_reducible apply Foot.drv
    | dsimp only

theorem State.softEndAll_foot {s x1} : Foot 2097152 s (State.softEndAll s x1) := by
  unfold State.softEndAll
  try dsimp only
  repeat' first
    | with_reducible apply Foot.refl
    | with_reducible_and_instances rfl
    | with_reducible apply Foot.via State.softEnd_foot
    | with_reducible apply Foot.forUpTo
    | with_reducible intro _ _
    | dsimp only

theorem execSoft_foot {x0 s t} (h : execSoft x0 s = .next t) : Foot 2097152 s t := by
  unfold execSoft at h
  injection h with h
  subst h
  try dsimp only
  repeat' first
    | with_reducible apply Foot.refl
    | with_reducible_and_instances rfl
    | with_reducible apply Foot.via State.softEndAll_foot
    | with_reducible apply Foot.ite
    | split
    | dsimp only

theorem execVlvCntClr_foot {x0 s t} (h : execVlvCntClr x0 s = .next t) : Foot 2097152 s t := by
  unfold execVlvCntClr at h
  injection h with h
  subst h
  try dsimp only
  repeat' first
    | with_reducible apply Foot.refl
    | with_reducible_and_instances rfl
    | with_reducible apply Foot.ite
    | split
    | with_reducible apply Foot.drv
    | dsimp only

theorem State.ignRelease_foot {s} : Foot 2097152 s (State.ignRelease s) := by
  unfold State.ignRelease
  try dsimp only
  repeat' first
    | with_reducible apply Foot.refl
    | with_reducible_and_instances rfl
    | with_reducible apply Foot.via State.setIgn_foot
    | with_reducible apply Foot.ite
    | with_reducible apply Foot.forUpTo
    | with_reducible intro _ _
    | split
    | dsimp only

theorem State.ignEnd_foot {s x1} : Foot 153093120 s (State.ignEnd s x1) := by
  unfold State.ignEnd
  try dsimp only
  repeat' first
    | with_reducible apply Foot.refl
    | with_reducible_and_instances rfl
    | with_reducible apply Foot.via State.hit_foot
    | with_reducible apply Foot.via State.report_foot
    | with_reducible apply Foot.via State.setIgn_foot
    | with_reducible apply Foot.ite
    | split
    | with_reducible apply Foot.drv

theorem State.dropIgn_foot {s x1 x2} : Foot 153158656 s (State.dropIgn s x1 x2) := by
  unfold State.dropIgn
  try dsimp only
  repeat' first
    | with_reducible apply Foot.refl
    | with_reducible_and_instances rfl
    | with_reducible apply Foot.via State.hit_foot
    | with_reducible apply Foot.via State.reportCycle_foot
    | with_reducible apply Foot.via State.tellStart_foot
    | with_reducible apply Foot.drv

theorem State.ignStart_foot {s x1} : Foot 153158656 s (State.ignStart s x1) := by
  unfold State.ignStart
  try dsimp only
  repeat' first
    | with_reducible apply Foot.refl
    | with_reducible_and_instances rfl
    | with_reducible apply Foot.via State.dropIgn_foot
    | with_reducible apply Foot.via State.setIgn_foot
    | with_reducible apply Foot.via State.tellStart_foot
    | with_reducible apply Foot.ite
    | split

theorem State.vlvEnd_foot {s x1} : Foot 2097152 s (State.vlvEnd s x1) := by
  unfold State.vlvEnd
  try dsimp only
  repeat' first
    | with_reducible apply Foot.refl
    | with_reducible_and_instances rfl
    | with_reducible apply Foot.via State.vlvStop_foot
    | with_reducible apply Foot.ite
    | split

theorem State.vlvStart_foot {s x1} : Foot 153158656 s (State.vlvStart s x1) := by
  unfold State.vlvStart
  try dsimp only
  repeat' first
    | with_reducible apply Foot.refl
    | with_reducible_and_instances rfl
    | with_reducible apply Foot.via State.dropIgn_foot
    | with_reducible apply Foot.via State.setValve_foot
    | with_reducible apply Foot.via State.tellStart_foot
    | with_reducible apply Foot.via State.vlvFirst_foot
    | with_reducible apply Foot.ite
    | split
    | dsimp only

theorem State.driveItem_foot {s x1 x2} : Foot 153158656 s (State.driveItem s x1 x2) := by
  unfold State.driveItem
  try dsimp only
  repeat' first
    | with_reducible apply Foot.refl
    | with_reducible_and_instances rfl
    | with_reducible apply Foot.via State.ignEnd_foot
    | with_reducible apply Foot.via State.ignStart_foot
    | with_reducible apply Foot.via State.softEnd_foot
    | with_reducible apply Foot.via State.softEndAll_foot
    | with_reducible apply Foot.via State.solenoidEnd_foot
    | with_reducible apply Foot.via State.solenoidPin_foot
    | with_reducible apply Foot.via State.vlvEnd_foot
    | with_reducible apply Foot.via State.vlvStart_foot
    | with_reducible apply Foot.ite
    | split
    | dsimp only

theorem State.driveItems_foot {s x1 x2} : Foot 153158656 s (State.driveItems s x1 x2) := by
  unfold State.driveItems
  try dsimp only
  repeat' first
    | with_reducible apply Foot.refl
    | with_reducible_and_instances rfl
    | with_reducible apply Foot.via State.driveItem_foot
    | with_reducible apply Foot.foldl
    | with_reducible intro _ _
    | dsimp only

theorem State.vlvOpen_foot {s x1 x2} : Foot 153093120 s (State.vlvOpen s x1 x2) := by
  unfold State.vlvOpen
  try dsimp only
  repeat' first
    | with_reducible apply Foot.refl
    | with_reducible_and_instances rfl
    | with_reducible apply Foot.via State.hit_foot
    | with_reducible apply Foot.via State.reportCycle_foot
    | with_reducible apply Foot.via State.setValve_foot
    | with_reducible apply Foot.ite
    | split
    | with_reducible apply Foot.drv

theorem State.vlvOver_foot {s x1} : Foot 153093120 s (State.vlvOver s x1).1 := by
  unfold State.vlvOver
  try dsimp only
  repeat' first
    | with_reducible apply Foot.refl
    | with_reducible_and_instances rfl
    | with_reducible apply Foot.via State.hit_foot
    | with_reducible apply Foot.via State.reportCycle_foot
    | with_reducible apply Foot.via State.setValve_foot
    | with_reducible apply Foot.via State.vlvStop_foot
    | with_reducible apply Foot.ite
    | split
    | with_reducible apply Foot.drv
    | dsimp only

theorem State.vlvOver_foot' {s x1 t c0} (h : State.vlvOver s x1 = (t, c0)) : Foot 153093120 s t := by
  have k : Foot 153093120 s (State.vlvOver s x1).1 := State.vlvOver_foot
  rwa [h] at k

theorem State.vlvSat_foot {s x1 x2} : Foot 18875392 s (State.vlvSat s x1 x2) := by
  unfold State.vlvSat
  try dsimp only
  repeat' first
    | with_reducible apply Foot.refl
    | with_reducible_and_instances rfl
    | with_reducible apply Foot.via State.reportCycle_foot
    | with_reducible apply Foot.via State.setValve_foot
    | with_reducible apply Foot.ite
    | split

theorem State.vlvPeriodEnd_foot {s x1} : Foot 153093120 s (State.vlvPeriodEnd s x1) := by
  unfold State.vlvPeriodEnd
  try dsimp only
  repeat' first
    | with_reducible apply Foot.refl
    | with_reducible_and_instances rfl
    | with_reducible apply Foot.via State.setValve_foot
    | with_reducible apply Foot.via State.vlvBegin_foot
    | with_reducible apply Foot.via State.vlvOpen_foot
    | with_reducible apply Foot.via State.vlvOver_foot
    | with_reducible refine Foot.via (State.vlvOver_foot' (by assumption)) (by decide) ?_
    | with_reducible apply Foot.via State.vlvSat_foot
    | with_reducible apply Foot.ite
    | split
    | dsimp only

theorem execIgnOutputFault_foot {x0 s t} (h : execIgnOutputFault x0 s = .next t) : Foot 153093120 s t := by
  unfold execIgnOutputFault at h
  injection h with h
  subst h
  try dsimp only
  repeat' first
    | with_reducible apply Foot.refl
    | with_reducible_and_instances rfl
    | with_reducible apply Foot.via State.hit_foot
    | with_reducible apply Foot.via State.report_foot
    | with_reducible apply Foot.via State.reportCycle_foot
    | with_reducible apply Foot.via State.setIgn_foot
    | with_reducible apply Foot.ite
    | split
    | with_reducible apply Foot.drv
    | dsimp only

theorem execLatch_foot {x0 s t} (h : execLatch x0 s = .next t) : Foot 2097152 s t := by
  unfold execLatch at h
  injection h with h
  subst h
  try dsimp only
  repeat' first
    | with_reducible apply Foot.refl
    | with_reducible_and_instances rfl
    | with_reducible apply Foot.via State.vlvUnlatch_foot
    | with_reducible apply Foot.ite
    | split
    | dsimp only

theorem execOverdwell_foot {x0 s t} (h : execOverdwell x0 s = .next t) : Foot 153093120 s t := by
  unfold execOverdwell at h
  injection h with h
  subst h
  try dsimp only
  repeat' first
    | with_reducible apply Foot.refl
    | with_reducible_and_instances rfl
    | with_reducible apply Foot.via State.hit_foot
    | with_reducible apply Foot.via State.report_foot
    | with_reducible apply Foot.via State.softEnd_foot
    | with_reducible apply Foot.ite
    | split
    | with_reducible apply Foot.drv
    | dsimp only

theorem execPulseDurExpiry_foot {x0 s t} (h : execPulseDurExpiry x0 s = .next t) : Foot 153093120 s t := by
  unfold execPulseDurExpiry at h
  injection h with h
  subst h
  try dsimp only
  repeat' first
    | with_reducible apply Foot.refl
    | with_reducible_and_instances rfl
    | with_reducible apply Foot.via State.endPulse_foot
    | with_reducible apply Foot.via State.ignEnd_foot
    | with_reducible apply Foot.via State.vlvEnd_foot
    | with_reducible apply Foot.ite
    | split
    | dsimp only

theorem execRampEnd_foot {x0 s t} (h : execRampEnd x0 s = .next t) : Foot 2097152 s t := by
  unfold execRampEnd at h
  injection h with h
  subst h
  try dsimp only
  repeat' first
    | with_reducible apply Foot.refl
    | with_reducible_and_instances rfl
    | with_reducible apply Foot.via State.setIgn_foot
    | with_reducible apply Foot.ite
    | split
    | dsimp only

theorem execValveCurrentResult_foot {x0 x1 s t} (h : execValveCurrentResult x0 x1 s = .next t) : Foot 2097152 s t := by
  unfold execValveCurrentResult at h
  injection h with h
  subst h
  try dsimp only
  repeat' first
    | with_reducible apply Foot.refl
    | with_reducible_and_instances rfl
    | with_reducible apply Foot.via State.setValve_foot
    | with_reducible apply Foot.ite
    | split
    | dsimp only

theorem execValvePeriodEnd_foot {x0 s t} (h : execValvePeriodEnd x0 s = .next t) : Foot 153093120 s t := by
  unfold execValvePeriodEnd at h
  injection h with h
  subst h
  try dsimp only
  repeat' first
    | with_reducible apply Foot.refl
    | with_reducible_and_instances rfl
    | with_reducible apply Foot.via State.vlvPeriodEnd_foot
    | with_reducible apply Foot.ite
    | split
    | dsimp only

theorem execValveTonExpiry_foot {x0 s t} (h : execValveTonExpiry x0 s = .next t) : Foot 2097152 s t := by
  unfold execValveTonExpiry at h
  injection h with h
  subst h
  try dsimp only
  repeat' first
    | with_reducible apply Foot.refl
    | with_reducible_and_instances rfl
    | with_reducible apply Foot.via State.setValve_foot
    | with_reducible apply Foot.ite
    | split
    | dsimp only

end Sys2Proof.Machine
end

