-- ==== Sys2Proof/Laws/FootDigest.lean ====
section
/-! SUPPORT. Footprints of the operations of Machine/Digest.lean. -/

namespace Sys2Proof.Machine

theorem State.setJstate_foot {s x1} : Foot 16778240 s (State.setJstate s x1) := by
  unfold State.setJstate
  try dsimp only
  repeat' first
    | with_reducible apply Foot.refl
    | with_reducible_and_instances rfl
    | with_reducible apply Foot.via State.arrive_foot
    | with_reducible apply Foot.ite
    | split
    | with_reducible apply Foot.twn

theorem State.twnReport_foot {s x1 x2} : Foot 16778240 s (State.twnReport s x1 x2) := by
  unfold State.twnReport
  try dsimp only
  repeat' first
    | with_reducible apply Foot.refl
    | with_reducible_and_instances rfl
    | with_reducible apply Foot.via State.reportCycle_foot

theorem State.joinFail_foot {s x1} : Foot 16778240 s (State.joinFail s x1) := by
  unfold State.joinFail
  try dsimp only
  repeat' first
    | with_reducible apply Foot.refl
    | with_reducible_and_instances rfl
    | with_reducible apply Foot.via State.setJstate_foot
    | with_reducible apply Foot.via State.twnReport_foot
    | with_reducible apply Foot.via State.twnSend_foot
    | with_reducible apply Foot.ite
    | split
    | with_reducible apply Foot.twn

theorem State.joinDone_foot {s} : Foot 16778240 s (State.joinDone s) := by
  unfold State.joinDone
  try dsimp only
  repeat' first
    | with_reducible apply Foot.refl
    | with_reducible_and_instances rfl
    | with_reducible apply Foot.via State.setJstate_foot
    | with_reducible apply Foot.twn

theorem State.digestBad_foot {s} : Foot 150995968 s (State.digestBad s) := by
  unfold State.digestBad
  try dsimp only
  repeat' first
    | with_reducible apply Foot.refl
    | with_reducible_and_instances rfl
    | with_reducible apply Foot.via State.arrive_foot
    | with_reducible apply Foot.via State.hit_foot
    | with_reducible apply Foot.via State.twnReport_foot
    | with_reducible apply Foot.ite
    | split
    | with_reducible apply Foot.twn

theorem State.digestPair_foot {s x1 x2} : Foot 150995968 s (State.digestPair s x1 x2) := by
  unfold State.digestPair
  try dsimp only
  repeat' first
    | with_reducible apply Foot.refl
    | with_reducible_and_instances rfl
    | with_reducible apply Foot.via State.digestBad_foot
    | with_reducible apply Foot.via State.joinDone_foot
    | with_reducible apply Foot.ite
    | split
    | with_reducible apply Foot.twn

theorem State.digestMine_foot {s x1} : Foot 150995968 s (State.digestMine s x1) := by
  unfold State.digestMine
  try dsimp only
  repeat' first
    | with_reducible apply Foot.refl
    | with_reducible_and_instances rfl
    | with_reducible apply Foot.via State.digestPair_foot
    | split
    | with_reducible apply Foot.twn
    | dsimp only

theorem State.formDigest_foot {s x1} : Foot 150995968 s (State.formDigest s x1) := by
  unfold State.formDigest
  try dsimp only
  repeat' first
    | with_reducible apply Foot.refl
    | with_reducible_and_instances rfl
    | with_reducible apply Foot.via State.digestMine_foot
    | with_reducible apply Foot.via State.twnShow_foot
    | with_reducible apply Foot.ite
    | split
    | with_reducible apply Foot.twn

theorem State.digestTheirs_foot {s x1} : Foot 150995968 s (State.digestTheirs s x1) := by
  unfold State.digestTheirs
  try dsimp only
  repeat' first
    | with_reducible apply Foot.refl
    | with_reducible_and_instances rfl
    | with_reducible apply Foot.via State.digestMine_foot
    | with_reducible apply Foot.via State.digestPair_foot
    | split
    | with_reducible apply Foot.twn
    | dsimp only

end Sys2Proof.Machine
end

