-- ==== Sys2Proof/Laws/FootWheel.lean ====
section
/-! SUPPORT. Footprints of the operations of Machine/Wheel.lean. -/

namespace Sys2Proof.Machine

theorem State.setInput_foot {s x1 x2} : Foot 8192 s (State.setInput s x1 x2) := by
  unfold State.setInput
  try dsimp only
  repeat' first
    | with_reducible apply Foot.refl
    | with_reducible_and_instances rfl
    | with_reducible apply Foot.wheel

theorem State.accept_foot {s x1 x2 x3 x4 x5} : Foot 8192 s (State.accept s x1 x2 x3 x4 x5) := by
  unfold State.accept
  try dsimp only
  repeat' first
    | with_reducible apply Foot.refl
    | with_reducible_and_instances rfl
    | with_reducible apply Foot.via State.setInput_foot
    | split

theorem State.onHead_foot {s x1 x2} : Foot 8192 s (State.onHead s x1 x2) := by
  unfold State.onHead
  try dsimp only
  repeat' first
    | with_reducible apply Foot.refl
    | with_reducible_and_instances rfl
    | with_reducible apply Foot.via State.setInput_foot
    | split

theorem State.place_foot {s x1 x2 x3} : Foot 24576 s (State.place s x1 x2 x3) := by
  unfold State.place
  try dsimp only
  repeat' first
    | with_reducible apply Foot.refl
    | with_reducible_and_instances rfl
    | with_reducible apply Foot.via State.onHead_foot
    | with_reducible apply Foot.sync
    | dsimp only

theorem State.resumeAngle_foot {s x1} : Foot 419497472 s (State.resumeAngle s x1) := by
  unfold State.resumeAngle
  try dsimp only
  repeat' first
    | with_reducible apply Foot.refl
    | with_reducible_and_instances rfl
    | with_reducible apply Foot.via State.keyRange_foot

theorem State.enterCrank_foot {s x1 x2 x3 x4 x5} : Foot 428729856 s (State.enterCrank s x1 x2 x3 x4 x5) := by
  unfold State.enterCrank
  try dsimp only
  repeat' first
    | with_reducible apply Foot.refl
    | with_reducible_and_instances rfl
    | with_reducible apply Foot.via State.go_foot
    | with_reducible apply Foot.via State.place_foot
    | with_reducible apply Foot.via State.resumeAngle_foot
    | with_reducible apply Foot.via State.startAt_foot
    | with_reducible apply Foot.sync

theorem State.enterReverse_foot {s} : Foot 428729856 s (State.enterReverse s) := by
  unfold State.enterReverse
  try dsimp only
  repeat' first
    | with_reducible apply Foot.refl
    | with_reducible_and_instances rfl
    | with_reducible apply Foot.via State.goReport_foot
    | with_reducible apply Foot.via State.place_foot
    | with_reducible apply Foot.via State.stepAngle_foot
    | with_reducible apply Foot.sync
    | with_reducible apply Foot.tan
    | with_reducible refine Foot.many rfl (h := ?_)

theorem State.hostSearch_foot {s} : Foot 428729856 s (State.hostSearch s) := by
  unfold State.hostSearch
  try dsimp only
  repeat' first
    | with_reducible apply Foot.refl
    | with_reducible_and_instances rfl
    | with_reducible apply Foot.via State.goReport_foot
    | with_reducible apply Foot.sync

theorem State.leaveReverse_foot {s x1 x2 x3 x4} : Foot 428729856 s (State.leaveReverse s x1 x2 x3 x4) := by
  unfold State.leaveReverse
  try dsimp only
  repeat' first
    | with_reducible apply Foot.refl
    | with_reducible_and_instances rfl
    | with_reducible apply Foot.via State.go_foot
    | with_reducible apply Foot.via State.resumeAngle_foot
    | with_reducible apply Foot.via State.startAt_foot
    | with_reducible apply Foot.ite
    | split
    | with_reducible apply Foot.sync

theorem State.actOn_foot {s x1} : Foot 428729856 s (State.actOn s x1) := by
  unfold State.actOn
  try dsimp only
  repeat' first
    | with_reducible apply Foot.refl
    | with_reducible_and_instances rfl
    | with_reducible apply Foot.via State.enterCrank_foot
    | with_reducible apply Foot.via State.enterReverse_foot
    | with_reducible apply Foot.via State.go_foot
    | with_reducible apply Foot.via State.goReport_foot
    | with_reducible apply Foot.via State.hit_foot
    | with_reducible apply Foot.via State.hostSearch_foot
    | with_reducible apply Foot.via State.leaveReverse_foot
    | with_reducible apply Foot.ite
    | split
    | with_reducible apply Foot.sync

theorem State.clearCrank_foot {s x1} : Foot 8192 s (State.clearCrank s x1) := by
  unfold State.clearCrank
  try dsimp only
  repeat' first
    | with_reducible apply Foot.refl
    | with_reducible_and_instances rfl
    | with_reducible apply Foot.via State.setInput_foot

theorem execAngCntClr_foot {x0 s t} (h : execAngCntClr x0 s = .next t) : Foot 8192 s t := by
  unfold execAngCntClr at h
  injection h with h
  subst h
  try dsimp only
  repeat' first
    | with_reducible apply Foot.refl
    | with_reducible_and_instances rfl
    | with_reducible apply Foot.via State.clearCrank_foot
    | with_reducible apply Foot.via State.setInput_foot
    | with_reducible apply Foot.ite
    | with_reducible apply Foot.forUpTo
    | with_reducible intro _ _
    | split
    | dsimp only

theorem execAngVtxSel_foot {x0 s t} (h : execAngVtxSel x0 s = .next t) : Foot 8200 s t := by
  unfold execAngVtxSel at h
  injection h with h
  subst h
  try dsimp only
  repeat' first
    | with_reducible apply Foot.refl
    | with_reducible_and_instances rfl
    | with_reducible apply Foot.via State.setCfg_foot
    | with_reducible apply Foot.ite
    | split
    | with_reducible apply Foot.wheel
    | dsimp only

theorem execSynClr_foot {x0 s t} (h : execSynClr x0 s = .next t) : Foot 16384 s t := by
  unfold execSynClr at h
  injection h with h
  subst h
  try dsimp only
  repeat' first
    | with_reducible apply Foot.refl
    | with_reducible_and_instances rfl
    | with_reducible apply Foot.ite
    | split
    | with_reducible apply Foot.sync
    | dsimp only

theorem execSynCmdSearch_foot {s t} (h : execSynCmdSearch s = .next t) : Foot 965600832 s t := by
  unfold execSynCmdSearch at h
  injection h with h
  subst h
  try dsimp only
  repeat' first
    | with_reducible apply Foot.refl
    | with_reducible_and_instances rfl
    | with_reducible apply Foot.via State.catchUp_foot
    | with_reducible apply Foot.via State.found_foot
    | with_reducible apply Foot.via State.hostSearch_foot
    | with_reducible apply Foot.ite
    | split
    | dsimp only

theorem State.rejectEdge_foot {s x1 x2 x3} : Foot 151004160 s (State.rejectEdge s x1 x2 x3) := by
  unfold State.rejectEdge
  try dsimp only
  repeat' first
    | with_reducible apply Foot.refl
    | with_reducible_and_instances rfl
    | with_reducible apply Foot.via State.arrive_foot
    | with_reducible apply Foot.via State.hit_foot
    | with_reducible apply Foot.via State.reportCycle_foot
    | with_reducible apply Foot.via State.setInput_foot
    | with_reducible apply Foot.ite
    | split
    | with_reducible apply Foot.wheel

theorem State.camCheck_foot {s x1 x2 x3 x4} : Foot 419439616 s (State.camCheck s x1 x2 x3 x4) := by
  unfold State.camCheck
  try dsimp only
  repeat' first
    | with_reducible apply Foot.refl
    | with_reducible_and_instances rfl
    | with_reducible apply Foot.via State.accept_foot
    | with_reducible apply Foot.via State.later_foot
    | with_reducible apply Foot.via State.rejectEdge_foot
    | with_reducible apply Foot.via State.report_foot
    | with_reducible apply Foot.via State.setInput_foot
    | with_reducible apply Foot.ite
    | split

theorem State.camPos_foot {s x1 x2} : Foot 8192 s (State.camPos s x1 x2) := by
  unfold State.camPos
  try dsimp only
  repeat' first
    | with_reducible apply Foot.refl
    | with_reducible_and_instances rfl
    | with_reducible apply Foot.via State.setInput_foot
    | with_reducible apply Foot.ite
    | split
    | dsimp only

theorem State.camVote_foot {s x1 x2 x3} : Foot 16794624 s (State.camVote s x1 x2 x3) := by
  unfold State.camVote
  try dsimp only
  repeat' first
    | with_reducible apply Foot.refl
    | with_reducible_and_instances rfl
    | with_reducible apply Foot.via State.found_foot
    | with_reducible apply Foot.via State.report_foot
    | with_reducible apply Foot.ite
    | split
    | with_reducible apply Foot.sync

theorem State.syncCam_foot {s x1 x2 x3} : Foot 151012352 s (State.syncCam s x1 x2 x3) := by
  unfold State.syncCam
  try dsimp only
  repeat' first
    | with_reducible apply Foot.refl
    | with_reducible_and_instances rfl
    | with_reducible apply Foot.via State.camError_foot
    | with_reducible apply Foot.via State.camVote_foot
    | with_reducible apply Foot.via State.report_foot
    | with_reducible apply Foot.ite
    | split
    | with_reducible apply Foot.sync
    | dsimp only

theorem State.camWork_foot {s x1 x2 x3 x4} : Foot 151012352 s (State.camWork s x1 x2 x3 x4) := by
  unfold State.camWork
  try dsimp only
  repeat' first
    | with_reducible apply Foot.refl
    | with_reducible_and_instances rfl
    | with_reducible apply Foot.via State.syncCam_foot
    | with_reducible apply Foot.ite
    | split

theorem State.reversePlace_foot {s x1 x2 x3 x4 x5} : Foot 16835584 s (State.reversePlace s x1 x2 x3 x4 x5) := by
  unfold State.reversePlace
  try dsimp only
  repeat' first
    | with_reducible apply Foot.refl
    | with_reducible_and_instances rfl
    | with_reducible apply Foot.via State.place_foot
    | with_reducible apply Foot.via State.stepAngle_foot
    | with_reducible apply Foot.via State.syncErr_foot
    | with_reducible apply Foot.ite
    | split
    | with_reducible apply Foot.sync

theorem State.reverseStep_foot {s} : Foot 16835584 s (State.reverseStep s) := by
  unfold State.reverseStep
  try dsimp only
  repeat' first
    | with_reducible apply Foot.refl
    | with_reducible_and_instances rfl
    | with_reducible apply Foot.via State.reversePlace_foot
    | split
    | with_reducible apply Foot.sync

theorem State.reverseForward_foot {s} : Foot 16835584 s (State.reverseForward s) := by
  unfold State.reverseForward
  try dsimp only
  repeat' first
    | with_reducible apply Foot.refl
    | with_reducible_and_instances rfl
    | with_reducible apply Foot.via State.found_foot
    | with_reducible apply Foot.via State.reversePlace_foot
    | with_reducible apply Foot.via State.reverseStep_foot
    | with_reducible apply Foot.ite
    | split
    | with_reducible apply Foot.sync

theorem State.syncDirection_foot {s x1} : Foot 16835584 s (State.syncDirection s x1) := by
  unfold State.syncDirection
  try dsimp only
  repeat' first
    | with_reducible apply Foot.refl
    | with_reducible_and_instances rfl
    | with_reducible apply Foot.via State.found_foot
    | with_reducible apply Foot.via State.reverseForward_foot
    | with_reducible apply Foot.via State.reverseStep_foot
    | with_reducible apply Foot.via State.syncErr_foot
    | with_reducible apply Foot.ite
    | split
    | with_reducible apply Foot.sync

theorem State.directionDecided_foot {s x1 x2} : Foot 151053312 s (State.directionDecided s x1 x2) := by
  unfold State.directionDecided
  try dsimp only
  repeat' first
    | with_reducible apply Foot.refl
    | with_reducible_and_instances rfl
    | with_reducible apply Foot.via State.hit_foot
    | with_reducible apply Foot.via State.onHead_foot
    | with_reducible apply Foot.via State.reportCycle_foot
    | with_reducible apply Foot.via State.setInput_foot
    | with_reducible apply Foot.via State.syncDirection_foot
    | with_reducible apply Foot.ite
    | split
    | dsimp only

theorem State.closeDir_foot {s x1} : Foot 268435456 s (State.closeDir s x1) := by
  unfold State.closeDir
  try dsimp only
  repeat' first
    | with_reducible apply Foot.refl
    | with_reducible_and_instances rfl
    | with_reducible apply Foot.via State.later_foot
    | with_reducible apply Foot.ite
    | split
    | dsimp only

theorem State.edgeCheck_foot {s x1 x2} : Foot 419488768 s (State.edgeCheck s x1 x2) := by
  unfold State.edgeCheck
  try dsimp only
  repeat' first
    | with_reducible apply Foot.refl
    | with_reducible_and_instances rfl
    | with_reducible apply Foot.via State.accept_foot
    | with_reducible apply Foot.via State.directionDecided_foot
    | with_reducible apply Foot.via State.later_foot
    | with_reducible apply Foot.via State.rejectEdge_foot
    | with_reducible apply Foot.via State.s16Edge_foot
    | with_reducible apply Foot.via State.setInput_foot
    | with_reducible apply Foot.ite
    | split

theorem State.settle_foot {s} : Foot 965600832 s (State.settle s) := by
  unfold State.settle
  try dsimp only
  repeat' first
    | with_reducible apply Foot.refl
    | with_reducible_and_instances rfl
    | with_reducible apply Foot.via State.actOn_foot
    | with_reducible apply Foot.via State.catchUp_foot
    | with_reducible apply Foot.ite
    | split
    | with_reducible apply Foot.sync

theorem State.showLevel_foot {s x1 x2} : Foot 8192 s (State.showLevel s x1 x2) := by
  unfold State.showLevel
  try dsimp only
  repeat' first
    | with_reducible apply Foot.refl
    | with_reducible_and_instances rfl
    | with_reducible apply Foot.via State.setInput_foot
    | with_reducible apply Foot.ite
    | split

theorem State.trailCheck_foot {s x1 x2} : Foot 268435456 s (State.trailCheck s x1 x2) := by
  unfold State.trailCheck
  try dsimp only
  repeat' first
    | with_reducible apply Foot.refl
    | with_reducible_and_instances rfl
    | with_reducible apply Foot.via State.later_foot
    | with_reducible apply Foot.ite
    | split

theorem State.forwardVertex_foot {s x1 x2 x3} : Foot 956425792 s (State.forwardVertex s x1 x2 x3) := by
  unfold State.forwardVertex
  try dsimp only
  repeat' first
    | with_reducible apply Foot.refl
    | with_reducible_and_instances rfl
    | with_reducible apply Foot.via State.anchorAt_foot
    | with_reducible apply Foot.via State.place_foot
    | with_reducible apply Foot.via State.syncErr_foot
    | with_reducible apply Foot.ite
    | split
    | with_reducible apply Foot.sync

theorem State.lockVertex_foot {s x1 x2 x3} : Foot 16384 s (State.lockVertex s x1 x2 x3) := by
  unfold State.lockVertex
  try dsimp only
  repeat' first
    | with_reducible apply Foot.refl
    | with_reducible_and_instances rfl
    | with_reducible apply Foot.via State.found_foot
    | with_reducible apply Foot.ite
    | split
    | with_reducible apply Foot.sync

theorem State.syncVertex_foot {s x1 x2 x3} : Foot 956425792 s (State.syncVertex s x1 x2 x3) := by
  unfold State.syncVertex
  try dsimp only
  repeat' first
    | with_reducible apply Foot.refl
    | with_reducible_and_instances rfl
    | with_reducible apply Foot.via State.forwardVertex_foot
    | with_reducible apply Foot.via State.found_foot
    | with_reducible apply Foot.via State.lockVertex_foot
    | split
    | with_reducible apply Foot.sync

theorem State.vertexWork_foot {s x1 x2 x3} : Foot 956425792 s (State.vertexWork s x1 x2 x3) := by
  unfold State.vertexWork
  try dsimp only
  repeat' first
    | with_reducible apply Foot.refl
    | with_reducible_and_instances rfl
    | with_reducible apply Foot.via State.later_foot
    | with_reducible apply Foot.via State.noLearn_foot
    | with_reducible apply Foot.via State.syncVertex_foot

theorem State.crankEdge_foot {s x1} : Foot 268435456 s (State.crankEdge s x1) := by
  unfold State.crankEdge
  try dsimp only
  repeat' first
    | with_reducible apply Foot.refl
    | with_reducible_and_instances rfl
    | with_reducible apply Foot.via State.later_foot
    | with_reducible apply Foot.ite
    | split

theorem State.noteCross_foot {s x1} : Foot 8192 s (State.noteCross s x1) := by
  unfold State.noteCross
  try dsimp only
  repeat' first
    | with_reducible apply Foot.refl
    | with_reducible_and_instances rfl
    | with_reducible apply Foot.via State.setInput_foot

theorem State.trailing_foot {s x1 x2} : Foot 268435456 s (State.trailing s x1 x2) := by
  unfold State.trailing
  try dsimp only
  repeat' first
    | with_reducible apply Foot.refl
    | with_reducible_and_instances rfl
    | with_reducible apply Foot.via State.later_foot

theorem State.zeroCross_foot {s x1 x2} : Foot 8192 s (State.zeroCross s x1 x2) := by
  unfold State.zeroCross
  try dsimp only
  repeat' first
    | with_reducible apply Foot.refl
    | with_reducible_and_instances rfl
    | with_reducible apply Foot.via State.setInput_foot

theorem execArcLaunchSend_foot {x0 s t} (h : execArcLaunchSend x0 s = .next t) : Foot 965600864 s t := by
  unfold execArcLaunchSend at h
  injection h with h
  subst h
  try dsimp only
  repeat' first
    | with_reducible apply Foot.refl
    | with_reducible_and_instances rfl
    | with_reducible apply Foot.via State.arcLaunchSend_foot
    | with_reducible apply Foot.via State.settle_foot
    | dsimp only

theorem execArmThresholdTimeout_foot {x0 s t} (h : execArmThresholdTimeout x0 s = .next t) : Foot 8192 s t := by
  unfold execArmThresholdTimeout at h
  injection h with h
  subst h
  try dsimp only
  repeat' first
    | with_reducible apply Foot.refl
    | with_reducible_and_instances rfl
    | with_reducible apply Foot.via State.setInput_foot
    | with_reducible apply Foot.ite
    | split
    | dsimp only

theorem execCamEdge_foot {x0 x1 s t} (h : execCamEdge x0 x1 s = .next t) : Foot 268435456 s t := by
  unfold execCamEdge at h
  injection h with h
  subst h
  try dsimp only
  repeat' first
    | with_reducible apply Foot.refl
    | with_reducible_and_instances rfl
    | with_reducible apply Foot.via State.later_foot
    | with_reducible apply Foot.ite
    | split
    | dsimp only

theorem execCrankEdge_foot {x0 x1 s t} (h : execCrankEdge x0 x1 s = .next t) : Foot 268443648 s t := by
  unfold execCrankEdge at h
  injection h with h
  subst h
  try dsimp only
  repeat' first
    | with_reducible apply Foot.refl
    | with_reducible_and_instances rfl
    | with_reducible apply Foot.via State.crankEdge_foot
    | with_reducible apply Foot.via State.later_foot
    | with_reducible apply Foot.via State.noteCross_foot
    | with_reducible apply Foot.via State.trailing_foot
    | with_reducible apply Foot.via State.zeroCross_foot
    | with_reducible apply Foot.ite
    | split
    | dsimp only

theorem execDirReverseDecision_foot {x0 s t} (h : execDirReverseDecision x0 s = .next t) : Foot 268435456 s t := by
  unfold execDirReverseDecision at h
  injection h with h
  subst h
  try dsimp only
  repeat' first
    | with_reducible apply Foot.refl
    | with_reducible_and_instances rfl
    | with_reducible apply Foot.via State.later_foot
    | with_reducible apply Foot.ite
    | split
    | dsimp only

theorem execDirTrailingEdge_foot {x0 s t} (h : execDirTrailingEdge x0 s = .next t) : Foot 268435456 s t := by
  unfold execDirTrailingEdge at h
  injection h with h
  subst h
  try dsimp only
  repeat' first
    | with_reducible apply Foot.refl
    | with_reducible_and_instances rfl
    | with_reducible apply Foot.via State.trailing_foot
    | with_reducible apply Foot.ite
    | split
    | dsimp only

theorem execEntryRebuildDone_foot {x0 s t} (h : execEntryRebuildDone x0 s = .next t) : Foot 965600832 s t := by
  unfold execEntryRebuildDone at h
  injection h with h
  subst h
  try dsimp only
  repeat' first
    | with_reducible apply Foot.refl
    | with_reducible_and_instances rfl
    | with_reducible apply Foot.via State.entryRebuilt_foot
    | with_reducible apply Foot.via State.settle_foot
    | dsimp only

theorem execEventFire_foot {x0 s t} (h : execEventFire x0 s = .next t) : Foot 965600832 s t := by
  unfold execEventFire at h
  injection h with h
  subst h
  try dsimp only
  repeat' first
    | with_reducible apply Foot.refl
    | with_reducible_and_instances rfl
    | with_reducible apply Foot.via State.eventFire_foot
    | with_reducible apply Foot.via State.settle_foot
    | dsimp only

theorem execPulseEndFire_foot {x0 s t} (h : execPulseEndFire x0 s = .next t) : Foot 965600832 s t := by
  unfold execPulseEndFire at h
  injection h with h
  subst h
  try dsimp only
  repeat' first
    | with_reducible apply Foot.refl
    | with_reducible_and_instances rfl
    | with_reducible apply Foot.via State.pulseEndFire_foot
    | with_reducible apply Foot.via State.settle_foot
    | dsimp only

theorem execSyncStallTimeout_foot {s t} (h : execSyncStallTimeout s = .next t) : Foot 16384 s t := by
  unfold execSyncStallTimeout at h
  injection h with h
  subst h
  try dsimp only
  repeat' first
    | with_reducible apply Foot.refl
    | with_reducible_and_instances rfl
    | with_reducible apply Foot.via State.found_foot
    | with_reducible apply Foot.ite
    | split
    | dsimp only

theorem execVrPeakRecord_foot {x0 s t} (h : execVrPeakRecord x0 s = .next t) : Foot 8192 s t := by
  unfold execVrPeakRecord at h
  injection h with h
  subst h
  try dsimp only
  repeat' first
    | with_reducible apply Foot.refl
    | with_reducible_and_instances rfl
    | with_reducible apply Foot.via State.setInput_foot
    | with_reducible apply Foot.ite
    | split
    | dsimp only

end Sys2Proof.Machine
end

