-- ==== Sys2Proof/Laws/FootLanes.lean ====
section
/-! SUPPORT. Footprints of the operations of Machine/Lanes.lean. -/

namespace Sys2Proof.Machine

theorem State.lanStore_foot {s x1 x2} : Foot 20971520 s (State.lanStore s x1 x2) := by
  unfold State.lanStore
  try dsimp only
  repeat' first
    | exact fun hx => Tbl.wf_put hx
    | exact fun hx => Tbl.wf_filter hx
    | exact fun _ => rfl
    | with_reducible apply Foot.refl
    | with_reducible_and_instances rfl
    | with_reducible apply Foot.via State.deltaFrame_foot
    | with_reducible apply Foot.lan_mem

theorem State.setLane_foot {s x1 x2} : Foot 4194304 s (State.setLane s x1 x2) := by
  unfold State.setLane
  try dsimp only
  repeat' first
    | with_reducible apply Foot.refl
    | with_reducible_and_instances rfl
    | with_reducible apply Foot.lan

theorem State.landOne_foot {s x1 x2} : Foot 20971528 s (State.landOne s x1 x2) := by
  unfold State.landOne
  try dsimp only
  repeat' first
    | with_reducible apply Foot.refl
    | with_reducible_and_instances rfl
    | with_reducible apply Foot.via State.lanStore_foot
    | with_reducible apply Foot.via State.setFlag_foot
    | with_reducible apply Foot.via State.setLane_foot
    | split

theorem State.landAll_foot {s x1 x2} : Foot 20971528 s (State.landAll s x1 x2) := by
  unfold State.landAll
  try dsimp only
  repeat' first
    | with_reducible apply Foot.refl
    | with_reducible_and_instances rfl
    | with_reducible apply Foot.via State.landOne_foot
    | with_reducible apply Foot.foldl
    | with_reducible intro _ _
    | dsimp only

theorem State.clusterReset_foot {s x1} : Foot 4194304 s (State.clusterReset s x1) := by
  unfold State.clusterReset
  try dsimp only
  repeat' first
    | with_reducible apply Foot.refl
    | with_reducible_and_instances rfl
    | with_reducible apply Foot.lan
    | dsimp only

theorem State.vecOne_foot {s x1 x2 x3} : Foot 155190272 s (State.vecOne s x1 x2 x3) := by
  unfold State.vecOne
  try dsimp only
  repeat' first
    | with_reducible apply Foot.refl
    | with_reducible_and_instances rfl
    | with_reducible apply Foot.via State.hit_foot
    | with_reducible apply Foot.via State.reportCycle_foot
    | with_reducible apply Foot.via State.setLane_foot
    | with_reducible apply Foot.ite
    | split
    | dsimp only

theorem State.vecEvent_foot {s x1 x2 x3 x4} : Foot 155190272 s (State.vecEvent s x1 x2 x3 x4) := by
  unfold State.vecEvent
  try dsimp only
  repeat' first
    | with_reducible apply Foot.refl
    | with_reducible_and_instances rfl
    | with_reducible apply Foot.via State.vecOne_foot
    | with_reducible apply Foot.ite
    | with_reducible apply Foot.forUpTo
    | with_reducible intro _ _
    | split
    | dsimp only

theorem State.capAppend_foot {s x1 x2 x3 x4} : Foot 155190272 s (State.capAppend s x1 x2 x3 x4) := by
  unfold State.capAppend
  try dsimp only
  repeat' first
    | with_reducible apply Foot.refl
    | with_reducible_and_instances rfl
    | with_reducible apply Foot.via State.hit_foot
    | with_reducible apply Foot.via State.reportCycle_foot
    | with_reducible apply Foot.via State.setLane_foot
    | with_reducible apply Foot.via State.vecEvent_foot
    | with_reducible apply Foot.ite
    | split

theorem State.matchDone_foot {s x1 x2} : Foot 155190272 s (State.matchDone s x1 x2) := by
  unfold State.matchDone
  try dsimp only
  repeat' first
    | with_reducible apply Foot.refl
    | with_reducible_and_instances rfl
    | with_reducible apply Foot.via State.capAppend_foot
    | with_reducible apply Foot.via State.setLane_foot
    | with_reducible apply Foot.via State.vecEvent_foot
    | with_reducible apply Foot.ite
    | split
    | dsimp only

theorem State.laneSettle_foot {s x1} : Foot 155190272 s (State.laneSettle s x1) := by
  unfold State.laneSettle
  try dsimp only
  repeat' first
    | with_reducible apply Foot.refl
    | with_reducible_and_instances rfl
    | with_reducible apply Foot.via State.matchDone_foot
    | split

theorem State.laneCmd_foot {s x1 t} (h : State.laneCmd s x1 = some t) : Foot 4194304 s t := by
  unfold State.laneCmd at h
  try dsimp only at h
  repeat' split at h
  all_goals first
    | (simp only [reduceCtorEq] at h; done)
    | (simp only [Option.some.injEq] at h; subst h)
  repeat' first
    | with_reducible apply Foot.refl
    | with_reducible_and_instances rfl
    | with_reducible apply Foot.via State.setLane_foot
    | with_reducible apply Foot.ite
    | split

theorem State.outsideWrite_foot {s x1 x2 x3 t} (h : State.outsideWrite s x1 x2 x3 = some t) : Foot 20971528 s t := by
  unfold State.outsideWrite at h
  try dsimp only at h
  repeat' split at h
  all_goals first
    | (simp only [reduceCtorEq] at h; done)
    | (simp only [Option.some.injEq] at h; subst h)
  repeat' first
    | with_reducible apply Foot.refl
    | with_reducible_and_instances rfl
    | with_reducible apply Foot.via State.landOne_foot
    | with_reducible apply Foot.via State.setLane_foot
    | with_reducible apply Foot.ite
    | split
    | dsimp only

theorem State.setSpare_foot {s x1 x2} : Foot 4194304 s (State.setSpare s x1 x2) := by
  unfold State.setSpare
  try dsimp only
  repeat' first
    | with_reducible apply Foot.refl
    | with_reducible_and_instances rfl
    | with_reducible apply Foot.lan

theorem State.spareCmd_foot {s x1 t} (h : State.spareCmd s x1 = some t) : Foot 4194304 s t := by
  unfold State.spareCmd at h
  try dsimp only at h
  repeat' split at h
  all_goals first
    | with_reducible exact (State.laneCmd_foot h).mono (by decide)
    | (simp only [reduceCtorEq] at h; done)
    | (simp only [Option.some.injEq] at h; subst h)
  repeat' first
    | with_reducible apply Foot.refl
    | with_reducible_and_instances rfl
    | with_reducible refine Foot.via (State.laneCmd_foot (by assumption)) (by decide) ?_
    | with_reducible refine Foot.getD ?_ (fun _ hx => (State.laneCmd_foot hx).mono (by decide))
    | with_reducible apply Foot.via State.setSpare_foot
    | with_reducible apply Foot.ite
    | split

theorem execLanClr_foot {x0 s t} (h : execLanClr x0 s = .next t) : Foot 4194304 s t := by
  unfold execLanClr at h
  injection h with h
  subst h
  try dsimp only
  repeat' first
    | with_reducible apply Foot.refl
    | with_reducible_and_instances rfl
    | with_reducible apply Foot.via State.setLane_foot
    | with_reducible apply Foot.ite
    | split
    | dsimp only

theorem execLanRdlWrite_foot {x0 s t} (h : execLanRdlWrite x0 s = .next t) : Foot 268435456 s t := by
  unfold execLanRdlWrite at h
  injection h with h
  subst h
  try dsimp only
  repeat' first
    | with_reducible apply Foot.refl
    | with_reducible_and_instances rfl
    | with_reducible apply Foot.via State.later_foot
    | with_reducible apply Foot.ite
    | split
    | dsimp only

theorem State.autoStart_foot {s x1} : Foot 4194304 s (State.autoStart s x1) := by
  unfold State.autoStart
  try dsimp only
  repeat' first
    | with_reducible apply Foot.refl
    | with_reducible_and_instances rfl
    | with_reducible apply Foot.via State.setLane_foot
    | split

theorem State.lanTouch_foot {s x1} : Foot 16778242 s (State.lanTouch s x1) := by
  unfold State.lanTouch
  try dsimp only
  repeat' first
    | with_reducible apply Foot.refl
    | with_reducible_and_instances rfl
    | with_reducible apply Foot.via State.freeVal_foot
    | with_reducible refine Foot.via (State.freeVal_foot' (by assumption)) (by decide) ?_
    | with_reducible apply Foot.via State.report_foot
    | with_reducible apply Foot.ite
    | split
    | dsimp only

theorem State.rdlRead_foot {s x1 x2} : Foot 155190280 s (State.rdlRead s x1 x2) := by
  unfold State.rdlRead
  try dsimp only
  repeat' first
    | with_reducible apply Foot.refl
    | with_reducible_and_instances rfl
    | with_reducible apply Foot.via State.laneSettle_foot
    | with_reducible apply Foot.via State.setCfg_foot

theorem State.compareOne_foot {s x1 x2 x3 x4} : Foot 20972544 s (State.compareOne s x1 x2 x3 x4) := by
  unfold State.compareOne
  try dsimp only
  repeat' first
    | with_reducible apply Foot.refl
    | with_reducible_and_instances rfl
    | with_reducible apply Foot.via State.report_foot
    | with_reducible apply Foot.via State.setLane_foot
    | with_reducible apply Foot.ite
    | split

theorem State.compareTick_foot {s x1 x2 x3} : Foot 20972544 s (State.compareTick s x1 x2 x3) := by
  unfold State.compareTick
  try dsimp only
  repeat' first
    | with_reducible apply Foot.refl
    | with_reducible_and_instances rfl
    | with_reducible apply Foot.via State.compareOne_foot
    | with_reducible apply Foot.via State.setLane_foot
    | with_reducible apply Foot.ite
    | split

theorem State.portEdge_foot {s x1 x2 x3 x4} : Foot 155190272 s (State.portEdge s x1 x2 x3 x4) := by
  unfold State.portEdge
  try dsimp only
  repeat' first
    | with_reducible apply Foot.refl
    | with_reducible_and_instances rfl
    | with_reducible apply Foot.via State.setLane_foot
    | with_reducible apply Foot.via State.vecEvent_foot
    | with_reducible apply Foot.ite
    | split

theorem State.edgeAll_foot {s x1 x2 x3 x4 x5} : Foot 155190272 s (State.edgeAll s x1 x2 x3 x4 x5) := by
  unfold State.edgeAll
  try dsimp only
  repeat' first
    | with_reducible apply Foot.refl
    | with_reducible_and_instances rfl
    | with_reducible apply Foot.via State.portEdge_foot
    | with_reducible apply Foot.ite
    | with_reducible apply Foot.forUpTo
    | with_reducible intro _ _
    | split
    | dsimp only

theorem State.lineArrive_foot {s x1 x2} : Foot 155190272 s (State.lineArrive s x1 x2) := by
  unfold State.lineArrive
  try dsimp only
  repeat' first
    | with_reducible apply Foot.refl
    | with_reducible_and_instances rfl
    | with_reducible apply Foot.via State.vecEvent_foot
    | with_reducible apply Foot.forUpTo
    | with_reducible intro _ _
    | dsimp only

theorem State.setLine_foot {s x1 x2 x3} : Foot 155190272 s (State.setLine s x1 x2 x3) := by
  unfold State.setLine
  try dsimp only
  repeat' first
    | with_reducible apply Foot.refl
    | with_reducible_and_instances rfl
    | with_reducible apply Foot.via State.edgeAll_foot
    | with_reducible apply Foot.ite
    | split
    | with_reducible apply Foot.lan

theorem State.laneItemFire_foot {s x1} : Foot 155190272 s (State.laneItemFire s x1) := by
  unfold State.laneItemFire
  try dsimp only
  repeat' first
    | with_reducible apply Foot.refl
    | with_reducible_and_instances rfl
    | with_reducible apply Foot.via State.setLine_foot
    | with_reducible apply Foot.ite
    | split

theorem State.remapEdges_foot {s x1} : Foot 155190272 s (State.remapEdges s x1) := by
  unfold State.remapEdges
  try dsimp only
  repeat' first
    | with_reducible apply Foot.refl
    | with_reducible_and_instances rfl
    | with_reducible apply Foot.via State.portEdge_foot
    | with_reducible apply Foot.via State.setLane_foot
    | with_reducible apply Foot.ite
    | with_reducible apply Foot.forUpTo
    | with_reducible intro _ _
    | split
    | dsimp only

theorem State.wrapNow_foot {s x1 x2} : Foot 4194304 s (State.wrapNow s x1 x2) := by
  unfold State.wrapNow
  try dsimp only
  repeat' first
    | with_reducible apply Foot.refl
    | with_reducible_and_instances rfl
    | with_reducible apply Foot.via State.setLane_foot
    | with_reducible apply Foot.ite
    | split
    | dsimp only

theorem State.laneTick_foot {s x1} : Foot 155190280 s (State.laneTick s x1) := by
  unfold State.laneTick
  try dsimp only
  repeat' first
    | with_reducible apply Foot.refl
    | with_reducible_and_instances rfl
    | with_reducible apply Foot.via State.capAppend_foot
    | with_reducible apply Foot.via State.compareTick_foot
    | with_reducible apply Foot.via State.landAll_foot
    | with_reducible apply Foot.via State.laneSettle_foot
    | with_reducible apply Foot.via State.remapEdges_foot
    | with_reducible apply Foot.via State.setLane_foot
    | with_reducible apply Foot.via State.wrapNow_foot
    | with_reducible apply Foot.ite
    | with_reducible apply Foot.foldl
    | with_reducible intro _ _
    | split
    | dsimp only

theorem execCompareMatch_foot {x0 x1 s t} (h : execCompareMatch x0 x1 s = .next t) : Foot 155190272 s t := by
  unfold execCompareMatch at h
  injection h with h
  subst h
  try dsimp only
  repeat' first
    | with_reducible apply Foot.refl
    | with_reducible_and_instances rfl
    | with_reducible apply Foot.via State.matchDone_foot
    | with_reducible apply Foot.ite
    | split
    | dsimp only

theorem execCounterWrap_foot {x0 x1 s t} (h : execCounterWrap x0 x1 s = .next t) : Foot 155190272 s t := by
  unfold execCounterWrap at h
  injection h with h
  subst h
  try dsimp only
  repeat' first
    | with_reducible apply Foot.refl
    | with_reducible_and_instances rfl
    | with_reducible apply Foot.via State.laneSettle_foot
    | with_reducible apply Foot.via State.wrapNow_foot
    | with_reducible apply Foot.ite
    | split
    | dsimp only

theorem execGpPinEdge_foot {x0 x1 s t} (h : execGpPinEdge x0 x1 s = .next t) : Foot 155190272 s t := by
  unfold execGpPinEdge at h
  injection h with h
  subst h
  try dsimp only
  repeat' first
    | with_reducible apply Foot.refl
    | with_reducible_and_instances rfl
    | with_reducible apply Foot.via State.edgeAll_foot
    | with_reducible apply Foot.ite
    | split
    | with_reducible apply Foot.lan
    | dsimp only

theorem execLanCmdContinue_foot {x0 s t} (h : execLanCmdContinue x0 s = .next t) : Foot 4194304 s t := by
  unfold execLanCmdContinue at h
  injection h with h
  subst h
  try dsimp only
  repeat' first
    | with_reducible apply Foot.refl
    | with_reducible_and_instances rfl
    | with_reducible refine Foot.via (State.laneCmd_foot (by assumption)) (by decide) ?_
    | with_reducible refine Foot.getD ?_ (fun _ hx => (State.laneCmd_foot hx).mono (by decide))
    | with_reducible apply Foot.ite
    | split
    | dsimp only

theorem execLanCmdHalt_foot {x0 s t} (h : execLanCmdHalt x0 s = .next t) : Foot 4194304 s t := by
  unfold execLanCmdHalt at h
  injection h with h
  subst h
  try dsimp only
  repeat' first
    | with_reducible apply Foot.refl
    | with_reducible_and_instances rfl
    | with_reducible refine Foot.via (State.laneCmd_foot (by assumption)) (by decide) ?_
    | with_reducible refine Foot.getD ?_ (fun _ hx => (State.laneCmd_foot hx).mono (by decide))
    | with_reducible apply Foot.ite
    | split
    | dsimp only

theorem execLanCmdStart_foot {x0 s t} (h : execLanCmdStart x0 s = .next t) : Foot 4194304 s t := by
  unfold execLanCmdStart at h
  injection h with h
  subst h
  try dsimp only
  repeat' first
    | with_reducible apply Foot.refl
    | with_reducible_and_instances rfl
    | with_reducible refine Foot.via (State.laneCmd_foot (by assumption)) (by decide) ?_
    | with_reducible refine Foot.getD ?_ (fun _ hx => (State.laneCmd_foot hx).mono (by decide))
    | with_reducible apply Foot.ite
    | split
    | dsimp only

theorem execLanRdlRead_foot {s t} (h : execLanRdlRead s = .next t) : Foot 268435456 s t := by
  unfold execLanRdlRead at h
  injection h with h
  subst h
  try dsimp only
  repeat' first
    | with_reducible apply Foot.refl
    | with_reducible_and_instances rfl
    | with_reducible apply Foot.via State.later_foot
    | with_reducible apply Foot.ite
    | split
    | dsimp only

theorem execMemoryFillDone_foot {x0 s t} (h : execMemoryFillDone x0 s = .next t) : Foot 4194304 s t := by
  unfold execMemoryFillDone at h
  injection h with h
  subst h
  try dsimp only
  repeat' first
    | exact fun hx => Tbl.wf_put hx
    | exact fun hx => Tbl.wf_filter hx
    | exact fun _ => rfl
    | with_reducible apply Foot.refl
    | with_reducible_and_instances rfl
    | with_reducible apply Foot.ite
    | split
    | with_reducible apply Foot.lan_mem
    | dsimp only

theorem execSpareCancel_foot {x0 s t} (h : execSpareCancel x0 s = .next t) : Foot 4194304 s t := by
  unfold execSpareCancel at h
  injection h with h
  subst h
  try dsimp only
  repeat' first
    | with_reducible apply Foot.refl
    | with_reducible_and_instances rfl
    | with_reducible refine Foot.via (State.spareCmd_foot (by assumption)) (by decide) ?_
    | with_reducible refine Foot.getD ?_ (fun _ hx => (State.spareCmd_foot hx).mono (by decide))
    | with_reducible apply Foot.ite
    | split
    | dsimp only

theorem execSpareIdle_foot {x0 s t} (h : execSpareIdle x0 s = .next t) : Foot 4194304 s t := by
  unfold execSpareIdle at h
  injection h with h
  subst h
  try dsimp only
  repeat' first
    | with_reducible apply Foot.refl
    | with_reducible_and_instances rfl
    | with_reducible refine Foot.via (State.spareCmd_foot (by assumption)) (by decide) ?_
    | with_reducible refine Foot.getD ?_ (fun _ hx => (State.spareCmd_foot hx).mono (by decide))
    | with_reducible apply Foot.ite
    | split
    | dsimp only

theorem execSpareNow_foot {x0 s t} (h : execSpareNow x0 s = .next t) : Foot 4194304 s t := by
  unfold execSpareNow at h
  injection h with h
  subst h
  try dsimp only
  repeat' first
    | with_reducible apply Foot.refl
    | with_reducible_and_instances rfl
    | with_reducible refine Foot.via (State.spareCmd_foot (by assumption)) (by decide) ?_
    | with_reducible refine Foot.getD ?_ (fun _ hx => (State.spareCmd_foot hx).mono (by decide))
    | with_reducible apply Foot.ite
    | split
    | dsimp only

theorem execSpareTakeover_foot {x0 s t} (h : execSpareTakeover x0 s = .next t) : Foot 20972544 s t := by
  unfold execSpareTakeover at h
  injection h with h
  subst h
  try dsimp only
  repeat' first
    | with_reducible apply Foot.refl
    | with_reducible_and_instances rfl
    | with_reducible apply Foot.via State.autoStart_foot
    | with_reducible apply Foot.via State.report_foot
    | with_reducible apply Foot.via State.setLane_foot
    | with_reducible apply Foot.via State.setSpare_foot
    | with_reducible apply Foot.ite
    | split
    | dsimp only

end Sys2Proof.Machine
end

