-- ==== Sys2Proof/Laws/FootLaneExec.lean ====
section
/-! SUPPORT. Footprints of the operations of Machine/LaneExec.lean. -/

namespace Sys2Proof.Machine

theorem State.lands_foot {s x1 x2 x3} : Foot 4194304 s (State.lands s x1 x2 x3) := by
  unfold State.lands
  try dsimp only
  repeat' first
    | with_reducible apply Foot.refl
    | with_reducible_and_instances rfl
    | with_reducible apply Foot.via State.setLane_foot
    | dsimp only

theorem State.proceed_foot {s x1 x2 x3 x4 x5} : Foot 4194304 s (State.proceed s x1 x2 x3 x4 x5) := by
  unfold State.proceed
  try dsimp only
  repeat' first
    | with_reducible apply Foot.refl
    | with_reducible_and_instances rfl
    | with_reducible apply Foot.via State.lands_foot
    | with_reducible apply Foot.via State.setLane_foot
    | with_reducible apply Foot.ite
    | split

theorem State.waitEnds_foot {s x1 x2 x3} : Foot 20971528 s (State.waitEnds s x1 x2 x3) := by
  unfold State.waitEnds
  try dsimp only
  repeat' first
    | with_reducible apply Foot.refl
    | with_reducible_and_instances rfl
    | with_reducible apply Foot.via State.landAll_foot
    | with_reducible apply Foot.via State.proceed_foot
    | with_reducible apply Foot.via State.setLane_foot
    | dsimp only

theorem State.answer_foot {s x1 x2 x3 x4} : Foot 20971528 s (State.answer s x1 x2 x3 x4) := by
  unfold State.answer
  try dsimp only
  repeat' first
    | with_reducible apply Foot.refl
    | with_reducible_and_instances rfl
    | with_reducible apply Foot.via State.waitEnds_foot

theorem State.answerRead_foot {s x1 x2 x3 x4} : Foot 155190792 s (State.answerRead s x1 x2 x3 x4) := by
  unfold State.answerRead
  try dsimp only
  repeat' first
    | with_reducible apply Foot.refl
    | with_reducible_and_instances rfl
    | with_reducible apply Foot.via State.answer_foot
    | with_reducible apply Foot.via State.latTouch_foot
    | with_reducible apply Foot.via State.report_foot
    | with_reducible apply Foot.ite
    | split

theorem State.laneTrap_foot {s x1 x2 x3} : Foot 20972544 s (State.laneTrap s x1 x2 x3) := by
  unfold State.laneTrap
  try dsimp only
  repeat' first
    | with_reducible apply Foot.refl
    | with_reducible_and_instances rfl
    | with_reducible apply Foot.via State.report_foot
    | with_reducible apply Foot.via State.setLane_foot

theorem State.answerWrite_foot {s x1 x2 x3 x4 x5} : Foot 20973064 s (State.answerWrite s x1 x2 x3 x4 x5) := by
  unfold State.answerWrite
  try dsimp only
  repeat' first
    | with_reducible apply Foot.refl
    | with_reducible_and_instances rfl
    | with_reducible apply Foot.via State.answer_foot
    | with_reducible apply Foot.via State.laneTrap_foot
    | with_reducible apply Foot.via State.latPut_foot
    | with_reducible apply Foot.ite
    | split

theorem State.hold_foot {s x1 x2 x3} : Foot 4194304 s (State.hold s x1 x2 x3) := by
  unfold State.hold
  try dsimp only
  repeat' first
    | with_reducible apply Foot.refl
    | with_reducible_and_instances rfl
    | with_reducible apply Foot.via State.setLane_foot

theorem State.ask_foot {s x1 x2 x3} : Foot 4194304 s (State.ask s x1 x2 x3) := by
  unfold State.ask
  try dsimp only
  repeat' first
    | with_reducible apply Foot.refl
    | with_reducible_and_instances rfl
    | with_reducible apply Foot.via State.hold_foot

theorem State.askRead_foot {s x1 x2} : Foot 20972544 s (State.askRead s x1 x2) := by
  unfold State.askRead
  try dsimp only
  repeat' first
    | with_reducible apply Foot.refl
    | with_reducible_and_instances rfl
    | with_reducible apply Foot.via State.ask_foot
    | with_reducible apply Foot.via State.laneTrap_foot
    | with_reducible apply Foot.ite
    | split

theorem State.askWrite_foot {s x1 x2} : Foot 20972544 s (State.askWrite s x1 x2) := by
  unfold State.askWrite
  try dsimp only
  repeat' first
    | with_reducible apply Foot.refl
    | with_reducible_and_instances rfl
    | with_reducible apply Foot.via State.ask_foot
    | with_reducible apply Foot.via State.laneTrap_foot
    | with_reducible apply Foot.ite
    | split

theorem State.branch_foot {s x1 x2 x3 x4} : Foot 4194304 s (State.branch s x1 x2 x3 x4) := by
  unfold State.branch
  try dsimp only
  repeat' first
    | with_reducible apply Foot.refl
    | with_reducible_and_instances rfl
    | with_reducible apply Foot.via State.lands_foot
    | with_reducible apply Foot.via State.proceed_foot

theorem State.finish_foot {s x1 x2 x3} : Foot 4194304 s (State.finish s x1 x2 x3) := by
  unfold State.finish
  try dsimp only
  repeat' first
    | with_reducible apply Foot.refl
    | with_reducible_and_instances rfl
    | with_reducible apply Foot.via State.lands_foot
    | with_reducible apply Foot.via State.proceed_foot

theorem State.element_foot {s x1 x2 x3 x4} : Foot 4194304 s (State.element s x1 x2 x3 x4) := by
  unfold State.element
  try dsimp only
  repeat' first
    | with_reducible apply Foot.refl
    | with_reducible_and_instances rfl
    | with_reducible apply Foot.via State.finish_foot
    | with_reducible apply Foot.via State.lands_foot
    | with_reducible apply Foot.via State.setLane_foot
    | with_reducible apply Foot.ite
    | split

theorem State.laneParity_foot {s x1} : Foot 20972544 s (State.laneParity s x1) := by
  unfold State.laneParity
  try dsimp only
  repeat' first
    | with_reducible apply Foot.refl
    | with_reducible_and_instances rfl
    | with_reducible apply Foot.via State.report_foot
    | with_reducible apply Foot.via State.setLane_foot
    | with_reducible apply Foot.via State.setSpare_foot
    | with_reducible apply Foot.ite
    | split

theorem Foot.elementAt {M : Nat} {s0 s : State} {l a r go} (hm : 20972544 ||| M = M) (h0 : Foot M s0 s) (k : Foot M s0 go) :
    Foot M s0 (State.elementAt s l a r go) := by
  unfold State.elementAt
  split
  · exact Foot.via State.laneTrap_foot (or_sub (by decide) hm) h0
  · split
    · exact Foot.via State.laneParity_foot (or_sub (by decide) hm) h0
    · exact k

theorem State.ewrTurn_foot {s x1} : Foot 16843264 s (State.ewrTurn s x1) := by
  unfold State.ewrTurn
  try dsimp only
  repeat' first
    | with_reducible apply Foot.refl
    | with_reducible_and_instances rfl
    | with_reducible apply Foot.via State.latPut_foot
    | with_reducible apply Foot.ite
    | split
    | with_reducible apply Foot.evq

theorem Foot.laneRun {M : Nat} {s0 s : State} {x1 x2 op} (hm : 155190272 ||| M = M) (h0 : Foot M s0 s) (k : ∀ i u, Foot M u (op i x1 u)) :
    Foot M s0 (State.laneRun s x1 x2 op) := by
  refine h0.trans ?_
  unfold State.laneRun
  try dsimp only
  repeat' first
    | with_reducible apply Foot.refl
    | with_reducible assumption
    | exact or_sub (by decide) hm
    | with_reducible apply Foot.then_ (k _ _)
    | with_reducible apply Foot.via State.laneParity_foot
    | with_reducible apply Foot.via State.laneSettle_foot
    | with_reducible apply Foot.ite
    | split

theorem State.load_foot {s x1 x2 x3 x4} : Foot 20972544 s (State.load s x1 x2 x3 x4) := by
  unfold State.load
  try dsimp only
  repeat' first
    | with_reducible apply Foot.refl
    | with_reducible_and_instances rfl
    | with_reducible apply Foot.via State.finish_foot
    | with_reducible apply Foot.via State.lands_foot
    | with_reducible apply Foot.via State.laneParity_foot
    | with_reducible apply Foot.via State.laneTrap_foot
    | with_reducible apply Foot.ite
    | split

theorem State.toGd_foot {s x1 x2 x3} : Foot 4194304 s (State.toGd s x1 x2 x3) := by
  unfold State.toGd
  try dsimp only
  repeat' first
    | with_reducible apply Foot.refl
    | with_reducible_and_instances rfl
    | with_reducible apply Foot.via State.finish_foot

theorem State.logic_foot {s x1 x2 x3} : Foot 4194304 s (State.logic s x1 x2 x3) := by
  unfold State.logic
  try dsimp only
  repeat' first
    | with_reducible apply Foot.refl
    | with_reducible_and_instances rfl
    | with_reducible apply Foot.via State.toGd_foot

theorem State.parityTick_foot {s x1} : Foot 20972544 s (State.parityTick s x1) := by
  unfold State.parityTick
  try dsimp only
  repeat' first
    | with_reducible apply Foot.refl
    | with_reducible_and_instances rfl
    | with_reducible apply Foot.via State.laneParity_foot
    | with_reducible apply Foot.ite
    | split

theorem State.popJump_foot {s x1 x2 x3} : Foot 20972544 s (State.popJump s x1 x2 x3) := by
  unfold State.popJump
  try dsimp only
  repeat' first
    | with_reducible apply Foot.refl
    | with_reducible_and_instances rfl
    | with_reducible apply Foot.via State.branch_foot
    | with_reducible apply Foot.via State.laneTrap_foot
    | with_reducible apply Foot.ite
    | split

theorem State.product_foot {s x1 x2 x3} : Foot 4194304 s (State.product s x1 x2 x3) := by
  unfold State.product
  try dsimp only
  repeat' first
    | with_reducible apply Foot.refl
    | with_reducible_and_instances rfl
    | with_reducible apply Foot.via State.finish_foot

theorem State.quotient_foot {s x1 x2 x3} : Foot 20972544 s (State.quotient s x1 x2 x3) := by
  unfold State.quotient
  try dsimp only
  repeat' first
    | with_reducible apply Foot.refl
    | with_reducible_and_instances rfl
    | with_reducible apply Foot.via State.finish_foot
    | with_reducible apply Foot.via State.lands_foot
    | with_reducible apply Foot.via State.laneTrap_foot
    | with_reducible apply Foot.ite
    | split

theorem State.unitDone_foot {s x1 x2 x3 x4 x5} : Foot 4194304 s (State.unitDone s x1 x2 x3 x4 x5) := by
  unfold State.unitDone
  try dsimp only
  repeat' first
    | with_reducible apply Foot.refl
    | with_reducible_and_instances rfl
    | with_reducible apply Foot.via State.finish_foot

theorem State.recPair_foot {s x1 x2 x3 x4 x5} : Foot 4194304 s (State.recPair s x1 x2 x3 x4 x5) := by
  unfold State.recPair
  try dsimp only
  repeat' first
    | with_reducible apply Foot.refl
    | with_reducible_and_instances rfl
    | with_reducible apply Foot.via State.unitDone_foot
    | split

theorem State.store_foot {s x1 x2 x3 x4} : Foot 20972544 s (State.store s x1 x2 x3 x4) := by
  unfold State.store
  try dsimp only
  repeat' first
    | with_reducible apply Foot.refl
    | with_reducible_and_instances rfl
    | with_reducible apply Foot.via State.finish_foot
    | with_reducible apply Foot.via State.laneTrap_foot
    | with_reducible apply Foot.ite
    | split

theorem State.takeAnswer_foot {s x1 p t} (h : State.takeAnswer s x1 = some (p, t)) : Foot 65536 s t := by
  unfold State.takeAnswer at h
  split at h
  · cases h
    exact Foot.evq rfl Foot.refl
  · cases h

theorem State.unitDone0_foot {s x1 x2 x3 x4} : Foot 4194304 s (State.unitDone0 s x1 x2 x3 x4) := by
  unfold State.unitDone0
  try dsimp only
  repeat' first
    | with_reducible apply Foot.refl
    | with_reducible_and_instances rfl
    | with_reducible apply Foot.via State.finish_foot

theorem State.unitLong_foot {s x1 x2 x3 x4} : Foot 4194304 s (State.unitLong s x1 x2 x3 x4) := by
  unfold State.unitLong
  try dsimp only
  repeat' first
    | with_reducible apply Foot.refl
    | with_reducible_and_instances rfl
    | with_reducible apply Foot.via State.unitDone_foot

theorem execWaitSatisfied_foot {x0 s t} (h : execWaitSatisfied x0 s = .next t) : Foot 155190280 s t := by
  unfold execWaitSatisfied at h
  injection h with h
  subst h
  try dsimp only
  repeat' first
    | with_reducible apply Foot.refl
    | with_reducible_and_instances rfl
    | with_reducible apply Foot.via State.laneParity_foot
    | with_reducible apply Foot.via State.laneSettle_foot
    | with_reducible apply Foot.via State.waitEnds_foot
    | with_reducible apply Foot.ite
    | split
    | dsimp only

theorem execExtUnitAnswer_foot {x0 s t} (h : execExtUnitAnswer x0 s = .next t) : Foot 155256328 s t := by
  unfold execExtUnitAnswer at h
  injection h with h
  subst h
  try dsimp only
  repeat' first
    | with_reducible apply Foot.refl
    | with_reducible_and_instances rfl
    | with_reducible apply Foot.via State.answer_foot
    | with_reducible apply Foot.via State.answerRead_foot
    | with_reducible apply Foot.via State.answerWrite_foot
    | with_reducible apply Foot.via State.ewrTurn_foot
    | with_reducible apply Foot.via State.laneParity_foot
    | with_reducible apply Foot.via State.laneTrap_foot
    | with_reducible refine Foot.via (State.takeAnswer_foot (by assumption)) (by decide) ?_
    | with_reducible exact (execWaitSatisfied_foot (by assumption)).mono (by decide)
    | with_reducible refine Foot.via (execWaitSatisfied_foot (by assumption)) (by decide) ?_
    | with_reducible apply Foot.ite
    | split
    | dsimp only

theorem opAdc_foot {x0 x1 s} : Foot 4194304 s (opAdc x0 x1 s) := by
  unfold opAdc
  try dsimp only
  repeat' first
    | with_reducible apply Foot.refl
    | with_reducible_and_instances rfl
    | with_reducible apply Foot.via State.toGd_foot

theorem execLarAdc_foot {x0 s t} (h : execLarAdc x0 s = .next t) : Foot 155190272 s t := by
  unfold execLarAdc at h
  injection h with h
  subst h
  try dsimp only
  repeat' first
    | with_reducible apply Foot.refl
    | with_reducible_and_instances rfl
    | with_reducible refine Foot.laneRun (by decide) ?_ (fun _ _ => ?_)
    | with_reducible apply Foot.via opAdc_foot
    | dsimp only

theorem opAdd_foot {x0 x1 s} : Foot 4194304 s (opAdd x0 x1 s) := by
  unfold opAdd
  try dsimp only
  repeat' first
    | with_reducible apply Foot.refl
    | with_reducible_and_instances rfl
    | with_reducible apply Foot.via State.toGd_foot

theorem execLarAdd_foot {x0 s t} (h : execLarAdd x0 s = .next t) : Foot 155190272 s t := by
  unfold execLarAdd at h
  injection h with h
  subst h
  try dsimp only
  repeat' first
    | with_reducible apply Foot.refl
    | with_reducible_and_instances rfl
    | with_reducible refine Foot.laneRun (by decide) ?_ (fun _ _ => ?_)
    | with_reducible apply Foot.via opAdd_foot
    | dsimp only

theorem opAddi_foot {x0 x1 s} : Foot 4194304 s (opAddi x0 x1 s) := by
  unfold opAddi
  try dsimp only
  repeat' first
    | with_reducible apply Foot.refl
    | with_reducible_and_instances rfl
    | with_reducible apply Foot.via State.toGd_foot

theorem execLarAddi_foot {x0 s t} (h : execLarAddi x0 s = .next t) : Foot 155190272 s t := by
  unfold execLarAddi at h
  injection h with h
  subst h
  try dsimp only
  repeat' first
    | with_reducible apply Foot.refl
    | with_reducible_and_instances rfl
    | with_reducible refine Foot.laneRun (by decide) ?_ (fun _ _ => ?_)
    | with_reducible apply Foot.via opAddi_foot
    | dsimp only

theorem opAnd_foot {x0 x1 s} : Foot 4194304 s (opAnd x0 x1 s) := by
  unfold opAnd
  try dsimp only
  repeat' first
    | with_reducible apply Foot.refl
    | with_reducible_and_instances rfl
    | with_reducible apply Foot.via State.logic_foot

theorem execLarAnd_foot {x0 s t} (h : execLarAnd x0 s = .next t) : Foot 155190272 s t := by
  unfold execLarAnd at h
  injection h with h
  subst h
  try dsimp only
  repeat' first
    | with_reducible apply Foot.refl
    | with_reducible_and_instances rfl
    | with_reducible refine Foot.laneRun (by decide) ?_ (fun _ _ => ?_)
    | with_reducible apply Foot.via opAnd_foot
    | dsimp only

theorem opBcmp_foot {x0 x1 s} : Foot 20972544 s (opBcmp x0 x1 s) := by
  unfold opBcmp
  try dsimp only
  repeat' first
    | with_reducible apply Foot.refl
    | with_reducible_and_instances rfl
    | with_reducible apply Foot.via State.element_foot
    | with_reducible refine Foot.elementAt (by decide) ?_ ?_
    | with_reducible apply Foot.via State.finish_foot
    | with_reducible apply Foot.ite
    | split

theorem execLarBcmp_foot {x0 s t} (h : execLarBcmp x0 s = .next t) : Foot 155190272 s t := by
  unfold execLarBcmp at h
  injection h with h
  subst h
  try dsimp only
  repeat' first
    | with_reducible apply Foot.refl
    | with_reducible_and_instances rfl
    | with_reducible refine Foot.laneRun (by decide) ?_ (fun _ _ => ?_)
    | with_reducible apply Foot.via opBcmp_foot
    | dsimp only

theorem opBcrc_foot {x0 x1 s} : Foot 20972544 s (opBcrc x0 x1 s) := by
  unfold opBcrc
  try dsimp only
  repeat' first
    | with_reducible apply Foot.refl
    | with_reducible_and_instances rfl
    | with_reducible apply Foot.via State.element_foot
    | with_reducible refine Foot.elementAt (by decide) ?_ ?_
    | with_reducible apply Foot.via State.finish_foot
    | with_reducible apply Foot.ite
    | split

theorem execLarBcrc_foot {x0 s t} (h : execLarBcrc x0 s = .next t) : Foot 155190272 s t := by
  unfold execLarBcrc at h
  injection h with h
  subst h
  try dsimp only
  repeat' first
    | with_reducible apply Foot.refl
    | with_reducible_and_instances rfl
    | with_reducible refine Foot.laneRun (by decide) ?_ (fun _ _ => ?_)
    | with_reducible apply Foot.via opBcrc_foot
    | dsimp only

theorem opBfil_foot {x0 x1 s} : Foot 20972544 s (opBfil x0 x1 s) := by
  unfold opBfil
  try dsimp only
  repeat' first
    | with_reducible apply Foot.refl
    | with_reducible_and_instances rfl
    | with_reducible apply Foot.via State.element_foot
    | with_reducible refine Foot.elementAt (by decide) ?_ ?_
    | with_reducible apply Foot.via State.finish_foot
    | with_reducible apply Foot.ite
    | split

theorem execLarBfil_foot {x0 s t} (h : execLarBfil x0 s = .next t) : Foot 155190272 s t := by
  unfold execLarBfil at h
  injection h with h
  subst h
  try dsimp only
  repeat' first
    | with_reducible apply Foot.refl
    | with_reducible_and_instances rfl
    | with_reducible refine Foot.laneRun (by decide) ?_ (fun _ _ => ?_)
    | with_reducible apply Foot.via opBfil_foot
    | dsimp only

theorem opBmov_foot {x0 x1 s} : Foot 20972544 s (opBmov x0 x1 s) := by
  unfold opBmov
  try dsimp only
  repeat' first
    | with_reducible apply Foot.refl
    | with_reducible_and_instances rfl
    | with_reducible apply Foot.via State.element_foot
    | with_reducible refine Foot.elementAt (by decide) ?_ ?_
    | with_reducible apply Foot.via State.finish_foot
    | with_reducible apply Foot.ite
    | split

theorem execLarBmov_foot {x0 s t} (h : execLarBmov x0 s = .next t) : Foot 155190272 s t := by
  unfold execLarBmov at h
  injection h with h
  subst h
  try dsimp only
  repeat' first
    | with_reducible apply Foot.refl
    | with_reducible_and_instances rfl
    | with_reducible refine Foot.laneRun (by decide) ?_ (fun _ _ => ?_)
    | with_reducible apply Foot.via opBmov_foot
    | dsimp only

theorem opBr_foot {x0 x1 s} : Foot 4194304 s (opBr x0 x1 s) := by
  unfold opBr
  try dsimp only
  repeat' first
    | with_reducible apply Foot.refl
    | with_reducible_and_instances rfl
    | with_reducible apply Foot.via State.branch_foot
    | with_reducible apply Foot.via State.finish_foot
    | with_reducible apply Foot.ite
    | split

theorem execLarBr_foot {x0 s t} (h : execLarBr x0 s = .next t) : Foot 155190272 s t := by
  unfold execLarBr at h
  injection h with h
  subst h
  try dsimp only
  repeat' first
    | with_reducible apply Foot.refl
    | with_reducible_and_instances rfl
    | with_reducible refine Foot.laneRun (by decide) ?_ (fun _ _ => ?_)
    | with_reducible apply Foot.via opBr_foot
    | dsimp only

theorem opBrev_foot {x0 x1 s} : Foot 4194304 s (opBrev x0 x1 s) := by
  unfold opBrev
  try dsimp only
  repeat' first
    | with_reducible apply Foot.refl
    | with_reducible_and_instances rfl
    | with_reducible apply Foot.via State.logic_foot

theorem execLarBrev_foot {x0 s t} (h : execLarBrev x0 s = .next t) : Foot 155190272 s t := by
  unfold execLarBrev at h
  injection h with h
  subst h
  try dsimp only
  repeat' first
    | with_reducible apply Foot.refl
    | with_reducible_and_instances rfl
    | with_reducible refine Foot.laneRun (by decide) ?_ (fun _ _ => ?_)
    | with_reducible apply Foot.via opBrev_foot
    | dsimp only

theorem opBrevn_foot {x0 x1 s} : Foot 4194304 s (opBrevn x0 x1 s) := by
  unfold opBrevn
  try dsimp only
  repeat' first
    | with_reducible apply Foot.refl
    | with_reducible_and_instances rfl
    | with_reducible apply Foot.via State.logic_foot

theorem execLarBrevn_foot {x0 s t} (h : execLarBrevn x0 s = .next t) : Foot 155190272 s t := by
  unfold execLarBrevn at h
  injection h with h
  subst h
  try dsimp only
  repeat' first
    | with_reducible apply Foot.refl
    | with_reducible_and_instances rfl
    | with_reducible refine Foot.laneRun (by decide) ?_ (fun _ _ => ?_)
    | with_reducible apply Foot.via opBrevn_foot
    | dsimp only

theorem opC16w_foot {x0 x1 s} : Foot 4194304 s (opC16w x0 x1 s) := by
  unfold opC16w
  try dsimp only
  repeat' first
    | with_reducible apply Foot.refl
    | with_reducible_and_instances rfl
    | with_reducible apply Foot.via State.unitDone0_foot

theorem execLarC16w_foot {x0 s t} (h : execLarC16w x0 s = .next t) : Foot 155190272 s t := by
  unfold execLarC16w at h
  injection h with h
  subst h
  try dsimp only
  repeat' first
    | with_reducible apply Foot.refl
    | with_reducible_and_instances rfl
    | with_reducible refine Foot.laneRun (by decide) ?_ (fun _ _ => ?_)
    | with_reducible apply Foot.via opC16w_foot
    | dsimp only

theorem opC32f_foot {x0 x1 s} : Foot 4194304 s (opC32f x0 x1 s) := by
  unfold opC32f
  try dsimp only
  repeat' first
    | with_reducible apply Foot.refl
    | with_reducible_and_instances rfl
    | with_reducible apply Foot.via State.unitLong_foot

theorem execLarC32f_foot {x0 s t} (h : execLarC32f x0 s = .next t) : Foot 155190272 s t := by
  unfold execLarC32f at h
  injection h with h
  subst h
  try dsimp only
  repeat' first
    | with_reducible apply Foot.refl
    | with_reducible_and_instances rfl
    | with_reducible refine Foot.laneRun (by decide) ?_ (fun _ _ => ?_)
    | with_reducible apply Foot.via opC32f_foot
    | dsimp only

theorem opC32i_foot {x0 x1 s} : Foot 4194304 s (opC32i x0 x1 s) := by
  unfold opC32i
  try dsimp only
  repeat' first
    | with_reducible apply Foot.refl
    | with_reducible_and_instances rfl
    | with_reducible apply Foot.via State.unitLong_foot

theorem execLarC32i_foot {x0 s t} (h : execLarC32i x0 s = .next t) : Foot 155190272 s t := by
  unfold execLarC32i at h
  injection h with h
  subst h
  try dsimp only
  repeat' first
    | with_reducible apply Foot.refl
    | with_reducible_and_instances rfl
    | with_reducible refine Foot.laneRun (by decide) ?_ (fun _ _ => ?_)
    | with_reducible apply Foot.via opC32i_foot
    | dsimp only

theorem opC32w_foot {x0 x1 s} : Foot 4194304 s (opC32w x0 x1 s) := by
  unfold opC32w
  try dsimp only
  repeat' first
    | with_reducible apply Foot.refl
    | with_reducible_and_instances rfl
    | with_reducible apply Foot.via State.unitLong_foot

theorem execLarC32w_foot {x0 s t} (h : execLarC32w x0 s = .next t) : Foot 155190272 s t := by
  unfold execLarC32w at h
  injection h with h
  subst h
  try dsimp only
  repeat' first
    | with_reducible apply Foot.refl
    | with_reducible_and_instances rfl
    | with_reducible refine Foot.laneRun (by decide) ?_ (fun _ _ => ?_)
    | with_reducible apply Foot.via opC32w_foot
    | dsimp only

theorem opCall_foot {x0 x1 s} : Foot 20972544 s (opCall x0 x1 s) := by
  unfold opCall
  try dsimp only
  repeat' first
    | with_reducible apply Foot.refl
    | with_reducible_and_instances rfl
    | with_reducible apply Foot.via State.branch_foot
    | with_reducible apply Foot.via State.laneTrap_foot
    | with_reducible apply Foot.ite
    | split

theorem execLarCall_foot {x0 s t} (h : execLarCall x0 s = .next t) : Foot 155190272 s t := by
  unfold execLarCall at h
  injection h with h
  subst h
  try dsimp only
  repeat' first
    | with_reducible apply Foot.refl
    | with_reducible_and_instances rfl
    | with_reducible refine Foot.laneRun (by decide) ?_ (fun _ _ => ?_)
    | with_reducible apply Foot.via opCall_foot
    | dsimp only

theorem opA1050_foot {x0 x1 s} : Foot 4194304 s (opA1050 x0 x1 s) := by
  unfold opA1050
  try dsimp only
  repeat' first
    | with_reducible apply Foot.refl
    | with_reducible_and_instances rfl
    | with_reducible apply Foot.via State.recPair_foot

theorem execLarCmbrdA10A50_foot {x0 s t} (h : execLarCmbrdA10A50 x0 s = .next t) : Foot 155190272 s t := by
  unfold execLarCmbrdA10A50 at h
  injection h with h
  subst h
  try dsimp only
  repeat' first
    | with_reducible apply Foot.refl
    | with_reducible_and_instances rfl
    | with_reducible refine Foot.laneRun (by decide) ?_ (fun _ _ => ?_)
    | with_reducible apply Foot.via opA1050_foot
    | dsimp only

theorem opA90lat_foot {x0 x1 s} : Foot 4194304 s (opA90lat x0 x1 s) := by
  unfold opA90lat
  try dsimp only
  repeat' first
    | with_reducible apply Foot.refl
    | with_reducible_and_instances rfl
    | with_reducible apply Foot.via State.recPair_foot

theorem execLarCmbrdA90Lat_foot {x0 s t} (h : execLarCmbrdA90Lat x0 s = .next t) : Foot 155190272 s t := by
  unfold execLarCmbrdA90Lat at h
  injection h with h
  subst h
  try dsimp only
  repeat' first
    | with_reducible apply Foot.refl
    | with_reducible_and_instances rfl
    | with_reducible refine Foot.laneRun (by decide) ?_ (fun _ _ => ?_)
    | with_reducible apply Foot.via opA90lat_foot
    | dsimp only

theorem opImep_foot {x0 x1 s} : Foot 4194304 s (opImep x0 x1 s) := by
  unfold opImep
  try dsimp only
  repeat' first
    | with_reducible apply Foot.refl
    | with_reducible_and_instances rfl
    | with_reducible apply Foot.via State.recPair_foot
    | with_reducible apply Foot.via State.unitDone_foot
    | with_reducible apply Foot.via State.unitDone0_foot
    | split

theorem execLarCmbrdImep_foot {x0 s t} (h : execLarCmbrdImep x0 s = .next t) : Foot 155190272 s t := by
  unfold execLarCmbrdImep at h
  injection h with h
  subst h
  try dsimp only
  repeat' first
    | with_reducible apply Foot.refl
    | with_reducible_and_instances rfl
    | with_reducible refine Foot.laneRun (by decide) ?_ (fun _ _ => ?_)
    | with_reducible apply Foot.via opImep_foot
    | dsimp only

theorem opKint_foot {x0 x1 s} : Foot 4194304 s (opKint x0 x1 s) := by
  unfold opKint
  try dsimp only
  repeat' first
    | with_reducible apply Foot.refl
    | with_reducible_and_instances rfl
    | with_reducible apply Foot.via State.recPair_foot

theorem execLarCmbrdKint_foot {x0 s t} (h : execLarCmbrdKint x0 s = .next t) : Foot 155190272 s t := by
  unfold execLarCmbrdKint at h
  injection h with h
  subst h
  try dsimp only
  repeat' first
    | with_reducible apply Foot.refl
    | with_reducible_and_instances rfl
    | with_reducible refine Foot.laneRun (by decide) ?_ (fun _ _ => ?_)
    | with_reducible apply Foot.via opKint_foot
    | dsimp only

theorem opKstat_foot {x0 x1 s} : Foot 4194304 s (opKstat x0 x1 s) := by
  unfold opKstat
  try dsimp only
  repeat' first
    | with_reducible apply Foot.refl
    | with_reducible_and_instances rfl
    | with_reducible apply Foot.via State.recPair_foot

theorem execLarCmbrdKstat_foot {x0 s t} (h : execLarCmbrdKstat x0 s = .next t) : Foot 155190272 s t := by
  unfold execLarCmbrdKstat at h
  injection h with h
  subst h
  try dsimp only
  repeat' first
    | with_reducible apply Foot.refl
    | with_reducible_and_instances rfl
    | with_reducible refine Foot.laneRun (by decide) ?_ (fun _ _ => ?_)
    | with_reducible apply Foot.via opKstat_foot
    | dsimp only

theorem opPmax_foot {x0 x1 s} : Foot 4194304 s (opPmax x0 x1 s) := by
  unfold opPmax
  try dsimp only
  repeat' first
    | with_reducible apply Foot.refl
    | with_reducible_and_instances rfl
    | with_reducible apply Foot.via State.recPair_foot

theorem execLarCmbrdPmax_foot {x0 s t} (h : execLarCmbrdPmax x0 s = .next t) : Foot 155190272 s t := by
  unfold execLarCmbrdPmax at h
  injection h with h
  subst h
  try dsimp only
  repeat' first
    | with_reducible apply Foot.refl
    | with_reducible_and_instances rfl
    | with_reducible refine Foot.laneRun (by decide) ?_ (fun _ _ => ?_)
    | with_reducible apply Foot.via opPmax_foot
    | dsimp only

theorem opPstat_foot {x0 x1 s} : Foot 4194304 s (opPstat x0 x1 s) := by
  unfold opPstat
  try dsimp only
  repeat' first
    | with_reducible apply Foot.refl
    | with_reducible_and_instances rfl
    | with_reducible apply Foot.via State.recPair_foot

theorem execLarCmbrdPstat_foot {x0 s t} (h : execLarCmbrdPstat x0 s = .next t) : Foot 155190272 s t := by
  unfold execLarCmbrdPstat at h
  injection h with h
  subst h
  try dsimp only
  repeat' first
    | with_reducible apply Foot.refl
    | with_reducible_and_instances rfl
    | with_reducible refine Foot.laneRun (by decide) ?_ (fun _ _ => ?_)
    | with_reducible apply Foot.via opPstat_foot
    | dsimp only

theorem opQmax_foot {x0 x1 s} : Foot 4194304 s (opQmax x0 x1 s) := by
  unfold opQmax
  try dsimp only
  repeat' first
    | with_reducible apply Foot.refl
    | with_reducible_and_instances rfl
    | with_reducible apply Foot.via State.recPair_foot

theorem execLarCmbrdQmax_foot {x0 s t} (h : execLarCmbrdQmax x0 s = .next t) : Foot 155190272 s t := by
  unfold execLarCmbrdQmax at h
  injection h with h
  subst h
  try dsimp only
  repeat' first
    | with_reducible apply Foot.refl
    | with_reducible_and_instances rfl
    | with_reducible refine Foot.laneRun (by decide) ?_ (fun _ _ => ?_)
    | with_reducible apply Foot.via opQmax_foot
    | dsimp only

theorem opCmp_foot {x0 x1 s} : Foot 4194304 s (opCmp x0 x1 s) := by
  unfold opCmp
  try dsimp only
  repeat' first
    | with_reducible apply Foot.refl
    | with_reducible_and_instances rfl
    | with_reducible apply Foot.via State.finish_foot

theorem execLarCmp_foot {x0 s t} (h : execLarCmp x0 s = .next t) : Foot 155190272 s t := by
  unfold execLarCmp at h
  injection h with h
  subst h
  try dsimp only
  repeat' first
    | with_reducible apply Foot.refl
    | with_reducible_and_instances rfl
    | with_reducible refine Foot.laneRun (by decide) ?_ (fun _ _ => ?_)
    | with_reducible apply Foot.via opCmp_foot
    | dsimp only

theorem opCmpi_foot {x0 x1 s} : Foot 4194304 s (opCmpi x0 x1 s) := by
  unfold opCmpi
  try dsimp only
  repeat' first
    | with_reducible apply Foot.refl
    | with_reducible_and_instances rfl
    | with_reducible apply Foot.via State.finish_foot

theorem execLarCmpi_foot {x0 s t} (h : execLarCmpi x0 s = .next t) : Foot 155190272 s t := by
  unfold execLarCmpi at h
  injection h with h
  subst h
  try dsimp only
  repeat' first
    | with_reducible apply Foot.refl
    | with_reducible_and_instances rfl
    | with_reducible refine Foot.laneRun (by decide) ?_ (fun _ _ => ?_)
    | with_reducible apply Foot.via opCmpi_foot
    | dsimp only

theorem opCrcb_foot {x0 x1 s} : Foot 4194304 s (opCrcb x0 x1 s) := by
  unfold opCrcb
  try dsimp only
  repeat' first
    | with_reducible apply Foot.refl
    | with_reducible_and_instances rfl
    | with_reducible apply Foot.via State.finish_foot
    | with_reducible apply Foot.ite
    | split

theorem execLarCrcb_foot {x0 s t} (h : execLarCrcb x0 s = .next t) : Foot 155190272 s t := by
  unfold execLarCrcb at h
  injection h with h
  subst h
  try dsimp only
  repeat' first
    | with_reducible apply Foot.refl
    | with_reducible_and_instances rfl
    | with_reducible refine Foot.laneRun (by decide) ?_ (fun _ _ => ?_)
    | with_reducible apply Foot.via opCrcb_foot
    | dsimp only

theorem opCtcClear_foot {x0 x1 s} : Foot 4194304 s (opCtcClear x0 x1 s) := by
  unfold opCtcClear
  try dsimp only
  repeat' first
    | with_reducible apply Foot.refl
    | with_reducible_and_instances rfl
    | with_reducible apply Foot.via State.finish_foot

theorem execLarCtcClear_foot {x0 s t} (h : execLarCtcClear x0 s = .next t) : Foot 155190272 s t := by
  unfold execLarCtcClear at h
  injection h with h
  subst h
  try dsimp only
  repeat' first
    | with_reducible apply Foot.refl
    | with_reducible_and_instances rfl
    | with_reducible refine Foot.laneRun (by decide) ?_ (fun _ _ => ?_)
    | with_reducible apply Foot.via opCtcClear_foot
    | dsimp only

theorem opCtcRun_foot {x0 x1 s} : Foot 4194304 s (opCtcRun x0 x1 s) := by
  unfold opCtcRun
  try dsimp only
  repeat' first
    | with_reducible apply Foot.refl
    | with_reducible_and_instances rfl
    | with_reducible apply Foot.via State.finish_foot

theorem execLarCtcRun_foot {x0 s t} (h : execLarCtcRun x0 s = .next t) : Foot 155190272 s t := by
  unfold execLarCtcRun at h
  injection h with h
  subst h
  try dsimp only
  repeat' first
    | with_reducible apply Foot.refl
    | with_reducible_and_instances rfl
    | with_reducible refine Foot.laneRun (by decide) ?_ (fun _ _ => ?_)
    | with_reducible apply Foot.via opCtcRun_foot
    | dsimp only

theorem opCtcStop_foot {x0 x1 s} : Foot 4194304 s (opCtcStop x0 x1 s) := by
  unfold opCtcStop
  try dsimp only
  repeat' first
    | with_reducible apply Foot.refl
    | with_reducible_and_instances rfl
    | with_reducible apply Foot.via State.finish_foot

theorem execLarCtcStop_foot {x0 s t} (h : execLarCtcStop x0 s = .next t) : Foot 155190272 s t := by
  unfold execLarCtcStop at h
  injection h with h
  subst h
  try dsimp only
  repeat' first
    | with_reducible apply Foot.refl
    | with_reducible_and_instances rfl
    | with_reducible refine Foot.laneRun (by decide) ?_ (fun _ _ => ?_)
    | with_reducible apply Foot.via opCtcStop_foot
    | dsimp only

theorem opDivs_foot {x0 x1 s} : Foot 20972544 s (opDivs x0 x1 s) := by
  unfold opDivs
  try dsimp only
  repeat' first
    | with_reducible apply Foot.refl
    | with_reducible_and_instances rfl
    | with_reducible apply Foot.via State.quotient_foot

theorem execLarDivs_foot {x0 s t} (h : execLarDivs x0 s = .next t) : Foot 155190272 s t := by
  unfold execLarDivs at h
  injection h with h
  subst h
  try dsimp only
  repeat' first
    | with_reducible apply Foot.refl
    | with_reducible_and_instances rfl
    | with_reducible refine Foot.laneRun (by decide) ?_ (fun _ _ => ?_)
    | with_reducible apply Foot.via opDivs_foot
    | dsimp only

theorem opDivu_foot {x0 x1 s} : Foot 20972544 s (opDivu x0 x1 s) := by
  unfold opDivu
  try dsimp only
  repeat' first
    | with_reducible apply Foot.refl
    | with_reducible_and_instances rfl
    | with_reducible apply Foot.via State.quotient_foot

theorem execLarDivu_foot {x0 s t} (h : execLarDivu x0 s = .next t) : Foot 155190272 s t := by
  unfold execLarDivu at h
  injection h with h
  subst h
  try dsimp only
  repeat' first
    | with_reducible apply Foot.refl
    | with_reducible_and_instances rfl
    | with_reducible refine Foot.laneRun (by decide) ?_ (fun _ _ => ?_)
    | with_reducible apply Foot.via opDivu_foot
    | dsimp only

theorem opDjnz_foot {x0 x1 s} : Foot 4194304 s (opDjnz x0 x1 s) := by
  unfold opDjnz
  try dsimp only
  repeat' first
    | with_reducible apply Foot.refl
    | with_reducible_and_instances rfl
    | with_reducible apply Foot.via State.branch_foot
    | with_reducible apply Foot.via State.finish_foot
    | with_reducible apply Foot.ite
    | split

theorem execLarDjnz_foot {x0 s t} (h : execLarDjnz x0 s = .next t) : Foot 155190272 s t := by
  unfold execLarDjnz at h
  injection h with h
  subst h
  try dsimp only
  repeat' first
    | with_reducible apply Foot.refl
    | with_reducible_and_instances rfl
    | with_reducible refine Foot.laneRun (by decide) ?_ (fun _ _ => ?_)
    | with_reducible apply Foot.via opDjnz_foot
    | dsimp only

theorem opEarm_foot {x0 x1 s} : Foot 4259840 s (opEarm x0 x1 s) := by
  unfold opEarm
  try dsimp only
  repeat' first
    | with_reducible apply Foot.refl
    | with_reducible_and_instances rfl
    | with_reducible apply Foot.via State.ask_foot
    | with_reducible apply Foot.via State.pushReq_foot
    | with_reducible apply Foot.via State.unitDone0_foot
    | with_reducible apply Foot.ite
    | split

theorem execLarEarm_foot {x0 s t} (h : execLarEarm x0 s = .next t) : Foot 155255808 s t := by
  unfold execLarEarm at h
  injection h with h
  subst h
  try dsimp only
  repeat' first
    | with_reducible apply Foot.refl
    | with_reducible_and_instances rfl
    | with_reducible refine Foot.laneRun (by decide) ?_ (fun _ _ => ?_)
    | with_reducible apply Foot.via opEarm_foot
    | dsimp only

theorem opEcan_foot {x0 x1 s} : Foot 4259840 s (opEcan x0 x1 s) := by
  unfold opEcan
  try dsimp only
  repeat' first
    | with_reducible apply Foot.refl
    | with_reducible_and_instances rfl
    | with_reducible apply Foot.via State.ask_foot
    | with_reducible apply Foot.via State.pushReq_foot
    | with_reducible apply Foot.via State.unitDone_foot
    | with_reducible apply Foot.ite
    | split

theorem execLarEcan_foot {x0 s t} (h : execLarEcan x0 s = .next t) : Foot 155255808 s t := by
  unfold execLarEcan at h
  injection h with h
  subst h
  try dsimp only
  repeat' first
    | with_reducible apply Foot.refl
    | with_reducible_and_instances rfl
    | with_reducible refine Foot.laneRun (by decide) ?_ (fun _ _ => ?_)
    | with_reducible apply Foot.via opEcan_foot
    | dsimp only

theorem opEwr_foot {x0 x1 s} : Foot 21038080 s (opEwr x0 x1 s) := by
  unfold opEwr
  try dsimp only
  repeat' first
    | with_reducible apply Foot.refl
    | with_reducible_and_instances rfl
    | with_reducible apply Foot.via State.ask_foot
    | with_reducible apply Foot.via State.laneTrap_foot
    | with_reducible apply Foot.via State.pushReq_foot
    | with_reducible apply Foot.ite
    | split

theorem execLarEwr_foot {x0 s t} (h : execLarEwr x0 s = .next t) : Foot 155255808 s t := by
  unfold execLarEwr at h
  injection h with h
  subst h
  try dsimp only
  repeat' first
    | with_reducible apply Foot.refl
    | with_reducible_and_instances rfl
    | with_reducible refine Foot.laneRun (by decide) ?_ (fun _ _ => ?_)
    | with_reducible apply Foot.via opEwr_foot
    | dsimp only

theorem opHalt_foot {x0 x1 s} : Foot 4194304 s (opHalt x0 x1 s) := by
  unfold opHalt
  try dsimp only
  repeat' first
    | with_reducible apply Foot.refl
    | with_reducible_and_instances rfl
    | with_reducible apply Foot.via State.finish_foot

theorem execLarHalt_foot {x0 s t} (h : execLarHalt x0 s = .next t) : Foot 155190272 s t := by
  unfold execLarHalt at h
  injection h with h
  subst h
  try dsimp only
  repeat' first
    | with_reducible apply Foot.refl
    | with_reducible_and_instances rfl
    | with_reducible refine Foot.laneRun (by decide) ?_ (fun _ _ => ?_)
    | with_reducible apply Foot.via opHalt_foot
    | dsimp only

theorem opHshi_foot {x0 x1 s} : Foot 4194304 s (opHshi x0 x1 s) := by
  unfold opHshi
  try dsimp only
  repeat' first
    | with_reducible apply Foot.refl
    | with_reducible_and_instances rfl
    | with_reducible apply Foot.via State.unitLong_foot

theorem execLarHshi_foot {x0 s t} (h : execLarHshi x0 s = .next t) : Foot 155190272 s t := by
  unfold execLarHshi at h
  injection h with h
  subst h
  try dsimp only
  repeat' first
    | with_reducible apply Foot.refl
    | with_reducible_and_instances rfl
    | with_reducible refine Foot.laneRun (by decide) ?_ (fun _ _ => ?_)
    | with_reducible apply Foot.via opHshi_foot
    | dsimp only

theorem opHshw_foot {x0 x1 s} : Foot 4194304 s (opHshw x0 x1 s) := by
  unfold opHshw
  try dsimp only
  repeat' first
    | with_reducible apply Foot.refl
    | with_reducible_and_instances rfl
    | with_reducible apply Foot.via State.unitLong_foot

theorem execLarHshw_foot {x0 s t} (h : execLarHshw x0 s = .next t) : Foot 155190272 s t := by
  unfold execLarHshw at h
  injection h with h
  subst h
  try dsimp only
  repeat' first
    | with_reducible apply Foot.refl
    | with_reducible_and_instances rfl
    | with_reducible refine Foot.laneRun (by decide) ?_ (fun _ _ => ?_)
    | with_reducible apply Foot.via opHshw_foot
    | dsimp only

theorem opJmp_foot {x0 x1 s} : Foot 4194304 s (opJmp x0 x1 s) := by
  unfold opJmp
  try dsimp only
  repeat' first
    | with_reducible apply Foot.refl
    | with_reducible_and_instances rfl
    | with_reducible apply Foot.via State.branch_foot

theorem execLarJmp_foot {x0 s t} (h : execLarJmp x0 s = .next t) : Foot 155190272 s t := by
  unfold execLarJmp at h
  injection h with h
  subst h
  try dsimp only
  repeat' first
    | with_reducible apply Foot.refl
    | with_reducible_and_instances rfl
    | with_reducible refine Foot.laneRun (by decide) ?_ (fun _ _ => ?_)
    | with_reducible apply Foot.via opJmp_foot
    | dsimp only

theorem opJr_foot {x0 x1 s} : Foot 4194304 s (opJr x0 x1 s) := by
  unfold opJr
  try dsimp only
  repeat' first
    | with_reducible apply Foot.refl
    | with_reducible_and_instances rfl
    | with_reducible apply Foot.via State.branch_foot

theorem execLarJr_foot {x0 s t} (h : execLarJr x0 s = .next t) : Foot 155190272 s t := by
  unfold execLarJr at h
  injection h with h
  subst h
  try dsimp only
  repeat' first
    | with_reducible apply Foot.refl
    | with_reducible_and_instances rfl
    | with_reducible refine Foot.laneRun (by decide) ?_ (fun _ _ => ?_)
    | with_reducible apply Foot.via opJr_foot
    | dsimp only

theorem opLd_foot {x0 x1 s} : Foot 20972544 s (opLd x0 x1 s) := by
  unfold opLd
  try dsimp only
  repeat' first
    | with_reducible apply Foot.refl
    | with_reducible_and_instances rfl
    | with_reducible apply Foot.via State.load_foot

theorem execLarLd_foot {x0 s t} (h : execLarLd x0 s = .next t) : Foot 155190272 s t := by
  unfold execLarLd at h
  injection h with h
  subst h
  try dsimp only
  repeat' first
    | with_reducible apply Foot.refl
    | with_reducible_and_instances rfl
    | with_reducible refine Foot.laneRun (by decide) ?_ (fun _ _ => ?_)
    | with_reducible apply Foot.via opLd_foot
    | dsimp only

theorem opLda_foot {x0 x1 s} : Foot 20972544 s (opLda x0 x1 s) := by
  unfold opLda
  try dsimp only
  repeat' first
    | with_reducible apply Foot.refl
    | with_reducible_and_instances rfl
    | with_reducible apply Foot.via State.load_foot

theorem execLarLda_foot {x0 s t} (h : execLarLda x0 s = .next t) : Foot 155190272 s t := by
  unfold execLarLda at h
  injection h with h
  subst h
  try dsimp only
  repeat' first
    | with_reducible apply Foot.refl
    | with_reducible_and_instances rfl
    | with_reducible refine Foot.laneRun (by decide) ?_ (fun _ _ => ?_)
    | with_reducible apply Foot.via opLda_foot
    | dsimp only

theorem opLdi_foot {x0 x1 s} : Foot 4194304 s (opLdi x0 x1 s) := by
  unfold opLdi
  try dsimp only
  repeat' first
    | with_reducible apply Foot.refl
    | with_reducible_and_instances rfl
    | with_reducible apply Foot.via State.finish_foot

theorem execLarLdi_foot {x0 s t} (h : execLarLdi x0 s = .next t) : Foot 155190272 s t := by
  unfold execLarLdi at h
  injection h with h
  subst h
  try dsimp only
  repeat' first
    | with_reducible apply Foot.refl
    | with_reducible_and_instances rfl
    | with_reducible refine Foot.laneRun (by decide) ?_ (fun _ _ => ?_)
    | with_reducible apply Foot.via opLdi_foot
    | dsimp only

theorem opLwr_foot {x0 x1 s} : Foot 20972544 s (opLwr x0 x1 s) := by
  unfold opLwr
  try dsimp only
  repeat' first
    | with_reducible apply Foot.refl
    | with_reducible_and_instances rfl
    | with_reducible apply Foot.via State.askRead_foot

theorem execLarLwr_foot {x0 s t} (h : execLarLwr x0 s = .next t) : Foot 155190272 s t := by
  unfold execLarLwr at h
  injection h with h
  subst h
  try dsimp only
  repeat' first
    | with_reducible apply Foot.refl
    | with_reducible_and_instances rfl
    | with_reducible refine Foot.laneRun (by decide) ?_ (fun _ _ => ?_)
    | with_reducible apply Foot.via opLwr_foot
    | dsimp only

theorem opLwri_foot {x0 x1 s} : Foot 20972544 s (opLwri x0 x1 s) := by
  unfold opLwri
  try dsimp only
  repeat' first
    | with_reducible apply Foot.refl
    | with_reducible_and_instances rfl
    | with_reducible apply Foot.via State.askRead_foot

theorem execLarLwri_foot {x0 s t} (h : execLarLwri x0 s = .next t) : Foot 155190272 s t := by
  unfold execLarLwri at h
  injection h with h
  subst h
  try dsimp only
  repeat' first
    | with_reducible apply Foot.refl
    | with_reducible_and_instances rfl
    | with_reducible refine Foot.laneRun (by decide) ?_ (fun _ _ => ?_)
    | with_reducible apply Foot.via opLwri_foot
    | dsimp only

theorem opLww_foot {x0 x1 s} : Foot 20972544 s (opLww x0 x1 s) := by
  unfold opLww
  try dsimp only
  repeat' first
    | with_reducible apply Foot.refl
    | with_reducible_and_instances rfl
    | with_reducible apply Foot.via State.askWrite_foot

theorem execLarLww_foot {x0 s t} (h : execLarLww x0 s = .next t) : Foot 155190272 s t := by
  unfold execLarLww at h
  injection h with h
  subst h
  try dsimp only
  repeat' first
    | with_reducible apply Foot.refl
    | with_reducible_and_instances rfl
    | with_reducible refine Foot.laneRun (by decide) ?_ (fun _ _ => ?_)
    | with_reducible apply Foot.via opLww_foot
    | dsimp only

theorem opLwwi_foot {x0 x1 s} : Foot 20972544 s (opLwwi x0 x1 s) := by
  unfold opLwwi
  try dsimp only
  repeat' first
    | with_reducible apply Foot.refl
    | with_reducible_and_instances rfl
    | with_reducible apply Foot.via State.askWrite_foot

theorem execLarLwwi_foot {x0 s t} (h : execLarLwwi x0 s = .next t) : Foot 155190272 s t := by
  unfold execLarLwwi at h
  injection h with h
  subst h
  try dsimp only
  repeat' first
    | with_reducible apply Foot.refl
    | with_reducible_and_instances rfl
    | with_reducible refine Foot.laneRun (by decide) ?_ (fun _ _ => ?_)
    | with_reducible apply Foot.via opLwwi_foot
    | dsimp only

theorem opMfsh_foot {x0 x1 s} : Foot 4194304 s (opMfsh x0 x1 s) := by
  unfold opMfsh
  try dsimp only
  repeat' first
    | with_reducible apply Foot.refl
    | with_reducible_and_instances rfl
    | with_reducible apply Foot.via State.finish_foot

theorem execLarMfsh_foot {x0 s t} (h : execLarMfsh x0 s = .next t) : Foot 155190272 s t := by
  unfold execLarMfsh at h
  injection h with h
  subst h
  try dsimp only
  repeat' first
    | with_reducible apply Foot.refl
    | with_reducible_and_instances rfl
    | with_reducible refine Foot.laneRun (by decide) ?_ (fun _ _ => ?_)
    | with_reducible apply Foot.via opMfsh_foot
    | dsimp only

theorem opMfsl_foot {x0 x1 s} : Foot 4194304 s (opMfsl x0 x1 s) := by
  unfold opMfsl
  try dsimp only
  repeat' first
    | with_reducible apply Foot.refl
    | with_reducible_and_instances rfl
    | with_reducible apply Foot.via State.finish_foot
    | with_reducible apply Foot.ite
    | split

theorem execLarMfsl_foot {x0 s t} (h : execLarMfsl x0 s = .next t) : Foot 155190272 s t := by
  unfold execLarMfsl at h
  injection h with h
  subst h
  try dsimp only
  repeat' first
    | with_reducible apply Foot.refl
    | with_reducible_and_instances rfl
    | with_reducible refine Foot.laneRun (by decide) ?_ (fun _ _ => ?_)
    | with_reducible apply Foot.via opMfsl_foot
    | dsimp only

theorem opMov_foot {x0 x1 s} : Foot 4194304 s (opMov x0 x1 s) := by
  unfold opMov
  try dsimp only
  repeat' first
    | with_reducible apply Foot.refl
    | with_reducible_and_instances rfl
    | with_reducible apply Foot.via State.finish_foot

theorem execLarMov_foot {x0 s t} (h : execLarMov x0 s = .next t) : Foot 155190272 s t := by
  unfold execLarMov at h
  injection h with h
  subst h
  try dsimp only
  repeat' first
    | with_reducible apply Foot.refl
    | with_reducible_and_instances rfl
    | with_reducible refine Foot.laneRun (by decide) ?_ (fun _ _ => ?_)
    | with_reducible apply Foot.via opMov_foot
    | dsimp only

theorem opMovi_foot {x0 x1 s} : Foot 4194304 s (opMovi x0 x1 s) := by
  unfold opMovi
  try dsimp only
  repeat' first
    | with_reducible apply Foot.refl
    | with_reducible_and_instances rfl
    | with_reducible apply Foot.via State.finish_foot

theorem execLarMovi_foot {x0 s t} (h : execLarMovi x0 s = .next t) : Foot 155190272 s t := by
  unfold execLarMovi at h
  injection h with h
  subst h
  try dsimp only
  repeat' first
    | with_reducible apply Foot.refl
    | with_reducible_and_instances rfl
    | with_reducible refine Foot.laneRun (by decide) ?_ (fun _ _ => ?_)
    | with_reducible apply Foot.via opMovi_foot
    | dsimp only

theorem opMtsh_foot {x0 x1 s} : Foot 4194304 s (opMtsh x0 x1 s) := by
  unfold opMtsh
  try dsimp only
  repeat' first
    | with_reducible apply Foot.refl
    | with_reducible_and_instances rfl
    | with_reducible apply Foot.via State.finish_foot

theorem execLarMtsh_foot {x0 s t} (h : execLarMtsh x0 s = .next t) : Foot 155190272 s t := by
  unfold execLarMtsh at h
  injection h with h
  subst h
  try dsimp only
  repeat' first
    | with_reducible apply Foot.refl
    | with_reducible_and_instances rfl
    | with_reducible refine Foot.laneRun (by decide) ?_ (fun _ _ => ?_)
    | with_reducible apply Foot.via opMtsh_foot
    | dsimp only

theorem opMtsl_foot {x0 x1 s} : Foot 4194304 s (opMtsl x0 x1 s) := by
  unfold opMtsl
  try dsimp only
  repeat' first
    | with_reducible apply Foot.refl
    | with_reducible_and_instances rfl
    | with_reducible apply Foot.via State.finish_foot

theorem execLarMtsl_foot {x0 s t} (h : execLarMtsl x0 s = .next t) : Foot 155190272 s t := by
  unfold execLarMtsl at h
  injection h with h
  subst h
  try dsimp only
  repeat' first
    | with_reducible apply Foot.refl
    | with_reducible_and_instances rfl
    | with_reducible refine Foot.laneRun (by decide) ?_ (fun _ _ => ?_)
    | with_reducible apply Foot.via opMtsl_foot
    | dsimp only

theorem opMuls_foot {x0 x1 s} : Foot 4194304 s (opMuls x0 x1 s) := by
  unfold opMuls
  try dsimp only
  repeat' first
    | with_reducible apply Foot.refl
    | with_reducible_and_instances rfl
    | with_reducible apply Foot.via State.product_foot

theorem execLarMuls_foot {x0 s t} (h : execLarMuls x0 s = .next t) : Foot 155190272 s t := by
  unfold execLarMuls at h
  injection h with h
  subst h
  try dsimp only
  repeat' first
    | with_reducible apply Foot.refl
    | with_reducible_and_instances rfl
    | with_reducible refine Foot.laneRun (by decide) ?_ (fun _ _ => ?_)
    | with_reducible apply Foot.via opMuls_foot
    | dsimp only

theorem opMulu_foot {x0 x1 s} : Foot 4194304 s (opMulu x0 x1 s) := by
  unfold opMulu
  try dsimp only
  repeat' first
    | with_reducible apply Foot.refl
    | with_reducible_and_instances rfl
    | with_reducible apply Foot.via State.product_foot

theorem execLarMulu_foot {x0 s t} (h : execLarMulu x0 s = .next t) : Foot 155190272 s t := by
  unfold execLarMulu at h
  injection h with h
  subst h
  try dsimp only
  repeat' first
    | with_reducible apply Foot.refl
    | with_reducible_and_instances rfl
    | with_reducible refine Foot.laneRun (by decide) ?_ (fun _ _ => ?_)
    | with_reducible apply Foot.via opMulu_foot
    | dsimp only

theorem opNeg_foot {x0 x1 s} : Foot 4194304 s (opNeg x0 x1 s) := by
  unfold opNeg
  try dsimp only
  repeat' first
    | with_reducible apply Foot.refl
    | with_reducible_and_instances rfl
    | with_reducible apply Foot.via State.toGd_foot

theorem execLarNeg_foot {x0 s t} (h : execLarNeg x0 s = .next t) : Foot 155190272 s t := by
  unfold execLarNeg at h
  injection h with h
  subst h
  try dsimp only
  repeat' first
    | with_reducible apply Foot.refl
    | with_reducible_and_instances rfl
    | with_reducible refine Foot.laneRun (by decide) ?_ (fun _ _ => ?_)
    | with_reducible apply Foot.via opNeg_foot
    | dsimp only

theorem opNop_foot {x0 x1 s} : Foot 4194304 s (opNop x0 x1 s) := by
  unfold opNop
  try dsimp only
  repeat' first
    | with_reducible apply Foot.refl
    | with_reducible_and_instances rfl
    | with_reducible apply Foot.via State.finish_foot

theorem execLarNop_foot {x0 s t} (h : execLarNop x0 s = .next t) : Foot 155190272 s t := by
  unfold execLarNop at h
  injection h with h
  subst h
  try dsimp only
  repeat' first
    | with_reducible apply Foot.refl
    | with_reducible_and_instances rfl
    | with_reducible refine Foot.laneRun (by decide) ?_ (fun _ _ => ?_)
    | with_reducible apply Foot.via opNop_foot
    | dsimp only

theorem opNot_foot {x0 x1 s} : Foot 4194304 s (opNot x0 x1 s) := by
  unfold opNot
  try dsimp only
  repeat' first
    | with_reducible apply Foot.refl
    | with_reducible_and_instances rfl
    | with_reducible apply Foot.via State.logic_foot

theorem execLarNot_foot {x0 s t} (h : execLarNot x0 s = .next t) : Foot 155190272 s t := by
  unfold execLarNot at h
  injection h with h
  subst h
  try dsimp only
  repeat' first
    | with_reducible apply Foot.refl
    | with_reducible_and_instances rfl
    | with_reducible refine Foot.laneRun (by decide) ?_ (fun _ _ => ?_)
    | with_reducible apply Foot.via opNot_foot
    | dsimp only

theorem opOr_foot {x0 x1 s} : Foot 4194304 s (opOr x0 x1 s) := by
  unfold opOr
  try dsimp only
  repeat' first
    | with_reducible apply Foot.refl
    | with_reducible_and_instances rfl
    | with_reducible apply Foot.via State.logic_foot

theorem execLarOr_foot {x0 s t} (h : execLarOr x0 s = .next t) : Foot 155190272 s t := by
  unfold execLarOr at h
  injection h with h
  subst h
  try dsimp only
  repeat' first
    | with_reducible apply Foot.refl
    | with_reducible_and_instances rfl
    | with_reducible refine Foot.laneRun (by decide) ?_ (fun _ _ => ?_)
    | with_reducible apply Foot.via opOr_foot
    | dsimp only

theorem opPar_foot {x0 x1 s} : Foot 4194304 s (opPar x0 x1 s) := by
  unfold opPar
  try dsimp only
  repeat' first
    | with_reducible apply Foot.refl
    | with_reducible_and_instances rfl
    | with_reducible apply Foot.via State.logic_foot

theorem execLarPar_foot {x0 s t} (h : execLarPar x0 s = .next t) : Foot 155190272 s t := by
  unfold execLarPar at h
  injection h with h
  subst h
  try dsimp only
  repeat' first
    | with_reducible apply Foot.refl
    | with_reducible_and_instances rfl
    | with_reducible refine Foot.laneRun (by decide) ?_ (fun _ _ => ?_)
    | with_reducible apply Foot.via opPar_foot
    | dsimp only

theorem opPclr_foot {x0 x1 s} : Foot 4194304 s (opPclr x0 x1 s) := by
  unfold opPclr
  try dsimp only
  repeat' first
    | with_reducible apply Foot.refl
    | with_reducible_and_instances rfl
    | with_reducible apply Foot.via State.finish_foot

theorem execLarPclr_foot {x0 s t} (h : execLarPclr x0 s = .next t) : Foot 155190272 s t := by
  unfold execLarPclr at h
  injection h with h
  subst h
  try dsimp only
  repeat' first
    | with_reducible apply Foot.refl
    | with_reducible_and_instances rfl
    | with_reducible refine Foot.laneRun (by decide) ?_ (fun _ _ => ?_)
    | with_reducible apply Foot.via opPclr_foot
    | dsimp only

theorem opPmovc_foot {x0 x1 s} : Foot 4194304 s (opPmovc x0 x1 s) := by
  unfold opPmovc
  try dsimp only
  repeat' first
    | with_reducible apply Foot.refl
    | with_reducible_and_instances rfl
    | with_reducible apply Foot.via State.finish_foot

theorem execLarPmovc_foot {x0 s t} (h : execLarPmovc x0 s = .next t) : Foot 155190272 s t := by
  unfold execLarPmovc at h
  injection h with h
  subst h
  try dsimp only
  repeat' first
    | with_reducible apply Foot.refl
    | with_reducible_and_instances rfl
    | with_reducible refine Foot.laneRun (by decide) ?_ (fun _ _ => ?_)
    | with_reducible apply Foot.via opPmovc_foot
    | dsimp only

theorem opPset_foot {x0 x1 s} : Foot 4194304 s (opPset x0 x1 s) := by
  unfold opPset
  try dsimp only
  repeat' first
    | with_reducible apply Foot.refl
    | with_reducible_and_instances rfl
    | with_reducible apply Foot.via State.finish_foot

theorem execLarPset_foot {x0 s t} (h : execLarPset x0 s = .next t) : Foot 155190272 s t := by
  unfold execLarPset at h
  injection h with h
  subst h
  try dsimp only
  repeat' first
    | with_reducible apply Foot.refl
    | with_reducible_and_instances rfl
    | with_reducible refine Foot.laneRun (by decide) ?_ (fun _ _ => ?_)
    | with_reducible apply Foot.via opPset_foot
    | dsimp only

theorem opPtgl_foot {x0 x1 s} : Foot 4194304 s (opPtgl x0 x1 s) := by
  unfold opPtgl
  try dsimp only
  repeat' first
    | with_reducible apply Foot.refl
    | with_reducible_and_instances rfl
    | with_reducible apply Foot.via State.finish_foot

theorem execLarPtgl_foot {x0 s t} (h : execLarPtgl x0 s = .next t) : Foot 155190272 s t := by
  unfold execLarPtgl at h
  injection h with h
  subst h
  try dsimp only
  repeat' first
    | with_reducible apply Foot.refl
    | with_reducible_and_instances rfl
    | with_reducible refine Foot.laneRun (by decide) ?_ (fun _ _ => ?_)
    | with_reducible apply Foot.via opPtgl_foot
    | dsimp only

theorem opRep_foot {x0 x1 s} : Foot 20972544 s (opRep x0 x1 s) := by
  unfold opRep
  try dsimp only
  repeat' first
    | with_reducible apply Foot.refl
    | with_reducible_and_instances rfl
    | with_reducible apply Foot.via State.lands_foot
    | with_reducible apply Foot.via State.laneTrap_foot
    | with_reducible apply Foot.via State.setLane_foot
    | with_reducible apply Foot.ite
    | split

theorem execLarRep_foot {x0 s t} (h : execLarRep x0 s = .next t) : Foot 155190272 s t := by
  unfold execLarRep at h
  injection h with h
  subst h
  try dsimp only
  repeat' first
    | with_reducible apply Foot.refl
    | with_reducible_and_instances rfl
    | with_reducible refine Foot.laneRun (by decide) ?_ (fun _ _ => ?_)
    | with_reducible apply Foot.via opRep_foot
    | dsimp only

theorem opRet_foot {x0 x1 s} : Foot 20972544 s (opRet x0 x1 s) := by
  unfold opRet
  try dsimp only
  repeat' first
    | with_reducible apply Foot.refl
    | with_reducible_and_instances rfl
    | with_reducible apply Foot.via State.popJump_foot

theorem execLarRet_foot {x0 s t} (h : execLarRet x0 s = .next t) : Foot 155190272 s t := by
  unfold execLarRet at h
  injection h with h
  subst h
  try dsimp only
  repeat' first
    | with_reducible apply Foot.refl
    | with_reducible_and_instances rfl
    | with_reducible refine Foot.laneRun (by decide) ?_ (fun _ _ => ?_)
    | with_reducible apply Foot.via opRet_foot
    | dsimp only

theorem opRetv_foot {x0 x1 s} : Foot 20972544 s (opRetv x0 x1 s) := by
  unfold opRetv
  try dsimp only
  repeat' first
    | with_reducible apply Foot.refl
    | with_reducible_and_instances rfl
    | with_reducible apply Foot.via State.laneTrap_foot
    | with_reducible apply Foot.via State.popJump_foot
    | with_reducible apply Foot.ite
    | split

theorem execLarRetv_foot {x0 s t} (h : execLarRetv x0 s = .next t) : Foot 155190272 s t := by
  unfold execLarRetv at h
  injection h with h
  subst h
  try dsimp only
  repeat' first
    | with_reducible apply Foot.refl
    | with_reducible_and_instances rfl
    | with_reducible refine Foot.laneRun (by decide) ?_ (fun _ _ => ?_)
    | with_reducible apply Foot.via opRetv_foot
    | dsimp only

theorem opRol_foot {x0 x1 s} : Foot 4194304 s (opRol x0 x1 s) := by
  unfold opRol
  try dsimp only
  repeat' first
    | with_reducible apply Foot.refl
    | with_reducible_and_instances rfl
    | with_reducible apply Foot.via State.toGd_foot

theorem execLarRol_foot {x0 s t} (h : execLarRol x0 s = .next t) : Foot 155190272 s t := by
  unfold execLarRol at h
  injection h with h
  subst h
  try dsimp only
  repeat' first
    | with_reducible apply Foot.refl
    | with_reducible_and_instances rfl
    | with_reducible refine Foot.laneRun (by decide) ?_ (fun _ _ => ?_)
    | with_reducible apply Foot.via opRol_foot
    | dsimp only

theorem opRor_foot {x0 x1 s} : Foot 4194304 s (opRor x0 x1 s) := by
  unfold opRor
  try dsimp only
  repeat' first
    | with_reducible apply Foot.refl
    | with_reducible_and_instances rfl
    | with_reducible apply Foot.via State.toGd_foot

theorem execLarRor_foot {x0 s t} (h : execLarRor x0 s = .next t) : Foot 155190272 s t := by
  unfold execLarRor at h
  injection h with h
  subst h
  try dsimp only
  repeat' first
    | with_reducible apply Foot.refl
    | with_reducible_and_instances rfl
    | with_reducible refine Foot.laneRun (by decide) ?_ (fun _ _ => ?_)
    | with_reducible apply Foot.via opRor_foot
    | dsimp only

theorem opRori_foot {x0 x1 s} : Foot 4194304 s (opRori x0 x1 s) := by
  unfold opRori
  try dsimp only
  repeat' first
    | with_reducible apply Foot.refl
    | with_reducible_and_instances rfl
    | with_reducible apply Foot.via State.toGd_foot

theorem execLarRori_foot {x0 s t} (h : execLarRori x0 s = .next t) : Foot 155190272 s t := by
  unfold execLarRori at h
  injection h with h
  subst h
  try dsimp only
  repeat' first
    | with_reducible apply Foot.refl
    | with_reducible_and_instances rfl
    | with_reducible refine Foot.laneRun (by decide) ?_ (fun _ _ => ?_)
    | with_reducible apply Foot.via opRori_foot
    | dsimp only

theorem opSar_foot {x0 x1 s} : Foot 4194304 s (opSar x0 x1 s) := by
  unfold opSar
  try dsimp only
  repeat' first
    | with_reducible apply Foot.refl
    | with_reducible_and_instances rfl
    | with_reducible apply Foot.via State.toGd_foot

theorem execLarSar_foot {x0 s t} (h : execLarSar x0 s = .next t) : Foot 155190272 s t := by
  unfold execLarSar at h
  injection h with h
  subst h
  try dsimp only
  repeat' first
    | with_reducible apply Foot.refl
    | with_reducible_and_instances rfl
    | with_reducible refine Foot.laneRun (by decide) ?_ (fun _ _ => ?_)
    | with_reducible apply Foot.via opSar_foot
    | dsimp only

theorem opSari_foot {x0 x1 s} : Foot 4194304 s (opSari x0 x1 s) := by
  unfold opSari
  try dsimp only
  repeat' first
    | with_reducible apply Foot.refl
    | with_reducible_and_instances rfl
    | with_reducible apply Foot.via State.toGd_foot

theorem execLarSari_foot {x0 s t} (h : execLarSari x0 s = .next t) : Foot 155190272 s t := by
  unfold execLarSari at h
  injection h with h
  subst h
  try dsimp only
  repeat' first
    | with_reducible apply Foot.refl
    | with_reducible_and_instances rfl
    | with_reducible refine Foot.laneRun (by decide) ?_ (fun _ _ => ?_)
    | with_reducible apply Foot.via opSari_foot
    | dsimp only

theorem opSbc_foot {x0 x1 s} : Foot 4194304 s (opSbc x0 x1 s) := by
  unfold opSbc
  try dsimp only
  repeat' first
    | with_reducible apply Foot.refl
    | with_reducible_and_instances rfl
    | with_reducible apply Foot.via State.toGd_foot

theorem execLarSbc_foot {x0 s t} (h : execLarSbc x0 s = .next t) : Foot 155190272 s t := by
  unfold execLarSbc at h
  injection h with h
  subst h
  try dsimp only
  repeat' first
    | with_reducible apply Foot.refl
    | with_reducible_and_instances rfl
    | with_reducible refine Foot.laneRun (by decide) ?_ (fun _ _ => ?_)
    | with_reducible apply Foot.via opSbc_foot
    | dsimp only

theorem opShift_foot {x0 x1 s} : Foot 4194304 s (opShift x0 x1 s) := by
  unfold opShift
  try dsimp only
  repeat' first
    | with_reducible apply Foot.refl
    | with_reducible_and_instances rfl
    | with_reducible apply Foot.via State.hold_foot

theorem execLarShift_foot {x0 s t} (h : execLarShift x0 s = .next t) : Foot 155190272 s t := by
  unfold execLarShift at h
  injection h with h
  subst h
  try dsimp only
  repeat' first
    | with_reducible apply Foot.refl
    | with_reducible_and_instances rfl
    | with_reducible refine Foot.laneRun (by decide) ?_ (fun _ _ => ?_)
    | with_reducible apply Foot.via opShift_foot
    | dsimp only

theorem opShl_foot {x0 x1 s} : Foot 4194304 s (opShl x0 x1 s) := by
  unfold opShl
  try dsimp only
  repeat' first
    | with_reducible apply Foot.refl
    | with_reducible_and_instances rfl
    | with_reducible apply Foot.via State.toGd_foot

theorem execLarShl_foot {x0 s t} (h : execLarShl x0 s = .next t) : Foot 155190272 s t := by
  unfold execLarShl at h
  injection h with h
  subst h
  try dsimp only
  repeat' first
    | with_reducible apply Foot.refl
    | with_reducible_and_instances rfl
    | with_reducible refine Foot.laneRun (by decide) ?_ (fun _ _ => ?_)
    | with_reducible apply Foot.via opShl_foot
    | dsimp only

theorem opShli_foot {x0 x1 s} : Foot 4194304 s (opShli x0 x1 s) := by
  unfold opShli
  try dsimp only
  repeat' first
    | with_reducible apply Foot.refl
    | with_reducible_and_instances rfl
    | with_reducible apply Foot.via State.toGd_foot

theorem execLarShli_foot {x0 s t} (h : execLarShli x0 s = .next t) : Foot 155190272 s t := by
  unfold execLarShli at h
  injection h with h
  subst h
  try dsimp only
  repeat' first
    | with_reducible apply Foot.refl
    | with_reducible_and_instances rfl
    | with_reducible refine Foot.laneRun (by decide) ?_ (fun _ _ => ?_)
    | with_reducible apply Foot.via opShli_foot
    | dsimp only

theorem opShr_foot {x0 x1 s} : Foot 4194304 s (opShr x0 x1 s) := by
  unfold opShr
  try dsimp only
  repeat' first
    | with_reducible apply Foot.refl
    | with_reducible_and_instances rfl
    | with_reducible apply Foot.via State.toGd_foot

theorem execLarShr_foot {x0 s t} (h : execLarShr x0 s = .next t) : Foot 155190272 s t := by
  unfold execLarShr at h
  injection h with h
  subst h
  try dsimp only
  repeat' first
    | with_reducible apply Foot.refl
    | with_reducible_and_instances rfl
    | with_reducible refine Foot.laneRun (by decide) ?_ (fun _ _ => ?_)
    | with_reducible apply Foot.via opShr_foot
    | dsimp only

theorem opShri_foot {x0 x1 s} : Foot 4194304 s (opShri x0 x1 s) := by
  unfold opShri
  try dsimp only
  repeat' first
    | with_reducible apply Foot.refl
    | with_reducible_and_instances rfl
    | with_reducible apply Foot.via State.toGd_foot

theorem execLarShri_foot {x0 s t} (h : execLarShri x0 s = .next t) : Foot 155190272 s t := by
  unfold execLarShri at h
  injection h with h
  subst h
  try dsimp only
  repeat' first
    | with_reducible apply Foot.refl
    | with_reducible_and_instances rfl
    | with_reducible refine Foot.laneRun (by decide) ?_ (fun _ _ => ?_)
    | with_reducible apply Foot.via opShri_foot
    | dsimp only

theorem opSt_foot {x0 x1 s} : Foot 20972544 s (opSt x0 x1 s) := by
  unfold opSt
  try dsimp only
  repeat' first
    | with_reducible apply Foot.refl
    | with_reducible_and_instances rfl
    | with_reducible apply Foot.via State.store_foot

theorem execLarSt_foot {x0 s t} (h : execLarSt x0 s = .next t) : Foot 155190272 s t := by
  unfold execLarSt at h
  injection h with h
  subst h
  try dsimp only
  repeat' first
    | with_reducible apply Foot.refl
    | with_reducible_and_instances rfl
    | with_reducible refine Foot.laneRun (by decide) ?_ (fun _ _ => ?_)
    | with_reducible apply Foot.via opSt_foot
    | dsimp only

theorem opSta_foot {x0 x1 s} : Foot 20972544 s (opSta x0 x1 s) := by
  unfold opSta
  try dsimp only
  repeat' first
    | with_reducible apply Foot.refl
    | with_reducible_and_instances rfl
    | with_reducible apply Foot.via State.store_foot

theorem execLarSta_foot {x0 s t} (h : execLarSta x0 s = .next t) : Foot 155190272 s t := by
  unfold execLarSta at h
  injection h with h
  subst h
  try dsimp only
  repeat' first
    | with_reducible apply Foot.refl
    | with_reducible_and_instances rfl
    | with_reducible refine Foot.laneRun (by decide) ?_ (fun _ _ => ?_)
    | with_reducible apply Foot.via opSta_foot
    | dsimp only

theorem opSub_foot {x0 x1 s} : Foot 4194304 s (opSub x0 x1 s) := by
  unfold opSub
  try dsimp only
  repeat' first
    | with_reducible apply Foot.refl
    | with_reducible_and_instances rfl
    | with_reducible apply Foot.via State.toGd_foot

theorem execLarSub_foot {x0 s t} (h : execLarSub x0 s = .next t) : Foot 155190272 s t := by
  unfold execLarSub at h
  injection h with h
  subst h
  try dsimp only
  repeat' first
    | with_reducible apply Foot.refl
    | with_reducible_and_instances rfl
    | with_reducible refine Foot.laneRun (by decide) ?_ (fun _ _ => ?_)
    | with_reducible apply Foot.via opSub_foot
    | dsimp only

theorem opSubi_foot {x0 x1 s} : Foot 4194304 s (opSubi x0 x1 s) := by
  unfold opSubi
  try dsimp only
  repeat' first
    | with_reducible apply Foot.refl
    | with_reducible_and_instances rfl
    | with_reducible apply Foot.via State.toGd_foot

theorem execLarSubi_foot {x0 s t} (h : execLarSubi x0 s = .next t) : Foot 155190272 s t := by
  unfold execLarSubi at h
  injection h with h
  subst h
  try dsimp only
  repeat' first
    | with_reducible apply Foot.refl
    | with_reducible_and_instances rfl
    | with_reducible refine Foot.laneRun (by decide) ?_ (fun _ _ => ?_)
    | with_reducible apply Foot.via opSubi_foot
    | dsimp only

theorem opSwpb_foot {x0 x1 s} : Foot 4194304 s (opSwpb x0 x1 s) := by
  unfold opSwpb
  try dsimp only
  repeat' first
    | with_reducible apply Foot.refl
    | with_reducible_and_instances rfl
    | with_reducible apply Foot.via State.logic_foot

theorem execLarSwpb_foot {x0 s t} (h : execLarSwpb x0 s = .next t) : Foot 155190272 s t := by
  unfold execLarSwpb at h
  injection h with h
  subst h
  try dsimp only
  repeat' first
    | with_reducible apply Foot.refl
    | with_reducible_and_instances rfl
    | with_reducible refine Foot.laneRun (by decide) ?_ (fun _ _ => ?_)
    | with_reducible apply Foot.via opSwpb_foot
    | dsimp only

theorem opTa2t_foot {x0 x1 s} : Foot 4194304 s (opTa2t x0 x1 s) := by
  unfold opTa2t
  try dsimp only
  repeat' first
    | with_reducible apply Foot.refl
    | with_reducible_and_instances rfl
    | with_reducible apply Foot.via State.unitLong_foot
    | with_reducible apply Foot.ite
    | split

theorem execLarTa2t_foot {x0 s t} (h : execLarTa2t x0 s = .next t) : Foot 155190272 s t := by
  unfold execLarTa2t at h
  injection h with h
  subst h
  try dsimp only
  repeat' first
    | with_reducible apply Foot.refl
    | with_reducible_and_instances rfl
    | with_reducible refine Foot.laneRun (by decide) ?_ (fun _ _ => ?_)
    | with_reducible apply Foot.via opTa2t_foot
    | dsimp only

theorem opTang_foot {x0 x1 s} : Foot 4194304 s (opTang x0 x1 s) := by
  unfold opTang
  try dsimp only
  repeat' first
    | with_reducible apply Foot.refl
    | with_reducible_and_instances rfl
    | with_reducible apply Foot.via State.unitDone_foot

theorem execLarTang_foot {x0 s t} (h : execLarTang x0 s = .next t) : Foot 155190272 s t := by
  unfold execLarTang at h
  injection h with h
  subst h
  try dsimp only
  repeat' first
    | with_reducible apply Foot.refl
    | with_reducible_and_instances rfl
    | with_reducible refine Foot.laneRun (by decide) ?_ (fun _ _ => ?_)
    | with_reducible apply Foot.via opTang_foot
    | dsimp only

theorem opTpred_foot {x0 x1 s} : Foot 4194304 s (opTpred x0 x1 s) := by
  unfold opTpred
  try dsimp only
  repeat' first
    | with_reducible apply Foot.refl
    | with_reducible_and_instances rfl
    | with_reducible apply Foot.via State.unitLong_foot

theorem execLarTpred_foot {x0 s t} (h : execLarTpred x0 s = .next t) : Foot 155190272 s t := by
  unfold execLarTpred at h
  injection h with h
  subst h
  try dsimp only
  repeat' first
    | with_reducible apply Foot.refl
    | with_reducible_and_instances rfl
    | with_reducible refine Foot.laneRun (by decide) ?_ (fun _ _ => ?_)
    | with_reducible apply Foot.via opTpred_foot
    | dsimp only

theorem opTrap_foot {x0 x1 s} : Foot 20972544 s (opTrap x0 x1 s) := by
  unfold opTrap
  try dsimp only
  repeat' first
    | with_reducible apply Foot.refl
    | with_reducible_and_instances rfl
    | with_reducible apply Foot.via State.laneTrap_foot

theorem execLarTrap_foot {x0 s t} (h : execLarTrap x0 s = .next t) : Foot 155190272 s t := by
  unfold execLarTrap at h
  injection h with h
  subst h
  try dsimp only
  repeat' first
    | with_reducible apply Foot.refl
    | with_reducible_and_instances rfl
    | with_reducible refine Foot.laneRun (by decide) ?_ (fun _ _ => ?_)
    | with_reducible apply Foot.via opTrap_foot
    | dsimp only

theorem opTrate_foot {x0 x1 s} : Foot 4194304 s (opTrate x0 x1 s) := by
  unfold opTrate
  try dsimp only
  repeat' first
    | with_reducible apply Foot.refl
    | with_reducible_and_instances rfl
    | with_reducible apply Foot.via State.unitLong_foot

theorem execLarTrate_foot {x0 s t} (h : execLarTrate x0 s = .next t) : Foot 155190272 s t := by
  unfold execLarTrate at h
  injection h with h
  subst h
  try dsimp only
  repeat' first
    | with_reducible apply Foot.refl
    | with_reducible_and_instances rfl
    | with_reducible refine Foot.laneRun (by decide) ?_ (fun _ _ => ?_)
    | with_reducible apply Foot.via opTrate_foot
    | dsimp only

theorem opTrpm_foot {x0 x1 s} : Foot 4194304 s (opTrpm x0 x1 s) := by
  unfold opTrpm
  try dsimp only
  repeat' first
    | with_reducible apply Foot.refl
    | with_reducible_and_instances rfl
    | with_reducible apply Foot.via State.unitLong_foot

theorem execLarTrpm_foot {x0 s t} (h : execLarTrpm x0 s = .next t) : Foot 155190272 s t := by
  unfold execLarTrpm at h
  injection h with h
  subst h
  try dsimp only
  repeat' first
    | with_reducible apply Foot.refl
    | with_reducible_and_instances rfl
    | with_reducible refine Foot.laneRun (by decide) ?_ (fun _ _ => ?_)
    | with_reducible apply Foot.via opTrpm_foot
    | dsimp only

theorem opTst_foot {x0 x1 s} : Foot 4194304 s (opTst x0 x1 s) := by
  unfold opTst
  try dsimp only
  repeat' first
    | with_reducible apply Foot.refl
    | with_reducible_and_instances rfl
    | with_reducible apply Foot.via State.finish_foot

theorem execLarTst_foot {x0 s t} (h : execLarTst x0 s = .next t) : Foot 155190272 s t := by
  unfold execLarTst at h
  injection h with h
  subst h
  try dsimp only
  repeat' first
    | with_reducible apply Foot.refl
    | with_reducible_and_instances rfl
    | with_reducible refine Foot.laneRun (by decide) ?_ (fun _ _ => ?_)
    | with_reducible apply Foot.via opTst_foot
    | dsimp only

theorem opTsyn_foot {x0 x1 s} : Foot 4194304 s (opTsyn x0 x1 s) := by
  unfold opTsyn
  try dsimp only
  repeat' first
    | with_reducible apply Foot.refl
    | with_reducible_and_instances rfl
    | with_reducible apply Foot.via State.unitDone_foot

theorem execLarTsyn_foot {x0 s t} (h : execLarTsyn x0 s = .next t) : Foot 155190272 s t := by
  unfold execLarTsyn at h
  injection h with h
  subst h
  try dsimp only
  repeat' first
    | with_reducible apply Foot.refl
    | with_reducible_and_instances rfl
    | with_reducible refine Foot.laneRun (by decide) ?_ (fun _ _ => ?_)
    | with_reducible apply Foot.via opTsyn_foot
    | dsimp only

theorem opTvtx_foot {x0 x1 s} : Foot 20972544 s (opTvtx x0 x1 s) := by
  unfold opTvtx
  try dsimp only
  repeat' first
    | with_reducible apply Foot.refl
    | with_reducible_and_instances rfl
    | with_reducible apply Foot.via State.ask_foot
    | with_reducible apply Foot.via State.laneTrap_foot
    | with_reducible apply Foot.ite
    | split

theorem execLarTvtx_foot {x0 s t} (h : execLarTvtx x0 s = .next t) : Foot 155190272 s t := by
  unfold execLarTvtx at h
  injection h with h
  subst h
  try dsimp only
  repeat' first
    | with_reducible apply Foot.refl
    | with_reducible_and_instances rfl
    | with_reducible refine Foot.laneRun (by decide) ?_ (fun _ _ => ?_)
    | with_reducible apply Foot.via opTvtx_foot
    | dsimp only

theorem opWait_foot {x0 x1 s} : Foot 4194304 s (opWait x0 x1 s) := by
  unfold opWait
  try dsimp only
  repeat' first
    | with_reducible apply Foot.refl
    | with_reducible_and_instances rfl
    | with_reducible apply Foot.via State.hold_foot

theorem execLarWait_foot {x0 s t} (h : execLarWait x0 s = .next t) : Foot 155190272 s t := by
  unfold execLarWait at h
  injection h with h
  subst h
  try dsimp only
  repeat' first
    | with_reducible apply Foot.refl
    | with_reducible_and_instances rfl
    | with_reducible refine Foot.laneRun (by decide) ?_ (fun _ _ => ?_)
    | with_reducible apply Foot.via opWait_foot
    | dsimp only

theorem opXor_foot {x0 x1 s} : Foot 4194304 s (opXor x0 x1 s) := by
  unfold opXor
  try dsimp only
  repeat' first
    | with_reducible apply Foot.refl
    | with_reducible_and_instances rfl
    | with_reducible apply Foot.via State.logic_foot

theorem execLarXor_foot {x0 s t} (h : execLarXor x0 s = .next t) : Foot 155190272 s t := by
  unfold execLarXor at h
  injection h with h
  subst h
  try dsimp only
  repeat' first
    | with_reducible apply Foot.refl
    | with_reducible_and_instances rfl
    | with_reducible refine Foot.laneRun (by decide) ?_ (fun _ _ => ?_)
    | with_reducible apply Foot.via opXor_foot
    | dsimp only

theorem execShiftEdge_foot {x0 s t} (h : execShiftEdge x0 s = .next t) : Foot 155190280 s t := by
  unfold execShiftEdge at h
  injection h with h
  subst h
  try dsimp only
  repeat' first
    | with_reducible apply Foot.refl
    | with_reducible_and_instances rfl
    | with_reducible apply Foot.via State.lands_foot
    | with_reducible apply Foot.via State.laneParity_foot
    | with_reducible apply Foot.via State.setLane_foot
    | with_reducible apply Foot.via State.waitEnds_foot
    | with_reducible exact (execWaitSatisfied_foot (by assumption)).mono (by decide)
    | with_reducible refine Foot.via (execWaitSatisfied_foot (by assumption)) (by decide) ?_
    | with_reducible apply Foot.ite
    | split
    | dsimp only

theorem execUndefinedInstruction_foot {x0 s t} (h : execUndefinedInstruction x0 s = .next t) : Foot 155190272 s t := by
  unfold execUndefinedInstruction at h
  injection h with h
  subst h
  try dsimp only
  repeat' first
    | with_reducible apply Foot.refl
    | with_reducible_and_instances rfl
    | with_reducible apply Foot.via State.laneParity_foot
    | with_reducible refine Foot.laneRun (by decide) ?_ (fun _ _ => ?_)
    | with_reducible apply Foot.via State.laneSettle_foot
    | with_reducible apply Foot.via State.laneTrap_foot
    | with_reducible apply Foot.ite
    | split
    | dsimp only

theorem execVectorEntry_foot {x0 s t} (h : execVectorEntry x0 s = .next t) : Foot 155190272 s t := by
  unfold execVectorEntry at h
  injection h with h
  subst h
  try dsimp only
  repeat' first
    | with_reducible apply Foot.refl
    | with_reducible_and_instances rfl
    | with_reducible apply Foot.via State.laneParity_foot
    | with_reducible apply Foot.via State.laneSettle_foot
    | with_reducible apply Foot.via State.laneTrap_foot
    | with_reducible apply Foot.via State.setLane_foot
    | with_reducible apply Foot.ite
    | split
    | dsimp only

end Sys2Proof.Machine
end

