-- ==== Sys2Proof/Laws/FootFeedback.lean ====
section
/-! SUPPORT. Footprints of the operations of Machine/Feedback.lean. -/

namespace Sys2Proof.Machine

theorem State.xUpdate_foot {s x1} : Foot 32768 s (State.xUpdate s x1) := by
  unfold State.xUpdate
  try dsimp only
  repeat' first
    | with_reducible apply Foot.refl
    | with_reducible_and_instances rfl
    | with_reducible apply Foot.ite
    | with_reducible apply Foot.foldl
    | with_reducible intro _ _
    | split
    | with_reducible apply Foot.tan
    | dsimp only

theorem State.fbkNewMode_foot {s x1} : Foot 1081344 s (State.fbkNewMode s x1) := by
  unfold State.fbkNewMode
  try dsimp only
  repeat' first
    | with_reducible apply Foot.refl
    | with_reducible_and_instances rfl
    | with_reducible apply Foot.via State.setInc_foot
    | with_reducible apply Foot.via State.xUpdate_foot
    | dsimp only

theorem State.xLose_foot {s x1} : Foot 16811008 s (State.xLose s x1) := by
  unfold State.xLose
  try dsimp only
  repeat' first
    | with_reducible apply Foot.refl
    | with_reducible_and_instances rfl
    | with_reducible apply Foot.via State.reportBlock_foot
    | with_reducible apply Foot.tan

theorem State.cmpCfgWrite_foot {s x1 t} (h : State.cmpCfgWrite s x1 = some t) : Foot 1048584 s t := by
  unfold State.cmpCfgWrite at h
  try dsimp only at h
  repeat' split at h
  all_goals first
    | (simp only [reduceCtorEq] at h; done)
    | (simp only [Option.some.injEq] at h; subst h)
  repeat' first
    | with_reducible apply Foot.refl
    | with_reducible_and_instances rfl
    | with_reducible apply Foot.via State.setCfg_foot
    | with_reducible apply Foot.via State.setInc_foot
    | with_reducible apply Foot.ite
    | split

theorem State.fbkClear_foot {s x1 t} (h : State.fbkClear s x1 = some t) : Foot 1048576 s t := by
  unfold State.fbkClear at h
  try dsimp only at h
  repeat' split at h
  all_goals first
    | (simp only [reduceCtorEq] at h; done)
    | (simp only [Option.some.injEq] at h; subst h)
  repeat' first
    | with_reducible apply Foot.refl
    | with_reducible_and_instances rfl
    | with_reducible apply Foot.via State.setInc_foot
    | with_reducible apply Foot.ite
    | split
    | dsimp only

theorem execFbkCmpvLo_foot {x0 s t} (h : execFbkCmpvLo x0 s = .next t) : Foot 1048584 s t := by
  unfold execFbkCmpvLo at h
  injection h with h
  subst h
  try dsimp only
  repeat' first
    | with_reducible apply Foot.refl
    | with_reducible_and_instances rfl
    | with_reducible apply Foot.via State.setCfg_foot
    | with_reducible apply Foot.via State.setInc_foot
    | with_reducible apply Foot.ite
    | split
    | dsimp only

theorem State.setSsi_foot {s x1 x2} : Foot 1048576 s (State.setSsi s x1 x2) := by
  unfold State.setSsi
  try dsimp only
  repeat' first
    | with_reducible apply Foot.refl
    | with_reducible_and_instances rfl
    | with_reducible apply Foot.ite
    | split
    | with_reducible apply Foot.fbk

theorem State.ssiTrigger_foot {s x1 x2} : Foot 1048576 s (State.ssiTrigger s x1 x2) := by
  unfold State.ssiTrigger
  try dsimp only
  repeat' first
    | with_reducible apply Foot.refl
    | with_reducible_and_instances rfl
    | with_reducible apply Foot.via State.setSsi_foot
    | with_reducible apply Foot.ite
    | split

theorem execStart_foot {x0 x1 s t} (h : execStart x0 x1 s = .next t) : Foot 1048576 s t := by
  unfold execStart at h
  injection h with h
  subst h
  try dsimp only
  repeat' first
    | with_reducible apply Foot.refl
    | with_reducible_and_instances rfl
    | with_reducible apply Foot.via State.ssiTrigger_foot
    | with_reducible apply Foot.ite
    | split
    | dsimp only

theorem State.trackHold_foot {s x1} : Foot 1048576 s (State.trackHold s x1) := by
  unfold State.trackHold
  try dsimp only
  repeat' first
    | with_reducible apply Foot.refl
    | with_reducible_and_instances rfl
    | with_reducible apply Foot.via State.setInc_foot
    | with_reducible apply Foot.ite
    | split
    | dsimp only

theorem execFbkPosLoRead_foot {s t} (h : execFbkPosLoRead s = .next t) : Foot 1048576 s t := by
  unfold execFbkPosLoRead at h
  injection h with h
  subst h
  try dsimp only
  repeat' first
    | with_reducible apply Foot.refl
    | with_reducible_and_instances rfl
    | with_reducible apply Foot.via State.setInc_foot
    | with_reducible apply Foot.ite
    | split
    | dsimp only

theorem execFbkSsiD0Read_foot {s t} (h : execFbkSsiD0Read s = .next t) : Foot 1048576 s t := by
  unfold execFbkSsiD0Read at h
  injection h with h
  subst h
  try dsimp only
  repeat' first
    | with_reducible apply Foot.refl
    | with_reducible_and_instances rfl
    | with_reducible apply Foot.via State.setSsi_foot
    | with_reducible apply Foot.ite
    | split
    | dsimp only

theorem State.cmpJudge_foot {s x1 x2 x3} : Foot 152044544 s (State.cmpJudge s x1 x2 x3) := by
  unfold State.cmpJudge
  try dsimp only
  repeat' first
    | with_reducible apply Foot.refl
    | with_reducible_and_instances rfl
    | with_reducible apply Foot.via State.arrive_foot
    | with_reducible apply Foot.via State.hit_foot
    | with_reducible apply Foot.via State.report_foot
    | with_reducible apply Foot.via State.setInc_foot
    | with_reducible apply Foot.ite
    | split

theorem State.cmpJudgeAll_foot {s x1 x2} : Foot 152044544 s (State.cmpJudgeAll s x1 x2) := by
  unfold State.cmpJudgeAll
  try dsimp only
  repeat' first
    | with_reducible apply Foot.refl
    | with_reducible_and_instances rfl
    | with_reducible apply Foot.via State.cmpJudge_foot
    | with_reducible apply Foot.forUpTo
    | with_reducible intro _ _
    | dsimp only

theorem State.quadReject_foot {s x1} : Foot 152044544 s (State.quadReject s x1) := by
  unfold State.quadReject
  try dsimp only
  repeat' first
    | with_reducible apply Foot.refl
    | with_reducible_and_instances rfl
    | with_reducible apply Foot.via State.hit_foot
    | with_reducible apply Foot.via State.reportBlock_foot
    | with_reducible apply Foot.via State.setInc_foot

theorem State.xCheck_foot {s x1} : Foot 16811008 s (State.xCheck s x1) := by
  unfold State.xCheck
  try dsimp only
  repeat' first
    | with_reducible apply Foot.refl
    | with_reducible_and_instances rfl
    | with_reducible apply Foot.via State.xLose_foot
    | with_reducible apply Foot.ite
    | split

theorem State.sampleBad_foot {s x1} : Foot 152077312 s (State.sampleBad s x1) := by
  unfold State.sampleBad
  try dsimp only
  repeat' first
    | with_reducible apply Foot.refl
    | with_reducible_and_instances rfl
    | with_reducible apply Foot.via State.hit_foot
    | with_reducible apply Foot.via State.reportBlock_foot
    | with_reducible apply Foot.via State.setInc_foot
    | with_reducible apply Foot.via State.xCheck_foot
    | with_reducible apply Foot.ite
    | split

theorem State.sampleGood_foot {s x1 x2 x3} : Foot 152077312 s (State.sampleGood s x1 x2 x3) := by
  unfold State.sampleGood
  try dsimp only
  repeat' first
    | with_reducible apply Foot.refl
    | with_reducible_and_instances rfl
    | with_reducible apply Foot.via State.hit_foot
    | with_reducible apply Foot.via State.reportBlock_foot
    | with_reducible apply Foot.via State.setInc_foot
    | with_reducible apply Foot.via State.xCheck_foot
    | with_reducible apply Foot.ite
    | split

theorem State.ssiDone_foot {s x1 x2 x3 x4} : Foot 17826816 s (State.ssiDone s x1 x2 x3 x4) := by
  unfold State.ssiDone
  try dsimp only
  repeat' first
    | with_reducible apply Foot.refl
    | with_reducible_and_instances rfl
    | with_reducible apply Foot.via State.arrive_foot
    | with_reducible apply Foot.via State.reportBlock_foot
    | with_reducible apply Foot.via State.setSsi_foot
    | with_reducible apply Foot.ite
    | split

theorem execClrpok_foot {x0 s t} (h : execClrpok x0 s = .next t) : Foot 1048576 s t := by
  unfold execClrpok at h
  injection h with h
  subst h
  try dsimp only
  repeat' first
    | with_reducible apply Foot.refl
    | with_reducible_and_instances rfl
    | with_reducible refine Foot.via (State.fbkClear_foot (by assumption)) (by decide) ?_
    | with_reducible refine Foot.getD ?_ (fun _ hx => (State.fbkClear_foot hx).mono (by decide))
    | with_reducible apply Foot.ite
    | split
    | dsimp only

theorem execDisarm_foot {x0 s t} (h : execDisarm x0 s = .next t) : Foot 1048584 s t := by
  unfold execDisarm at h
  injection h with h
  subst h
  try dsimp only
  repeat' first
    | with_reducible apply Foot.refl
    | with_reducible_and_instances rfl
    | with_reducible refine Foot.via (State.cmpCfgWrite_foot (by assumption)) (by decide) ?_
    | with_reducible refine Foot.getD ?_ (fun _ hx => (State.cmpCfgWrite_foot hx).mono (by decide))
    | with_reducible apply Foot.ite
    | split
    | dsimp only

theorem execFbkClrcnt_foot {x0 s t} (h : execFbkClrcnt x0 s = .next t) : Foot 1048576 s t := by
  unfold execFbkClrcnt at h
  injection h with h
  subst h
  try dsimp only
  repeat' first
    | with_reducible apply Foot.refl
    | with_reducible_and_instances rfl
    | with_reducible refine Foot.via (State.fbkClear_foot (by assumption)) (by decide) ?_
    | with_reducible refine Foot.getD ?_ (fun _ hx => (State.fbkClear_foot hx).mono (by decide))
    | with_reducible apply Foot.ite
    | split
    | dsimp only

theorem execFbkSincosSample_foot {x0 x1 x2 s t} (h : execFbkSincosSample x0 x1 x2 s = .next t) : Foot 152077314 s t := by
  unfold execFbkSincosSample at h
  injection h with h
  subst h
  try dsimp only
  repeat' first
    | with_reducible apply Foot.refl
    | with_reducible_and_instances rfl
    | with_reducible apply Foot.via State.cmpJudgeAll_foot
    | with_reducible apply Foot.via State.freeVal_foot
    | with_reducible refine Foot.via (State.freeVal_foot' (by assumption)) (by decide) ?_
    | with_reducible apply Foot.via State.sampleBad_foot
    | with_reducible apply Foot.via State.sampleGood_foot
    | with_reducible apply Foot.via State.setInc_foot
    | with_reducible apply Foot.via State.xUpdate_foot
    | with_reducible apply Foot.ite
    | split
    | dsimp only

theorem execFbkStillTimeout_foot {x0 s t} (h : execFbkStillTimeout x0 s = .next t) : Foot 1081344 s t := by
  unfold execFbkStillTimeout at h
  injection h with h
  subst h
  try dsimp only
  repeat' first
    | with_reducible apply Foot.refl
    | with_reducible_and_instances rfl
    | with_reducible apply Foot.via State.setInc_foot
    | with_reducible apply Foot.via State.xUpdate_foot
    | with_reducible apply Foot.ite
    | split
    | dsimp only

theorem execObserverUpdate_foot {x0 s t} (h : execObserverUpdate x0 s = .next t) : Foot 152077314 s t := by
  unfold execObserverUpdate at h
  injection h with h
  subst h
  try dsimp only
  repeat' first
    | with_reducible apply Foot.refl
    | with_reducible_and_instances rfl
    | with_reducible apply Foot.via State.freeVal_foot
    | with_reducible refine Foot.via (State.freeVal_foot' (by assumption)) (by decide) ?_
    | with_reducible apply Foot.via State.setInc_foot
    | with_reducible apply Foot.via State.xUpdate_foot
    | with_reducible exact (execFbkSincosSample_foot (by assumption)).mono (by decide)
    | with_reducible refine Foot.via (execFbkSincosSample_foot (by assumption)) (by decide) ?_
    | with_reducible apply Foot.ite
    | split
    | dsimp only

theorem execQuadEdge_foot {x0 x1 x2 s t} (h : execQuadEdge x0 x1 x2 s = .next t) : Foot 152077312 s t := by
  unfold execQuadEdge at h
  injection h with h
  subst h
  try dsimp only
  repeat' first
    | with_reducible apply Foot.refl
    | with_reducible_and_instances rfl
    | with_reducible apply Foot.via State.cmpJudgeAll_foot
    | with_reducible apply Foot.via State.hit_foot
    | with_reducible apply Foot.via State.quadReject_foot
    | with_reducible apply Foot.via State.reportBlock_foot
    | with_reducible apply Foot.via State.setInc_foot
    | with_reducible apply Foot.via State.xCheck_foot
    | with_reducible apply Foot.via State.xUpdate_foot
    | with_reducible apply Foot.ite
    | split
    | dsimp only

theorem execSsiFrameBegin_foot {x0 s t} (h : execSsiFrameBegin x0 s = .next t) : Foot 1048576 s t := by
  unfold execSsiFrameBegin at h
  injection h with h
  subst h
  try dsimp only
  repeat' first
    | with_reducible apply Foot.refl
    | with_reducible_and_instances rfl
    | with_reducible apply Foot.via State.setSsi_foot
    | with_reducible apply Foot.ite
    | split
    | dsimp only

theorem execSsiFrameComplete_foot {x0 x1 s t} (h : execSsiFrameComplete x0 x1 s = .next t) : Foot 17826816 s t := by
  unfold execSsiFrameComplete at h
  injection h with h
  subst h
  try dsimp only
  repeat' first
    | with_reducible apply Foot.refl
    | with_reducible_and_instances rfl
    | with_reducible apply Foot.via State.ssiDone_foot
    | with_reducible apply Foot.ite
    | split
    | dsimp only

theorem execSsiPeriodicTrigger_foot {x0 x1 s t} (h : execSsiPeriodicTrigger x0 x1 s = .next t) : Foot 1048576 s t := by
  unfold execSsiPeriodicTrigger at h
  injection h with h
  subst h
  try dsimp only
  repeat' first
    | with_reducible apply Foot.refl
    | with_reducible_and_instances rfl
    | with_reducible apply Foot.via State.setSsi_foot
    | with_reducible apply Foot.via State.ssiTrigger_foot
    | with_reducible apply Foot.ite
    | split
    | dsimp only

theorem execSsiTimeout_foot {x0 x1 s t} (h : execSsiTimeout x0 x1 s = .next t) : Foot 17826816 s t := by
  unfold execSsiTimeout at h
  injection h with h
  subst h
  try dsimp only
  repeat' first
    | with_reducible apply Foot.refl
    | with_reducible_and_instances rfl
    | with_reducible apply Foot.via State.reportBlock_foot
    | with_reducible apply Foot.via State.setSsi_foot
    | with_reducible apply Foot.via State.ssiDone_foot
    | with_reducible apply Foot.ite
    | split
    | dsimp only

end Sys2Proof.Machine
end

