-- ==== Sys2Proof/Laws/FootInterrupts.lean ====
section
/-! SUPPORT. Footprints of the operations of Machine/Interrupts.lean. -/

namespace Sys2Proof.Machine

theorem State.acknowledge_foot {s x1 x2} : Foot 1024 s (State.acknowledge s x1 x2) := by
  unfold State.acknowledge
  try dsimp only
  repeat' first
    | with_reducible apply Foot.refl
    | with_reducible_and_instances rfl
    | with_reducible apply Foot.via State.ackSource_foot
    | with_reducible apply Foot.via State.setSource_foot
    | with_reducible apply Foot.via State.setTarget_foot
    | with_reducible apply Foot.ite
    | split

theorem execIrcAckcnt_foot {x0 s t} (h : execIrcAckcnt x0 s = .next t) : Foot 1024 s t := by
  unfold execIrcAckcnt at h
  injection h with h
  subst h
  try dsimp only
  repeat' first
    | with_reducible apply Foot.refl
    | with_reducible_and_instances rfl
    | with_reducible apply Foot.via State.acknowledge_foot
    | with_reducible apply Foot.ite
    | split
    | dsimp only

theorem execIrcFlostClr_foot {x0 s t} (h : execIrcFlostClr x0 s = .next t) : Foot 1024 s t := by
  unfold execIrcFlostClr at h
  injection h with h
  subst h
  try dsimp only
  repeat' first
    | with_reducible apply Foot.refl
    | with_reducible_and_instances rfl
    | with_reducible apply Foot.ite
    | split
    | with_reducible apply Foot.irc
    | dsimp only

theorem execIrcScfg_foot {x0 s t} (h : execIrcScfg x0 s = .next t) : Foot 1032 s t := by
  unfold execIrcScfg at h
  injection h with h
  subst h
  try dsimp only
  repeat' first
    | with_reducible apply Foot.refl
    | with_reducible_and_instances rfl
    | with_reducible apply Foot.via State.setCfg_foot
    | with_reducible apply Foot.via State.setSource_foot
    | with_reducible apply Foot.via State.strayRefresh_foot
    | with_reducible apply Foot.ite
    | split
    | dsimp only

theorem execIrcSet_foot {x0 s t} (h : execIrcSet x0 s = .next t) : Foot 159384576 s t := by
  unfold execIrcSet at h
  injection h with h
  subst h
  try dsimp only
  repeat' first
    | with_reducible apply Foot.refl
    | with_reducible_and_instances rfl
    | with_reducible apply Foot.via State.countArrival_foot
    | with_reducible apply Foot.ite
    | split
    | dsimp only

theorem execIrcStraycntClr_foot {x0 s t} (h : execIrcStraycntClr x0 s = .next t) : Foot 1024 s t := by
  unfold execIrcStraycntClr at h
  injection h with h
  subst h
  try dsimp only
  repeat' first
    | with_reducible apply Foot.refl
    | with_reducible_and_instances rfl
    | with_reducible apply Foot.ite
    | split
    | with_reducible apply Foot.irc
    | dsimp only

theorem execIrcHvecRead_foot {x0 s t} (h : execIrcHvecRead x0 s = .next t) : Foot 1024 s t := by
  unfold execIrcHvecRead at h
  injection h with h
  subst h
  try dsimp only
  repeat' first
    | with_reducible apply Foot.refl
    | with_reducible_and_instances rfl
    | with_reducible apply Foot.via State.acknowledge_foot
    | with_reducible apply Foot.ite
    | split
    | with_reducible apply Foot.irc
    | dsimp only

theorem State.endDelivery_foot {s x1 x2} : Foot 155190272 s (State.endDelivery s x1 x2) := by
  unfold State.endDelivery
  try dsimp only
  repeat' first
    | with_reducible apply Foot.refl
    | with_reducible_and_instances rfl
    | with_reducible apply Foot.via State.ackSource_foot
    | with_reducible apply Foot.via State.lineArrive_foot
    | with_reducible apply Foot.via State.setSource_foot
    | with_reducible apply Foot.via State.setTarget_foot
    | with_reducible apply Foot.ite
    | split

theorem State.latchSet_foot {s x1} : Foot 134222848 s (State.latchSet s x1) := by
  unfold State.latchSet
  try dsimp only
  repeat' first
    | with_reducible apply Foot.refl
    | with_reducible_and_instances rfl
    | with_reducible apply Foot.via State.arrive_foot
    | with_reducible apply Foot.via State.hit_foot
    | with_reducible apply Foot.ite
    | split
    | with_reducible apply Foot.irc
    | with_reducible apply Foot.pwr
    | with_reducible refine Foot.many rfl (h := ?_)

theorem State.startDelivery_foot {s x1 x2} : Foot 1032 s (State.startDelivery s x1 x2) := by
  unfold State.startDelivery
  try dsimp only
  repeat' first
    | with_reducible apply Foot.refl
    | with_reducible_and_instances rfl
    | with_reducible apply Foot.via State.setFlag_foot
    | with_reducible apply Foot.via State.setSource_foot
    | with_reducible apply Foot.via State.setTarget_foot
    | with_reducible apply Foot.ite
    | split

theorem State.wakeTarget_foot {s x1} : Foot 4104 s (State.wakeTarget s x1) := by
  unfold State.wakeTarget
  try dsimp only
  repeat' first
    | with_reducible apply Foot.refl
    | with_reducible_and_instances rfl
    | with_reducible apply Foot.via State.setFlag_foot
    | with_reducible apply Foot.ite
    | split
    | with_reducible apply Foot.pwr
    | dsimp only

theorem execDeliverySelection_foot {x0 s t} (h : execDeliverySelection x0 s = .next t) : Foot 5128 s t := by
  unfold execDeliverySelection at h
  injection h with h
  subst h
  try dsimp only
  repeat' first
    | with_reducible apply Foot.refl
    | with_reducible_and_instances rfl
    | with_reducible apply Foot.via State.startDelivery_foot
    | with_reducible apply Foot.via State.strayRefreshAll_foot
    | with_reducible apply Foot.via State.wakeTarget_foot
    | with_reducible apply Foot.ite
    | split
    | dsimp only

theorem execFaultRecordClose_foot {s t} (h : execFaultRecordClose s = .next t) : Foot 16778752 s t := by
  unfold execFaultRecordClose at h
  injection h with h
  subst h
  try dsimp only
  repeat' first
    | with_reducible apply Foot.refl
    | with_reducible_and_instances rfl
    | with_reducible apply Foot.via State.closeDue_foot
    | dsimp only

theorem execFaultReport_foot {x0 s t} (h : execFaultReport x0 s = .next t) : Foot 192939520 s t := by
  unfold execFaultReport at h
  injection h with h
  subst h
  try dsimp only
  repeat' first
    | with_reducible apply Foot.refl
    | with_reducible_and_instances rfl
    | with_reducible apply Foot.via State.domReport_foot
    | with_reducible apply Foot.via State.handleReport_foot
    | with_reducible refine Foot.via (State.handleReport_foot' (by assumption)) (by decide) ?_
    | with_reducible apply Foot.ite
    | split
    | with_reducible apply Foot.irc
    | dsimp only

theorem execHandshakeEnd_foot {x0 s t} (h : execHandshakeEnd x0 s = .next t) : Foot 155190272 s t := by
  unfold execHandshakeEnd at h
  injection h with h
  subst h
  try dsimp only
  repeat' first
    | with_reducible apply Foot.refl
    | with_reducible_and_instances rfl
    | with_reducible apply Foot.via State.acknowledge_foot
    | with_reducible apply Foot.via State.endDelivery_foot
    | with_reducible apply Foot.ite
    | split
    | dsimp only

theorem execSourceArrival_foot {x0 s t} (h : execSourceArrival x0 s = .next t) : Foot 159384576 s t := by
  unfold execSourceArrival at h
  injection h with h
  subst h
  try dsimp only
  repeat' first
    | with_reducible apply Foot.refl
    | with_reducible_and_instances rfl
    | with_reducible apply Foot.via State.countArrival_foot
    | split
    | with_reducible apply Foot.irc
    | dsimp only

theorem execStrayTimeout_foot {x0 s t} (h : execStrayTimeout x0 s = .next t) : Foot 151000072 s t := by
  unfold execStrayTimeout at h
  injection h with h
  subst h
  try dsimp only
  repeat' first
    | with_reducible apply Foot.refl
    | with_reducible_and_instances rfl
    | with_reducible apply Foot.via State.hit_foot
    | with_reducible apply Foot.via State.report_foot
    | with_reducible apply Foot.via State.setSource_foot
    | with_reducible apply Foot.via State.wakeTarget_foot
    | with_reducible apply Foot.ite
    | split
    | with_reducible apply Foot.irc
    | dsimp only

theorem execWakeLatchEdge_foot {x0 x1 s t} (h : execWakeLatchEdge x0 x1 s = .next t) : Foot 134222848 s t := by
  unfold execWakeLatchEdge at h
  injection h with h
  subst h
  try dsimp only
  repeat' first
    | with_reducible apply Foot.refl
    | with_reducible_and_instances rfl
    | with_reducible apply Foot.via State.latchSet_foot
    | with_reducible apply Foot.ite
    | split
    | dsimp only

end Sys2Proof.Machine
end

