-- ==== Sys2Proof/Laws/FootDma.lean ====
section
/-! SUPPORT. Footprints of the operations of Machine/Dma.lean. -/

namespace Sys2Proof.Machine

theorem State.dmaWriteBack_foot {s x1 x2 x3} : Foot 159385088 s (State.dmaWriteBack s x1 x2 x3) := by
  unfold State.dmaWriteBack
  try dsimp only
  repeat' first
    | with_reducible apply Foot.refl
    | with_reducible_and_instances rfl
    | with_reducible apply Foot.via State.countArrival_foot
    | with_reducible apply Foot.via State.latPut_foot
    | with_reducible apply Foot.ite
    | split

theorem State.setChan_foot {s x1 x2} : Foot 8388608 s (State.setChan s x1 x2) := by
  unfold State.setChan
  try dsimp only
  repeat' first
    | with_reducible apply Foot.refl
    | with_reducible_and_instances rfl
    | with_reducible apply Foot.dma

theorem State.dmaDone_foot {s x1} : Foot 159385088 s (State.dmaDone s x1) := by
  unfold State.dmaDone
  try dsimp only
  repeat' first
    | with_reducible apply Foot.refl
    | with_reducible_and_instances rfl
    | with_reducible apply Foot.via State.dmaWriteBack_foot
    | with_reducible apply Foot.via State.paceFrom_foot
    | with_reducible apply Foot.via State.setChan_foot
    | with_reducible apply Foot.ite
    | split

theorem State.afterBurst_foot {s x1} : Foot 159385088 s (State.afterBurst s x1) := by
  unfold State.afterBurst
  try dsimp only
  repeat' first
    | with_reducible apply Foot.refl
    | with_reducible_and_instances rfl
    | with_reducible apply Foot.via State.dmaDone_foot
    | with_reducible apply Foot.via State.setChan_foot
    | with_reducible apply Foot.ite
    | split

theorem State.dmaAborted_foot {s x1 x2} : Foot 159385088 s (State.dmaAborted s x1 x2) := by
  unfold State.dmaAborted
  try dsimp only
  repeat' first
    | with_reducible apply Foot.refl
    | with_reducible_and_instances rfl
    | with_reducible apply Foot.via State.dmaWriteBack_foot
    | with_reducible apply Foot.via State.hit_foot
    | with_reducible apply Foot.via State.setChan_foot
    | with_reducible apply Foot.dma

theorem State.dmaCmd_foot {s x1 t} (h : State.dmaCmd s x1 = some t) : Foot 159385088 s t := by
  unfold State.dmaCmd at h
  try dsimp only at h
  repeat' split at h
  all_goals first
    | (simp only [reduceCtorEq] at h; done)
    | (simp only [Option.some.injEq] at h; subst h)
  repeat' first
    | with_reducible apply Foot.refl
    | with_reducible_and_instances rfl
    | with_reducible apply Foot.via State.dmaAborted_foot
    | with_reducible apply Foot.via State.setChan_foot
    | with_reducible apply Foot.ite
    | split

theorem execDmaCntClr_foot {x0 s t} (h : execDmaCntClr x0 s = .next t) : Foot 8388608 s t := by
  unfold execDmaCntClr at h
  injection h with h
  subst h
  try dsimp only
  repeat' first
    | with_reducible apply Foot.refl
    | with_reducible_and_instances rfl
    | with_reducible apply Foot.ite
    | split
    | with_reducible apply Foot.dma
    | dsimp only

theorem State.dmaError_foot {s x1 x2 x3 x4} : Foot 159385088 s (State.dmaError s x1 x2 x3 x4) := by
  unfold State.dmaError
  try dsimp only
  repeat' first
    | with_reducible apply Foot.refl
    | with_reducible_and_instances rfl
    | with_reducible apply Foot.via State.dmaWriteBack_foot
    | with_reducible apply Foot.via State.hit_foot
    | with_reducible apply Foot.via State.report_foot
    | with_reducible apply Foot.via State.setChan_foot
    | with_reducible apply Foot.dma

theorem State.peerPut_foot {s x1 x2 t} (h : State.peerPut s x1 x2 = some t) : Foot 16908288 s t := by
  unfold State.peerPut at h
  try dsimp only at h
  repeat' split at h
  all_goals first
    | (simp only [reduceCtorEq] at h; done)
    | (simp only [Option.some.injEq] at h; subst h)
  repeat' first
    | with_reducible apply Foot.refl
    | with_reducible_and_instances rfl
    | with_reducible apply Foot.via State.setPort_foot
    | with_reducible apply Foot.via State.twnSend_foot
    | with_reducible apply Foot.ite
    | split

theorem State.peerTake_foot {s x1 x2} : Foot 16908288 s (State.peerTake s x1 x2) := by
  unfold State.peerTake
  try dsimp only
  repeat' first
    | with_reducible apply Foot.refl
    | with_reducible_and_instances rfl
    | with_reducible apply Foot.ite
    | split
    | with_reducible apply Foot.cmd
    | with_reducible apply Foot.twn
    | with_reducible refine Foot.many rfl (h := ?_)

theorem State.moveOne_foot_moved {s x1 x2 t} (h : State.moveOne s x1 x2 = .moved t) : Foot 163710466 s t := by
  unfold State.moveOne at h
  try dsimp only at h
  repeat' split at h
  all_goals first
    | (cases h; done)
    | cases h
  repeat' first
    | with_reducible apply Foot.refl
    | with_reducible_and_instances rfl
    | with_reducible apply Foot.via State.lanStore_foot
    | with_reducible apply Foot.via State.lanTouch_foot
    | with_reducible apply Foot.via State.latPut_foot
    | with_reducible apply Foot.via State.latTouch_foot
    | with_reducible refine Foot.via (State.peerPut_foot (by assumption)) (by decide) ?_
    | with_reducible refine Foot.getD ?_ (fun _ hx => (State.peerPut_foot hx).mono (by decide))
    | with_reducible apply Foot.via State.peerTake_foot
    | with_reducible apply Foot.via State.setChan_foot
    | with_reducible apply Foot.ite
    | split

theorem State.moveOne_foot_bad {s x1 x2 a b t} (h : State.moveOne s x1 x2 = .bad a b t) : Foot 163710466 s t := by
  unfold State.moveOne at h
  try dsimp only at h
  repeat' split at h
  all_goals first
    | (cases h; done)
    | cases h
  repeat' first
    | with_reducible apply Foot.refl
    | with_reducible_and_instances rfl
    | with_reducible apply Foot.via State.lanStore_foot
    | with_reducible apply Foot.via State.lanTouch_foot
    | with_reducible apply Foot.via State.latPut_foot
    | with_reducible apply Foot.via State.latTouch_foot
    | with_reducible refine Foot.via (State.peerPut_foot (by assumption)) (by decide) ?_
    | with_reducible refine Foot.getD ?_ (fun _ hx => (State.peerPut_foot hx).mono (by decide))
    | with_reducible apply Foot.via State.peerTake_foot
    | with_reducible apply Foot.via State.setChan_foot
    | with_reducible apply Foot.ite
    | split

theorem State.burst_foot {s x1 x2} : Foot 163710466 s (State.burst s x1 x2) := by
  induction x2 generalizing s  with
  | zero => simp only [State.burst]; exact Foot.refl
  | succ n ih =>
    rw [State.burst]
    try dsimp only
    repeat' first
      | with_reducible apply Foot.refl
      | with_reducible assumption
      | with_reducible_and_instances rfl
      | with_reducible apply Foot.then_ ih
      | with_reducible apply Foot.via State.dmaError_foot
      | with_reducible refine Foot.via (State.moveOne_foot_moved (by assumption)) (by decide) ?_
      | with_reducible refine Foot.via (State.moveOne_foot_bad (by assumption)) (by decide) ?_
      | with_reducible apply Foot.via State.setChan_foot
      | with_reducible apply Foot.ite
      | split

theorem State.dmaBadDesc_foot {s x1} : Foot 159384576 s (State.dmaBadDesc s x1) := by
  unfold State.dmaBadDesc
  try dsimp only
  repeat' first
    | with_reducible apply Foot.refl
    | with_reducible_and_instances rfl
    | with_reducible apply Foot.via State.countArrival_foot
    | with_reducible apply Foot.via State.hit_foot
    | with_reducible apply Foot.via State.report_foot
    | with_reducible apply Foot.via State.setChan_foot
    | with_reducible apply Foot.dma

theorem State.dmaBegin_foot {s x1} : Foot 8388608 s (State.dmaBegin s x1) := by
  unfold State.dmaBegin
  try dsimp only
  repeat' first
    | with_reducible apply Foot.refl
    | with_reducible_and_instances rfl
    | with_reducible apply Foot.via State.setChan_foot
    | with_reducible apply Foot.ite
    | split

theorem execAbort_foot {x0 s t} (h : execAbort x0 s = .next t) : Foot 159385088 s t := by
  unfold execAbort at h
  injection h with h
  subst h
  try dsimp only
  repeat' first
    | with_reducible apply Foot.refl
    | with_reducible_and_instances rfl
    | with_reducible refine Foot.via (State.dmaCmd_foot (by assumption)) (by decide) ?_
    | with_reducible refine Foot.getD ?_ (fun _ hx => (State.dmaCmd_foot hx).mono (by decide))
    | with_reducible apply Foot.ite
    | split
    | dsimp only

theorem execBarrierEnd_foot {x0 s t} (h : execBarrierEnd x0 s = .next t) : Foot 159385088 s t := by
  unfold execBarrierEnd at h
  injection h with h
  subst h
  try dsimp only
  repeat' first
    | with_reducible apply Foot.refl
    | with_reducible_and_instances rfl
    | with_reducible apply Foot.via State.dmaAborted_foot
    | with_reducible apply Foot.via State.dmaDone_foot
    | with_reducible apply Foot.ite
    | split
    | dsimp only

theorem execClrcred_foot {x0 s t} (h : execClrcred x0 s = .next t) : Foot 159385088 s t := by
  unfold execClrcred at h
  injection h with h
  subst h
  try dsimp only
  repeat' first
    | with_reducible apply Foot.refl
    | with_reducible_and_instances rfl
    | with_reducible refine Foot.via (State.dmaCmd_foot (by assumption)) (by decide) ?_
    | with_reducible refine Foot.getD ?_ (fun _ hx => (State.dmaCmd_foot hx).mono (by decide))
    | with_reducible apply Foot.ite
    | split
    | dsimp only

theorem execDescriptorFetch_foot {x0 s t} (h : execDescriptorFetch x0 s = .next t) : Foot 159385090 s t := by
  unfold execDescriptorFetch at h
  injection h with h
  subst h
  try dsimp only
  repeat' first
    | with_reducible apply Foot.refl
    | with_reducible_and_instances rfl
    | with_reducible apply Foot.via State.dmaBadDesc_foot
    | with_reducible apply Foot.via State.dmaBegin_foot
    | with_reducible apply Foot.via State.dmaError_foot
    | with_reducible apply Foot.via State.freeVal_foot
    | with_reducible refine Foot.via (State.freeVal_foot' (by assumption)) (by decide) ?_
    | with_reducible apply Foot.via State.latTouchN_foot
    | with_reducible apply Foot.via State.setChan_foot
    | with_reducible apply Foot.ite
    | split
    | dsimp only

theorem execDmaBurst_foot {s t} (h : execDmaBurst s = .next t) : Foot 163710466 s t := by
  unfold execDmaBurst at h
  injection h with h
  subst h
  try dsimp only
  repeat' first
    | with_reducible apply Foot.refl
    | with_reducible_and_instances rfl
    | with_reducible apply Foot.via State.afterBurst_foot
    | with_reducible apply Foot.via State.burst_foot
    | split
    | with_reducible apply Foot.dma
    | dsimp only

theorem execDmaStart_foot {x0 s t} (h : execDmaStart x0 s = .next t) : Foot 159385088 s t := by
  unfold execDmaStart at h
  injection h with h
  subst h
  try dsimp only
  repeat' first
    | with_reducible apply Foot.refl
    | with_reducible_and_instances rfl
    | with_reducible refine Foot.via (State.dmaCmd_foot (by assumption)) (by decide) ?_
    | with_reducible refine Foot.getD ?_ (fun _ hx => (State.dmaCmd_foot hx).mono (by decide))
    | with_reducible apply Foot.ite
    | split
    | dsimp only

theorem execKick_foot {x0 s t} (h : execKick x0 s = .next t) : Foot 159385088 s t := by
  unfold execKick at h
  injection h with h
  subst h
  try dsimp only
  repeat' first
    | with_reducible apply Foot.refl
    | with_reducible_and_instances rfl
    | with_reducible refine Foot.via (State.dmaCmd_foot (by assumption)) (by decide) ?_
    | with_reducible refine Foot.getD ?_ (fun _ hx => (State.dmaCmd_foot hx).mono (by decide))
    | with_reducible apply Foot.ite
    | split
    | dsimp only

theorem execPacingCredit_foot {x0 s t} (h : execPacingCredit x0 s = .next t) : Foot 159384576 s t := by
  unfold execPacingCredit at h
  injection h with h
  subst h
  try dsimp only
  repeat' first
    | with_reducible apply Foot.refl
    | with_reducible_and_instances rfl
    | with_reducible apply Foot.via State.dmaBegin_foot
    | with_reducible apply Foot.via State.hit_foot
    | with_reducible apply Foot.via State.report_foot
    | with_reducible apply Foot.via State.setChan_foot
    | with_reducible apply Foot.ite
    | split
    | with_reducible apply Foot.dma
    | dsimp only

theorem execStop_foot {x0 s t} (h : execStop x0 s = .next t) : Foot 159385088 s t := by
  unfold execStop at h
  injection h with h
  subst h
  try dsimp only
  repeat' first
    | with_reducible apply Foot.refl
    | with_reducible_and_instances rfl
    | with_reducible refine Foot.via (State.dmaCmd_foot (by assumption)) (by decide) ?_
    | with_reducible refine Foot.getD ?_ (fun _ hx => (State.dmaCmd_foot hx).mono (by decide))
    | with_reducible apply Foot.ite
    | split
    | dsimp only

end Sys2Proof.Machine
end

