-- ==== Sys2Proof/Laws/FootTwinOps.lean ====
section
/-! SUPPORT. Footprints of the operations of Machine/TwinOps.lean. -/

namespace Sys2Proof.Machine

theorem State.linkDown_foot {s} : Foot 16778240 s (State.linkDown s) := by
  unfold State.linkDown
  try dsimp only
  repeat' first
    | with_reducible apply Foot.refl
    | with_reducible_and_instances rfl
    | with_reducible apply Foot.via State.arrive_foot
    | with_reducible apply Foot.via State.joinFail_foot
    | with_reducible apply Foot.via State.twnReport_foot
    | with_reducible apply Foot.ite
    | split
    | with_reducible apply Foot.twn

theorem State.setRole_foot {s x1} : Foot 16778240 s (State.setRole s x1) := by
  unfold State.setRole
  try dsimp only
  repeat' first
    | with_reducible apply Foot.refl
    | with_reducible_and_instances rfl
    | with_reducible apply Foot.via State.arrive_foot
    | with_reducible apply Foot.ite
    | split
    | with_reducible apply Foot.twn

theorem State.firstDriven_foot {s x1} : Foot 2097152 s (State.firstDriven s x1) := by
  unfold State.firstDriven
  try dsimp only
  repeat' first
    | with_reducible apply Foot.refl
    | with_reducible_and_instances rfl
    | with_reducible apply Foot.via State.setBoost_foot
    | with_reducible apply Foot.ite
    | split

theorem State.setOwn_foot {s x1 x2} : Foot 18875392 s (State.setOwn s x1 x2) := by
  unfold State.setOwn
  try dsimp only
  repeat' first
    | with_reducible apply Foot.refl
    | with_reducible_and_instances rfl
    | with_reducible apply Foot.via State.arrive_foot
    | with_reducible apply Foot.via State.firstDriven_foot
    | with_reducible apply Foot.ite
    | with_reducible apply Foot.forUpTo
    | with_reducible intro _ _
    | split
    | with_reducible apply Foot.twn
    | dsimp only

theorem State.unpair_foot {s} : Foot 16778240 s (State.unpair s) := by
  unfold State.unpair
  try dsimp only
  repeat' first
    | with_reducible apply Foot.refl
    | with_reducible_and_instances rfl
    | with_reducible apply Foot.via State.setJstate_foot
    | with_reducible apply Foot.twn

theorem State.takeUnits_foot {s x1 x2} : Foot 18875392 s (State.takeUnits s x1 x2) := by
  unfold State.takeUnits
  try dsimp only
  repeat' first
    | with_reducible apply Foot.refl
    | with_reducible_and_instances rfl
    | with_reducible apply Foot.via State.setOwn_foot
    | with_reducible apply Foot.via State.setRole_foot
    | with_reducible apply Foot.via State.twnReport_foot
    | with_reducible apply Foot.via State.unpair_foot
    | with_reducible apply Foot.ite
    | split
    | with_reducible apply Foot.twn

theorem State.handEnd_foot {s} : Foot 153224192 s (State.handEnd s) := by
  unfold State.handEnd
  try dsimp only
  repeat' first
    | with_reducible apply Foot.refl
    | with_reducible_and_instances rfl
    | with_reducible apply Foot.via State.finishPacket_foot
    | with_reducible apply Foot.via State.setRole_foot
    | with_reducible apply Foot.via State.takeUnits_foot
    | with_reducible apply Foot.ite
    | split
    | with_reducible apply Foot.twn

theorem State.cancelHand_foot {s} : Foot 153224192 s (State.cancelHand s) := by
  unfold State.cancelHand
  try dsimp only
  repeat' first
    | with_reducible apply Foot.refl
    | with_reducible_and_instances rfl
    | with_reducible apply Foot.via State.handEnd_foot
    | with_reducible apply Foot.via State.takeUnits_foot
    | with_reducible apply Foot.ite
    | split
    | with_reducible apply Foot.twn

theorem State.dropTakes_foot {s} : Foot 153224192 s (State.dropTakes s) := by
  unfold State.dropTakes
  try dsimp only
  repeat' first
    | with_reducible apply Foot.refl
    | with_reducible_and_instances rfl
    | with_reducible apply Foot.via State.handEnd_foot
    | with_reducible apply Foot.via State.takeUnits_foot
    | with_reducible apply Foot.ite
    | with_reducible apply Foot.foldl
    | with_reducible intro _ _
    | split
    | with_reducible apply Foot.twn
    | dsimp only

end Sys2Proof.Machine
end

