-- ==== Sys2Proof/Laws/FootElrexOps.lean ====
section
/-! SUPPORT. Footprints of the operations of Machine/ElrexOps.lean. -/

namespace Sys2Proof.Machine

theorem State.elxReport_foot {s x1 x2} : Foot 16778240 s (State.elxReport s x1 x2) := by
  unfold State.elxReport
  try dsimp only
  repeat' first
    | with_reducible apply Foot.refl
    | with_reducible_and_instances rfl
    | with_reducible apply Foot.via State.reportBlock_foot

theorem State.sendNotice_foot {s x1 x2} : Foot 33554432 s (State.sendNotice s x1 x2) := by
  unfold State.sendNotice
  try dsimp only
  repeat' first
    | with_reducible apply Foot.refl
    | with_reducible_and_instances rfl
    | with_reducible apply Foot.via State.elxSendDown_foot

theorem State.setHoldover_foot {s x1} : Foot 33555456 s (State.setHoldover s x1) := by
  unfold State.setHoldover
  try dsimp only
  repeat' first
    | with_reducible apply Foot.refl
    | with_reducible_and_instances rfl
    | with_reducible apply Foot.via State.arrive_foot
    | with_reducible apply Foot.ite
    | split
    | with_reducible apply Foot.elx

theorem State.elxDown_foot {s x1} : Foot 50332672 s (State.elxDown s x1) := by
  unfold State.elxDown
  try dsimp only
  repeat' first
    | with_reducible apply Foot.refl
    | with_reducible_and_instances rfl
    | with_reducible apply Foot.via State.arrive_foot
    | with_reducible apply Foot.via State.elxReport_foot
    | with_reducible apply Foot.via State.sendNotice_foot
    | with_reducible apply Foot.via State.setElxPort_foot
    | with_reducible apply Foot.via State.setHoldover_foot
    | with_reducible apply Foot.ite
    | split
    | with_reducible apply Foot.elx

theorem State.elxAllDown_foot {s} : Foot 50332672 s (State.elxAllDown s) := by
  unfold State.elxAllDown
  try dsimp only
  repeat' first
    | with_reducible apply Foot.refl
    | with_reducible_and_instances rfl
    | with_reducible apply Foot.via State.elxDown_foot
    | with_reducible apply Foot.forUpTo
    | with_reducible intro _ _
    | dsimp only

theorem State.setActing_foot {s x1 x2} : Foot 33555456 s (State.setActing s x1 x2) := by
  unfold State.setActing
  try dsimp only
  repeat' first
    | with_reducible apply Foot.refl
    | with_reducible_and_instances rfl
    | with_reducible apply Foot.via State.arrive_foot
    | with_reducible apply Foot.ite
    | split
    | with_reducible apply Foot.elx

theorem State.setAligned_foot {s x1} : Foot 1056 s (State.setAligned s x1) := by
  unfold State.setAligned
  try dsimp only
  repeat' first
    | with_reducible apply Foot.refl
    | with_reducible_and_instances rfl
    | with_reducible apply Foot.via State.arrive_foot
    | with_reducible apply Foot.ite
    | split
    | with_reducible apply Foot.time

theorem State.elxReset_foot {s} : Foot 33554464 s (State.elxReset s) := by
  unfold State.elxReset
  try dsimp only
  repeat' first
    | with_reducible apply Foot.refl
    | with_reducible_and_instances rfl
    | with_reducible apply Foot.ite
    | split
    | with_reducible apply Foot.time
    | with_reducible apply Foot.elx
    | with_reducible refine Foot.many rfl (h := ?_)

theorem State.sendJoin_foot {s} : Foot 33554432 s (State.sendJoin s) := by
  unfold State.sendJoin
  try dsimp only
  repeat' first
    | with_reducible apply Foot.refl
    | with_reducible_and_instances rfl
    | with_reducible apply Foot.via State.elxSend_foot
    | with_reducible apply Foot.elx
    | dsimp only

end Sys2Proof.Machine
end

