-- ==== Sys2Proof/Laws/FootDomains.lean ====
section
/-! SUPPORT. Footprints of the operations of Machine/Domains.lean. -/

namespace Sys2Proof.Machine

theorem State.adcOff_foot {s} : Foot 161220096 s (State.adcOff s) := by
  unfold State.adcOff
  try dsimp only
  repeat' first
    | with_reducible apply Foot.refl
    | with_reducible_and_instances rfl
    | with_reducible apply Foot.via State.arcsEndAll_foot
    | with_reducible apply Foot.arcs
    | with_reducible apply Foot.fbk
    | with_reducible refine Foot.many rfl (h := ?_)

theorem State.loseRegs_foot {s x1} : Foot 8 s (State.loseRegs s x1) := by
  unfold State.loseRegs
  try dsimp only
  repeat' first
    | with_reducible apply Foot.refl
    | with_reducible_and_instances rfl
    | with_reducible apply Foot.regs
    | dsimp only

theorem State.setDom_foot {s x1 x2} : Foot 4096 s (State.setDom s x1 x2) := by
  unfold State.setDom
  try dsimp only
  repeat' first
    | with_reducible apply Foot.refl
    | with_reducible_and_instances rfl
    | with_reducible apply Foot.pwr

theorem State.domainOff_foot {s x1} : Foot 201135624 s (State.domainOff s x1) := by
  unfold State.domainOff
  try dsimp only
  repeat' first
    | with_reducible apply Foot.refl
    | with_reducible_and_instances rfl
    | with_reducible apply Foot.via State.adcOff_foot
    | with_reducible apply Foot.via State.clusterReset_foot
    | with_reducible apply Foot.via State.driveOff_foot
    | with_reducible apply Foot.via State.elxAllDown_foot
    | with_reducible apply Foot.via State.linkDown_foot
    | with_reducible apply Foot.via State.loseRegs_foot
    | with_reducible apply Foot.via State.setDom_foot
    | with_reducible apply Foot.ite
    | split
    | with_reducible apply Foot.pwr
    | with_reducible apply Foot.drv
    | with_reducible refine Foot.many rfl (h := ?_)
    | dsimp only

theorem State.domApply_foot {s x1} : Foot 201135624 s (State.domApply s x1) := by
  unfold State.domApply
  try dsimp only
  repeat' first
    | with_reducible apply Foot.refl
    | with_reducible_and_instances rfl
    | with_reducible apply Foot.via State.domainOff_foot
    | with_reducible apply Foot.ite
    | with_reducible apply Foot.forUpTo
    | with_reducible intro _ _
    | split
    | with_reducible apply Foot.pwr
    | dsimp only

theorem State.domainOn_foot {s x1} : Foot 39850152 s (State.domainOn s x1) := by
  unfold State.domainOn
  try dsimp only
  repeat' first
    | with_reducible apply Foot.refl
    | with_reducible_and_instances rfl
    | with_reducible apply Foot.via State.clusterReset_foot
    | with_reducible apply Foot.via State.elxReset_foot
    | with_reducible apply Foot.via State.ignRelease_foot
    | with_reducible apply Foot.via State.loseRegs_foot
    | with_reducible apply Foot.via State.setDom_foot
    | with_reducible apply Foot.ite
    | split
    | with_reducible apply Foot.bridge
    | with_reducible apply Foot.pwr
    | with_reducible apply Foot.lan
    | with_reducible refine Foot.many rfl (h := ?_)
    | dsimp only

theorem execDomainOn_foot {x0 s t} (h : execDomainOn x0 s = .next t) : Foot 39850152 s t := by
  unfold execDomainOn at h
  injection h with h
  subst h
  try dsimp only
  repeat' first
    | with_reducible apply Foot.refl
    | with_reducible_and_instances rfl
    | with_reducible apply Foot.via State.domainOn_foot
    | with_reducible apply Foot.ite
    | split
    | dsimp only

theorem execVgdGood_foot {s t} (h : execVgdGood s = .next t) : Foot 2101248 s t := by
  unfold execVgdGood at h
  injection h with h
  subst h
  try dsimp only
  repeat' first
    | with_reducible apply Foot.refl
    | with_reducible_and_instances rfl
    | with_reducible apply Foot.via State.ignRelease_foot
    | with_reducible apply Foot.ite
    | split
    | with_reducible apply Foot.pwr
    | dsimp only

theorem execVgdLow_foot {s t} (h : execVgdLow s = .next t) : Foot 153162752 s t := by
  unfold execVgdLow at h
  injection h with h
  subst h
  try dsimp only
  repeat' first
    | with_reducible apply Foot.refl
    | with_reducible_and_instances rfl
    | with_reducible apply Foot.via State.driveFloat_foot
    | with_reducible apply Foot.via State.report_foot
    | with_reducible apply Foot.ite
    | split
    | with_reducible apply Foot.pwr
    | dsimp only

end Sys2Proof.Machine
end

