-- ==== Sys2Proof/Laws/FootTimeBase.lean ====
section
/-! SUPPORT. Footprints of the operations of Machine/TimeBase.lean. -/

namespace Sys2Proof.Machine

theorem State.elxApply_foot {s x1} : Foot 50332672 s (State.elxApply s x1) := by
  unfold State.elxApply
  try dsimp only
  repeat' first
    | with_reducible apply Foot.refl
    | with_reducible_and_instances rfl
    | with_reducible apply Foot.via State.elxAllDown_foot
    | with_reducible apply Foot.ite
    | split

theorem State.fbkApply_foot {s x1 x2} : Foot 1081344 s (State.fbkApply s x1 x2) := by
  unfold State.fbkApply
  try dsimp only
  repeat' first
    | with_reducible apply Foot.refl
    | with_reducible_and_instances rfl
    | with_reducible apply Foot.via State.fbkNewMode_foot
    | with_reducible apply Foot.ite
    | split

theorem State.pmapApply_foot {s s1 x2} : Foot 4194304 s (State.pmapApply s s1 x2) := by
  unfold State.pmapApply
  try dsimp only
  repeat' first
    | with_reducible apply Foot.refl
    | with_reducible_and_instances rfl
    | with_reducible apply Foot.via State.setLane_foot
    | with_reducible apply Foot.ite
    | with_reducible apply Foot.forUpTo
    | with_reducible apply Foot.foldl
    | with_reducible intro _ _
    | split
    | dsimp only

theorem State.tanApply_foot {s s1} : Foot 16811008 s (State.tanApply s s1) := by
  unfold State.tanApply
  try dsimp only
  repeat' first
    | with_reducible apply Foot.refl
    | with_reducible_and_instances rfl
    | with_reducible apply Foot.via State.xLose_foot
    | with_reducible apply Foot.ite
    | split
    | with_reducible apply Foot.tan

theorem State.wheelApply_foot {s x1} : Foot 32768 s (State.wheelApply s x1) := by
  unfold State.wheelApply
  try dsimp only
  repeat' first
    | with_reducible apply Foot.refl
    | with_reducible_and_instances rfl
    | with_reducible apply Foot.ite
    | split
    | with_reducible apply Foot.tan

theorem State.applySet_foot {s x1} : Foot 201168392 s (State.applySet s x1) := by
  unfold State.applySet
  try dsimp only
  repeat' first
    | with_reducible apply Foot.refl
    | with_reducible_and_instances rfl
    | with_reducible apply Foot.via State.arcApply_foot
    | with_reducible apply Foot.via State.cmbApply_foot
    | with_reducible apply Foot.via State.domApply_foot
    | with_reducible apply Foot.via State.driveApply_foot
    | with_reducible apply Foot.via State.elxApply_foot
    | with_reducible apply Foot.via State.fbkApply_foot
    | with_reducible apply Foot.via State.ignVlvApply_foot
    | with_reducible apply Foot.via State.laneSettle_foot
    | with_reducible apply Foot.via State.pmapApply_foot
    | with_reducible apply Foot.via State.tanApply_foot
    | with_reducible apply Foot.via State.wheelApply_foot
    | with_reducible apply Foot.forUpTo
    | with_reducible apply Foot.foldl
    | with_reducible intro _ _
    | with_reducible apply Foot.regs
    | dsimp only

theorem State.applyShadows_foot {s} : Foot 469603848 s (State.applyShadows s) := by
  unfold State.applyShadows
  try dsimp only
  repeat' first
    | with_reducible apply Foot.refl
    | with_reducible_and_instances rfl
    | with_reducible apply Foot.via State.applySet_foot
    | with_reducible apply Foot.via State.later_foot
    | with_reducible apply Foot.ite
    | split
    | dsimp only

theorem State.applyCommit_foot {s} : Foot 469603912 s (State.applyCommit s) := by
  unfold State.applyCommit
  try dsimp only
  repeat' first
    | with_reducible apply Foot.refl
    | with_reducible_and_instances rfl
    | with_reducible apply Foot.via State.applyShadows_foot
    | with_reducible apply Foot.via State.logRestart_foot
    | with_reducible apply Foot.ite
    | split
    | with_reducible apply Foot.commit
    | with_reducible apply Foot.pwr
    | with_reducible refine Foot.many rfl (h := ?_)

theorem execTbStaleClr_foot {s t} (h : execTbStaleClr s = .next t) : Foot 32 s t := by
  unfold execTbStaleClr at h
  injection h with h
  subst h
  try dsimp only
  repeat' first
    | with_reducible apply Foot.refl
    | with_reducible_and_instances rfl
    | with_reducible apply Foot.time
    | dsimp only

theorem State.closeSet_foot {s x1 x2} : Foot 16777808 s (State.closeSet s x1 x2) := by
  unfold State.closeSet
  try dsimp only
  repeat' first
    | with_reducible apply Foot.refl
    | with_reducible_and_instances rfl
    | with_reducible apply Foot.via State.logClose_foot
    | with_reducible apply Foot.via State.twnSend_foot
    | with_reducible apply Foot.ite
    | split
    | with_reducible apply Foot.staged
    | with_reducible apply Foot.commit
    | with_reducible refine Foot.many rfl (h := ?_)
    | dsimp only

theorem State.dropSet_foot {s x1} : Foot 19665472 s (State.dropSet s x1) := by
  unfold State.dropSet
  try dsimp only
  repeat' first
    | with_reducible apply Foot.refl
    | with_reducible_and_instances rfl
    | with_reducible apply Foot.via State.logRestart_foot
    | with_reducible apply Foot.via State.twnSend_foot
    | with_reducible apply Foot.ite
    | split
    | with_reducible apply Foot.commit
    | with_reducible apply Foot.pwr
    | with_reducible apply Foot.arcs
    | with_reducible apply Foot.cmb
    | with_reducible apply Foot.drv
    | with_reducible refine Foot.many rfl (h := ?_)

theorem execIslandAck_foot {x0 s t} (h : execIslandAck x0 s = .next t) : Foot 16777280 s t := by
  unfold execIslandAck at h
  injection h with h
  subst h
  try dsimp only
  repeat' first
    | with_reducible apply Foot.refl
    | with_reducible_and_instances rfl
    | with_reducible apply Foot.via State.twnSend_foot
    | with_reducible apply Foot.ite
    | split
    | with_reducible apply Foot.commit
    | dsimp only

theorem State.commitNow_foot {s} : Foot 469603912 s (State.commitNow s) := by
  unfold State.commitNow
  try dsimp only
  repeat' first
    | with_reducible apply Foot.refl
    | with_reducible_and_instances rfl
    | with_reducible apply Foot.via State.applyCommit_foot
    | with_reducible apply Foot.ite
    | split

theorem execTbNow0Read_foot {s t} (h : execTbNow0Read s = .next t) : Foot 32 s t := by
  unfold execTbNow0Read at h
  injection h with h
  subst h
  try dsimp only
  repeat' first
    | with_reducible apply Foot.refl
    | with_reducible_and_instances rfl
    | with_reducible apply Foot.time
    | dsimp only

theorem State.prepare_foot {s x1} : Foot 153880128 s (State.prepare s x1) := by
  unfold State.prepare
  try dsimp only
  repeat' first
    | with_reducible apply Foot.refl
    | with_reducible_and_instances rfl
    | with_reducible apply Foot.via State.arcPrepare_foot
    | with_reducible apply Foot.via State.cmbPrepare_foot
    | with_reducible apply Foot.via State.drivePrepare_foot
    | with_reducible apply Foot.via State.report_foot
    | with_reducible apply Foot.ite
    | with_reducible apply Foot.foldl
    | with_reducible intro _ _
    | split
    | with_reducible apply Foot.commit
    | dsimp only

theorem execIslandPrepare_foot {x0 s t} (h : execIslandPrepare x0 s = .next t) : Foot 153880128 s t := by
  unfold execIslandPrepare at h
  injection h with h
  subst h
  try dsimp only
  repeat' first
    | with_reducible apply Foot.refl
    | with_reducible_and_instances rfl
    | with_reducible apply Foot.via State.prepare_foot
    | with_reducible apply Foot.ite
    | split
    | with_reducible apply Foot.commit
    | dsimp only

theorem execCommitApply_foot {s t} (h : execCommitApply s = .next t) : Foot 469603912 s t := by
  unfold execCommitApply at h
  injection h with h
  subst h
  try dsimp only
  repeat' first
    | with_reducible apply Foot.refl
    | with_reducible_and_instances rfl
    | with_reducible apply Foot.via State.commitNow_foot
    | dsimp only

theorem execCommitDecision_foot {s t} (h : execCommitDecision s = .next t) : Foot 19665472 s t := by
  unfold execCommitDecision at h
  injection h with h
  subst h
  try dsimp only
  repeat' first
    | with_reducible apply Foot.refl
    | with_reducible_and_instances rfl
    | with_reducible apply Foot.via State.dropSet_foot
    | with_reducible apply Foot.ite
    | split
    | with_reducible apply Foot.commit
    | dsimp only

theorem State.dropPeak_foot {s} : Foot 8192 s (State.dropPeak s) := by
  unfold State.dropPeak
  try dsimp only
  repeat' first
    | with_reducible apply Foot.refl
    | with_reducible_and_instances rfl
    | with_reducible apply Foot.ite
    | split
    | with_reducible apply Foot.wheel
    | dsimp only

theorem State.gateTake_foot {s x1} : Foot 32 s (State.gateTake s x1) := by
  unfold State.gateTake
  try dsimp only
  repeat' first
    | with_reducible apply Foot.refl
    | with_reducible_and_instances rfl
    | with_reducible apply Foot.via State.setReplica_foot

theorem State.bridgeDrop_foot {s x1} : Foot 73760 s (State.bridgeDrop s x1) := by
  unfold State.bridgeDrop
  try dsimp only
  repeat' first
    | with_reducible apply Foot.refl
    | with_reducible_and_instances rfl
    | with_reducible apply Foot.via State.dropPeak_foot
    | with_reducible apply Foot.via State.gateTake_foot
    | split
    | with_reducible apply Foot.evq
    | dsimp only

theorem State.bridgeGood_foot {s x1} : Foot 128 s (State.bridgeGood s x1) := by
  unfold State.bridgeGood
  try dsimp only
  repeat' first
    | with_reducible apply Foot.refl
    | with_reducible_and_instances rfl
    | with_reducible apply Foot.ite
    | split
    | with_reducible apply Foot.bridge

theorem State.dropStale_foot {s x1} : Foot 419497472 s (State.dropStale s x1) := by
  unfold State.dropStale
  try dsimp only
  repeat' first
    | with_reducible apply Foot.refl
    | with_reducible_and_instances rfl
    | with_reducible apply Foot.via State.headNext_foot
    | with_reducible apply Foot.via State.outcome_foot
    | with_reducible apply Foot.via State.retireEnd_foot
    | with_reducible apply Foot.ite
    | split

theorem State.slewTime_foot {s x1} : Foot 32 s (State.slewTime s x1) := by
  unfold State.slewTime
  try dsimp only
  repeat' first
    | with_reducible apply Foot.refl
    | with_reducible_and_instances rfl
    | with_reducible apply Foot.ite
    | split
    | with_reducible apply Foot.time

theorem State.stepTime_foot {s x1} : Foot 268435492 s (State.stepTime s x1) := by
  unfold State.stepTime
  try dsimp only
  repeat' first
    | with_reducible apply Foot.refl
    | with_reducible_and_instances rfl
    | with_reducible apply Foot.tb
    | with_reducible apply Foot.time
    | with_reducible apply Foot.agenda
    | with_reducible refine Foot.many rfl (h := ?_)
    | dsimp only

theorem State.staleLaunch_foot {s x1 x2} : Foot 428672544 s (State.staleLaunch s x1 x2) := by
  unfold State.staleLaunch
  try dsimp only
  repeat' first
    | with_reducible apply Foot.refl
    | with_reducible_and_instances rfl
    | with_reducible apply Foot.via State.dropStale_foot
    | with_reducible apply Foot.via State.sampleStale_foot
    | with_reducible apply Foot.via State.stale_foot
    | with_reducible apply Foot.foldl
    | with_reducible intro _ _
    | split
    | dsimp only

theorem State.holdLaunch_foot {s x1 x2} : Foot 430769696 s (State.holdLaunch s x1 x2) := by
  unfold State.holdLaunch
  try dsimp only
  repeat' first
    | with_reducible apply Foot.refl
    | with_reducible_and_instances rfl
    | with_reducible apply Foot.via State.sampleArrives_foot
    | with_reducible apply Foot.via State.setReplica_foot
    | with_reducible apply Foot.via State.staleLaunch_foot
    | with_reducible apply Foot.ite
    | split
    | with_reducible apply Foot.drv

theorem State.launchReaches_foot {s x1 x2} : Foot 430769696 s (State.launchReaches s x1 x2) := by
  unfold State.launchReaches
  try dsimp only
  repeat' first
    | with_reducible apply Foot.refl
    | with_reducible_and_instances rfl
    | with_reducible apply Foot.via State.holdLaunch_foot
    | with_reducible apply Foot.via State.staleLaunch_foot
    | with_reducible apply Foot.ite
    | split

theorem State.mismatch_foot {s x1} : Foot 153158816 s (State.mismatch s x1) := by
  unfold State.mismatch
  try dsimp only
  repeat' first
    | with_reducible apply Foot.refl
    | with_reducible_and_instances rfl
    | with_reducible apply Foot.via State.driveOff_foot
    | with_reducible apply Foot.via State.hit_foot
    | with_reducible apply Foot.via State.report_foot
    | with_reducible apply Foot.via State.setReplica_foot
    | with_reducible apply Foot.ite
    | split
    | with_reducible apply Foot.time
    | with_reducible apply Foot.bridge
    | with_reducible refine Foot.many rfl (h := ?_)

theorem State.runLaunch_foot {s x1 x2} : Foot 434964000 s (State.runLaunch s x1 x2) := by
  unfold State.runLaunch
  try dsimp only
  repeat' first
    | with_reducible apply Foot.refl
    | with_reducible_and_instances rfl
    | with_reducible apply Foot.via State.driveItems_foot
    | with_reducible apply Foot.via State.laneItemFire_foot
    | with_reducible apply Foot.via State.staleLaunch_foot
    | with_reducible apply Foot.ite
    | with_reducible apply Foot.foldl
    | with_reducible intro _ _
    | split
    | dsimp only

theorem execBridgeMessage_foot {x0 x1 s t} (h : execBridgeMessage x0 x1 s = .next t) : Foot 16852128 s t := by
  unfold execBridgeMessage at h
  injection h with h
  subst h
  try dsimp only
  repeat' first
    | with_reducible apply Foot.refl
    | with_reducible_and_instances rfl
    | with_reducible apply Foot.via State.bridgeDrop_foot
    | with_reducible apply Foot.via State.bridgeGood_foot
    | with_reducible apply Foot.via State.report_foot
    | with_reducible apply Foot.ite
    | split
    | with_reducible apply Foot.bridge
    | dsimp only

theorem execBridgeSilence_foot {s t} (h : execBridgeSilence s = .next t) : Foot 153158784 s t := by
  unfold execBridgeSilence at h
  injection h with h
  subst h
  try dsimp only
  repeat' first
    | with_reducible apply Foot.refl
    | with_reducible_and_instances rfl
    | with_reducible apply Foot.via State.driveOff_foot
    | with_reducible apply Foot.via State.report_foot
    | with_reducible apply Foot.ite
    | split
    | with_reducible apply Foot.bridge
    | dsimp only

theorem execFireMessage_foot {x0 s t} (h : execFireMessage x0 s = .next t) : Foot 430769824 s t := by
  unfold execFireMessage at h
  injection h with h
  subst h
  try dsimp only
  repeat' first
    | with_reducible apply Foot.refl
    | with_reducible_and_instances rfl
    | with_reducible apply Foot.via State.bridgeGood_foot
    | with_reducible apply Foot.via State.launchReaches_foot
    | with_reducible apply Foot.ite
    | split
    | with_reducible apply Foot.evq
    | dsimp only

theorem execFullValueMessage_foot {x0 x1 s t} (h : execFullValueMessage x0 x1 s = .next t) : Foot 153158816 s t := by
  unfold execFullValueMessage at h
  injection h with h
  subst h
  try dsimp only
  repeat' first
    | with_reducible apply Foot.refl
    | with_reducible_and_instances rfl
    | with_reducible apply Foot.via State.mismatch_foot
    | with_reducible apply Foot.via State.setReplica_foot
    | with_reducible apply Foot.ite
    | split
    | dsimp only

theorem execGrayCodeParityFailure_foot {x0 s t} (h : execGrayCodeParityFailure x0 s = .next t) : Foot 153158816 s t := by
  unfold execGrayCodeParityFailure at h
  injection h with h
  subst h
  try dsimp only
  repeat' first
    | with_reducible apply Foot.refl
    | with_reducible_and_instances rfl
    | with_reducible apply Foot.via State.mismatch_foot
    | with_reducible apply Foot.ite
    | split
    | dsimp only

theorem execLaunchArrival_foot {x0 s t} (h : execLaunchArrival x0 s = .next t) : Foot 430769824 s t := by
  unfold execLaunchArrival at h
  injection h with h
  subst h
  try dsimp only
  repeat' first
    | with_reducible apply Foot.refl
    | with_reducible_and_instances rfl
    | with_reducible apply Foot.via State.bridgeGood_foot
    | with_reducible apply Foot.via State.gateTake_foot
    | with_reducible apply Foot.via State.launchReaches_foot
    | with_reducible apply Foot.ite
    | split
    | dsimp only

theorem execLaunchExecute_foot {x0 s t} (h : execLaunchExecute x0 s = .next t) : Foot 434964000 s t := by
  unfold execLaunchExecute at h
  injection h with h
  subst h
  try dsimp only
  repeat' first
    | with_reducible apply Foot.refl
    | with_reducible_and_instances rfl
    | with_reducible apply Foot.via State.convHold_foot
    | with_reducible apply Foot.via State.runLaunch_foot
    | with_reducible apply Foot.via State.setReplica_foot
    | with_reducible apply Foot.ite
    | with_reducible apply Foot.forUpTo
    | with_reducible apply Foot.foldl
    | with_reducible intro _ _
    | split
    | dsimp only

theorem execSupervisorLockstepMismatch_foot {s t} (h : execSupervisorLockstepMismatch s = .next t) : Foot 16778496 s t := by
  unfold execSupervisorLockstepMismatch at h
  injection h with h
  subst h
  try dsimp only
  repeat' first
    | with_reducible apply Foot.refl
    | with_reducible_and_instances rfl
    | with_reducible apply Foot.via State.report_foot
    | with_reducible apply Foot.ite
    | split
    | with_reducible apply Foot.sup
    | dsimp only

theorem execSupervisorRestartDone_foot {s t} (h : execSupervisorRestartDone s = .next t) : Foot 256 s t := by
  unfold execSupervisorRestartDone at h
  injection h with h
  subst h
  try dsimp only
  repeat' first
    | with_reducible apply Foot.refl
    | with_reducible_and_instances rfl
    | with_reducible apply Foot.ite
    | split
    | with_reducible apply Foot.sup
    | dsimp only

end Sys2Proof.Machine
end

