-- ==== Sys2Proof/Laws/FootIntegrity.lean ====
section
/-! SUPPORT. Footprints of the operations of Machine/Integrity.lean. -/

namespace Sys2Proof.Machine

theorem State.fusProg_foot {s x1 t} (h : State.fusProg s x1 = some t) : Foot 2048 s t := by
  unfold State.fusProg at h
  try dsimp only at h
  repeat' split at h
  all_goals first
    | (simp only [reduceCtorEq] at h; done)
    | (simp only [Option.some.injEq] at h; subst h)
  repeat' first
    | with_reducible apply Foot.refl
    | with_reducible_and_instances rfl
    | with_reducible apply Foot.ite
    | split
    | with_reducible apply Foot.fus

theorem execLatCntClr_foot {x0 s t} (h : execLatCntClr x0 s = .next t) : Foot 512 s t := by
  unfold execLatCntClr at h
  injection h with h
  subst h
  try dsimp only
  repeat' first
    | with_reducible apply Foot.refl
    | with_reducible_and_instances rfl
    | with_reducible apply Foot.ite
    | split
    | with_reducible apply Foot.lat
    | dsimp only

theorem State.inject_foot {s x1} : Foot 520 s (State.inject s x1) := by
  unfold State.inject
  try dsimp only
  repeat' first
    | with_reducible apply Foot.refl
    | with_reducible_and_instances rfl
    | with_reducible apply Foot.via State.setCfg_foot
    | with_reducible apply Foot.ite
    | split
    | with_reducible apply Foot.lat
    | dsimp only

theorem State.fuseShadow_foot {s x1} : Foot 16780288 s (State.fuseShadow s x1) := by
  unfold State.fuseShadow
  try dsimp only
  repeat' first
    | with_reducible apply Foot.refl
    | with_reducible_and_instances rfl
    | with_reducible apply Foot.via State.report_foot
    | split
    | with_reducible apply Foot.fus

theorem State.copiedWord_foot {x0 x1 x2 s} : Foot 512 s (State.copiedWord x0 x1 x2 s) := by
  unfold State.copiedWord
  dsimp only
  split
  · exact Foot.lat_mem rfl (fun hx => Tbl.wf_put hx) Foot.refl
  · exact Foot.lat rfl rfl Foot.refl

theorem State.endFails_foot {s x1} : Foot 151062016 s (State.endFails s x1) := by
  unfold State.endFails
  try dsimp only
  repeat' first
    | with_reducible apply Foot.refl
    | with_reducible_and_instances rfl
    | with_reducible apply Foot.via State.fireEnd_foot
    | with_reducible apply Foot.via State.report_foot
    | with_reducible apply Foot.via State.setActive_foot
    | with_reducible apply Foot.ite
    | split

theorem State.entryFails_foot {s x1 x2} : Foot 285279232 s (State.entryFails s x1 x2) := by
  unfold State.entryFails
  try dsimp only
  repeat' first
    | with_reducible apply Foot.refl
    | with_reducible_and_instances rfl
    | with_reducible apply Foot.via State.headNext_foot
    | with_reducible apply Foot.via State.report_foot
    | with_reducible apply Foot.via State.setQueue_foot
    | with_reducible apply Foot.via State.unlock_foot
    | with_reducible apply Foot.ite
    | split
    | dsimp only

theorem State.profileFails_foot {s x1 x2} : Foot 18875392 s (State.profileFails s x1 x2) := by
  unfold State.profileFails
  try dsimp only
  repeat' first
    | with_reducible apply Foot.refl
    | with_reducible_and_instances rfl
    | with_reducible apply Foot.via State.profilesLost_foot
    | with_reducible apply Foot.via State.report_foot
    | with_reducible apply Foot.ite
    | split

theorem State.pairFails_foot {s x1} : Foot 436047432 s (State.pairFails s x1) := by
  unfold State.pairFails
  try dsimp only
  repeat' first
    | with_reducible apply Foot.refl
    | with_reducible_and_instances rfl
    | with_reducible apply Foot.via State.arcPairFail_foot
    | with_reducible apply Foot.via State.cmbPairFail_foot
    | with_reducible apply Foot.via State.endFails_foot
    | with_reducible apply Foot.via State.entryFails_foot
    | with_reducible apply Foot.via State.fuseShadow_foot
    | with_reducible apply Foot.via State.profileFails_foot
    | with_reducible apply Foot.via State.report_foot
    | with_reducible apply Foot.via State.setInc_foot
    | with_reducible apply Foot.via State.setLane_foot
    | with_reducible apply Foot.ite
    | split
    | with_reducible apply Foot.commit
    | with_reducible apply Foot.fus
    | with_reducible apply Foot.tan
    | with_reducible apply Foot.lan
    | with_reducible refine Foot.many rfl (h := ?_)

theorem State.setScrub_foot {s x1 x2} : Foot 512 s (State.setScrub s x1 x2) := by
  unfold State.setScrub
  try dsimp only
  repeat' first
    | with_reducible apply Foot.refl
    | with_reducible_and_instances rfl
    | with_reducible apply Foot.lat

theorem State.scrubNext_foot {s x1} : Foot 512 s (State.scrubNext s x1) := by
  unfold State.scrubNext
  try dsimp only
  repeat' first
    | with_reducible apply Foot.refl
    | with_reducible_and_instances rfl
    | with_reducible apply Foot.via State.setScrub_foot
    | with_reducible apply Foot.ite
    | split

theorem State.scrubWord_foot {s x1} : Foot 150996480 s (State.scrubWord s x1) := by
  unfold State.scrubWord
  try dsimp only
  repeat' first
    | with_reducible apply Foot.refl
    | with_reducible_and_instances rfl
    | with_reducible apply Foot.via State.latTouch_foot
    | with_reducible apply Foot.via State.mapRow_foot
    | with_reducible apply Foot.via State.report_foot
    | with_reducible apply Foot.via State.scrubNext_foot
    | with_reducible apply Foot.via State.setScrub_foot
    | with_reducible apply Foot.ite
    | split

theorem State.scrubClock_foot {x0 s} : Foot 150998528 s (State.scrubClock x0 s) := by
  unfold State.scrubClock
  try dsimp only
  repeat' first
    | with_reducible apply Foot.refl
    | with_reducible_and_instances rfl
    | with_reducible apply Foot.via State.fuseShadow_foot
    | with_reducible apply Foot.via State.scrubWord_foot
    | with_reducible apply Foot.ite
    | split
    | with_reducible apply Foot.lat
    | dsimp only

theorem execFusProg_foot {x0 s t} (h : execFusProg x0 s = .next t) : Foot 2048 s t := by
  unfold execFusProg at h
  injection h with h
  subst h
  try dsimp only
  repeat' first
    | with_reducible apply Foot.refl
    | with_reducible_and_instances rfl
    | with_reducible refine Foot.via (State.fusProg_foot (by assumption)) (by decide) ?_
    | with_reducible refine Foot.getD ?_ (fun _ hx => (State.fusProg_foot hx).mono (by decide))
    | dsimp only

theorem execFuseProgramDone_foot {s t} (h : execFuseProgramDone s = .next t) : Foot 50334752 s t := by
  unfold execFuseProgramDone at h
  injection h with h
  subst h
  try dsimp only
  repeat' first
    | with_reducible apply Foot.refl
    | with_reducible_and_instances rfl
    | with_reducible apply Foot.via State.elxAllDown_foot
    | with_reducible apply Foot.via State.elxReset_foot
    | with_reducible apply Foot.via State.fuseShadow_foot
    | with_reducible apply Foot.ite
    | split
    | with_reducible apply Foot.fus
    | dsimp only

theorem execLatInj_foot {x0 s t} (h : execLatInj x0 s = .next t) : Foot 8 s t := by
  unfold execLatInj at h
  injection h with h
  subst h
  try dsimp only
  repeat' first
    | with_reducible apply Foot.refl
    | with_reducible_and_instances rfl
    | with_reducible apply Foot.via State.setCfg_foot
    | with_reducible apply Foot.ite
    | split
    | dsimp only

theorem execPairWalkCheck_foot {x0 x1 s t} (h : execPairWalkCheck x0 x1 s = .next t) : Foot 436047432 s t := by
  unfold execPairWalkCheck at h
  injection h with h
  subst h
  try dsimp only
  repeat' first
    | with_reducible apply Foot.refl
    | with_reducible_and_instances rfl
    | with_reducible apply Foot.via State.pairFails_foot
    | with_reducible apply Foot.ite
    | split
    | dsimp only

theorem execRowCopyDone_foot {x0 s t} (h : execRowCopyDone x0 s = .next t) : Foot 512 s t := by
  unfold execRowCopyDone at h
  injection h with h
  subst h
  try dsimp only
  repeat' first
    | with_reducible apply Foot.refl
    | with_reducible_and_instances rfl
    | with_reducible apply Foot.via State.copiedWord_foot
    | with_reducible apply Foot.ite
    | with_reducible apply Foot.forUpTo
    | with_reducible intro _ _
    | split
    | with_reducible apply Foot.lat
    | dsimp only

theorem execScrubPassTimeout_foot {x0 s t} (h : execScrubPassTimeout x0 s = .next t) : Foot 16778752 s t := by
  unfold execScrubPassTimeout at h
  injection h with h
  subst h
  try dsimp only
  repeat' first
    | with_reducible apply Foot.refl
    | with_reducible_and_instances rfl
    | with_reducible apply Foot.via State.report_foot
    | with_reducible apply Foot.via State.setScrub_foot
    | with_reducible apply Foot.ite
    | split
    | dsimp only

theorem execScrubRead_foot {s t} (h : execScrubRead s = .next t) : Foot 150998528 s t := by
  unfold execScrubRead at h
  injection h with h
  subst h
  try dsimp only
  repeat' first
    | with_reducible apply Foot.refl
    | with_reducible_and_instances rfl
    | with_reducible apply Foot.via State.scrubClock_foot
    | with_reducible apply Foot.forUpTo
    | with_reducible intro _ _
    | dsimp only

end Sys2Proof.Machine
end

