-- ==== Sys2Proof/Laws/FootFirmware.lean ====
section
/-! SUPPORT. Footprints of the operations of Machine/Firmware.lean. -/

namespace Sys2Proof.Machine

theorem State.flashErase_foot {s x1 x2} : Foot 2048 s (State.flashErase s x1 x2) := by
  unfold State.flashErase
  try dsimp only
  repeat' first
    | exact fun hx => Tbl.wf_put hx
    | exact fun hx => Tbl.wf_filter hx
    | exact fun _ => rfl
    | with_reducible apply Foot.refl
    | with_reducible_and_instances rfl
    | with_reducible apply Foot.fus_mem
    | dsimp only

theorem State.flashPut_foot {s x1 x2} : Foot 2048 s (State.flashPut s x1 x2) := by
  unfold State.flashPut
  try dsimp only
  repeat' first
    | exact fun hx => Tbl.wf_put hx
    | exact fun hx => Tbl.wf_filter hx
    | exact fun _ => rfl
    | with_reducible apply Foot.refl
    | with_reducible_and_instances rfl
    | with_reducible apply Foot.fus_mem

theorem State.flashPuts_foot {s x1 x2} : Foot 2048 s (State.flashPuts s x1 x2) := by
  induction x2 generalizing s x1 with
  | nil => simp only [State.flashPuts]; exact Foot.refl
  | cons v vs ih =>
    rw [State.flashPuts]
    try dsimp only
    repeat' first
      | with_reducible apply Foot.refl
      | with_reducible assumption
      | with_reducible_and_instances rfl
      | with_reducible apply Foot.then_ ih
      | with_reducible apply Foot.via State.flashPut_foot

end Sys2Proof.Machine
end

