-- ==== Sys2Proof/Laws/FootRegAccess.lean ====
section
/-! SUPPORT. Footprints of the operations of Machine/RegAccess.lean. -/

namespace Sys2Proof.Machine

theorem State.tanCmd_foot {s x1 t} (h : State.tanCmd s x1 = some t) : Foot 32768 s t := by
  unfold State.tanCmd at h
  try dsimp only at h
  repeat' split at h
  all_goals first
    | (simp only [reduceCtorEq] at h; done)
    | (simp only [Option.some.injEq] at h; subst h)
  repeat' first
    | with_reducible apply Foot.refl
    | with_reducible_and_instances rfl
    | (with_reducible apply Foot.after _ (fun _ hx => (execClrcnt_foot hx).mono (by decide)))
    | (with_reducible apply Foot.after _ (fun _ hx => (execClrgeo_foot hx).mono (by decide)))
    | (with_reducible apply Foot.after _ (fun _ hx => (execClrrip_foot hx).mono (by decide)))
    | (with_reducible apply Foot.after _ (fun _ hx => (execLoad_foot hx).mono (by decide)))
    | (with_reducible apply Foot.after _ (fun _ hx => (execSave_foot hx).mono (by decide)))
    | with_reducible apply Foot.ite
    | split

theorem State.writePlain_foot {s x1 x2 x3} : Foot 16777752 s (State.writePlain s x1 x2 x3) := by
  unfold State.writePlain
  try dsimp only
  repeat' first
    | with_reducible apply Foot.refl
    | with_reducible_and_instances rfl
    | with_reducible apply Foot.via State.setCfg_foot
    | with_reducible apply Foot.via State.stage_foot
    | with_reducible apply Foot.ite
    | split

theorem State.writeAng_foot {s x1 x2 x3 t} (h : State.writeAng s x1 x2 x3 = some t) : Foot 16818712 s t := by
  unfold State.writeAng at h
  try dsimp only at h
  repeat' split at h
  all_goals first
    | with_reducible exact (State.tanCmd_foot h).mono (by decide)
    | (simp only [reduceCtorEq] at h; done)
    | (simp only [Option.some.injEq] at h; subst h)
  repeat' first
    | with_reducible apply Foot.refl
    | with_reducible_and_instances rfl
    | with_reducible refine Foot.via (State.tanCmd_foot (by assumption)) (by decide) ?_
    | with_reducible refine Foot.getD ?_ (fun _ hx => (State.tanCmd_foot hx).mono (by decide))
    | with_reducible apply Foot.via State.writePlain_foot
    | (with_reducible apply Foot.after _ (fun _ hx => (execAngCntClr_foot hx).mono (by decide)))
    | (with_reducible apply Foot.after _ (fun _ hx => (execAngVtxSel_foot hx).mono (by decide)))
    | with_reducible apply Foot.ite
    | split

theorem State.writeArc_foot {s x1 x2 x3 t} (h : State.writeArc s x1 x2 x3 = some t) : Foot 285999640 s t := by
  unfold State.writeArc at h
  try dsimp only at h
  repeat' split at h
  all_goals first
    | (simp only [reduceCtorEq] at h; done)
    | (simp only [Option.some.injEq] at h; subst h)
  repeat' first
    | with_reducible apply Foot.refl
    | with_reducible_and_instances rfl
    | with_reducible apply Foot.via State.writePlain_foot
    | (with_reducible apply Foot.after _ (fun _ hx => (execArcCntClr_foot hx).mono (by decide)))
    | (with_reducible apply Foot.after _ (fun _ hx => (execCal_foot hx).mono (by decide)))
    | (with_reducible apply Foot.after _ (fun _ hx => (execCmbCntClr_foot hx).mono (by decide)))
    | with_reducible apply Foot.ite
    | split
    | with_reducible apply Foot.arcs

theorem State.writeDma_foot {s x1 x2 x3 t} (h : State.writeDma s x1 x2 x3 = some t) : Foot 159385112 s t := by
  unfold State.writeDma at h
  try dsimp only at h
  repeat' split at h
  all_goals first
    | with_reducible exact (State.dmaCmd_foot h).mono (by decide)
    | (simp only [reduceCtorEq] at h; done)
    | (simp only [Option.some.injEq] at h; subst h)
  repeat' first
    | with_reducible apply Foot.refl
    | with_reducible_and_instances rfl
    | with_reducible refine Foot.via (State.dmaCmd_foot (by assumption)) (by decide) ?_
    | with_reducible refine Foot.getD ?_ (fun _ hx => (State.dmaCmd_foot hx).mono (by decide))
    | with_reducible apply Foot.via State.setCfg_foot
    | with_reducible apply Foot.via State.setChan_foot
    | with_reducible apply Foot.via State.writePlain_foot
    | (with_reducible apply Foot.after _ (fun _ hx => (execDmaCntClr_foot hx).mono (by decide)))
    | with_reducible apply Foot.ite
    | split

theorem State.writeDrv_foot {s x1 x2 x3 t} (h : State.writeDrv s x1 x2 x3 = some t) : Foot 18874904 s t := by
  unfold State.writeDrv at h
  try dsimp only at h
  repeat' split at h
  all_goals first
    | (simp only [reduceCtorEq] at h; done)
    | (simp only [Option.some.injEq] at h; subst h)
  repeat' first
    | with_reducible apply Foot.refl
    | with_reducible_and_instances rfl
    | with_reducible apply Foot.via State.traceArm_foot
    | with_reducible apply Foot.via State.writePlain_foot
    | (with_reducible apply Foot.after _ (fun _ hx => (execDrvCntClr_foot hx).mono (by decide)))
    | (with_reducible apply Foot.after _ (fun _ hx => (execDrvDgClr_foot hx).mono (by decide)))
    | with_reducible apply Foot.ite
    | split
    | with_reducible apply Foot.drv

theorem State.writeEvq_foot {s x1 x2 t} (h : State.writeEvq s x1 x2 = some t) : Foot 16843288 s t := by
  unfold State.writeEvq at h
  try dsimp only at h
  repeat' split at h
  all_goals first
    | (simp only [reduceCtorEq] at h; done)
    | (simp only [Option.some.injEq] at h; subst h)
  repeat' first
    | with_reducible apply Foot.refl
    | with_reducible_and_instances rfl
    | with_reducible apply Foot.via State.requestSwap_foot
    | with_reducible apply Foot.via State.writePlain_foot
    | (with_reducible apply Foot.after _ (fun _ hx => (execEvqArm_foot hx).mono (by decide)))
    | (with_reducible apply Foot.after _ (fun _ hx => (execEvqCanCmd_foot hx).mono (by decide)))
    | (with_reducible apply Foot.after _ (fun _ hx => (execEvqCntClr_foot hx).mono (by decide)))
    | (with_reducible apply Foot.after _ (fun _ hx => (execEvqRlostClr_foot hx).mono (by decide)))
    | with_reducible apply Foot.ite
    | split

theorem State.writeFbk_foot {s x1 x2 x3 x4 t} (h : State.writeFbk s x1 x2 x3 x4 = some t) : Foot 17826328 s t := by
  unfold State.writeFbk at h
  try dsimp only at h
  repeat' split at h
  all_goals first
    | with_reducible exact (State.cmpCfgWrite_foot h).mono (by decide)
    | with_reducible exact (State.fbkClear_foot h).mono (by decide)
    | (simp only [reduceCtorEq] at h; done)
    | (simp only [Option.some.injEq] at h; subst h)
  repeat' first
    | with_reducible apply Foot.refl
    | with_reducible_and_instances rfl
    | with_reducible refine Foot.via (State.cmpCfgWrite_foot (by assumption)) (by decide) ?_
    | with_reducible refine Foot.getD ?_ (fun _ hx => (State.cmpCfgWrite_foot hx).mono (by decide))
    | with_reducible refine Foot.via (State.fbkClear_foot (by assumption)) (by decide) ?_
    | with_reducible refine Foot.getD ?_ (fun _ hx => (State.fbkClear_foot hx).mono (by decide))
    | with_reducible apply Foot.via State.writePlain_foot
    | (with_reducible apply Foot.after _ (fun _ hx => (execFbkCmpvLo_foot hx).mono (by decide)))
    | (with_reducible apply Foot.after _ (fun _ hx => (execStart_foot hx).mono (by decide)))
    | with_reducible apply Foot.ite
    | split

theorem State.writeIgn_foot {s x1 x2 x3 t} (h : State.writeIgn s x1 x2 x3 = some t) : Foot 18874904 s t := by
  unfold State.writeIgn at h
  try dsimp only at h
  repeat' split at h
  all_goals first
    | (simp only [reduceCtorEq] at h; done)
    | (simp only [Option.some.injEq] at h; subst h)
  repeat' first
    | with_reducible apply Foot.refl
    | with_reducible_and_instances rfl
    | with_reducible apply Foot.via State.vlvUnlatch_foot
    | with_reducible apply Foot.via State.writePlain_foot
    | (with_reducible apply Foot.after _ (fun _ hx => (execIgnCntClr_foot hx).mono (by decide)))
    | (with_reducible apply Foot.after _ (fun _ hx => (execSoft_foot hx).mono (by decide)))
    | (with_reducible apply Foot.after _ (fun _ hx => (execVlvCntClr_foot hx).mono (by decide)))
    | with_reducible apply Foot.ite
    | split
    | with_reducible apply Foot.drv

theorem State.writeIrc_foot {s x1 x2 x3 t} (h : State.writeIrc s x1 x2 x3 = some t) : Foot 159385112 s t := by
  unfold State.writeIrc at h
  try dsimp only at h
  repeat' split at h
  all_goals first
    | (simp only [reduceCtorEq] at h; done)
    | (simp only [Option.some.injEq] at h; subst h)
  repeat' first
    | with_reducible apply Foot.refl
    | with_reducible_and_instances rfl
    | with_reducible apply Foot.via State.setCfg_foot
    | with_reducible apply Foot.via State.setSource_foot
    | with_reducible apply Foot.via State.strayRefreshAll_foot
    | with_reducible apply Foot.via State.writePlain_foot
    | (with_reducible apply Foot.after _ (fun _ hx => (execIrcAckcnt_foot hx).mono (by decide)))
    | (with_reducible apply Foot.after _ (fun _ hx => (execIrcFlostClr_foot hx).mono (by decide)))
    | (with_reducible apply Foot.after _ (fun _ hx => (execIrcScfg_foot hx).mono (by decide)))
    | (with_reducible apply Foot.after _ (fun _ hx => (execIrcSet_foot hx).mono (by decide)))
    | (with_reducible apply Foot.after _ (fun _ hx => (execIrcStraycntClr_foot hx).mono (by decide)))
    | with_reducible apply Foot.ite
    | split
    | with_reducible apply Foot.irc

theorem State.writeLan_foot {s x1 x2 x3 t} (h : State.writeLan s x1 x2 x3 = some t) : Foot 20972056 s t := by
  unfold State.writeLan at h
  try dsimp only at h
  repeat' split at h
  all_goals first
    | with_reducible exact (State.laneCmd_foot h).mono (by decide)
    | with_reducible exact (State.outsideWrite_foot h).mono (by decide)
    | with_reducible exact (State.spareCmd_foot h).mono (by decide)
    | (simp only [reduceCtorEq] at h; done)
    | (simp only [Option.some.injEq] at h; subst h)
  repeat' first
    | with_reducible apply Foot.refl
    | with_reducible_and_instances rfl
    | with_reducible refine Foot.via (State.laneCmd_foot (by assumption)) (by decide) ?_
    | with_reducible refine Foot.getD ?_ (fun _ hx => (State.laneCmd_foot hx).mono (by decide))
    | with_reducible refine Foot.via (State.outsideWrite_foot (by assumption)) (by decide) ?_
    | with_reducible refine Foot.getD ?_ (fun _ hx => (State.outsideWrite_foot hx).mono (by decide))
    | with_reducible refine Foot.via (State.spareCmd_foot (by assumption)) (by decide) ?_
    | with_reducible refine Foot.getD ?_ (fun _ hx => (State.spareCmd_foot hx).mono (by decide))
    | with_reducible apply Foot.via State.writePlain_foot
    | (with_reducible apply Foot.after _ (fun _ hx => (execLanClr_foot hx).mono (by decide)))
    | with_reducible apply Foot.ite
    | split

theorem State.writeSyn_foot {s x1 x2 x3 t} (h : State.writeSyn s x1 x2 x3 = some t) : Foot 965600856 s t := by
  unfold State.writeSyn at h
  try dsimp only at h
  repeat' split at h
  all_goals first
    | (simp only [reduceCtorEq] at h; done)
    | (simp only [Option.some.injEq] at h; subst h)
  repeat' first
    | with_reducible apply Foot.refl
    | with_reducible_and_instances rfl
    | with_reducible apply Foot.via State.writePlain_foot
    | (with_reducible apply Foot.after _ (fun _ hx => (execSynClr_foot hx).mono (by decide)))
    | (with_reducible apply Foot.after _ (fun _ hx => (execSynCmdSearch_foot hx).mono (by decide)))
    | with_reducible apply Foot.ite
    | split

theorem State.claim_foot {s} : Foot 4096 s (State.claim s) := by
  unfold State.claim
  try dsimp only
  repeat' first
    | with_reducible apply Foot.refl
    | with_reducible_and_instances rfl
    | with_reducible apply Foot.pwr

theorem State.clearPort_foot {s x1} : Foot 131072 s (State.clearPort s x1) := by
  unfold State.clearPort
  try dsimp only
  repeat' first
    | with_reducible apply Foot.refl
    | with_reducible_and_instances rfl
    | with_reducible apply Foot.via State.setPort_foot
    | dsimp only

theorem State.cmdCntClr_foot {s x1} : Foot 131072 s (State.cmdCntClr s x1) := by
  unfold State.cmdCntClr
  try dsimp only
  repeat' first
    | with_reducible apply Foot.refl
    | with_reducible_and_instances rfl
    | with_reducible apply Foot.via State.clearPort_foot
    | with_reducible apply Foot.ite
    | split

theorem State.elxCntClr_foot {s x1} : Foot 33554432 s (State.elxCntClr s x1) := by
  unfold State.elxCntClr
  try dsimp only
  repeat' first
    | with_reducible apply Foot.refl
    | with_reducible_and_instances rfl
    | with_reducible apply Foot.ite
    | split
    | with_reducible apply Foot.elx

theorem State.elxFrlostClr_foot {s x1} : Foot 33554432 s (State.elxFrlostClr s x1) := by
  unfold State.elxFrlostClr
  try dsimp only
  repeat' first
    | with_reducible apply Foot.refl
    | with_reducible_and_instances rfl
    | with_reducible apply Foot.ite
    | split
    | with_reducible apply Foot.elx

theorem State.keepTimer_foot {s x1} : Foot 4104 s (State.keepTimer s x1) := by
  unfold State.keepTimer
  try dsimp only
  repeat' first
    | with_reducible apply Foot.refl
    | with_reducible_and_instances rfl
    | with_reducible apply Foot.via State.setCfg_foot
    | with_reducible apply Foot.pwr

theorem State.twnCntClr_foot {s x1} : Foot 16777216 s (State.twnCntClr s x1) := by
  unfold State.twnCntClr
  try dsimp only
  repeat' first
    | with_reducible apply Foot.refl
    | with_reducible_and_instances rfl
    | with_reducible apply Foot.ite
    | split
    | with_reducible apply Foot.twn

theorem State.writeSys_foot {s x1 x2 x3 t} (h : State.writeSys s x1 x2 x3 = some t) : Foot 50469400 s t := by
  unfold State.writeSys at h
  try dsimp only at h
  repeat' split at h
  all_goals first
    | with_reducible exact (State.fusProg_foot h).mono (by decide)
    | (simp only [reduceCtorEq] at h; done)
    | (simp only [Option.some.injEq] at h; subst h)
  repeat' first
    | with_reducible apply Foot.refl
    | with_reducible_and_instances rfl
    | with_reducible apply Foot.via State.claim_foot
    | with_reducible apply Foot.via State.cmdCntClr_foot
    | with_reducible apply Foot.via State.elxCntClr_foot
    | with_reducible apply Foot.via State.elxFrlostClr_foot
    | with_reducible refine Foot.via (State.fusProg_foot (by assumption)) (by decide) ?_
    | with_reducible refine Foot.getD ?_ (fun _ hx => (State.fusProg_foot hx).mono (by decide))
    | with_reducible apply Foot.via State.keepTimer_foot
    | with_reducible apply Foot.via State.twnCntClr_foot
    | with_reducible apply Foot.via State.writePlain_foot
    | (with_reducible apply Foot.after _ (fun _ hx => (execLatCntClr_foot hx).mono (by decide)))
    | with_reducible apply Foot.ite
    | split

theorem State.rfaultClear_foot {s x1} : Foot 32 s (State.rfaultClear s x1) := by
  unfold State.rfaultClear
  try dsimp only
  repeat' first
    | with_reducible apply Foot.refl
    | with_reducible_and_instances rfl
    | with_reducible apply Foot.via State.setReplica_foot
    | with_reducible apply Foot.ite
    | with_reducible apply Foot.forUpTo
    | with_reducible intro _ _
    | split
    | with_reducible apply Foot.time
    | dsimp only

theorem State.writeTb_foot {s x1 x2 t} (h : State.writeTb s x1 x2 = some t) : Foot 16777784 s t := by
  unfold State.writeTb at h
  try dsimp only at h
  repeat' split at h
  all_goals first
    | (simp only [reduceCtorEq] at h; done)
    | (simp only [Option.some.injEq] at h; subst h)
  repeat' first
    | with_reducible apply Foot.refl
    | with_reducible_and_instances rfl
    | with_reducible apply Foot.via State.rfaultClear_foot
    | with_reducible apply Foot.via State.writePlain_foot
    | (with_reducible apply Foot.after _ (fun _ hx => (execTbStaleClr_foot hx).mono (by decide)))
    | with_reducible apply Foot.ite
    | split

theorem State.writeReg_foot {s x1 x2 x3 t} (h : State.writeReg s x1 x2 x3 = some t) : Foot 1006632568 s t := by
  unfold State.writeReg at h
  try dsimp only at h
  repeat' split at h
  all_goals first
    | with_reducible exact (State.writeAng_foot h).mono (by decide)
    | with_reducible exact (State.writeArc_foot h).mono (by decide)
    | with_reducible exact (State.writeDma_foot h).mono (by decide)
    | with_reducible exact (State.writeDrv_foot h).mono (by decide)
    | with_reducible exact (State.writeEvq_foot h).mono (by decide)
    | with_reducible exact (State.writeFbk_foot h).mono (by decide)
    | with_reducible exact (State.writeIgn_foot h).mono (by decide)
    | with_reducible exact (State.writeIrc_foot h).mono (by decide)
    | with_reducible exact (State.writeLan_foot h).mono (by decide)
    | with_reducible exact (State.writeSyn_foot h).mono (by decide)
    | with_reducible exact (State.writeSys_foot h).mono (by decide)
    | with_reducible exact (State.writeTb_foot h).mono (by decide)
    | (simp only [reduceCtorEq] at h; done)
    | (simp only [Option.some.injEq] at h; subst h)
  repeat' first
    | with_reducible apply Foot.refl
    | with_reducible_and_instances rfl
    | with_reducible refine Foot.via (State.writeAng_foot (by assumption)) (by decide) ?_
    | with_reducible refine Foot.getD ?_ (fun _ hx => (State.writeAng_foot hx).mono (by decide))
    | with_reducible refine Foot.via (State.writeArc_foot (by assumption)) (by decide) ?_
    | with_reducible refine Foot.getD ?_ (fun _ hx => (State.writeArc_foot hx).mono (by decide))
    | with_reducible refine Foot.via (State.writeDma_foot (by assumption)) (by decide) ?_
    | with_reducible refine Foot.getD ?_ (fun _ hx => (State.writeDma_foot hx).mono (by decide))
    | with_reducible refine Foot.via (State.writeDrv_foot (by assumption)) (by decide) ?_
    | with_reducible refine Foot.getD ?_ (fun _ hx => (State.writeDrv_foot hx).mono (by decide))
    | with_reducible refine Foot.via (State.writeEvq_foot (by assumption)) (by decide) ?_
    | with_reducible refine Foot.getD ?_ (fun _ hx => (State.writeEvq_foot hx).mono (by decide))
    | with_reducible refine Foot.via (State.writeFbk_foot (by assumption)) (by decide) ?_
    | with_reducible refine Foot.getD ?_ (fun _ hx => (State.writeFbk_foot hx).mono (by decide))
    | with_reducible refine Foot.via (State.writeIgn_foot (by assumption)) (by decide) ?_
    | with_reducible refine Foot.getD ?_ (fun _ hx => (State.writeIgn_foot hx).mono (by decide))
    | with_reducible refine Foot.via (State.writeIrc_foot (by assumption)) (by decide) ?_
    | with_reducible refine Foot.getD ?_ (fun _ hx => (State.writeIrc_foot hx).mono (by decide))
    | with_reducible refine Foot.via (State.writeLan_foot (by assumption)) (by decide) ?_
    | with_reducible refine Foot.getD ?_ (fun _ hx => (State.writeLan_foot hx).mono (by decide))
    | with_reducible apply Foot.via State.writePlain_foot
    | with_reducible refine Foot.via (State.writeSyn_foot (by assumption)) (by decide) ?_
    | with_reducible refine Foot.getD ?_ (fun _ hx => (State.writeSyn_foot hx).mono (by decide))
    | with_reducible refine Foot.via (State.writeSys_foot (by assumption)) (by decide) ?_
    | with_reducible refine Foot.getD ?_ (fun _ hx => (State.writeSys_foot hx).mono (by decide))
    | with_reducible refine Foot.via (State.writeTb_foot (by assumption)) (by decide) ?_
    | with_reducible refine Foot.getD ?_ (fun _ hx => (State.writeTb_foot hx).mono (by decide))
    | with_reducible apply Foot.ite
    | split

theorem State.readEffect_foot {s x1} : Foot 156275754 s (State.readEffect s x1) := by
  unfold State.readEffect
  try dsimp only
  repeat' first
    | with_reducible apply Foot.refl
    | with_reducible_and_instances rfl
    | with_reducible apply Foot.via State.freeVal_foot
    | with_reducible refine Foot.via (State.freeVal_foot' (by assumption)) (by decide) ?_
    | with_reducible apply Foot.via State.rdlRead_foot
    | (with_reducible apply Foot.after _ (fun _ hx => (execAngAccLoRead_foot hx).mono (by decide)))
    | (with_reducible apply Foot.after _ (fun _ hx => (execAngS16PerlRead_foot hx).mono (by decide)))
    | (with_reducible apply Foot.after _ (fun _ hx => (execFbkPosLoRead_foot hx).mono (by decide)))
    | (with_reducible apply Foot.after _ (fun _ hx => (execFbkSsiD0Read_foot hx).mono (by decide)))
    | (with_reducible apply Foot.after _ (fun _ hx => (execIrcHvecRead_foot hx).mono (by decide)))
    | (with_reducible apply Foot.after _ (fun _ hx => (execTbNow0Read_foot hx).mono (by decide)))
    | with_reducible apply Foot.ite
    | split
    | with_reducible apply Foot.pwr
    | dsimp only

theorem State.readReg_foot {s x1} : Foot 156275754 s (State.readReg s x1).2 := by
  unfold State.readReg
  try dsimp only
  repeat' first
    | with_reducible apply Foot.refl
    | with_reducible_and_instances rfl
    | with_reducible apply Foot.via State.freeVal_foot
    | with_reducible refine Foot.via (State.freeVal_foot' (by assumption)) (by decide) ?_
    | with_reducible apply Foot.via State.readEffect_foot
    | with_reducible apply Foot.ite
    | split
    | dsimp only

theorem State.readReg_foot' {s x1 t c0} (h : State.readReg s x1 = (c0, t)) : Foot 156275754 s t := by
  have k : Foot 156275754 s (State.readReg s x1).2 := State.readReg_foot
  rwa [h] at k

theorem execClaim_foot {s t} (h : execClaim s = .next t) : Foot 4096 s t := by
  unfold execClaim at h
  injection h with h
  subst h
  try dsimp only
  repeat' first
    | with_reducible apply Foot.refl
    | with_reducible_and_instances rfl
    | with_reducible apply Foot.via State.claim_foot
    | dsimp only

theorem execCmdCntClr_foot {x0 s t} (h : execCmdCntClr x0 s = .next t) : Foot 131072 s t := by
  unfold execCmdCntClr at h
  injection h with h
  subst h
  try dsimp only
  repeat' first
    | with_reducible apply Foot.refl
    | with_reducible_and_instances rfl
    | with_reducible apply Foot.via State.cmdCntClr_foot
    | with_reducible apply Foot.ite
    | split
    | dsimp only

theorem execElxCntClr_foot {x0 s t} (h : execElxCntClr x0 s = .next t) : Foot 33554432 s t := by
  unfold execElxCntClr at h
  injection h with h
  subst h
  try dsimp only
  repeat' first
    | with_reducible apply Foot.refl
    | with_reducible_and_instances rfl
    | with_reducible apply Foot.via State.elxCntClr_foot
    | with_reducible apply Foot.ite
    | split
    | dsimp only

theorem execElxFrlostClr_foot {s t} (h : execElxFrlostClr s = .next t) : Foot 33554432 s t := by
  unfold execElxFrlostClr at h
  injection h with h
  subst h
  try dsimp only
  repeat' first
    | with_reducible apply Foot.refl
    | with_reducible_and_instances rfl
    | with_reducible apply Foot.via State.elxFrlostClr_foot
    | with_reducible apply Foot.ite
    | split
    | dsimp only

theorem execPwrKtimLo_foot {x0 s t} (h : execPwrKtimLo x0 s = .next t) : Foot 4104 s t := by
  unfold execPwrKtimLo at h
  injection h with h
  subst h
  try dsimp only
  repeat' first
    | with_reducible apply Foot.refl
    | with_reducible_and_instances rfl
    | with_reducible apply Foot.via State.keepTimer_foot
    | dsimp only

theorem execRegisterWrite_foot {x0 x1 x2 s t} (h : execRegisterWrite x0 x1 x2 s = .next t) : Foot 1006632568 s t := by
  unfold execRegisterWrite at h
  injection h with h
  subst h
  try dsimp only
  repeat' first
    | with_reducible apply Foot.refl
    | with_reducible_and_instances rfl
    | with_reducible refine Foot.via (State.writeReg_foot (by assumption)) (by decide) ?_
    | with_reducible refine Foot.getD ?_ (fun _ hx => (State.writeReg_foot hx).mono (by decide))
    | with_reducible apply Foot.ite
    | split
    | dsimp only

theorem execTwnCntClr_foot {x0 s t} (h : execTwnCntClr x0 s = .next t) : Foot 16777216 s t := by
  unfold execTwnCntClr at h
  injection h with h
  subst h
  try dsimp only
  repeat' first
    | with_reducible apply Foot.refl
    | with_reducible_and_instances rfl
    | with_reducible apply Foot.via State.twnCntClr_foot
    | with_reducible apply Foot.ite
    | split
    | dsimp only

end Sys2Proof.Machine
end

