-- ==== Sys2Proof/Laws/FootCommand.lean ====
section
/-! SUPPORT. Footprints of the operations of Machine/Command.lean. -/

namespace Sys2Proof.Machine

theorem State.bootWord_foot {s x1} : Foot 2 s (State.bootWord s x1).2 := by
  unfold State.bootWord
  try dsimp only
  repeat' first
    | with_reducible apply Foot.refl
    | with_reducible_and_instances rfl
    | with_reducible apply Foot.via State.freeVal_foot
    | with_reducible refine Foot.via (State.freeVal_foot' (by assumption)) (by decide) ?_
    | with_reducible apply Foot.ite
    | split
    | dsimp only

theorem State.bootWord_foot' {s x1 t c0} (h : State.bootWord s x1 = (c0, t)) : Foot 2 s t := by
  have k : Foot 2 s (State.bootWord s x1).2 := State.bootWord_foot
  rwa [h] at k

theorem State.readOne_foot {s x1} : Foot 156276266 s (State.readOne s x1).2.2.2 := by
  unfold State.readOne
  try dsimp only
  repeat' first
    | with_reducible apply Foot.refl
    | with_reducible_and_instances rfl
    | with_reducible apply Foot.via State.bootWord_foot
    | with_reducible refine Foot.via (State.bootWord_foot' (by assumption)) (by decide) ?_
    | with_reducible apply Foot.via State.freeVal_foot
    | with_reducible refine Foot.via (State.freeVal_foot' (by assumption)) (by decide) ?_
    | with_reducible apply Foot.via State.lanTouch_foot
    | with_reducible apply Foot.via State.latTouch_foot
    | with_reducible apply Foot.via State.readReg_foot
    | with_reducible refine Foot.via (State.readReg_foot' (by assumption)) (by decide) ?_
    | with_reducible apply Foot.ite
    | split
    | dsimp only

theorem State.readOne_foot' {s x1 t c0 c1 c2} (h : State.readOne s x1 = (c0, c1, c2, t)) : Foot 156276266 s t := by
  have k : Foot 156276266 s (State.readOne s x1).2.2.2 := State.readOne_foot
  rwa [h] at k

theorem State.readMany_foot {s x1 x2 x3} : Foot 156276266 s (State.readMany s x1 x2 x3).2.2 := by
  induction x3 generalizing s x1 x2 with
  | zero => simp only [State.readMany]; exact Foot.refl
  | succ n ih =>
    rw [State.readMany]
    try dsimp only
    repeat' first
      | with_reducible apply Foot.refl
      | with_reducible assumption
      | with_reducible_and_instances rfl
      | with_reducible apply Foot.then_ ih
      | with_reducible apply Foot.via State.readOne_foot
      | with_reducible refine Foot.via (State.readOne_foot' (by assumption)) (by decide) ?_
      | with_reducible apply Foot.ite
      | split
      | dsimp only

theorem State.readMany_foot' {s x1 x2 x3 t c0 c1} (h : State.readMany s x1 x2 x3 = (c0, c1, t)) : Foot 156276266 s t := by
  have k : Foot 156276266 s (State.readMany s x1 x2 x3).2.2 := State.readMany_foot
  rwa [h] at k

theorem State.rdRun_foot {s x1 x2 x3} : Foot 156407338 s (State.rdRun s x1 x2 x3) := by
  unfold State.rdRun
  try dsimp only
  repeat' first
    | with_reducible apply Foot.refl
    | with_reducible_and_instances rfl
    | with_reducible apply Foot.via State.finishPacket_foot
    | with_reducible apply Foot.via State.readMany_foot
    | with_reducible refine Foot.via (State.readMany_foot' (by assumption)) (by decide) ?_
    | with_reducible apply Foot.ite
    | split
    | dsimp only

theorem State.mirrorWrite_foot {s x1 x2} : Foot 16777216 s (State.mirrorWrite s x1 x2) := by
  unfold State.mirrorWrite
  try dsimp only
  repeat' first
    | with_reducible apply Foot.refl
    | with_reducible_and_instances rfl
    | with_reducible apply Foot.via State.twnSend_foot
    | with_reducible apply Foot.ite
    | split

theorem State.writeOne_foot {s x1 x2 x3 t} (h : State.writeOne s x1 x2 x3 = .inl t) : Foot 1006632568 s t := by
  unfold State.writeOne at h
  try dsimp only at h
  repeat' split at h
  all_goals first
    | (cases h; done)
    | cases h
  repeat' first
    | with_reducible apply Foot.refl
    | with_reducible_and_instances rfl
    | with_reducible apply Foot.via State.inject_foot
    | with_reducible apply Foot.via State.lanStore_foot
    | with_reducible apply Foot.via State.latPut_foot
    | with_reducible refine Foot.via (State.writeReg_foot (by assumption)) (by decide) ?_
    | with_reducible refine Foot.getD ?_ (fun _ hx => (State.writeReg_foot hx).mono (by decide))
    | with_reducible apply Foot.ite
    | split

theorem State.writeMany_foot {s x1 x2 x3 x4} : Foot 1006632568 s (State.writeMany s x1 x2 x3 x4).1 := by
  induction x4 generalizing s x2 x3 with
  | nil => simp only [State.writeMany]; exact Foot.refl
  | cons v vs ih =>
    rw [State.writeMany]
    try dsimp only
    repeat' first
      | with_reducible apply Foot.refl
      | with_reducible assumption
      | with_reducible_and_instances rfl
      | with_reducible apply Foot.then_ ih
      | with_reducible apply Foot.via State.mirrorWrite_foot
      | with_reducible refine Foot.via (State.writeOne_foot (by assumption)) (by decide) ?_
      | split
      | dsimp only

theorem State.writeMany_foot' {s x1 x2 x3 x4 t c0} (h : State.writeMany s x1 x2 x3 x4 = (t, c0)) : Foot 1006632568 s t := by
  have k : Foot 1006632568 s (State.writeMany s x1 x2 x3 x4).1 := State.writeMany_foot
  rwa [h] at k

theorem State.wrRun_foot {s x1 x2 x3} : Foot 1006632568 s (State.wrRun s x1 x2 x3) := by
  unfold State.wrRun
  try dsimp only
  repeat' first
    | with_reducible apply Foot.refl
    | with_reducible_and_instances rfl
    | with_reducible apply Foot.via State.finishPacket_foot
    | with_reducible apply Foot.via State.writeMany_foot
    | with_reducible refine Foot.via (State.writeMany_foot' (by assumption)) (by decide) ?_
    | split

theorem State.mirrorSin_foot {s x1 x2 x3} : Foot 16777216 s (State.mirrorSin s x1 x2 x3) := by
  induction x2 generalizing s x3 with
  | zero => simp only [State.mirrorSin]; exact Foot.refl
  | succ n ih =>
    rw [State.mirrorSin]
    try dsimp only
    repeat' first
      | with_reducible apply Foot.refl
      | with_reducible assumption
      | with_reducible_and_instances rfl
      | with_reducible apply Foot.then_ ih
      | with_reducible apply Foot.via State.twnSend_foot
      | with_reducible apply Foot.ite
      | split
      | dsimp only

theorem State.packetIn_foot {s x1 x2} : Foot 134348800 s (State.packetIn s x1 x2) := by
  unfold State.packetIn
  try dsimp only
  repeat' first
    | with_reducible apply Foot.refl
    | with_reducible_and_instances rfl
    | with_reducible apply Foot.via State.hostReplies_foot
    | with_reducible apply Foot.via State.setPort_foot

theorem State.receive_foot {s x1 x2 x3} : Foot 151127040 s (State.receive s x1 x2 x3) := by
  unfold State.receive
  try dsimp only
  repeat' first
    | with_reducible apply Foot.refl
    | with_reducible_and_instances rfl
    | with_reducible apply Foot.via State.hit_foot
    | with_reducible apply Foot.via State.packetIn_foot
    | with_reducible apply Foot.via State.reportBlock_foot
    | with_reducible apply Foot.via State.setPort_foot
    | with_reducible apply Foot.ite
    | split
    | dsimp only

theorem State.rungWord_foot {s x1} : Foot 4096 s (State.rungWord s x1) := by
  unfold State.rungWord
  try dsimp only
  repeat' first
    | with_reducible apply Foot.refl
    | with_reducible_and_instances rfl
    | with_reducible apply Foot.ite
    | split
    | with_reducible apply Foot.pwr

theorem State.sendLast_foot {s x1} : Foot 134348800 s (State.sendLast s x1) := by
  unfold State.sendLast
  try dsimp only
  repeat' first
    | with_reducible apply Foot.refl
    | with_reducible_and_instances rfl
    | with_reducible apply Foot.via State.hitReject_foot
    | with_reducible apply Foot.via State.hostReplies_foot
    | with_reducible apply Foot.via State.setPort_foot

theorem Foot.take {M : Nat} {s0 s : State} {x1 run} (hm : 151127040 ||| M = M) (h0 : Foot M s0 s) (k : ∀ a b c u, Foot M u (run a b c u)) :
    Foot M s0 (State.take s x1 run) := by
  refine h0.trans ?_
  unfold State.take
  try dsimp only
  repeat' first
    | with_reducible apply Foot.refl
    | with_reducible assumption
    | exact or_sub (by decide) hm
    | with_reducible apply Foot.then_ (k _ _ _ _)
    | with_reducible apply Foot.via State.finishPacket_foot
    | with_reducible apply Foot.via State.report_foot
    | with_reducible apply Foot.via State.reportBlock_foot
    | with_reducible apply Foot.via State.sendLast_foot
    | with_reducible apply Foot.via State.setPort_foot
    | with_reducible apply Foot.ite
    | split
    | with_reducible apply Foot.cmd

theorem execArm_foot {s t} (h : execArm s = .next t) : Foot 151192576 s t := by
  unfold execArm at h
  injection h with h
  subst h
  try dsimp only
  repeat' first
    | with_reducible apply Foot.refl
    | with_reducible_and_instances rfl
    | with_reducible apply Foot.via State.finishPacket_foot
    | with_reducible apply Foot.via State.hostArm_foot
    | with_reducible refine Foot.take (by decide) ?_ (fun _ _ _ _ => ?_)
    | with_reducible apply Foot.ite
    | split
    | dsimp only

theorem execCancel_foot {s t} (h : execCancel s = .next t) : Foot 151192584 s t := by
  unfold execCancel at h
  injection h with h
  subst h
  try dsimp only
  repeat' first
    | with_reducible apply Foot.refl
    | with_reducible_and_instances rfl
    | with_reducible apply Foot.via State.finishPacket_foot
    | with_reducible apply Foot.via State.pushReq_foot
    | with_reducible apply Foot.via State.setCfg_foot
    | with_reducible refine Foot.take (by decide) ?_ (fun _ _ _ _ => ?_)
    | with_reducible apply Foot.ite
    | split
    | dsimp only

theorem execCmtcancel_foot {s t} (h : execCmtcancel s = .next t) : Foot 154015296 s t := by
  unfold execCmtcancel at h
  injection h with h
  subst h
  try dsimp only
  repeat' first
    | with_reducible apply Foot.refl
    | with_reducible_and_instances rfl
    | with_reducible apply Foot.via State.dropSet_foot
    | with_reducible apply Foot.via State.finishPacket_foot
    | with_reducible refine Foot.take (by decide) ?_ (fun _ _ _ _ => ?_)
    | with_reducible apply Foot.ite
    | split
    | dsimp only

theorem execCommit_foot {s t} (h : execCommit s = .next t) : Foot 151127632 s t := by
  unfold execCommit at h
  injection h with h
  subst h
  try dsimp only
  repeat' first
    | with_reducible apply Foot.refl
    | with_reducible_and_instances rfl
    | with_reducible apply Foot.via State.closeSet_foot
    | with_reducible apply Foot.via State.finishPacket_foot
    | with_reducible refine Foot.take (by decide) ?_ (fun _ _ _ _ => ?_)
    | with_reducible apply Foot.ite
    | split
    | dsimp only

theorem execCsnFall_foot {x0 s t} (h : execCsnFall x0 s = .next t) : Foot 131072 s t := by
  unfold execCsnFall at h
  injection h with h
  subst h
  try dsimp only
  repeat' first
    | with_reducible apply Foot.refl
    | with_reducible_and_instances rfl
    | with_reducible apply Foot.via State.setPort_foot
    | with_reducible apply Foot.ite
    | split
    | dsimp only

theorem execCsnRise_foot {x0 s t} (h : execCsnRise x0 s = .next t) : Foot 151127040 s t := by
  unfold execCsnRise at h
  injection h with h
  subst h
  try dsimp only
  repeat' first
    | with_reducible apply Foot.refl
    | with_reducible_and_instances rfl
    | with_reducible apply Foot.via State.hit_foot
    | with_reducible apply Foot.via State.reportBlock_foot
    | with_reducible apply Foot.via State.setPort_foot
    | with_reducible apply Foot.ite
    | split
    | dsimp only

theorem execIdent_foot {s t} (h : execIdent s = .next t) : Foot 151127042 s t := by
  unfold execIdent at h
  injection h with h
  subst h
  try dsimp only
  repeat' first
    | with_reducible apply Foot.refl
    | with_reducible_and_instances rfl
    | with_reducible apply Foot.via State.bootWord_foot
    | with_reducible refine Foot.via (State.bootWord_foot' (by assumption)) (by decide) ?_
    | with_reducible apply Foot.via State.finishPacket_foot
    | with_reducible refine Foot.take (by decide) ?_ (fun _ _ _ _ => ?_)
    | split
    | dsimp only

theorem execNopPacket_foot {s t} (h : execNopPacket s = .next t) : Foot 151127040 s t := by
  unfold execNopPacket at h
  injection h with h
  subst h
  try dsimp only
  repeat' first
    | with_reducible apply Foot.refl
    | with_reducible_and_instances rfl
    | with_reducible apply Foot.via State.finishPacket_foot
    | with_reducible refine Foot.take (by decide) ?_ (fun _ _ _ _ => ?_)
    | dsimp only

theorem execPacketReceived_foot {x0 x1 x2 x3 x4 x5 s t} (h : execPacketReceived x0 x1 x2 x3 x4 x5 s = .next t) : Foot 151127040 s t := by
  unfold execPacketReceived at h
  injection h with h
  subst h
  try dsimp only
  repeat' first
    | with_reducible apply Foot.refl
    | with_reducible_and_instances rfl
    | with_reducible apply Foot.via State.receive_foot
    | with_reducible apply Foot.via State.setPort_foot
    | with_reducible apply Foot.ite
    | split
    | dsimp only

theorem execRcpswap_foot {s t} (h : execRcpswap s = .next t) : Foot 151192576 s t := by
  unfold execRcpswap at h
  injection h with h
  subst h
  try dsimp only
  repeat' first
    | with_reducible apply Foot.refl
    | with_reducible_and_instances rfl
    | with_reducible apply Foot.via State.finishPacket_foot
    | with_reducible apply Foot.via State.requestSwap_foot
    | with_reducible refine Foot.take (by decide) ?_ (fun _ _ _ _ => ?_)
    | with_reducible apply Foot.ite
    | split
    | dsimp only

theorem execRd_foot {s t} (h : execRd s = .next t) : Foot 424842794 s t := by
  unfold execRd at h
  injection h with h
  subst h
  try dsimp only
  repeat' first
    | with_reducible apply Foot.refl
    | with_reducible_and_instances rfl
    | with_reducible apply Foot.via State.finishPacket_foot
    | with_reducible apply Foot.via State.later_foot
    | with_reducible apply Foot.via State.rdRun_foot
    | with_reducible refine Foot.take (by decide) ?_ (fun _ _ _ _ => ?_)
    | with_reducible apply Foot.ite
    | split
    | dsimp only

theorem execReplyWordSlot_foot {x0 s t} (h : execReplyWordSlot x0 s = .next t) : Foot 134352896 s t := by
  unfold execReplyWordSlot at h
  injection h with h
  subst h
  try dsimp only
  repeat' first
    | with_reducible apply Foot.refl
    | with_reducible_and_instances rfl
    | with_reducible apply Foot.via State.hostReplies_foot
    | with_reducible apply Foot.via State.rungWord_foot
    | with_reducible apply Foot.via State.setPort_foot
    | with_reducible apply Foot.ite
    | split
    | dsimp only

theorem execSin_foot {s t} (h : execSin s = .next t) : Foot 151127040 s t := by
  unfold execSin at h
  injection h with h
  subst h
  try dsimp only
  repeat' first
    | with_reducible apply Foot.refl
    | with_reducible_and_instances rfl
    | with_reducible apply Foot.via State.finishPacket_foot
    | with_reducible apply Foot.via State.mirrorSin_foot
    | with_reducible apply Foot.via State.setPort_foot
    | with_reducible refine Foot.take (by decide) ?_ (fun _ _ _ _ => ?_)
    | with_reducible apply Foot.ite
    | split
    | dsimp only

theorem execSout_foot {s t} (h : execSout s = .next t) : Foot 151127040 s t := by
  unfold execSout at h
  injection h with h
  subst h
  try dsimp only
  repeat' first
    | with_reducible apply Foot.refl
    | with_reducible_and_instances rfl
    | with_reducible apply Foot.via State.finishPacket_foot
    | with_reducible apply Foot.via State.setPort_foot
    | with_reducible refine Foot.take (by decide) ?_ (fun _ _ _ _ => ?_)
    | with_reducible apply Foot.ite
    | split
    | dsimp only

theorem execSyncWordFound_foot {x0 s t} (h : execSyncWordFound x0 s = .next t) : Foot 131072 s t := by
  unfold execSyncWordFound at h
  injection h with h
  subst h
  try dsimp only
  repeat' first
    | with_reducible apply Foot.refl
    | with_reducible_and_instances rfl
    | with_reducible apply Foot.via State.setPort_foot
    | with_reducible apply Foot.ite
    | split
    | dsimp only

theorem execUndefinedOpcodePacket_foot {s t} (h : execUndefinedOpcodePacket s = .next t) : Foot 151127040 s t := by
  unfold execUndefinedOpcodePacket at h
  injection h with h
  subst h
  try dsimp only
  repeat' first
    | with_reducible apply Foot.refl
    | with_reducible_and_instances rfl
    | with_reducible refine Foot.take (by decide) ?_ (fun _ _ _ _ => ?_)
    | dsimp only

theorem execWr_foot {x0 s t} (h : execWr x0 s = .next t) : Foot 1006632568 s t := by
  unfold execWr at h
  injection h with h
  subst h
  try dsimp only
  repeat' first
    | with_reducible apply Foot.refl
    | with_reducible_and_instances rfl
    | with_reducible apply Foot.via State.finishPacket_foot
    | with_reducible apply Foot.via State.later_foot
    | with_reducible refine Foot.take (by decide) ?_ (fun _ _ _ _ => ?_)
    | with_reducible apply Foot.via State.wrRun_foot
    | with_reducible apply Foot.ite
    | split
    | dsimp only

end Sys2Proof.Machine
end

