-- ==== Sys2Proof/Laws/FootClock.lean ====
section
/-! SUPPORT. Footprints of the operations of Machine/Clock.lean. -/

namespace Sys2Proof.Machine

theorem State.doWork_foot {s x1} : Foot 1006632570 s (State.doWork s x1) := by
  unfold State.doWork
  try dsimp only
  repeat' first
    | with_reducible apply Foot.refl
    | with_reducible_and_instances rfl
    | with_reducible apply Foot.via State.applySet_foot
    | with_reducible apply Foot.via State.arcAdvance_foot
    | with_reducible apply Foot.via State.arcsAtAnchor_foot
    | with_reducible apply Foot.via State.arcsEarly_foot
    | with_reducible apply Foot.via State.camCheck_foot
    | with_reducible apply Foot.via State.camPos_foot
    | with_reducible apply Foot.via State.camWork_foot
    | with_reducible apply Foot.via State.closeDir_foot
    | with_reducible apply Foot.via State.commitAll_foot
    | with_reducible apply Foot.via State.commitOut_foot
    | with_reducible apply Foot.via State.convSlot_foot
    | with_reducible apply Foot.via State.convSlotHold_foot
    | with_reducible apply Foot.via State.directionDecided_foot
    | with_reducible apply Foot.via State.earlyFires_foot
    | with_reducible apply Foot.via State.edgeCheck_foot
    | with_reducible apply Foot.via State.formDigest_foot
    | with_reducible refine Foot.via (State.outsideWrite_foot (by assumption)) (by decide) ?_
    | with_reducible refine Foot.getD ?_ (fun _ hx => (State.outsideWrite_foot hx).mono (by decide))
    | with_reducible apply Foot.via State.rdRun_foot
    | with_reducible apply Foot.via State.rdlRead_foot
    | with_reducible apply Foot.via State.rearmOne_foot
    | with_reducible apply Foot.via State.settle_foot
    | with_reducible apply Foot.via State.showLevel_foot
    | with_reducible apply Foot.via State.trailCheck_foot
    | with_reducible apply Foot.via State.vertexWork_foot
    | with_reducible apply Foot.via State.wrRun_foot
    | with_reducible apply Foot.ite
    | split

theorem State.workDue_foot {s} : Foot 1006632570 s (State.workDue s) := by
  unfold State.workDue
  try dsimp only
  repeat' first
    | with_reducible apply Foot.refl
    | with_reducible_and_instances rfl
    | with_reducible apply Foot.via State.catchUp_foot
    | with_reducible apply Foot.via State.doWork_foot
    | with_reducible apply Foot.ite
    | with_reducible apply Foot.foldl
    | with_reducible intro _ _
    | split
    | with_reducible apply Foot.agenda
    | dsimp only

theorem State.beginTick_foot {s} : Foot 1006632570 s (State.beginTick s) := by
  unfold State.beginTick
  try dsimp only
  repeat' first
    | with_reducible apply Foot.refl
    | with_reducible_and_instances rfl
    | with_reducible apply Foot.via State.commitNow_foot
    | with_reducible apply Foot.via State.refsDue_foot
    | with_reducible apply Foot.via State.trackHold_foot
    | with_reducible apply Foot.via State.workDue_foot

theorem State.endTick_foot {s} : Foot 965600832 s (State.endTick s) := by
  unfold State.endTick
  try dsimp only
  repeat' first
    | with_reducible apply Foot.refl
    | with_reducible_and_instances rfl
    | with_reducible apply Foot.via State.settle_foot
    | with_reducible apply Foot.sync

theorem State.nextTick_foot {s} : Foot 134217764 s (State.nextTick s) := by
  unfold State.nextTick
  try dsimp only
  repeat' first
    | with_reducible apply Foot.refl
    | with_reducible_and_instances rfl
    | with_reducible apply Foot.tb
    | with_reducible apply Foot.time
    | with_reducible apply Foot.hits
    | with_reducible refine Foot.many rfl (h := ?_)

end Sys2Proof.Machine
end

