-- ==== Sys2Proof/Laws/FootTwin.lean ====
section
/-! SUPPORT. Footprints of the operations of Machine/Twin.lean. -/

namespace Sys2Proof.Machine

theorem State.adoptSync_foot {s x1 x2 x3} : Foot 268493824 s (State.adoptSync s x1 x2 x3) := by
  unfold State.adoptSync
  try dsimp only
  repeat' first
    | with_reducible apply Foot.refl
    | with_reducible_and_instances rfl
    | with_reducible apply Foot.via State.arrive_foot
    | with_reducible apply Foot.via State.floorArm_foot
    | with_reducible apply Foot.via State.newPeriod_foot
    | with_reducible apply Foot.via State.rearmHeld_foot
    | with_reducible apply Foot.ite
    | split
    | with_reducible apply Foot.sync
    | with_reducible apply Foot.tan
    | with_reducible refine Foot.many rfl (h := ?_)

theorem State.adopted_foot {s} : Foot 16778240 s (State.adopted s) := by
  unfold State.adopted
  try dsimp only
  repeat' first
    | with_reducible apply Foot.refl
    | with_reducible_and_instances rfl
    | with_reducible apply Foot.via State.setJstate_foot
    | with_reducible apply Foot.via State.twnSend_foot
    | with_reducible apply Foot.twn

theorem State.adoptStall_foot {s x1} : Foot 285271040 s (State.adoptStall s x1) := by
  unfold State.adoptStall
  try dsimp only
  repeat' first
    | with_reducible apply Foot.refl
    | with_reducible_and_instances rfl
    | with_reducible apply Foot.via State.adoptSync_foot
    | with_reducible apply Foot.via State.adopted_foot
    | with_reducible apply Foot.via State.stopTangent_foot
    | with_reducible apply Foot.ite
    | split

theorem State.adoptVertex_foot {s} : Foot 285271040 s (State.adoptVertex s) := by
  unfold State.adoptVertex
  try dsimp only
  repeat' first
    | with_reducible apply Foot.refl
    | with_reducible_and_instances rfl
    | with_reducible apply Foot.via State.adoptSync_foot
    | with_reducible apply Foot.via State.adopted_foot
    | with_reducible apply Foot.via State.onHead_foot
    | with_reducible apply Foot.via State.startAt_foot
    | with_reducible apply Foot.ite
    | split
    | with_reducible apply Foot.tan
    | dsimp only

theorem State.startJoin_foot {s} : Foot 553649152 s (State.startJoin s) := by
  unfold State.startJoin
  try dsimp only
  repeat' first
    | with_reducible apply Foot.refl
    | with_reducible_and_instances rfl
    | with_reducible apply Foot.via State.setJstate_foot
    | with_reducible apply Foot.via State.twnSend_foot
    | with_reducible apply Foot.ite
    | split
    | with_reducible apply Foot.twn
    | with_reducible apply Foot.image
    | with_reducible refine Foot.many rfl (h := ?_)

theorem execRejoinTimer_foot {s t} (h : execRejoinTimer s = .next t) : Foot 553649152 s t := by
  unfold execRejoinTimer at h
  injection h with h
  subst h
  try dsimp only
  repeat' first
    | with_reducible apply Foot.refl
    | with_reducible_and_instances rfl
    | with_reducible apply Foot.via State.startJoin_foot
    | with_reducible apply Foot.ite
    | split
    | dsimp only

theorem State.advanceOut_foot {s x1 x2 x3} : Foot 553714688 s (State.advanceOut s x1 x2 x3) := by
  induction x3 generalizing s  with
  | zero => simp only [State.advanceOut]; exact Foot.refl
  | succ n ih =>
    rw [State.advanceOut]
    try dsimp only
    repeat' first
      | with_reducible apply Foot.refl
      | with_reducible assumption
      | with_reducible_and_instances rfl
      | with_reducible apply Foot.then_ ih
      | with_reducible apply Foot.via State.lockSlot_foot
      | with_reducible apply Foot.via State.setActive_foot
      | with_reducible apply Foot.via State.setQueue_foot
      | with_reducible apply Foot.via State.unlock_foot
      | with_reducible exact (execRejoinTimer_foot (by assumption)).mono (by decide)
      | with_reducible refine Foot.via (execRejoinTimer_foot (by assumption)) (by decide) ?_
      | with_reducible apply Foot.ite
      | split

theorem State.applyImage_foot {s x1} : Foot 568689664 s (State.applyImage s x1) := by
  unfold State.applyImage
  try dsimp only
  repeat' first
    | with_reducible apply Foot.refl
    | with_reducible_and_instances rfl
    | with_reducible apply Foot.via State.advanceOut_foot
    | with_reducible apply Foot.via State.joinDone_foot
    | with_reducible apply Foot.via State.startJoin_foot
    | with_reducible apply Foot.via State.twnSend_foot
    | with_reducible apply Foot.forUpTo
    | with_reducible intro _ _
    | split
    | with_reducible apply Foot.irc
    | with_reducible apply Foot.tan
    | with_reducible apply Foot.evq
    | with_reducible apply Foot.arcs
    | with_reducible apply Foot.drv
    | with_reducible apply Foot.lan
    | with_reducible apply Foot.dma
    | with_reducible apply Foot.twn
    | with_reducible refine Foot.many rfl (h := ?_)
    | dsimp only

theorem State.copyWord_foot {s x1 x2} : Foot 20972032 s (State.copyWord s x1 x2) := by
  unfold State.copyWord
  try dsimp only
  repeat' first
    | with_reducible apply Foot.refl
    | with_reducible_and_instances rfl
    | with_reducible apply Foot.via State.lanStore_foot
    | with_reducible apply Foot.via State.latPut_foot
    | with_reducible apply Foot.ite
    | split

theorem State.copyWords_foot {s x1 x2} : Foot 20972032 s (State.copyWords s x1 x2) := by
  induction x2 generalizing s x1 with
  | nil => simp only [State.copyWords]; exact Foot.refl
  | cons v vs ih =>
    rw [State.copyWords]
    try dsimp only
    repeat' first
      | with_reducible apply Foot.refl
      | with_reducible assumption
      | with_reducible_and_instances rfl
      | with_reducible apply Foot.then_ ih
      | with_reducible apply Foot.via State.copyWord_foot

theorem State.mirrorWord_foot {s x1 x2} : Foot 20972032 s (State.mirrorWord s x1 x2) := by
  unfold State.mirrorWord
  try dsimp only
  repeat' first
    | with_reducible apply Foot.refl
    | with_reducible_and_instances rfl
    | with_reducible apply Foot.via State.copyWord_foot
    | with_reducible apply Foot.ite
    | split

theorem State.applyMirror_foot {s x1 x2 x3} : Foot 1006632568 s (State.applyMirror s x1 x2 x3) := by
  induction x3 generalizing s x2 with
  | nil => simp only [State.applyMirror]; exact Foot.refl
  | cons v vs ih =>
    rw [State.applyMirror]
    try dsimp only
    repeat' first
      | with_reducible apply Foot.refl
      | with_reducible assumption
      | with_reducible_and_instances rfl
      | with_reducible apply Foot.then_ ih
      | with_reducible apply Foot.via State.copyWords_foot
      | with_reducible apply Foot.via State.mirrorWord_foot
      | with_reducible refine Foot.via (State.writeReg_foot (by assumption)) (by decide) ?_
      | with_reducible refine Foot.getD ?_ (fun _ hx => (State.writeReg_foot hx).mono (by decide))
      | (with_reducible apply Foot.after _ (fun _ hx => (execLanRdlWrite_foot hx).mono (by decide)))
      | with_reducible apply Foot.ite
      | split

theorem State.commitForwarded_foot {s x1 x2 x3} : Foot 956368384 s (State.commitForwarded s x1 x2 x3) := by
  unfold State.commitForwarded
  try dsimp only
  repeat' first
    | with_reducible apply Foot.refl
    | with_reducible_and_instances rfl
    | with_reducible apply Foot.via State.advanceOut_foot
    | with_reducible apply Foot.via State.dropEntry_foot
    | with_reducible apply Foot.via State.headNext_foot
    | with_reducible apply Foot.via State.setQueue_foot
    | with_reducible apply Foot.ite
    | split

theorem State.armForwarded_foot {s x1 x2 x3} : Foot 956368384 s (State.armForwarded s x1 x2 x3) := by
  unfold State.armForwarded
  try dsimp only
  repeat' first
    | with_reducible apply Foot.refl
    | with_reducible_and_instances rfl
    | with_reducible apply Foot.via State.commitForwarded_foot
    | with_reducible apply Foot.via State.latTouchN_foot
    | with_reducible apply Foot.via State.lockSlot_foot
    | with_reducible apply Foot.via State.report_foot
    | with_reducible apply Foot.via State.setQueue_foot
    | with_reducible apply Foot.ite
    | split

theorem State.cancelForwarded_foot {s x1 x2 x3} : Foot 956368384 s (State.cancelForwarded s x1 x2 x3) := by
  unfold State.cancelForwarded
  try dsimp only
  repeat' first
    | with_reducible apply Foot.refl
    | with_reducible_and_instances rfl
    | with_reducible apply Foot.via State.advanceOut_foot
    | with_reducible apply Foot.via State.dropEntries_foot
    | with_reducible apply Foot.via State.fireEnd_foot
    | with_reducible apply Foot.via State.headNext_foot
    | with_reducible apply Foot.via State.setQueue_foot
    | with_reducible apply Foot.ite
    | split
    | dsimp only

theorem State.partnerAcks_foot {s} : Foot 16777280 s (State.partnerAcks s) := by
  unfold State.partnerAcks
  try dsimp only
  repeat' first
    | with_reducible apply Foot.refl
    | with_reducible_and_instances rfl
    | (with_reducible apply Foot.after _ (fun _ hx => (execIslandAck_foot hx).mono (by decide)))
    | with_reducible apply Foot.commit

theorem State.swapLate_foot {s} : Foot 268500992 s (State.swapLate s) := by
  unfold State.swapLate
  try dsimp only
  repeat' first
    | with_reducible apply Foot.refl
    | with_reducible_and_instances rfl
    | with_reducible apply Foot.via State.headNext_foot
    | with_reducible apply Foot.via State.rearmFrom_foot
    | with_reducible apply Foot.via State.rearmStop_foot
    | with_reducible apply Foot.via State.setQueue_foot
    | with_reducible apply Foot.via State.swapNow_foot
    | with_reducible apply Foot.forUpTo
    | with_reducible intro _ _
    | split
    | dsimp only

theorem State.areqIn_foot {s x1 x2 x3 x4 x5} : Foot 1006474840 s (State.areqIn s x1 x2 x3 x4 x5) := by
  unfold State.areqIn
  try dsimp only
  repeat' first
    | with_reducible apply Foot.refl
    | with_reducible_and_instances rfl
    | with_reducible apply Foot.via State.applyCommit_foot
    | with_reducible apply Foot.via State.armForwarded_foot
    | with_reducible apply Foot.via State.cancelForwarded_foot
    | with_reducible apply Foot.via State.closeSet_foot
    | with_reducible apply Foot.via State.dropSet_foot
    | with_reducible apply Foot.via State.partnerAcks_foot
    | with_reducible apply Foot.via State.swapLate_foot
    | with_reducible apply Foot.ite
    | with_reducible apply Foot.forUpTo
    | with_reducible intro _ _
    | split
    | with_reducible apply Foot.evq
    | with_reducible apply Foot.twn
    | with_reducible refine Foot.many rfl (h := ?_)
    | dsimp only

theorem State.handSeen_foot {s x1} : Foot 153224192 s (State.handSeen s x1) := by
  unfold State.handSeen
  try dsimp only
  repeat' first
    | with_reducible apply Foot.refl
    | with_reducible_and_instances rfl
    | with_reducible apply Foot.via State.handEnd_foot
    | with_reducible apply Foot.ite
    | split
    | with_reducible apply Foot.twn

theorem State.backDue_foot {s} : Foot 153224192 s (State.backDue s) := by
  unfold State.backDue
  try dsimp only
  repeat' first
    | with_reducible apply Foot.refl
    | with_reducible_and_instances rfl
    | with_reducible apply Foot.via State.handEnd_foot
    | with_reducible apply Foot.via State.handSeen_foot
    | with_reducible apply Foot.via State.setOwn_foot
    | with_reducible apply Foot.ite
    | with_reducible apply Foot.foldl
    | with_reducible intro _ _
    | split
    | with_reducible apply Foot.twn
    | dsimp only

theorem State.badTwinFrame_foot {x0 s} : Foot 16778240 s (State.badTwinFrame x0 s) := by
  unfold State.badTwinFrame
  try dsimp only
  repeat' first
    | with_reducible apply Foot.refl
    | with_reducible_and_instances rfl
    | with_reducible apply Foot.via State.joinFail_foot
    | with_reducible apply Foot.via State.report_foot
    | with_reducible apply Foot.via State.setJstate_foot
    | with_reducible apply Foot.via State.twnSend_foot
    | with_reducible apply Foot.ite
    | split

theorem State.cancelLaunches_foot {s} : Foot 2424864 s (State.cancelLaunches s) := by
  unfold State.cancelLaunches
  try dsimp only
  repeat' first
    | with_reducible apply Foot.refl
    | with_reducible_and_instances rfl
    | with_reducible apply Foot.time
    | with_reducible apply Foot.evq
    | with_reducible apply Foot.arcs
    | with_reducible apply Foot.drv
    | with_reducible refine Foot.many rfl (h := ?_)
    | dsimp only

theorem Foot.frameIn {M : Nat} {s0 s : State} {x1 x2 bad good} (hm : 150994944 ||| M = M) (h0 : Foot M s0 s) (k1 : ∀ u, Foot M u (bad u)) (k2 : ∀ u, Foot M u (good u)) :
    Foot M s0 (State.frameIn s x1 x2 bad good) := by
  refine h0.trans ?_
  unfold State.frameIn
  try dsimp only
  repeat' first
    | with_reducible apply Foot.refl
    | with_reducible apply Foot.id_
    | with_reducible assumption
    | exact or_sub (by decide) hm
    | with_reducible apply Foot.then_ (k1 _)
    | with_reducible apply Foot.then_ (k2 _)
    | with_reducible apply Foot.via State.hit_foot
    | with_reducible apply Foot.via State.twnShow_foot
    | with_reducible apply Foot.ite
    | split
    | with_reducible apply Foot.twn

theorem State.handStart_foot {s x1 x2 x3 x4 x5 x6 x7} : Foot 16777216 s (State.handStart s x1 x2 x3 x4 x5 x6 x7) := by
  unfold State.handStart
  try dsimp only
  repeat' first
    | with_reducible apply Foot.refl
    | with_reducible_and_instances rfl
    | with_reducible apply Foot.twn

theorem State.handPacket_foot {s x1 x2} : Foot 153224192 s (State.handPacket s x1 x2) := by
  unfold State.handPacket
  try dsimp only
  repeat' first
    | with_reducible apply Foot.refl
    | with_reducible_and_instances rfl
    | with_reducible apply Foot.via State.finishPacket_foot
    | with_reducible apply Foot.via State.handEnd_foot
    | with_reducible apply Foot.via State.handStart_foot
    | with_reducible apply Foot.via State.twnShow_foot
    | with_reducible apply Foot.ite
    | split
    | dsimp only

theorem State.joinMsg_foot {s x1} : Foot 703038464 s (State.joinMsg s x1) := by
  unfold State.joinMsg
  try dsimp only
  repeat' first
    | with_reducible apply Foot.refl
    | with_reducible_and_instances rfl
    | with_reducible apply Foot.via State.applyImage_foot
    | with_reducible apply Foot.via State.finishPacket_foot
    | with_reducible apply Foot.via State.joinDone_foot
    | with_reducible apply Foot.via State.joinFail_foot
    | with_reducible apply Foot.via State.setJstate_foot
    | with_reducible apply Foot.via State.startJoin_foot
    | with_reducible apply Foot.ite
    | split
    | with_reducible apply Foot.twn

theorem State.joinWatch_foot {s} : Foot 553649152 s (State.joinWatch s) := by
  unfold State.joinWatch
  try dsimp only
  repeat' first
    | with_reducible apply Foot.refl
    | with_reducible_and_instances rfl
    | with_reducible apply Foot.via State.joinFail_foot
    | with_reducible apply Foot.via State.startJoin_foot
    | with_reducible apply Foot.ite
    | split
    | with_reducible apply Foot.twn

theorem State.takeOffset_foot {s x1 x2} : Foot 16778272 s (State.takeOffset s x1 x2) := by
  unfold State.takeOffset
  try dsimp only
  repeat' first
    | with_reducible apply Foot.refl
    | with_reducible_and_instances rfl
    | with_reducible apply Foot.via State.slewTime_foot
    | with_reducible apply Foot.via State.twnReport_foot
    | with_reducible apply Foot.ite
    | split
    | with_reducible apply Foot.twn

theorem State.pairOffset_foot {s x1 x2 x3} : Foot 553649184 s (State.pairOffset s x1 x2 x3) := by
  unfold State.pairOffset
  try dsimp only
  repeat' first
    | with_reducible apply Foot.refl
    | with_reducible_and_instances rfl
    | with_reducible apply Foot.via State.takeOffset_foot
    | with_reducible exact (execRejoinTimer_foot (by assumption)).mono (by decide)
    | with_reducible refine Foot.via (execRejoinTimer_foot (by assumption)) (by decide) ?_
    | split

theorem State.stallCapture_foot {s} : Foot 553648128 s (State.stallCapture s) := by
  unfold State.stallCapture
  try dsimp only
  repeat' first
    | with_reducible apply Foot.refl
    | with_reducible_and_instances rfl
    | with_reducible apply Foot.via State.captureImage_foot
    | with_reducible apply Foot.ite
    | split
    | with_reducible apply Foot.twn

theorem State.swapDecide_foot {s} : Foot 285278208 s (State.swapDecide s) := by
  unfold State.swapDecide
  try dsimp only
  repeat' first
    | with_reducible apply Foot.refl
    | with_reducible_and_instances rfl
    | with_reducible apply Foot.via State.swapLate_foot
    | with_reducible apply Foot.via State.swapNotice_foot
    | with_reducible apply Foot.ite
    | split

theorem State.takesDue_foot {s} : Foot 153224192 s (State.takesDue s) := by
  unfold State.takesDue
  try dsimp only
  repeat' first
    | with_reducible apply Foot.refl
    | with_reducible_and_instances rfl
    | with_reducible apply Foot.via State.dropTakes_foot
    | with_reducible apply Foot.via State.handEnd_foot
    | with_reducible apply Foot.via State.takeUnits_foot
    | with_reducible apply Foot.ite
    | with_reducible apply Foot.foldl
    | with_reducible intro _ _
    | split
    | with_reducible apply Foot.twn
    | dsimp only

theorem State.twnTick_foot {s} : Foot 958653440 s (State.twnTick s) := by
  unfold State.twnTick
  try dsimp only
  repeat' first
    | with_reducible apply Foot.refl
    | with_reducible_and_instances rfl
    | with_reducible apply Foot.via State.adoptVertex_foot
    | with_reducible apply Foot.via State.backDue_foot
    | with_reducible apply Foot.via State.joinWatch_foot
    | with_reducible apply Foot.via State.stallCapture_foot
    | with_reducible apply Foot.via State.swapDecide_foot
    | with_reducible apply Foot.via State.takesDue_foot
    | with_reducible apply Foot.ite
    | split

theorem State.sendHello_foot {s} : Foot 16777216 s (State.sendHello s) := by
  unfold State.sendHello
  try dsimp only
  repeat' first
    | with_reducible apply Foot.refl
    | with_reducible_and_instances rfl
    | with_reducible apply Foot.via State.twnShow_foot
    | dsimp only

theorem execAreq_foot {x0 x1 x2 x3 x4 x5 x6 s t} (h : execAreq x0 x1 x2 x3 x4 x5 x6 s = .next t) : Foot 1006474840 s t := by
  unfold execAreq at h
  injection h with h
  subst h
  try dsimp only
  repeat' first
    | with_reducible apply Foot.refl
    | with_reducible apply Foot.id_
    | with_reducible_and_instances rfl
    | with_reducible apply Foot.via State.areqIn_foot
    | with_reducible apply Foot.via State.badTwinFrame_foot
    | with_reducible refine Foot.frameIn (by decide) ?_ (fun _ => ?_) (fun _ => ?_)
    | dsimp only

theorem execBelithAck_foot {x0 x1 s t} (h : execBelithAck x0 x1 s = .next t) : Foot 150994944 s t := by
  unfold execBelithAck at h
  injection h with h
  subst h
  try dsimp only
  repeat' first
    | with_reducible apply Foot.refl
    | with_reducible apply Foot.id_
    | with_reducible_and_instances rfl
    | with_reducible refine Foot.frameIn (by decide) ?_ (fun _ => ?_) (fun _ => ?_)
    | with_reducible apply Foot.ite
    | split
    | with_reducible apply Foot.twn
    | dsimp only

theorem execBelithDma_foot {x0 x1 x2 s t} (h : execBelithDma x0 x1 x2 s = .next t) : Foot 150994944 s t := by
  unfold execBelithDma at h
  injection h with h
  subst h
  try dsimp only
  repeat' first
    | with_reducible apply Foot.refl
    | with_reducible apply Foot.id_
    | with_reducible_and_instances rfl
    | with_reducible refine Foot.frameIn (by decide) ?_ (fun _ => ?_) (fun _ => ?_)
    | with_reducible apply Foot.ite
    | split
    | with_reducible apply Foot.twn
    | dsimp only

theorem execBelithHeartbeat_foot {x0 x1 x2 x3 x4 x5 x6 x7 x8 s t} (h : execBelithHeartbeat x0 x1 x2 x3 x4 x5 x6 x7 x8 s = .next t) : Foot 958587936 s t := by
  unfold execBelithHeartbeat at h
  injection h with h
  subst h
  try dsimp only
  repeat' first
    | with_reducible apply Foot.refl
    | with_reducible apply Foot.id_
    | with_reducible_and_instances rfl
    | with_reducible apply Foot.via State.adoptStall_foot
    | with_reducible refine Foot.frameIn (by decide) ?_ (fun _ => ?_) (fun _ => ?_)
    | with_reducible apply Foot.via State.handSeen_foot
    | with_reducible apply Foot.via State.pairOffset_foot
    | with_reducible apply Foot.ite
    | split
    | with_reducible apply Foot.twn
    | dsimp only

theorem execBelithHello_foot {x0 x1 x2 x3 x4 x5 x6 s t} (h : execBelithHello x0 x1 x2 x3 x4 x5 x6 s = .next t) : Foot 687866880 s t := by
  unfold execBelithHello at h
  injection h with h
  subst h
  try dsimp only
  repeat' first
    | with_reducible apply Foot.refl
    | with_reducible apply Foot.id_
    | with_reducible_and_instances rfl
    | with_reducible refine Foot.frameIn (by decide) ?_ (fun _ => ?_) (fun _ => ?_)
    | with_reducible apply Foot.via State.setJstate_foot
    | with_reducible apply Foot.via State.setRole_foot
    | with_reducible apply Foot.via State.startJoin_foot
    | with_reducible apply Foot.via State.twnReport_foot
    | with_reducible apply Foot.ite
    | split
    | with_reducible apply Foot.twn
    | dsimp only

theorem execBelithJoin_foot {x0 x1 x2 s t} (h : execBelithJoin x0 x1 x2 s = .next t) : Foot 703038464 s t := by
  unfold execBelithJoin at h
  injection h with h
  subst h
  try dsimp only
  repeat' first
    | with_reducible apply Foot.refl
    | with_reducible apply Foot.id_
    | with_reducible_and_instances rfl
    | with_reducible apply Foot.via State.badTwinFrame_foot
    | with_reducible refine Foot.frameIn (by decide) ?_ (fun _ => ?_) (fun _ => ?_)
    | with_reducible apply Foot.via State.joinMsg_foot
    | dsimp only

theorem execBelithLinkDown_foot {x0 s t} (h : execBelithLinkDown x0 s = .next t) : Foot 16778240 s t := by
  unfold execBelithLinkDown at h
  injection h with h
  subst h
  try dsimp only
  repeat' first
    | with_reducible apply Foot.refl
    | with_reducible_and_instances rfl
    | with_reducible apply Foot.via State.linkDown_foot
    | with_reducible apply Foot.ite
    | split
    | dsimp only

theorem execBelithLinkUp_foot {s t} (h : execBelithLinkUp s = .next t) : Foot 16778240 s t := by
  unfold execBelithLinkUp at h
  injection h with h
  subst h
  try dsimp only
  repeat' first
    | with_reducible apply Foot.refl
    | with_reducible_and_instances rfl
    | with_reducible apply Foot.via State.arrive_foot
    | with_reducible apply Foot.via State.sendHello_foot
    | with_reducible apply Foot.ite
    | split
    | with_reducible apply Foot.twn
    | dsimp only

theorem execBelithResendTimeout_foot {s t} (h : execBelithResendTimeout s = .next t) : Foot 16778240 s t := by
  unfold execBelithResendTimeout at h
  injection h with h
  subst h
  try dsimp only
  repeat' first
    | with_reducible apply Foot.refl
    | with_reducible_and_instances rfl
    | with_reducible apply Foot.via State.linkDown_foot
    | with_reducible apply Foot.ite
    | split
    | with_reducible apply Foot.twn
    | dsimp only

theorem execBulk_foot {x0 x1 x2 x3 x4 x5 s t} (h : execBulk x0 x1 x2 x3 x4 x5 s = .next t) : Foot 155190808 s t := by
  unfold execBulk at h
  injection h with h
  subst h
  try dsimp only
  repeat' first
    | with_reducible apply Foot.refl
    | with_reducible apply Foot.id_
    | with_reducible_and_instances rfl
    | with_reducible apply Foot.via State.badTwinFrame_foot
    | with_reducible apply Foot.via State.copyWords_foot
    | with_reducible refine Foot.frameIn (by decide) ?_ (fun _ => ?_) (fun _ => ?_)
    | with_reducible apply Foot.via State.setCfg_foot
    | with_reducible apply Foot.via State.stage_foot
    | with_reducible apply Foot.ite
    | split
    | dsimp only

theorem execCopyDone_foot {x0 s t} (h : execCopyDone x0 s = .next t) : Foot 287638564 s t := by
  unfold execCopyDone at h
  injection h with h
  subst h
  try dsimp only
  repeat' first
    | with_reducible apply Foot.refl
    | with_reducible_and_instances rfl
    | with_reducible apply Foot.via State.cancelLaunches_foot
    | with_reducible apply Foot.via State.setJstate_foot
    | with_reducible apply Foot.via State.stepTime_foot
    | with_reducible apply Foot.ite
    | split
    | with_reducible apply Foot.twn
    | dsimp only

theorem execDelta_foot {x0 x1 x2 x3 s t} (h : execDelta x0 x1 x2 x3 s = .next t) : Foot 155190784 s t := by
  unfold execDelta at h
  injection h with h
  subst h
  try dsimp only
  repeat' first
    | with_reducible apply Foot.refl
    | with_reducible apply Foot.id_
    | with_reducible_and_instances rfl
    | with_reducible apply Foot.via State.badTwinFrame_foot
    | with_reducible apply Foot.via State.copyWords_foot
    | with_reducible refine Foot.frameIn (by decide) ?_ (fun _ => ?_) (fun _ => ?_)
    | with_reducible apply Foot.ite
    | split
    | dsimp only

theorem execDigest_foot {x0 x1 x2 x3 x4 x5 s t} (h : execDigest x0 x1 x2 x3 x4 x5 s = .next t) : Foot 150995968 s t := by
  unfold execDigest at h
  injection h with h
  subst h
  try dsimp only
  repeat' first
    | with_reducible apply Foot.refl
    | with_reducible apply Foot.id_
    | with_reducible_and_instances rfl
    | with_reducible apply Foot.via State.digestTheirs_foot
    | with_reducible refine Foot.frameIn (by decide) ?_ (fun _ => ?_) (fun _ => ?_)
    | with_reducible apply Foot.ite
    | split
    | dsimp only

theorem execDigestTimeout_foot {s t} (h : execDigestTimeout s = .next t) : Foot 150995968 s t := by
  unfold execDigestTimeout at h
  injection h with h
  subst h
  try dsimp only
  repeat' first
    | with_reducible apply Foot.refl
    | with_reducible_and_instances rfl
    | with_reducible apply Foot.via State.digestBad_foot
    | with_reducible apply Foot.foldl
    | with_reducible intro _ _
    | with_reducible apply Foot.twn
    | dsimp only

theorem execHandoverIdleTimeout_foot {s t} (h : execHandoverIdleTimeout s = .next t) : Foot 153224192 s t := by
  unfold execHandoverIdleTimeout at h
  injection h with h
  subst h
  try dsimp only
  repeat' first
    | with_reducible apply Foot.refl
    | with_reducible_and_instances rfl
    | with_reducible apply Foot.via State.handEnd_foot
    | with_reducible apply Foot.via State.handSeen_foot
    | with_reducible apply Foot.ite
    | split
    | with_reducible apply Foot.twn
    | dsimp only

theorem execHandoverRelease_foot {x0 s t} (h : execHandoverRelease x0 s = .next t) : Foot 153224192 s t := by
  unfold execHandoverRelease at h
  injection h with h
  subst h
  try dsimp only
  repeat' first
    | with_reducible apply Foot.refl
    | with_reducible_and_instances rfl
    | with_reducible apply Foot.via State.handSeen_foot
    | with_reducible apply Foot.via State.setOwn_foot
    | with_reducible apply Foot.ite
    | split
    | with_reducible apply Foot.twn
    | dsimp only

theorem execHandreq_foot {x0 x1 x2 x3 x4 x5 s t} (h : execHandreq x0 x1 x2 x3 x4 x5 s = .next t) : Foot 687932416 s t := by
  unfold execHandreq at h
  injection h with h
  subst h
  try dsimp only
  repeat' first
    | with_reducible apply Foot.refl
    | with_reducible apply Foot.id_
    | with_reducible_and_instances rfl
    | with_reducible apply Foot.via State.advanceOut_foot
    | with_reducible refine Foot.frameIn (by decide) ?_ (fun _ => ?_) (fun _ => ?_)
    | with_reducible apply Foot.via State.handStart_foot
    | with_reducible apply Foot.ite
    | split
    | with_reducible apply Foot.twn
    | dsimp only

theorem execHeartbeatLoss_foot {s t} (h : execHeartbeatLoss s = .next t) : Foot 690095104 s t := by
  unfold execHeartbeatLoss at h
  injection h with h
  subst h
  try dsimp only
  repeat' first
    | with_reducible apply Foot.refl
    | with_reducible_and_instances rfl
    | with_reducible apply Foot.via State.arrive_foot
    | with_reducible apply Foot.via State.cancelHand_foot
    | with_reducible apply Foot.via State.twnReport_foot
    | with_reducible apply Foot.via State.unpair_foot
    | with_reducible exact (execRejoinTimer_foot (by assumption)).mono (by decide)
    | with_reducible refine Foot.via (execRejoinTimer_foot (by assumption)) (by decide) ?_
    | with_reducible apply Foot.ite
    | split
    | with_reducible apply Foot.twn
    | dsimp only

theorem execHeartbeatSend_foot {s t} (h : execHeartbeatSend s = .next t) : Foot 16777216 s t := by
  unfold execHeartbeatSend at h
  injection h with h
  subst h
  try dsimp only
  repeat' first
    | with_reducible apply Foot.refl
    | with_reducible_and_instances rfl
    | with_reducible apply Foot.via State.twnShow_foot
    | with_reducible apply Foot.ite
    | split
    | with_reducible apply Foot.twn
    | dsimp only

theorem execJoinTimeout_foot {s t} (h : execJoinTimeout s = .next t) : Foot 16778240 s t := by
  unfold execJoinTimeout at h
  injection h with h
  subst h
  try dsimp only
  repeat' first
    | with_reducible apply Foot.refl
    | with_reducible_and_instances rfl
    | with_reducible apply Foot.via State.joinFail_foot
    | with_reducible apply Foot.ite
    | split
    | dsimp only

theorem execMirror_foot {x0 x1 x2 x3 x4 x5 s t} (h : execMirror x0 x1 x2 x3 x4 x5 s = .next t) : Foot 1006632568 s t := by
  unfold execMirror at h
  injection h with h
  subst h
  try dsimp only
  repeat' first
    | with_reducible apply Foot.refl
    | with_reducible apply Foot.id_
    | with_reducible_and_instances rfl
    | with_reducible apply Foot.via State.applyMirror_foot
    | with_reducible apply Foot.via State.badTwinFrame_foot
    | with_reducible refine Foot.frameIn (by decide) ?_ (fun _ => ?_) (fun _ => ?_)
    | with_reducible apply Foot.via State.setPort_foot
    | with_reducible apply Foot.ite
    | split
    | dsimp only

theorem execOwnFaultRelease_foot {s t} (h : execOwnFaultRelease s = .next t) : Foot 153224192 s t := by
  unfold execOwnFaultRelease at h
  injection h with h
  subst h
  try dsimp only
  repeat' first
    | with_reducible apply Foot.refl
    | with_reducible_and_instances rfl
    | with_reducible apply Foot.via State.cancelHand_foot
    | with_reducible apply Foot.via State.dropTakes_foot
    | with_reducible apply Foot.via State.report_foot
    | with_reducible apply Foot.via State.setOwn_foot
    | with_reducible apply Foot.via State.twnShow_foot
    | with_reducible apply Foot.ite
    | split
    | with_reducible apply Foot.twn
    | dsimp only

theorem execProbeResult_foot {x0 s t} (h : execProbeResult x0 s = .next t) : Foot 153224192 s t := by
  unfold execProbeResult at h
  injection h with h
  subst h
  try dsimp only
  repeat' first
    | with_reducible apply Foot.refl
    | with_reducible_and_instances rfl
    | with_reducible apply Foot.via State.handEnd_foot
    | with_reducible apply Foot.via State.handSeen_foot
    | with_reducible apply Foot.via State.takeUnits_foot
    | with_reducible apply Foot.via State.twnReport_foot
    | with_reducible apply Foot.via State.twnShow_foot
    | with_reducible apply Foot.via State.unpair_foot
    | with_reducible apply Foot.ite
    | split
    | with_reducible apply Foot.twn
    | dsimp only

theorem execRejoin_foot {s t} (h : execRejoin s = .next t) : Foot 687997952 s t := by
  unfold execRejoin at h
  injection h with h
  subst h
  try dsimp only
  repeat' first
    | with_reducible apply Foot.refl
    | with_reducible_and_instances rfl
    | with_reducible apply Foot.via State.finishPacket_foot
    | with_reducible apply Foot.via State.startJoin_foot
    | with_reducible refine Foot.take (by decide) ?_ (fun _ _ _ _ => ?_)
    | with_reducible apply Foot.via State.twnSend_foot
    | with_reducible apply Foot.ite
    | split
    | dsimp only

theorem execRelease_foot {s t} (h : execRelease s = .next t) : Foot 153224192 s t := by
  unfold execRelease at h
  injection h with h
  subst h
  try dsimp only
  repeat' first
    | with_reducible apply Foot.refl
    | with_reducible_and_instances rfl
    | with_reducible apply Foot.via State.handPacket_foot
    | with_reducible refine Foot.take (by decide) ?_ (fun _ _ _ _ => ?_)
    | dsimp only

theorem execReleaseFrame_foot {x0 x1 x2 x3 s t} (h : execReleaseFrame x0 x1 x2 x3 s = .next t) : Foot 153224192 s t := by
  unfold execReleaseFrame at h
  injection h with h
  subst h
  try dsimp only
  repeat' first
    | with_reducible apply Foot.refl
    | with_reducible apply Foot.id_
    | with_reducible_and_instances rfl
    | with_reducible apply Foot.via State.cancelHand_foot
    | with_reducible refine Foot.frameIn (by decide) ?_ (fun _ => ?_) (fun _ => ?_)
    | with_reducible apply Foot.ite
    | split
    | with_reducible apply Foot.twn
    | dsimp only

theorem execSoloTimeout_foot {s t} (h : execSoloTimeout s = .next t) : Foot 16777216 s t := by
  unfold execSoloTimeout at h
  injection h with h
  subst h
  try dsimp only
  repeat' first
    | with_reducible apply Foot.refl
    | with_reducible_and_instances rfl
    | with_reducible apply Foot.ite
    | split
    | with_reducible apply Foot.twn
    | dsimp only

theorem execTakeover_foot {s t} (h : execTakeover s = .next t) : Foot 153224192 s t := by
  unfold execTakeover at h
  injection h with h
  subst h
  try dsimp only
  repeat' first
    | with_reducible apply Foot.refl
    | with_reducible_and_instances rfl
    | with_reducible apply Foot.via State.handPacket_foot
    | with_reducible refine Foot.take (by decide) ?_ (fun _ _ _ _ => ?_)
    | dsimp only

end Sys2Proof.Machine
end

