-- ==== Sys2Proof/Laws/FootElrexDom.lean ====
section
/-! SUPPORT. Footprints of the operations of Machine/ElrexDom.lean. -/

namespace Sys2Proof.Machine

theorem State.becomeOrigin_foot {s x1} : Foot 33555488 s (State.becomeOrigin s x1) := by
  unfold State.becomeOrigin
  try dsimp only
  repeat' first
    | with_reducible apply Foot.refl
    | with_reducible_and_instances rfl
    | with_reducible apply Foot.via State.sendNotice_foot
    | with_reducible apply Foot.via State.setActing_foot
    | with_reducible apply Foot.via State.setAligned_foot
    | with_reducible apply Foot.via State.setHoldover_foot
    | with_reducible apply Foot.elx

theorem State.domAct_foot {s x1 x2 x3 x4} : Foot 184550992 s (State.domAct s x1 x2 x3 x4).1 := by
  unfold State.domAct
  try dsimp only
  repeat' first
    | with_reducible apply Foot.refl
    | with_reducible_and_instances rfl
    | with_reducible apply Foot.via State.closeSet_foot
    | with_reducible apply Foot.via State.elxReport_foot
    | with_reducible apply Foot.via State.hit_foot
    | with_reducible apply Foot.ite
    | split
    | with_reducible apply Foot.elx
    | dsimp only

theorem State.domAct_foot' {s x1 x2 x3 x4 t c0} (h : State.domAct s x1 x2 x3 x4 = (t, c0)) : Foot 184550992 s t := by
  have k : Foot 184550992 s (State.domAct s x1 x2 x3 x4).1 := State.domAct_foot
  rwa [h] at k

theorem State.domForward_foot {s x1 x2 x3 x4 x5} : Foot 184550992 s (State.domForward s x1 x2 x3 x4 x5).1 := by
  unfold State.domForward
  try dsimp only
  repeat' first
    | with_reducible apply Foot.refl
    | with_reducible_and_instances rfl
    | with_reducible apply Foot.via State.domAct_foot
    | with_reducible refine Foot.via (State.domAct_foot' (by assumption)) (by decide) ?_
    | with_reducible apply Foot.via State.elxSendDown_foot
    | split
    | dsimp only

theorem State.domForward_foot' {s x1 x2 x3 x4 x5 t c0} (h : State.domForward s x1 x2 x3 x4 x5 = (t, c0)) : Foot 184550992 s t := by
  have k : Foot 184550992 s (State.domForward s x1 x2 x3 x4 x5).1 := State.domForward_foot
  rwa [h] at k

theorem Foot.dueAction {M : Nat} {s0 s : State} {x1 x2 act} (hm : 33554432 ||| M = M) (h0 : Foot M s0 s) (k : ∀ u, Foot M u (act u)) :
    Foot M s0 (State.dueAction s x1 x2 act) := by
  refine h0.trans ?_
  unfold State.dueAction
  try dsimp only
  repeat' first
    | with_reducible apply Foot.refl
    | with_reducible assumption
    | exact or_sub (by decide) hm
    | with_reducible apply Foot.then_ (k _)
    | with_reducible apply Foot.ite
    | split
    | with_reducible apply Foot.elx
    | dsimp only

theorem Foot.elxFrame {M : Nat} {s0 s : State} {x1 x2 x3 x4 good} (hm : 184550400 ||| M = M) (h0 : Foot M s0 s) (k : ∀ u, Foot M u (good u)) :
    Foot M s0 (State.elxFrame s x1 x2 x3 x4 good) := by
  refine h0.trans ?_
  unfold State.elxFrame
  try dsimp only
  repeat' first
    | with_reducible apply Foot.refl
    | with_reducible assumption
    | exact or_sub (by decide) hm
    | with_reducible apply Foot.then_ (k _)
    | with_reducible apply Foot.via State.elxShow_foot
    | with_reducible apply Foot.via State.hit_foot
    | with_reducible apply Foot.via State.report_foot
    | with_reducible apply Foot.via State.setElxPort_foot
    | with_reducible apply Foot.ite
    | split
    | with_reducible apply Foot.elx

theorem State.elxOffset_foot {s x1} : Foot 50332704 s (State.elxOffset s x1) := by
  unfold State.elxOffset
  try dsimp only
  repeat' first
    | with_reducible apply Foot.refl
    | with_reducible_and_instances rfl
    | with_reducible apply Foot.via State.elxReport_foot
    | with_reducible apply Foot.via State.setAligned_foot
    | with_reducible apply Foot.via State.slewTime_foot
    | with_reducible apply Foot.ite
    | split
    | with_reducible apply Foot.elx

theorem State.elxStep_foot {s x1} : Foot 318768164 s (State.elxStep s x1) := by
  unfold State.elxStep
  try dsimp only
  repeat' first
    | with_reducible apply Foot.refl
    | with_reducible_and_instances rfl
    | with_reducible apply Foot.via State.elxReport_foot
    | with_reducible apply Foot.via State.stepTime_foot
    | with_reducible apply Foot.ite
    | split
    | with_reducible apply Foot.elx

theorem State.flushHeld_foot {s} : Foot 33554432 s (State.flushHeld s) := by
  unfold State.flushHeld
  try dsimp only
  repeat' first
    | with_reducible apply Foot.refl
    | with_reducible_and_instances rfl
    | with_reducible apply Foot.via State.elxSend_foot
    | with_reducible apply Foot.foldl
    | with_reducible intro _ _
    | with_reducible apply Foot.elx
    | dsimp only

theorem State.joinRefused_foot {s} : Foot 50332704 s (State.joinRefused s) := by
  unfold State.joinRefused
  try dsimp only
  repeat' first
    | with_reducible apply Foot.refl
    | with_reducible_and_instances rfl
    | with_reducible apply Foot.via State.elxReport_foot
    | with_reducible apply Foot.via State.setActing_foot
    | with_reducible apply Foot.via State.setAligned_foot
    | with_reducible apply Foot.elx

theorem State.joinAccepted_foot {s} : Foot 50332704 s (State.joinAccepted s) := by
  unfold State.joinAccepted
  try dsimp only
  repeat' first
    | with_reducible apply Foot.refl
    | with_reducible_and_instances rfl
    | with_reducible apply Foot.via State.flushHeld_foot
    | with_reducible apply Foot.via State.joinRefused_foot
    | with_reducible apply Foot.via State.setActing_foot
    | with_reducible apply Foot.ite
    | split
    | with_reducible apply Foot.elx

theorem State.originJoin_foot {s x1 x2} : Foot 50332672 s (State.originJoin s x1 x2) := by
  unfold State.originJoin
  try dsimp only
  repeat' first
    | with_reducible apply Foot.refl
    | with_reducible_and_instances rfl
    | with_reducible apply Foot.via State.elxReport_foot
    | with_reducible apply Foot.via State.elxSendDown_foot
    | with_reducible apply Foot.ite
    | split
    | with_reducible apply Foot.elx
    | dsimp only

theorem State.sendDack_foot {s x1} : Foot 33554432 s (State.sendDack s x1) := by
  unfold State.sendDack
  try dsimp only
  repeat' first
    | with_reducible apply Foot.refl
    | with_reducible_and_instances rfl
    | with_reducible apply Foot.via State.elxSend_foot
    | with_reducible apply Foot.elx

theorem execDack_foot {x0 x1 x2 x3 x4 x5 x6 s t} (h : execDack x0 x1 x2 x3 x4 x5 x6 s = .next t) : Foot 184550400 s t := by
  unfold execDack at h
  injection h with h
  subst h
  try dsimp only
  repeat' first
    | with_reducible apply Foot.refl
    | with_reducible_and_instances rfl
    | with_reducible refine Foot.elxFrame (by decide) ?_ (fun _ => ?_)
    | with_reducible apply Foot.via State.sendDack_foot
    | with_reducible apply Foot.ite
    | split
    | with_reducible apply Foot.elx
    | dsimp only

theorem execDackDeadline_foot {s t} (h : execDackDeadline s = .next t) : Foot 184550400 s t := by
  unfold execDackDeadline at h
  injection h with h
  subst h
  try dsimp only
  repeat' first
    | with_reducible apply Foot.refl
    | with_reducible_and_instances rfl
    | with_reducible apply Foot.via State.sendDack_foot
    | with_reducible exact (execDack_foot (by assumption)).mono (by decide)
    | with_reducible refine Foot.via (execDack_foot (by assumption)) (by decide) ?_
    | with_reducible apply Foot.ite
    | split
    | dsimp only

theorem execDcmd_foot {x0 x1 x2 x3 x4 x5 x6 x7 s t} (h : execDcmd x0 x1 x2 x3 x4 x5 x6 x7 s = .next t) : Foot 184550992 s t := by
  unfold execDcmd at h
  injection h with h
  subst h
  try dsimp only
  repeat' first
    | with_reducible apply Foot.refl
    | with_reducible_and_instances rfl
    | with_reducible apply Foot.via State.domForward_foot
    | with_reducible refine Foot.via (State.domForward_foot' (by assumption)) (by decide) ?_
    | with_reducible refine Foot.elxFrame (by decide) ?_ (fun _ => ?_)
    | with_reducible apply Foot.via State.sendDack_foot
    | with_reducible apply Foot.ite
    | split
    | with_reducible apply Foot.elx
    | dsimp only

theorem execDomain_foot {s t} (h : execDomain s = .next t) : Foot 184682064 s t := by
  unfold execDomain at h
  injection h with h
  subst h
  try dsimp only
  repeat' first
    | with_reducible apply Foot.refl
    | with_reducible_and_instances rfl
    | with_reducible apply Foot.via State.domForward_foot
    | with_reducible refine Foot.via (State.domForward_foot' (by assumption)) (by decide) ?_
    | with_reducible refine Foot.elxFrame (by decide) ?_ (fun _ => ?_)
    | with_reducible apply Foot.via State.finishPacket_foot
    | with_reducible refine Foot.take (by decide) ?_ (fun _ _ _ _ => ?_)
    | with_reducible exact (execDack_foot (by assumption)).mono (by decide)
    | with_reducible refine Foot.via (execDack_foot (by assumption)) (by decide) ?_
    | with_reducible exact (execDcmd_foot (by assumption)).mono (by decide)
    | with_reducible refine Foot.via (execDcmd_foot (by assumption)) (by decide) ?_
    | with_reducible apply Foot.ite
    | split
    | with_reducible apply Foot.elx
    | dsimp only

theorem execDomainCommandComplete_foot {s t} (h : execDomainCommandComplete s = .next t) : Foot 184550400 s t := by
  unfold execDomainCommandComplete at h
  injection h with h
  subst h
  try dsimp only
  repeat' first
    | with_reducible apply Foot.refl
    | with_reducible_and_instances rfl
    | with_reducible apply Foot.via State.arrive_foot
    | with_reducible exact (execDack_foot (by assumption)).mono (by decide)
    | with_reducible refine Foot.via (execDack_foot (by assumption)) (by decide) ?_
    | with_reducible apply Foot.ite
    | split
    | with_reducible apply Foot.elx
    | dsimp only

theorem execDomainRecordClose_foot {s t} (h : execDomainRecordClose s = .next t) : Foot 184550912 s t := by
  unfold execDomainRecordClose at h
  injection h with h
  subst h
  try dsimp only
  repeat' first
    | with_reducible apply Foot.refl
    | with_reducible_and_instances rfl
    | with_reducible apply Foot.via State.domClose_foot
    | with_reducible apply Foot.foldl
    | with_reducible intro _ _
    | dsimp only

theorem execDomevt_foot {x0 s t} (h : execDomevt x0 s = .next t) : Foot 33555456 s t := by
  unfold execDomevt at h
  injection h with h
  subst h
  try dsimp only
  repeat' first
    | with_reducible apply Foot.refl
    | with_reducible_and_instances rfl
    | with_reducible apply Foot.via State.arrive_foot
    | with_reducible refine Foot.dueAction (by decide) ?_ (fun _ => ?_)
    | dsimp only

theorem execDomread_foot {s t} (h : execDomread s = .next t) : Foot 151127040 s t := by
  unfold execDomread at h
  injection h with h
  subst h
  try dsimp only
  repeat' first
    | with_reducible apply Foot.refl
    | with_reducible_and_instances rfl
    | with_reducible apply Foot.via State.finishPacket_foot
    | with_reducible refine Foot.take (by decide) ?_ (fun _ _ _ _ => ?_)
    | with_reducible apply Foot.ite
    | split
    | dsimp only

theorem execDreq_foot {x0 x1 x2 x3 s t} (h : execDreq x0 x1 x2 x3 s = .next t) : Foot 184550400 s t := by
  unfold execDreq at h
  injection h with h
  subst h
  try dsimp only
  repeat' first
    | with_reducible apply Foot.refl
    | with_reducible_and_instances rfl
    | with_reducible refine Foot.elxFrame (by decide) ?_ (fun _ => ?_)
    | with_reducible apply Foot.via State.elxShow_foot
    | with_reducible apply Foot.ite
    | split
    | dsimp only

theorem execDreqSend_foot {x0 s t} (h : execDreqSend x0 s = .next t) : Foot 33554432 s t := by
  unfold execDreqSend at h
  injection h with h
  subst h
  try dsimp only
  repeat' first
    | with_reducible apply Foot.refl
    | with_reducible_and_instances rfl
    | with_reducible apply Foot.via State.elxShow_foot
    | with_reducible apply Foot.ite
    | split
    | with_reducible apply Foot.elx
    | dsimp only

theorem execDresp_foot {x0 x1 x2 x3 s t} (h : execDresp x0 x1 x2 x3 s = .next t) : Foot 452985892 s t := by
  unfold execDresp at h
  injection h with h
  subst h
  try dsimp only
  repeat' first
    | with_reducible apply Foot.refl
    | with_reducible_and_instances rfl
    | with_reducible refine Foot.elxFrame (by decide) ?_ (fun _ => ?_)
    | with_reducible apply Foot.via State.elxOffset_foot
    | with_reducible apply Foot.via State.elxStep_foot
    | with_reducible apply Foot.ite
    | split
    | with_reducible apply Foot.elx
    | dsimp only

theorem execElrexHello_foot {x0 x1 x2 x3 x4 x5 x6 x7 s t} (h : execElrexHello x0 x1 x2 x3 x4 x5 x6 x7 s = .next t) : Foot 184550400 s t := by
  unfold execElrexHello at h
  injection h with h
  subst h
  try dsimp only
  repeat' first
    | with_reducible apply Foot.refl
    | with_reducible_and_instances rfl
    | with_reducible refine Foot.elxFrame (by decide) ?_ (fun _ => ?_)
    | with_reducible apply Foot.via State.setElxPort_foot
    | dsimp only

theorem execElrexHelloSend_foot {x0 s t} (h : execElrexHelloSend x0 s = .next t) : Foot 33554432 s t := by
  unfold execElrexHelloSend at h
  injection h with h
  subst h
  try dsimp only
  repeat' first
    | with_reducible apply Foot.refl
    | with_reducible_and_instances rfl
    | with_reducible apply Foot.via State.elxShow_foot
    | with_reducible apply Foot.via State.setElxPort_foot
    | with_reducible apply Foot.ite
    | split
    | dsimp only

theorem execElrexJoin_foot {x0 x1 x2 x3 x4 x5 x6 s t} (h : execElrexJoin x0 x1 x2 x3 x4 x5 x6 s = .next t) : Foot 184550400 s t := by
  unfold execElrexJoin at h
  injection h with h
  subst h
  try dsimp only
  repeat' first
    | with_reducible apply Foot.refl
    | with_reducible_and_instances rfl
    | with_reducible refine Foot.elxFrame (by decide) ?_ (fun _ => ?_)
    | with_reducible apply Foot.via State.elxSend_foot
    | with_reducible apply Foot.via State.originJoin_foot
    | with_reducible apply Foot.ite
    | split
    | dsimp only

theorem execElrexPortDown_foot {x0 x1 s t} (h : execElrexPortDown x0 x1 s = .next t) : Foot 50332672 s t := by
  unfold execElrexPortDown at h
  injection h with h
  subst h
  try dsimp only
  repeat' first
    | with_reducible apply Foot.refl
    | with_reducible_and_instances rfl
    | with_reducible apply Foot.via State.elxDown_foot
    | with_reducible apply Foot.ite
    | split
    | dsimp only

theorem execElrexPortUp_foot {x0 s t} (h : execElrexPortUp x0 s = .next t) : Foot 33555488 s t := by
  unfold execElrexPortUp at h
  injection h with h
  subst h
  try dsimp only
  repeat' first
    | with_reducible apply Foot.refl
    | with_reducible_and_instances rfl
    | with_reducible apply Foot.via State.arrive_foot
    | with_reducible apply Foot.via State.sendJoin_foot
    | with_reducible apply Foot.via State.setActing_foot
    | with_reducible apply Foot.via State.setAligned_foot
    | with_reducible apply Foot.via State.setElxPort_foot
    | with_reducible apply Foot.ite
    | split
    | with_reducible apply Foot.elx
    | dsimp only

theorem execElrexResendTimeout_foot {x0 s t} (h : execElrexResendTimeout x0 s = .next t) : Foot 50332672 s t := by
  unfold execElrexResendTimeout at h
  injection h with h
  subst h
  try dsimp only
  repeat' first
    | with_reducible apply Foot.refl
    | with_reducible_and_instances rfl
    | with_reducible apply Foot.via State.elxDown_foot
    | with_reducible apply Foot.via State.setElxPort_foot
    | with_reducible apply Foot.ite
    | split
    | dsimp only

theorem execFrep_foot {x0 x1 x2 x3 s t} (h : execFrep x0 x1 x2 x3 s = .next t) : Foot 184550912 s t := by
  unfold execFrep at h
  injection h with h
  subst h
  try dsimp only
  repeat' first
    | with_reducible apply Foot.refl
    | with_reducible_and_instances rfl
    | with_reducible apply Foot.via State.domEnter_foot
    | with_reducible refine Foot.elxFrame (by decide) ?_ (fun _ => ?_)
    | with_reducible apply Foot.ite
    | split
    | dsimp only

theorem execHoldoverEnd_foot {s t} (h : execHoldoverEnd s = .next t) : Foot 50332704 s t := by
  unfold execHoldoverEnd at h
  injection h with h
  subst h
  try dsimp only
  repeat' first
    | with_reducible apply Foot.refl
    | with_reducible_and_instances rfl
    | with_reducible apply Foot.via State.elxReport_foot
    | with_reducible apply Foot.via State.setAligned_foot
    | with_reducible apply Foot.via State.setHoldover_foot
    | with_reducible exact (execElrexHelloSend_foot (by assumption)).mono (by decide)
    | with_reducible refine Foot.via (execElrexHelloSend_foot (by assumption)) (by decide) ?_
    | with_reducible apply Foot.ite
    | split
    | dsimp only

theorem execHoldoverStart_foot {s t} (h : execHoldoverStart s = .next t) : Foot 33555456 s t := by
  unfold execHoldoverStart at h
  injection h with h
  subst h
  try dsimp only
  repeat' first
    | with_reducible apply Foot.refl
    | with_reducible_and_instances rfl
    | with_reducible apply Foot.via State.setHoldover_foot
    | with_reducible exact (execElrexHelloSend_foot (by assumption)).mono (by decide)
    | with_reducible refine Foot.via (execElrexHelloSend_foot (by assumption)) (by decide) ?_
    | with_reducible apply Foot.ite
    | split
    | dsimp only

theorem execIgnsoft_foot {s t} (h : execIgnsoft s = .next t) : Foot 35651584 s t := by
  unfold execIgnsoft at h
  injection h with h
  subst h
  try dsimp only
  repeat' first
    | with_reducible apply Foot.refl
    | with_reducible_and_instances rfl
    | with_reducible refine Foot.dueAction (by decide) ?_ (fun _ => ?_)
    | (with_reducible apply Foot.after _ (fun _ hx => (execSoft_foot hx).mono (by decide)))
    | dsimp only

theorem execJoinEntryExpiry_foot {s t} (h : execJoinEntryExpiry s = .next t) : Foot 33554432 s t := by
  unfold execJoinEntryExpiry at h
  injection h with h
  subst h
  try dsimp only
  repeat' first
    | with_reducible apply Foot.refl
    | with_reducible_and_instances rfl
    | with_reducible apply Foot.elx
    | dsimp only

theorem execJoinRefresh_foot {s t} (h : execJoinRefresh s = .next t) : Foot 33554432 s t := by
  unfold execJoinRefresh at h
  injection h with h
  subst h
  try dsimp only
  repeat' first
    | with_reducible apply Foot.refl
    | with_reducible_and_instances rfl
    | with_reducible apply Foot.via State.sendJoin_foot
    | with_reducible exact (execElrexHelloSend_foot (by assumption)).mono (by decide)
    | with_reducible refine Foot.via (execElrexHelloSend_foot (by assumption)) (by decide) ?_
    | with_reducible apply Foot.ite
    | split
    | dsimp only

theorem execJres_foot {x0 x1 x2 x3 x4 x5 s t} (h : execJres x0 x1 x2 x3 x4 x5 s = .next t) : Foot 184550432 s t := by
  unfold execJres at h
  injection h with h
  subst h
  try dsimp only
  repeat' first
    | with_reducible apply Foot.refl
    | with_reducible_and_instances rfl
    | with_reducible refine Foot.elxFrame (by decide) ?_ (fun _ => ?_)
    | with_reducible apply Foot.via State.elxSendDown_foot
    | with_reducible apply Foot.via State.joinAccepted_foot
    | with_reducible apply Foot.via State.joinRefused_foot
    | with_reducible apply Foot.ite
    | split
    | dsimp only

theorem execLack_foot {x0 x1 x2 s t} (h : execLack x0 x1 x2 s = .next t) : Foot 184550400 s t := by
  unfold execLack at h
  injection h with h
  subst h
  try dsimp only
  repeat' first
    | with_reducible apply Foot.refl
    | with_reducible_and_instances rfl
    | with_reducible refine Foot.elxFrame (by decide) ?_ (fun _ => ?_)
    | with_reducible apply Foot.via State.setElxPort_foot
    | with_reducible apply Foot.ite
    | split
    | dsimp only

theorem execNotice_foot {x0 x1 x2 x3 x4 x5 s t} (h : execNotice x0 x1 x2 x3 x4 x5 s = .next t) : Foot 184550400 s t := by
  unfold execNotice at h
  injection h with h
  subst h
  try dsimp only
  repeat' first
    | with_reducible apply Foot.refl
    | with_reducible_and_instances rfl
    | with_reducible refine Foot.elxFrame (by decide) ?_ (fun _ => ?_)
    | with_reducible apply Foot.via State.elxReport_foot
    | with_reducible apply Foot.via State.elxSendDown_foot
    | with_reducible apply Foot.ite
    | split
    | dsimp only

theorem execOrigin_foot {s t} (h : execOrigin s = .next t) : Foot 33555488 s t := by
  unfold execOrigin at h
  injection h with h
  subst h
  try dsimp only
  repeat' first
    | with_reducible apply Foot.refl
    | with_reducible_and_instances rfl
    | with_reducible apply Foot.via State.becomeOrigin_foot
    | with_reducible refine Foot.dueAction (by decide) ?_ (fun _ => ?_)
    | with_reducible apply Foot.via State.setActing_foot
    | with_reducible apply Foot.ite
    | split
    | with_reducible apply Foot.elx
    | dsimp only

theorem execStandbyTakeover_foot {s t} (h : execStandbyTakeover s = .next t) : Foot 50332704 s t := by
  unfold execStandbyTakeover at h
  injection h with h
  subst h
  try dsimp only
  repeat' first
    | with_reducible apply Foot.refl
    | with_reducible_and_instances rfl
    | with_reducible apply Foot.via State.becomeOrigin_foot
    | with_reducible apply Foot.via State.elxReport_foot
    | with_reducible exact (execElrexHelloSend_foot (by assumption)).mono (by decide)
    | with_reducible refine Foot.via (execElrexHelloSend_foot (by assumption)) (by decide) ?_
    | with_reducible apply Foot.ite
    | split
    | dsimp only

theorem execTmark_foot {x0 x1 x2 x3 x4 x5 x6 s t} (h : execTmark x0 x1 x2 x3 x4 x5 x6 s = .next t) : Foot 184550432 s t := by
  unfold execTmark at h
  injection h with h
  subst h
  try dsimp only
  repeat' first
    | with_reducible apply Foot.refl
    | with_reducible_and_instances rfl
    | with_reducible refine Foot.elxFrame (by decide) ?_ (fun _ => ?_)
    | with_reducible apply Foot.via State.joinRefused_foot
    | with_reducible apply Foot.via State.sendJoin_foot
    | with_reducible apply Foot.via State.setActing_foot
    | with_reducible apply Foot.via State.setAligned_foot
    | with_reducible apply Foot.via State.setElxPort_foot
    | with_reducible apply Foot.via State.setHoldover_foot
    | with_reducible apply Foot.ite
    | split
    | with_reducible apply Foot.elx
    | dsimp only

theorem execTmarkSend_foot {x0 x1 s t} (h : execTmarkSend x0 x1 s = .next t) : Foot 33554432 s t := by
  unfold execTmarkSend at h
  injection h with h
  subst h
  try dsimp only
  repeat' first
    | with_reducible apply Foot.refl
    | with_reducible_and_instances rfl
    | with_reducible apply Foot.via State.elxShow_foot
    | with_reducible apply Foot.ite
    | split
    | dsimp only

end Sys2Proof.Machine
end

