-- ==== Sys2Proof/Laws/FootPower.lean ====
section
/-! SUPPORT. Footprints of the operations of Machine/Power.lean. -/

namespace Sys2Proof.Machine

theorem State.cfgResult_foot {s x1} : Foot 4096 s (State.cfgResult s x1) := by
  unfold State.cfgResult
  try dsimp only
  repeat' first
    | with_reducible apply Foot.refl
    | with_reducible_and_instances rfl
    | with_reducible apply Foot.pwr

theorem State.cfgStop_foot {s x1} : Foot 16782864 s (State.cfgStop s x1) := by
  unfold State.cfgStop
  try dsimp only
  repeat' first
    | with_reducible apply Foot.refl
    | with_reducible_and_instances rfl
    | with_reducible apply Foot.via State.cfgResult_foot
    | with_reducible apply Foot.via State.logRestart_foot
    | with_reducible apply Foot.via State.report_foot
    | with_reducible apply Foot.staged

theorem State.prepareAll_foot {s} : Foot 153880128 s (State.prepareAll s) := by
  unfold State.prepareAll
  try dsimp only
  repeat' first
    | with_reducible apply Foot.refl
    | with_reducible_and_instances rfl
    | (with_reducible apply Foot.after _ (fun _ hx => (execIslandAck_foot hx).mono (by decide)))
    | (with_reducible apply Foot.after _ (fun _ hx => (execIslandPrepare_foot hx).mono (by decide)))
    | with_reducible apply Foot.foldl
    | with_reducible intro _ _
    | dsimp only

theorem State.cfgCommit_foot {s x1} : Foot 469603932 s (State.cfgCommit s x1) := by
  unfold State.cfgCommit
  try dsimp only
  repeat' first
    | with_reducible apply Foot.refl
    | with_reducible_and_instances rfl
    | with_reducible apply Foot.via State.cfgResult_foot
    | with_reducible apply Foot.via State.cfgStop_foot
    | with_reducible apply Foot.via State.closeSet_foot
    | with_reducible apply Foot.via State.prepareAll_foot
    | (with_reducible apply Foot.after _ (fun _ hx => (execCommitApply_foot hx).mono (by decide)))
    | (with_reducible apply Foot.after _ (fun _ hx => (execCommitDecision_foot hx).mono (by decide)))
    | with_reducible apply Foot.ite
    | split
    | with_reducible apply Foot.tb
    | with_reducible apply Foot.commit
    | with_reducible refine Foot.many rfl (h := ?_)

theorem State.writeBlocks_foot {s x1 x2} : Foot 1006632568 s (State.writeBlocks s x1 x2).1 := by
  induction x2 generalizing s x1 with
  | nil => simp only [State.writeBlocks]; exact Foot.refl
  | cons v vs ih =>
    rw [State.writeBlocks]
    try dsimp only
    repeat' first
      | with_reducible apply Foot.refl
      | with_reducible assumption
      | with_reducible_and_instances rfl
      | with_reducible apply Foot.then_ ih
      | with_reducible apply Foot.via State.writeMany_foot
      | with_reducible refine Foot.via (State.writeMany_foot' (by assumption)) (by decide) ?_
      | split
      | dsimp only

theorem State.writeBlocks_foot' {s x1 x2 t c0} (h : State.writeBlocks s x1 x2 = (t, c0)) : Foot 1006632568 s t := by
  have k : Foot 1006632568 s (State.writeBlocks s x1 x2).1 := State.writeBlocks_foot
  rwa [h] at k

theorem State.bootConfig_foot {s} : Foot 1006632572 s (State.bootConfig s) := by
  unfold State.bootConfig
  try dsimp only
  repeat' first
    | with_reducible apply Foot.refl
    | with_reducible_and_instances rfl
    | with_reducible apply Foot.via State.cfgCommit_foot
    | with_reducible apply Foot.via State.cfgResult_foot
    | with_reducible apply Foot.via State.cfgStop_foot
    | with_reducible apply Foot.via State.report_foot
    | with_reducible apply Foot.via State.writeBlocks_foot
    | with_reducible refine Foot.via (State.writeBlocks_foot' (by assumption)) (by decide) ?_
    | with_reducible apply Foot.ite
    | split
    | with_reducible apply Foot.pwr

theorem State.bootFuses_foot {s} : Foot 16780800 s (State.bootFuses s) := by
  unfold State.bootFuses
  try dsimp only
  repeat' first
    | with_reducible apply Foot.refl
    | with_reducible_and_instances rfl
    | with_reducible apply Foot.via State.fuseShadow_foot
    | with_reducible apply Foot.forUpTo
    | with_reducible intro _ _
    | with_reducible apply Foot.lat
    | dsimp only

theorem State.bootImage_foot {s} : Foot 16784640 s (State.bootImage s) := by
  unfold State.bootImage
  try dsimp only
  repeat' first
    | with_reducible apply Foot.refl
    | with_reducible_and_instances rfl
    | with_reducible apply Foot.via State.report_foot
    | with_reducible apply Foot.ite
    | split
    | with_reducible apply Foot.sup
    | with_reducible apply Foot.fus
    | with_reducible apply Foot.pwr
    | with_reducible refine Foot.many rfl (h := ?_)
    | dsimp only

theorem State.bootRow_foot {s x1} : Foot 16778752 s (State.bootRow s x1) := by
  unfold State.bootRow
  try dsimp only
  repeat' first
    | with_reducible apply Foot.refl
    | with_reducible_and_instances rfl
    | with_reducible apply Foot.via State.report_foot
    | with_reducible apply Foot.ite
    | split
    | with_reducible apply Foot.lat
    | dsimp only

theorem State.bootLattice_foot {s x1} : Foot 16778752 s (State.bootLattice s x1) := by
  unfold State.bootLattice
  refine Foot.lat_mem rfl (fun _ => rfl) ?_
  repeat' first
    | with_reducible apply Foot.refl
    | with_reducible_and_instances rfl
    | with_reducible apply Foot.via State.bootRow_foot
    | with_reducible apply Foot.ite
    | with_reducible apply Foot.foldl
    | with_reducible intro _ _
    | split
    | with_reducible apply Foot.lat
    | dsimp only

theorem State.bootReady_foot {s x1} : Foot 151033348 s (State.bootReady s x1) := by
  unfold State.bootReady
  try dsimp only
  repeat' first
    | with_reducible apply Foot.refl
    | with_reducible_and_instances rfl
    | with_reducible apply Foot.via State.readTables_foot
    | (with_reducible apply Foot.after _ (fun _ hx => (execLoad_foot hx).mono (by decide)))
    | with_reducible apply Foot.ite
    | split
    | with_reducible apply Foot.tb
    | with_reducible apply Foot.pwr
    | with_reducible refine Foot.many rfl (h := ?_)

theorem State.freeLatches_foot {s} : Foot 1024 s (State.freeLatches s) := by
  unfold State.freeLatches
  try dsimp only
  repeat' first
    | with_reducible apply Foot.refl
    | with_reducible_and_instances rfl
    | with_reducible apply Foot.via State.arrive_foot
    | with_reducible apply Foot.foldl
    | with_reducible intro _ _
    | with_reducible apply Foot.irc
    | dsimp only

theorem State.bootStart_foot {s} : Foot 37754152 s (State.bootStart s) := by
  unfold State.bootStart
  dsimp only
  refine Foot.via State.freeLatches_foot (by decide) ?_
  refine Foot.via State.elxReset_foot (by decide) ?_
  exact Foot.many rfl (hm := ⟨id, fun hx => Tbl.wf_filter hx, id⟩) (h := Foot.refl)

theorem State.fuseTorn_foot {s} : Foot 2050 s (State.fuseTorn s) := by
  unfold State.fuseTorn
  try dsimp only
  repeat' first
    | with_reducible apply Foot.refl
    | with_reducible_and_instances rfl
    | with_reducible apply Foot.via State.freeVal_foot
    | with_reducible refine Foot.via (State.freeVal_foot' (by assumption)) (by decide) ?_
    | split
    | with_reducible apply Foot.fus
    | dsimp only

theorem State.deviceReset_foot {s x1} : Foot 1006632958 s (State.deviceReset s x1) := by
  unfold State.deviceReset
  dsimp only
  refine Foot.via State.report_foot (by decide) ?_
  exact Foot.many (t := s.fuseTorn) rfl (hm := ⟨id, fun hx => Tbl.wf_filter hx, id⟩) (h := Foot.via State.fuseTorn_foot (by decide) Foot.refl)

theorem State.domainsBack_foot {s} : Foot 39850152 s (State.domainsBack s) := by
  unfold State.domainsBack
  try dsimp only
  repeat' first
    | with_reducible apply Foot.refl
    | with_reducible_and_instances rfl
    | with_reducible apply Foot.via State.domainOn_foot
    | with_reducible apply Foot.via State.setDom_foot
    | with_reducible apply Foot.ite
    | with_reducible apply Foot.forUpTo
    | with_reducible intro _ _
    | split
    | dsimp only

theorem State.holdSave_foot {s} : Foot 16814592 s (State.holdSave s) := by
  unfold State.holdSave
  try dsimp only
  repeat' first
    | with_reducible apply Foot.refl
    | with_reducible_and_instances rfl
    | with_reducible apply Foot.via State.beginSave_foot
    | with_reducible apply Foot.via State.writeTables_foot
    | with_reducible apply Foot.pwr
    | with_reducible apply Foot.tan
    | with_reducible refine Foot.many rfl (h := ?_)

theorem State.loseDomains_foot {s x1} : Foot 335538168 s (State.loseDomains s x1) := by
  unfold State.loseDomains
  extract_lets s1 link
  have h1 : Foot 4194304 s s1 := by
    refine Foot.forUpTo Foot.refl (fun d u => ?_)
    refine Foot.ite ?_ Foot.refl
    refine Foot.lan_mem (by decide) (fun hx => Tbl.wf_filter hx) ?_
    exact Foot.via State.clusterReset_foot (by decide) (Foot.via State.clusterReset_foot (by decide) Foot.refl)
  clear_value s1
  have h2 : Foot 335538168 s link := by
    refine Foot.ite ?_ (h1.mono (by decide))
    exact Foot.many rfl (h := h1.mono (by decide))
  have hl : link.lat = s1.lat := by
    simp only [link]
    split <;> rfl
  clear_value link
  refine Foot.many (t := link) rfl (hm := ⟨fun hx => ?_, id, id⟩) (h := h2)
  split
  · rfl
  · rwa [hl] at hx

theorem State.enterRung_foot {s x1} : Foot 335542264 s (State.enterRung s x1) := by
  unfold State.enterRung
  try dsimp only
  repeat' first
    | with_reducible apply Foot.refl
    | with_reducible_and_instances rfl
    | with_reducible apply Foot.via State.elxAllDown_foot
    | with_reducible apply Foot.via State.holdSave_foot
    | with_reducible apply Foot.via State.joinFail_foot
    | with_reducible apply Foot.via State.linkDown_foot
    | with_reducible apply Foot.via State.loseDomains_foot
    | with_reducible apply Foot.via State.setDom_foot
    | with_reducible apply Foot.ite
    | with_reducible apply Foot.forUpTo
    | with_reducible intro _ _
    | split
    | with_reducible apply Foot.pwr
    | dsimp only

theorem State.hostlessStop_foot {s} : Foot 153162760 s (State.hostlessStop s) := by
  unfold State.hostlessStop
  try dsimp only
  repeat' first
    | with_reducible apply Foot.refl
    | with_reducible_and_instances rfl
    | with_reducible apply Foot.via State.driveApply_foot
    | with_reducible apply Foot.via State.ignVlvApply_foot
    | with_reducible apply Foot.via State.report_foot
    | with_reducible apply Foot.via State.setCfg_foot
    | (with_reducible apply Foot.after _ (fun _ hx => (execSoft_foot hx).mono (by decide)))
    | with_reducible apply Foot.forUpTo
    | with_reducible intro _ _
    | with_reducible apply Foot.pwr
    | dsimp only

theorem State.rebuildCopies_foot {s} : Foot 162268744 s (State.rebuildCopies s) := by
  unfold State.rebuildCopies
  try dsimp only
  repeat' first
    | with_reducible apply Foot.refl
    | with_reducible_and_instances rfl
    | with_reducible apply Foot.via State.arcApply_foot
    | with_reducible apply Foot.via State.arcPrepare_foot
    | with_reducible apply Foot.via State.drivePrepare_foot
    | with_reducible apply Foot.via State.profApply_foot
    | with_reducible apply Foot.ite
    | split
    | with_reducible apply Foot.commit
    | dsimp only

theorem State.leaveHold_foot {s} : Foot 200054504 s (State.leaveHold s) := by
  unfold State.leaveHold
  try dsimp only
  repeat' first
    | with_reducible apply Foot.refl
    | with_reducible_and_instances rfl
    | with_reducible apply Foot.via State.domainsBack_foot
    | with_reducible apply Foot.via State.elxReset_foot
    | with_reducible apply Foot.via State.readTables_foot
    | with_reducible apply Foot.via State.rebuildCopies_foot
    | with_reducible apply Foot.regs
    | with_reducible apply Foot.pwr
    | with_reducible refine Foot.many rfl (h := ?_)

theorem State.restoreTime_foot {s x1 x2} : Foot 16782372 s (State.restoreTime s x1 x2) := by
  unfold State.restoreTime
  try dsimp only
  repeat' first
    | with_reducible apply Foot.refl
    | with_reducible_and_instances rfl
    | with_reducible apply Foot.via State.report_foot
    | with_reducible apply Foot.tb
    | with_reducible apply Foot.time
    | with_reducible apply Foot.pwr
    | with_reducible refine Foot.many rfl (h := ?_)

theorem State.wakeDone_foot {s x1} : Foot 16782336 s (State.wakeDone s x1) := by
  unfold State.wakeDone
  try dsimp only
  repeat' first
    | with_reducible apply Foot.refl
    | with_reducible_and_instances rfl
    | with_reducible apply Foot.via State.report_foot
    | with_reducible apply Foot.pwr

theorem execCfgEraseDone_foot {s t} (h : execCfgEraseDone s = .next t) : Foot 4096 s t := by
  unfold execCfgEraseDone at h
  injection h with h
  subst h
  try dsimp only
  repeat' first
    | with_reducible apply Foot.refl
    | with_reducible_and_instances rfl
    | with_reducible apply Foot.pwr
    | dsimp only

theorem execCfgerase_foot {s t} (h : execCfgerase s = .next t) : Foot 151133184 s t := by
  unfold execCfgerase at h
  injection h with h
  subst h
  try dsimp only
  repeat' first
    | with_reducible apply Foot.refl
    | with_reducible_and_instances rfl
    | with_reducible apply Foot.via State.finishPacket_foot
    | with_reducible apply Foot.via State.flashErase_foot
    | with_reducible refine Foot.take (by decide) ?_ (fun _ _ _ _ => ?_)
    | with_reducible apply Foot.ite
    | split
    | with_reducible apply Foot.pwr
    | dsimp only

theorem execCfgstore_foot {s t} (h : execCfgstore s = .next t) : Foot 151129088 s t := by
  unfold execCfgstore at h
  injection h with h
  subst h
  try dsimp only
  repeat' first
    | with_reducible apply Foot.refl
    | with_reducible_and_instances rfl
    | with_reducible apply Foot.via State.finishPacket_foot
    | with_reducible apply Foot.via State.flashPuts_foot
    | with_reducible refine Foot.take (by decide) ?_ (fun _ _ _ _ => ?_)
    | with_reducible apply Foot.ite
    | split
    | dsimp only

theorem execColdBoot_foot {x0 x1 x2 s t} (h : execColdBoot x0 x1 x2 s = .next t) : Foot 1006632828 s t := by
  unfold execColdBoot at h
  injection h with h
  subst h
  try dsimp only
  repeat' first
    | with_reducible apply Foot.refl
    | with_reducible_and_instances rfl
    | with_reducible apply Foot.via State.bootConfig_foot
    | with_reducible apply Foot.via State.bootFuses_foot
    | with_reducible apply Foot.via State.bootImage_foot
    | with_reducible apply Foot.via State.bootLattice_foot
    | with_reducible apply Foot.via State.bootReady_foot
    | with_reducible apply Foot.via State.bootStart_foot
    | with_reducible apply Foot.ite
    | split
    | with_reducible apply Foot.tb
    | with_reducible apply Foot.pwr
    | with_reducible refine Foot.many rfl (h := ?_)
    | dsimp only

theorem execCommandReset_foot {s t} (h : execCommandReset s = .next t) : Foot 1006632958 s t := by
  unfold execCommandReset at h
  injection h with h
  subst h
  try dsimp only
  repeat' first
    | with_reducible apply Foot.refl
    | with_reducible_and_instances rfl
    | with_reducible apply Foot.via State.deviceReset_foot
    | with_reducible apply Foot.ite
    | split
    | dsimp only

theorem execFlashEraseDone_foot {s t} (h : execFlashEraseDone s = .next t) : Foot 2048 s t := by
  unfold execFlashEraseDone at h
  injection h with h
  subst h
  try dsimp only
  repeat' first
    | with_reducible apply Foot.refl
    | with_reducible_and_instances rfl
    | with_reducible apply Foot.ite
    | split
    | with_reducible apply Foot.fus
    | dsimp only

theorem execFwclose_foot {s t} (h : execFwclose s = .next t) : Foot 151129088 s t := by
  unfold execFwclose at h
  injection h with h
  subst h
  try dsimp only
  repeat' first
    | with_reducible apply Foot.refl
    | with_reducible_and_instances rfl
    | with_reducible apply Foot.via State.finishPacket_foot
    | with_reducible refine Foot.take (by decide) ?_ (fun _ _ _ _ => ?_)
    | with_reducible apply Foot.ite
    | split
    | with_reducible apply Foot.fus
    | dsimp only

theorem execFwdata_foot {s t} (h : execFwdata s = .next t) : Foot 151129088 s t := by
  unfold execFwdata at h
  injection h with h
  subst h
  try dsimp only
  repeat' first
    | with_reducible apply Foot.refl
    | with_reducible_and_instances rfl
    | with_reducible apply Foot.via State.finishPacket_foot
    | with_reducible apply Foot.via State.flashPuts_foot
    | with_reducible refine Foot.take (by decide) ?_ (fun _ _ _ _ => ?_)
    | with_reducible apply Foot.ite
    | split
    | with_reducible apply Foot.fus
    | dsimp only

theorem execFwopen_foot {s t} (h : execFwopen s = .next t) : Foot 151133184 s t := by
  unfold execFwopen at h
  injection h with h
  subst h
  try dsimp only
  repeat' first
    | with_reducible apply Foot.refl
    | with_reducible_and_instances rfl
    | with_reducible apply Foot.via State.finishPacket_foot
    | with_reducible apply Foot.via State.flashErase_foot
    | with_reducible refine Foot.take (by decide) ?_ (fun _ _ _ _ => ?_)
    | with_reducible apply Foot.ite
    | split
    | with_reducible apply Foot.fus
    | with_reducible apply Foot.pwr
    | with_reducible refine Foot.many rfl (h := ?_)
    | dsimp only

theorem execHostlessLimit_foot {s t} (h : execHostlessLimit s = .next t) : Foot 153162760 s t := by
  unfold execHostlessLimit at h
  injection h with h
  subst h
  try dsimp only
  repeat' first
    | with_reducible apply Foot.refl
    | with_reducible_and_instances rfl
    | with_reducible apply Foot.via State.hostlessStop_foot
    | with_reducible apply Foot.ite
    | split
    | dsimp only

theorem execKeepTimerExpiry_foot {s t} (h : execKeepTimerExpiry s = .next t) : Foot 134222848 s t := by
  unfold execKeepTimerExpiry at h
  injection h with h
  subst h
  try dsimp only
  repeat' first
    | with_reducible apply Foot.refl
    | with_reducible_and_instances rfl
    | with_reducible apply Foot.via State.latchSet_foot
    | with_reducible apply Foot.ite
    | split
    | with_reducible apply Foot.pwr
    | dsimp only

theorem execPinReset_foot {x0 s t} (h : execPinReset x0 s = .next t) : Foot 1006632958 s t := by
  unfold execPinReset at h
  injection h with h
  subst h
  try dsimp only
  repeat' first
    | with_reducible apply Foot.refl
    | with_reducible_and_instances rfl
    | with_reducible apply Foot.via State.deviceReset_foot
    | with_reducible apply Foot.via State.freeVal_foot
    | with_reducible refine Foot.via (State.freeVal_foot' (by assumption)) (by decide) ?_
    | with_reducible apply Foot.via State.fuseTorn_foot
    | with_reducible apply Foot.ite
    | split
    | dsimp only

theorem execPowerOnReset_foot {s t} (h : execPowerOnReset s = .next t) : Foot 1006632958 s t := by
  unfold execPowerOnReset at h
  injection h with h
  subst h
  try dsimp only
  repeat' first
    | with_reducible apply Foot.refl
    | with_reducible_and_instances rfl
    | with_reducible apply Foot.via State.deviceReset_foot
    | dsimp only

theorem execReadyPulseEnd_foot {s t} (h : execReadyPulseEnd s = .next t) : Foot 1006632958 s t := by
  unfold execReadyPulseEnd at h
  injection h with h
  subst h
  try dsimp only
  repeat' first
    | with_reducible apply Foot.refl
    | with_reducible_and_instances rfl
    | with_reducible exact (execCommandReset_foot (by assumption)).mono (by decide)
    | with_reducible refine Foot.via (execCommandReset_foot (by assumption)) (by decide) ?_
    | with_reducible apply Foot.ite
    | split
    | with_reducible apply Foot.pwr
    | dsimp only

theorem execReset_foot {s t} (h : execReset s = .next t) : Foot 151131136 s t := by
  unfold execReset at h
  injection h with h
  subst h
  try dsimp only
  repeat' first
    | with_reducible apply Foot.refl
    | with_reducible_and_instances rfl
    | with_reducible apply Foot.via State.finishPacket_foot
    | with_reducible refine Foot.take (by decide) ?_ (fun _ _ _ _ => ?_)
    | with_reducible apply Foot.ite
    | split
    | with_reducible apply Foot.pwr
    | dsimp only

theorem execRung_foot {s t} (h : execRung s = .next t) : Foot 151131136 s t := by
  unfold execRung at h
  injection h with h
  subst h
  try dsimp only
  repeat' first
    | with_reducible apply Foot.refl
    | with_reducible_and_instances rfl
    | with_reducible apply Foot.via State.finishPacket_foot
    | with_reducible refine Foot.take (by decide) ?_ (fun _ _ _ _ => ?_)
    | with_reducible apply Foot.ite
    | split
    | with_reducible apply Foot.pwr
    | dsimp only

theorem execRungEntry_foot {s t} (h : execRungEntry s = .next t) : Foot 335542264 s t := by
  unfold execRungEntry at h
  injection h with h
  subst h
  try dsimp only
  repeat' first
    | with_reducible apply Foot.refl
    | with_reducible_and_instances rfl
    | with_reducible apply Foot.via State.enterRung_foot
    | with_reducible apply Foot.ite
    | split
    | dsimp only

theorem execRungExit_foot {x0 s t} (h : execRungExit x0 s = .next t) : Foot 1006632958 s t := by
  unfold execRungExit at h
  injection h with h
  subst h
  try dsimp only
  repeat' first
    | with_reducible apply Foot.refl
    | with_reducible_and_instances rfl
    | with_reducible apply Foot.via State.deviceReset_foot
    | with_reducible apply Foot.via State.domainsBack_foot
    | with_reducible apply Foot.via State.freeLatches_foot
    | with_reducible apply Foot.via State.leaveHold_foot
    | with_reducible apply Foot.via State.restoreTime_foot
    | with_reducible apply Foot.via State.wakeDone_foot
    | with_reducible apply Foot.ite
    | split
    | with_reducible apply Foot.fus
    | with_reducible apply Foot.pwr
    | with_reducible refine Foot.many rfl (h := ?_)
    | dsimp only

theorem execSupplyReset_foot {s t} (h : execSupplyReset s = .next t) : Foot 1006632958 s t := by
  unfold execSupplyReset at h
  injection h with h
  subst h
  try dsimp only
  repeat' first
    | with_reducible apply Foot.refl
    | with_reducible_and_instances rfl
    | with_reducible apply Foot.via State.deviceReset_foot
    | with_reducible apply Foot.ite
    | split
    | dsimp only

end Sys2Proof.Machine
end

