-- ==== Sys2Proof/Laws/FootJtag.lean ====
section
/-! SUPPORT. Footprints of the operations of Machine/Jtag.lean. -/

namespace Sys2Proof.Machine

theorem State.tapFall_foot {s} : Foot 67108864 s (State.tapFall s) := by
  unfold State.tapFall
  try dsimp only
  repeat' first
    | with_reducible apply Foot.refl
    | with_reducible_and_instances rfl
    | with_reducible apply Foot.ite
    | split
    | with_reducible apply Foot.tap

theorem State.tapRise_foot {s x1 x2} : Foot 67108866 s (State.tapRise s x1 x2) := by
  unfold State.tapRise
  try dsimp only
  repeat' first
    | with_reducible apply Foot.refl
    | with_reducible_and_instances rfl
    | with_reducible apply Foot.via State.freeVal_foot
    | with_reducible refine Foot.via (State.freeVal_foot' (by assumption)) (by decide) ?_
    | with_reducible apply Foot.ite
    | split
    | with_reducible apply Foot.tap
    | dsimp only

theorem execTckEdge_foot {x0 x1 x2 x3 s t} (h : execTckEdge x0 x1 x2 x3 s = .next t) : Foot 67108866 s t := by
  unfold execTckEdge at h
  injection h with h
  subst h
  try dsimp only
  repeat' first
    | with_reducible apply Foot.refl
    | with_reducible_and_instances rfl
    | with_reducible apply Foot.via State.tapFall_foot
    | with_reducible apply Foot.via State.tapRise_foot
    | with_reducible apply Foot.ite
    | split
    | with_reducible apply Foot.tap
    | dsimp only

end Sys2Proof.Machine
end

