-- ==== Sys2Proof/Laws/FootTick.lean ====
section
/-! SUPPORT. Footprints of the operations of Machine/Tick.lean. -/

namespace Sys2Proof.Machine

/-- What a tick does after the pair's own work. -/
theorem State.tickEnd_foot {s} :
    Foot 1006632574 s ({ s with lan := { s.lan with u0 := (s.unitZero :: s.lan.u0).take 12 } }.nextTick.beginTick) :=
  Foot.via State.beginTick_foot (by decide) (Foot.via State.nextTick_foot (by decide) (Foot.lan (by decide) rfl Foot.refl))

theorem State.runTick_foot {s} : Foot 1006632574 s (State.runTick s) := by
  unfold State.runTick
  refine Foot.trans ?_ State.tickEnd_foot
  refine Foot.via State.twnTick_foot (by decide) ?_
  refine Foot.forUpTo (Foot.via State.endTick_foot (by decide) Foot.refl) ?_
  exact fun l u => Foot.via State.laneTick_foot (by decide) (Foot.via State.parityTick_foot (by decide) Foot.refl)

theorem State.tick_foot {s} : Foot 1006632574 s (State.tick s) := by
  unfold State.tick
  try dsimp only
  repeat' first
    | with_reducible apply Foot.refl
    | with_reducible_and_instances rfl
    | with_reducible apply Foot.via State.runTick_foot
    | with_reducible apply Foot.ite
    | split
    | with_reducible apply Foot.tb

end Sys2Proof.Machine
end

