-- ==== Sys2Proof/Laws/Frames.lean ====
section
/-! SUPPORT. From a footprint to the parts of the state that are as they were. -/

namespace Sys2Proof.Machine

/-- The bit of a footprint that stands for a part of the state. -/
def Part.place : Part → Nat
  | .queue => 0 | .free => 1 | .timeBase => 2 | .registers => 3 | .staged => 4 | .time => 5 | .commit => 6 | .bridge => 7
  | .supervisors => 8 | .lattice => 9 | .interrupts => 10 | .fuses => 11 | .power => 12 | .crank => 13 | .sync => 14
  | .tangent => 15 | .events => 16 | .ports => 17 | .arcs => 18 | .combustion => 19 | .feedback => 20 | .drive => 21
  | .lanes => 22 | .dma => 23 | .twin => 24 | .elrex => 25 | .tap => 26
  | .marks => 27 | .work => 28 | .image => 29

/-- A part whose bit is not in the footprint is as it was. -/
theorem Foot.same {m : Nat} {s t : State} (h : Foot m s t) (p : Part) (hp : m.testBit p.place = false) : p.same s t := by
  have h1 := h.1
  simp only [State.wipe, State.mk.injEq] at h1
  cases p <;> simp only [Part.place] at hp <;> simp only [hp, cond_false] at h1 <;> simp only [Part.same, h1]

/-- Only the parts in a list change, where every other part's bit is not in the footprint. -/
theorem Foot.only {m : Nat} {s t : State} {ps : List Part} (h : Foot m s t)
    (hp : ∀ p : Part, p ∉ ps → m.testBit p.place = false) : onlyChanges ps s t :=
  fun p k => h.same p (hp p k)

/-- The memories keep their canonical form. -/
theorem Foot.keeps_memories {m : Nat} {s t : State} (h : Foot m s t) (w : s.memoriesWf = true) : t.memoriesWf = true := h.2 w

/-- Every part is in the list of all parts. -/
theorem Part.forall_iff {q : Part → Prop} : (∀ p, q p) ↔ ∀ p ∈ ([.queue, .free, .timeBase, .registers, .staged, .time, .commit, .bridge,
    .supervisors, .lattice, .interrupts, .fuses, .power, .crank, .sync, .tangent, .events, .ports, .arcs, .combustion, .feedback, .drive,
    .lanes, .dma, .twin, .elrex, .tap, .marks, .work, .image] : List Part), q p :=
  ⟨fun h p _ => h p, fun h p => h p (by cases p <;> decide)⟩

end Sys2Proof.Machine
end

