-- ==== Sys2Proof/Laws/State.lean ====
section
/-! SUPPORT. What the named updates of the state leave as it was, field by field, and what they are read back as. -/

namespace Sys2Proof.Machine

/-! ### setArc -/

@[simp] theorem State.setArc_pending (s : State) (n : Nat) (v : Arc) : (s.setArc n v).pending = s.pending := rfl
@[simp] theorem State.setArc_free (s : State) (n : Nat) (v : Arc) : (s.setArc n v).free = s.free := rfl
@[simp] theorem State.setArc_tb (s : State) (n : Nat) (v : Arc) : (s.setArc n v).tb = s.tb := rfl
@[simp] theorem State.setArc_regs (s : State) (n : Nat) (v : Arc) : (s.setArc n v).regs = s.regs := rfl
@[simp] theorem State.setArc_staged (s : State) (n : Nat) (v : Arc) : (s.setArc n v).staged = s.staged := rfl
@[simp] theorem State.setArc_time (s : State) (n : Nat) (v : Arc) : (s.setArc n v).time = s.time := rfl
@[simp] theorem State.setArc_commit (s : State) (n : Nat) (v : Arc) : (s.setArc n v).commit = s.commit := rfl
@[simp] theorem State.setArc_bridge (s : State) (n : Nat) (v : Arc) : (s.setArc n v).bridge = s.bridge := rfl
@[simp] theorem State.setArc_sup (s : State) (n : Nat) (v : Arc) : (s.setArc n v).sup = s.sup := rfl
@[simp] theorem State.setArc_lat (s : State) (n : Nat) (v : Arc) : (s.setArc n v).lat = s.lat := rfl
@[simp] theorem State.setArc_irc (s : State) (n : Nat) (v : Arc) : (s.setArc n v).irc = s.irc := rfl
@[simp] theorem State.setArc_fus (s : State) (n : Nat) (v : Arc) : (s.setArc n v).fus = s.fus := rfl
@[simp] theorem State.setArc_pwr (s : State) (n : Nat) (v : Arc) : (s.setArc n v).pwr = s.pwr := rfl
@[simp] theorem State.setArc_wheel (s : State) (n : Nat) (v : Arc) : (s.setArc n v).wheel = s.wheel := rfl
@[simp] theorem State.setArc_sync (s : State) (n : Nat) (v : Arc) : (s.setArc n v).sync = s.sync := rfl
@[simp] theorem State.setArc_tan (s : State) (n : Nat) (v : Arc) : (s.setArc n v).tan = s.tan := rfl
@[simp] theorem State.setArc_evq (s : State) (n : Nat) (v : Arc) : (s.setArc n v).evq = s.evq := rfl
@[simp] theorem State.setArc_cmd (s : State) (n : Nat) (v : Arc) : (s.setArc n v).cmd = s.cmd := rfl
@[simp] theorem State.setArc_cmb (s : State) (n : Nat) (v : Arc) : (s.setArc n v).cmb = s.cmb := rfl
@[simp] theorem State.setArc_fbk (s : State) (n : Nat) (v : Arc) : (s.setArc n v).fbk = s.fbk := rfl
@[simp] theorem State.setArc_drv (s : State) (n : Nat) (v : Arc) : (s.setArc n v).drv = s.drv := rfl
@[simp] theorem State.setArc_lan (s : State) (n : Nat) (v : Arc) : (s.setArc n v).lan = s.lan := rfl
@[simp] theorem State.setArc_dma (s : State) (n : Nat) (v : Arc) : (s.setArc n v).dma = s.dma := rfl
@[simp] theorem State.setArc_twn (s : State) (n : Nat) (v : Arc) : (s.setArc n v).twn = s.twn := rfl
@[simp] theorem State.setArc_elx (s : State) (n : Nat) (v : Arc) : (s.setArc n v).elx = s.elx := rfl
@[simp] theorem State.setArc_tap (s : State) (n : Nat) (v : Arc) : (s.setArc n v).tap = s.tap := rfl
@[simp] theorem State.setArc_hits (s : State) (n : Nat) (v : Arc) : (s.setArc n v).hits = s.hits := rfl
@[simp] theorem State.setArc_agenda (s : State) (n : Nat) (v : Arc) : (s.setArc n v).agenda = s.agenda := rfl
@[simp] theorem State.setArc_image (s : State) (n : Nat) (v : Arc) : (s.setArc n v).image = s.image := rfl

@[simp] theorem State.arcOf_setArc (s : State) (n : Nat) (v : Arc) : (s.setArc n v).arcOf n = v := Tbl.get_put_same _ _ _ _
@[simp] theorem State.arcOf_setArc_other (s : State) (n : Nat) (v : Arc) {i : Nat} (h : i ≠ n) : (s.setArc n v).arcOf i = s.arcOf i :=
  Tbl.get_put_other _ h _ _

/-! ### setConv -/

@[simp] theorem State.setConv_pending (s : State) (n : Nat) (v : Conv) : (s.setConv n v).pending = s.pending := rfl
@[simp] theorem State.setConv_free (s : State) (n : Nat) (v : Conv) : (s.setConv n v).free = s.free := rfl
@[simp] theorem State.setConv_tb (s : State) (n : Nat) (v : Conv) : (s.setConv n v).tb = s.tb := rfl
@[simp] theorem State.setConv_regs (s : State) (n : Nat) (v : Conv) : (s.setConv n v).regs = s.regs := rfl
@[simp] theorem State.setConv_staged (s : State) (n : Nat) (v : Conv) : (s.setConv n v).staged = s.staged := rfl
@[simp] theorem State.setConv_time (s : State) (n : Nat) (v : Conv) : (s.setConv n v).time = s.time := rfl
@[simp] theorem State.setConv_commit (s : State) (n : Nat) (v : Conv) : (s.setConv n v).commit = s.commit := rfl
@[simp] theorem State.setConv_bridge (s : State) (n : Nat) (v : Conv) : (s.setConv n v).bridge = s.bridge := rfl
@[simp] theorem State.setConv_sup (s : State) (n : Nat) (v : Conv) : (s.setConv n v).sup = s.sup := rfl
@[simp] theorem State.setConv_lat (s : State) (n : Nat) (v : Conv) : (s.setConv n v).lat = s.lat := rfl
@[simp] theorem State.setConv_irc (s : State) (n : Nat) (v : Conv) : (s.setConv n v).irc = s.irc := rfl
@[simp] theorem State.setConv_fus (s : State) (n : Nat) (v : Conv) : (s.setConv n v).fus = s.fus := rfl
@[simp] theorem State.setConv_pwr (s : State) (n : Nat) (v : Conv) : (s.setConv n v).pwr = s.pwr := rfl
@[simp] theorem State.setConv_wheel (s : State) (n : Nat) (v : Conv) : (s.setConv n v).wheel = s.wheel := rfl
@[simp] theorem State.setConv_sync (s : State) (n : Nat) (v : Conv) : (s.setConv n v).sync = s.sync := rfl
@[simp] theorem State.setConv_tan (s : State) (n : Nat) (v : Conv) : (s.setConv n v).tan = s.tan := rfl
@[simp] theorem State.setConv_evq (s : State) (n : Nat) (v : Conv) : (s.setConv n v).evq = s.evq := rfl
@[simp] theorem State.setConv_cmd (s : State) (n : Nat) (v : Conv) : (s.setConv n v).cmd = s.cmd := rfl
@[simp] theorem State.setConv_cmb (s : State) (n : Nat) (v : Conv) : (s.setConv n v).cmb = s.cmb := rfl
@[simp] theorem State.setConv_fbk (s : State) (n : Nat) (v : Conv) : (s.setConv n v).fbk = s.fbk := rfl
@[simp] theorem State.setConv_drv (s : State) (n : Nat) (v : Conv) : (s.setConv n v).drv = s.drv := rfl
@[simp] theorem State.setConv_lan (s : State) (n : Nat) (v : Conv) : (s.setConv n v).lan = s.lan := rfl
@[simp] theorem State.setConv_dma (s : State) (n : Nat) (v : Conv) : (s.setConv n v).dma = s.dma := rfl
@[simp] theorem State.setConv_twn (s : State) (n : Nat) (v : Conv) : (s.setConv n v).twn = s.twn := rfl
@[simp] theorem State.setConv_elx (s : State) (n : Nat) (v : Conv) : (s.setConv n v).elx = s.elx := rfl
@[simp] theorem State.setConv_tap (s : State) (n : Nat) (v : Conv) : (s.setConv n v).tap = s.tap := rfl
@[simp] theorem State.setConv_hits (s : State) (n : Nat) (v : Conv) : (s.setConv n v).hits = s.hits := rfl
@[simp] theorem State.setConv_agenda (s : State) (n : Nat) (v : Conv) : (s.setConv n v).agenda = s.agenda := rfl
@[simp] theorem State.setConv_image (s : State) (n : Nat) (v : Conv) : (s.setConv n v).image = s.image := rfl

@[simp] theorem State.convOf_setConv (s : State) (n : Nat) (v : Conv) : (s.setConv n v).convOf n = v := Tbl.get_put_same _ _ _ _
@[simp] theorem State.convOf_setConv_other (s : State) (n : Nat) (v : Conv) {i : Nat} (h : i ≠ n) : (s.setConv n v).convOf i = s.convOf i :=
  Tbl.get_put_other _ h _ _

/-! ### setChan -/

@[simp] theorem State.setChan_pending (s : State) (n : Nat) (v : Chan) : (s.setChan n v).pending = s.pending := rfl
@[simp] theorem State.setChan_free (s : State) (n : Nat) (v : Chan) : (s.setChan n v).free = s.free := rfl
@[simp] theorem State.setChan_tb (s : State) (n : Nat) (v : Chan) : (s.setChan n v).tb = s.tb := rfl
@[simp] theorem State.setChan_regs (s : State) (n : Nat) (v : Chan) : (s.setChan n v).regs = s.regs := rfl
@[simp] theorem State.setChan_staged (s : State) (n : Nat) (v : Chan) : (s.setChan n v).staged = s.staged := rfl
@[simp] theorem State.setChan_time (s : State) (n : Nat) (v : Chan) : (s.setChan n v).time = s.time := rfl
@[simp] theorem State.setChan_commit (s : State) (n : Nat) (v : Chan) : (s.setChan n v).commit = s.commit := rfl
@[simp] theorem State.setChan_bridge (s : State) (n : Nat) (v : Chan) : (s.setChan n v).bridge = s.bridge := rfl
@[simp] theorem State.setChan_sup (s : State) (n : Nat) (v : Chan) : (s.setChan n v).sup = s.sup := rfl
@[simp] theorem State.setChan_lat (s : State) (n : Nat) (v : Chan) : (s.setChan n v).lat = s.lat := rfl
@[simp] theorem State.setChan_irc (s : State) (n : Nat) (v : Chan) : (s.setChan n v).irc = s.irc := rfl
@[simp] theorem State.setChan_fus (s : State) (n : Nat) (v : Chan) : (s.setChan n v).fus = s.fus := rfl
@[simp] theorem State.setChan_pwr (s : State) (n : Nat) (v : Chan) : (s.setChan n v).pwr = s.pwr := rfl
@[simp] theorem State.setChan_wheel (s : State) (n : Nat) (v : Chan) : (s.setChan n v).wheel = s.wheel := rfl
@[simp] theorem State.setChan_sync (s : State) (n : Nat) (v : Chan) : (s.setChan n v).sync = s.sync := rfl
@[simp] theorem State.setChan_tan (s : State) (n : Nat) (v : Chan) : (s.setChan n v).tan = s.tan := rfl
@[simp] theorem State.setChan_evq (s : State) (n : Nat) (v : Chan) : (s.setChan n v).evq = s.evq := rfl
@[simp] theorem State.setChan_cmd (s : State) (n : Nat) (v : Chan) : (s.setChan n v).cmd = s.cmd := rfl
@[simp] theorem State.setChan_arcs (s : State) (n : Nat) (v : Chan) : (s.setChan n v).arcs = s.arcs := rfl
@[simp] theorem State.setChan_cmb (s : State) (n : Nat) (v : Chan) : (s.setChan n v).cmb = s.cmb := rfl
@[simp] theorem State.setChan_fbk (s : State) (n : Nat) (v : Chan) : (s.setChan n v).fbk = s.fbk := rfl
@[simp] theorem State.setChan_drv (s : State) (n : Nat) (v : Chan) : (s.setChan n v).drv = s.drv := rfl
@[simp] theorem State.setChan_lan (s : State) (n : Nat) (v : Chan) : (s.setChan n v).lan = s.lan := rfl
@[simp] theorem State.setChan_twn (s : State) (n : Nat) (v : Chan) : (s.setChan n v).twn = s.twn := rfl
@[simp] theorem State.setChan_elx (s : State) (n : Nat) (v : Chan) : (s.setChan n v).elx = s.elx := rfl
@[simp] theorem State.setChan_tap (s : State) (n : Nat) (v : Chan) : (s.setChan n v).tap = s.tap := rfl
@[simp] theorem State.setChan_hits (s : State) (n : Nat) (v : Chan) : (s.setChan n v).hits = s.hits := rfl
@[simp] theorem State.setChan_agenda (s : State) (n : Nat) (v : Chan) : (s.setChan n v).agenda = s.agenda := rfl
@[simp] theorem State.setChan_image (s : State) (n : Nat) (v : Chan) : (s.setChan n v).image = s.image := rfl

@[simp] theorem State.chan_setChan (s : State) (n : Nat) (v : Chan) : (s.setChan n v).chan n = v := Tbl.get_put_same _ _ _ _
@[simp] theorem State.chan_setChan_other (s : State) (n : Nat) (v : Chan) {i : Nat} (h : i ≠ n) : (s.setChan n v).chan i = s.chan i :=
  Tbl.get_put_other _ h _ _

/-! ### setElxPort -/

@[simp] theorem State.setElxPort_pending (s : State) (n : Nat) (v : ElxPort) : (s.setElxPort n v).pending = s.pending := rfl
@[simp] theorem State.setElxPort_free (s : State) (n : Nat) (v : ElxPort) : (s.setElxPort n v).free = s.free := rfl
@[simp] theorem State.setElxPort_tb (s : State) (n : Nat) (v : ElxPort) : (s.setElxPort n v).tb = s.tb := rfl
@[simp] theorem State.setElxPort_regs (s : State) (n : Nat) (v : ElxPort) : (s.setElxPort n v).regs = s.regs := rfl
@[simp] theorem State.setElxPort_staged (s : State) (n : Nat) (v : ElxPort) : (s.setElxPort n v).staged = s.staged := rfl
@[simp] theorem State.setElxPort_time (s : State) (n : Nat) (v : ElxPort) : (s.setElxPort n v).time = s.time := rfl
@[simp] theorem State.setElxPort_commit (s : State) (n : Nat) (v : ElxPort) : (s.setElxPort n v).commit = s.commit := rfl
@[simp] theorem State.setElxPort_bridge (s : State) (n : Nat) (v : ElxPort) : (s.setElxPort n v).bridge = s.bridge := rfl
@[simp] theorem State.setElxPort_sup (s : State) (n : Nat) (v : ElxPort) : (s.setElxPort n v).sup = s.sup := rfl
@[simp] theorem State.setElxPort_lat (s : State) (n : Nat) (v : ElxPort) : (s.setElxPort n v).lat = s.lat := rfl
@[simp] theorem State.setElxPort_irc (s : State) (n : Nat) (v : ElxPort) : (s.setElxPort n v).irc = s.irc := rfl
@[simp] theorem State.setElxPort_fus (s : State) (n : Nat) (v : ElxPort) : (s.setElxPort n v).fus = s.fus := rfl
@[simp] theorem State.setElxPort_pwr (s : State) (n : Nat) (v : ElxPort) : (s.setElxPort n v).pwr = s.pwr := rfl
@[simp] theorem State.setElxPort_wheel (s : State) (n : Nat) (v : ElxPort) : (s.setElxPort n v).wheel = s.wheel := rfl
@[simp] theorem State.setElxPort_sync (s : State) (n : Nat) (v : ElxPort) : (s.setElxPort n v).sync = s.sync := rfl
@[simp] theorem State.setElxPort_tan (s : State) (n : Nat) (v : ElxPort) : (s.setElxPort n v).tan = s.tan := rfl
@[simp] theorem State.setElxPort_evq (s : State) (n : Nat) (v : ElxPort) : (s.setElxPort n v).evq = s.evq := rfl
@[simp] theorem State.setElxPort_cmd (s : State) (n : Nat) (v : ElxPort) : (s.setElxPort n v).cmd = s.cmd := rfl
@[simp] theorem State.setElxPort_arcs (s : State) (n : Nat) (v : ElxPort) : (s.setElxPort n v).arcs = s.arcs := rfl
@[simp] theorem State.setElxPort_cmb (s : State) (n : Nat) (v : ElxPort) : (s.setElxPort n v).cmb = s.cmb := rfl
@[simp] theorem State.setElxPort_fbk (s : State) (n : Nat) (v : ElxPort) : (s.setElxPort n v).fbk = s.fbk := rfl
@[simp] theorem State.setElxPort_drv (s : State) (n : Nat) (v : ElxPort) : (s.setElxPort n v).drv = s.drv := rfl
@[simp] theorem State.setElxPort_lan (s : State) (n : Nat) (v : ElxPort) : (s.setElxPort n v).lan = s.lan := rfl
@[simp] theorem State.setElxPort_dma (s : State) (n : Nat) (v : ElxPort) : (s.setElxPort n v).dma = s.dma := rfl
@[simp] theorem State.setElxPort_twn (s : State) (n : Nat) (v : ElxPort) : (s.setElxPort n v).twn = s.twn := rfl
@[simp] theorem State.setElxPort_tap (s : State) (n : Nat) (v : ElxPort) : (s.setElxPort n v).tap = s.tap := rfl
@[simp] theorem State.setElxPort_hits (s : State) (n : Nat) (v : ElxPort) : (s.setElxPort n v).hits = s.hits := rfl
@[simp] theorem State.setElxPort_agenda (s : State) (n : Nat) (v : ElxPort) : (s.setElxPort n v).agenda = s.agenda := rfl
@[simp] theorem State.setElxPort_image (s : State) (n : Nat) (v : ElxPort) : (s.setElxPort n v).image = s.image := rfl

@[simp] theorem State.elxPort_setElxPort (s : State) (n : Nat) (v : ElxPort) : (s.setElxPort n v).elxPort n = v := Tbl.get_put_same _ _ _ _
@[simp] theorem State.elxPort_setElxPort_other (s : State) (n : Nat) (v : ElxPort) {i : Nat} (h : i ≠ n) : (s.setElxPort n v).elxPort i = s.elxPort i :=
  Tbl.get_put_other _ h _ _

/-! ### setBank -/

@[simp] theorem State.setBank_pending (s : State) (n : Nat) (v : Bank) : (s.setBank n v).pending = s.pending := rfl
@[simp] theorem State.setBank_free (s : State) (n : Nat) (v : Bank) : (s.setBank n v).free = s.free := rfl
@[simp] theorem State.setBank_tb (s : State) (n : Nat) (v : Bank) : (s.setBank n v).tb = s.tb := rfl
@[simp] theorem State.setBank_regs (s : State) (n : Nat) (v : Bank) : (s.setBank n v).regs = s.regs := rfl
@[simp] theorem State.setBank_staged (s : State) (n : Nat) (v : Bank) : (s.setBank n v).staged = s.staged := rfl
@[simp] theorem State.setBank_time (s : State) (n : Nat) (v : Bank) : (s.setBank n v).time = s.time := rfl
@[simp] theorem State.setBank_commit (s : State) (n : Nat) (v : Bank) : (s.setBank n v).commit = s.commit := rfl
@[simp] theorem State.setBank_bridge (s : State) (n : Nat) (v : Bank) : (s.setBank n v).bridge = s.bridge := rfl
@[simp] theorem State.setBank_sup (s : State) (n : Nat) (v : Bank) : (s.setBank n v).sup = s.sup := rfl
@[simp] theorem State.setBank_lat (s : State) (n : Nat) (v : Bank) : (s.setBank n v).lat = s.lat := rfl
@[simp] theorem State.setBank_irc (s : State) (n : Nat) (v : Bank) : (s.setBank n v).irc = s.irc := rfl
@[simp] theorem State.setBank_fus (s : State) (n : Nat) (v : Bank) : (s.setBank n v).fus = s.fus := rfl
@[simp] theorem State.setBank_pwr (s : State) (n : Nat) (v : Bank) : (s.setBank n v).pwr = s.pwr := rfl
@[simp] theorem State.setBank_wheel (s : State) (n : Nat) (v : Bank) : (s.setBank n v).wheel = s.wheel := rfl
@[simp] theorem State.setBank_sync (s : State) (n : Nat) (v : Bank) : (s.setBank n v).sync = s.sync := rfl
@[simp] theorem State.setBank_tan (s : State) (n : Nat) (v : Bank) : (s.setBank n v).tan = s.tan := rfl
@[simp] theorem State.setBank_evq (s : State) (n : Nat) (v : Bank) : (s.setBank n v).evq = s.evq := rfl
@[simp] theorem State.setBank_cmd (s : State) (n : Nat) (v : Bank) : (s.setBank n v).cmd = s.cmd := rfl
@[simp] theorem State.setBank_arcs (s : State) (n : Nat) (v : Bank) : (s.setBank n v).arcs = s.arcs := rfl
@[simp] theorem State.setBank_cmb (s : State) (n : Nat) (v : Bank) : (s.setBank n v).cmb = s.cmb := rfl
@[simp] theorem State.setBank_fbk (s : State) (n : Nat) (v : Bank) : (s.setBank n v).fbk = s.fbk := rfl
@[simp] theorem State.setBank_lan (s : State) (n : Nat) (v : Bank) : (s.setBank n v).lan = s.lan := rfl
@[simp] theorem State.setBank_dma (s : State) (n : Nat) (v : Bank) : (s.setBank n v).dma = s.dma := rfl
@[simp] theorem State.setBank_twn (s : State) (n : Nat) (v : Bank) : (s.setBank n v).twn = s.twn := rfl
@[simp] theorem State.setBank_elx (s : State) (n : Nat) (v : Bank) : (s.setBank n v).elx = s.elx := rfl
@[simp] theorem State.setBank_tap (s : State) (n : Nat) (v : Bank) : (s.setBank n v).tap = s.tap := rfl
@[simp] theorem State.setBank_hits (s : State) (n : Nat) (v : Bank) : (s.setBank n v).hits = s.hits := rfl
@[simp] theorem State.setBank_agenda (s : State) (n : Nat) (v : Bank) : (s.setBank n v).agenda = s.agenda := rfl
@[simp] theorem State.setBank_image (s : State) (n : Nat) (v : Bank) : (s.setBank n v).image = s.image := rfl

@[simp] theorem State.bank_setBank (s : State) (n : Nat) (v : Bank) : (s.setBank n v).bank n = v := Tbl.get_put_same _ _ _ _
@[simp] theorem State.bank_setBank_other (s : State) (n : Nat) (v : Bank) {i : Nat} (h : i ≠ n) : (s.setBank n v).bank i = s.bank i :=
  Tbl.get_put_other _ h _ _

/-! ### setIgn -/

@[simp] theorem State.setIgn_pending (s : State) (n : Nat) (v : Ign) : (s.setIgn n v).pending = s.pending := rfl
@[simp] theorem State.setIgn_free (s : State) (n : Nat) (v : Ign) : (s.setIgn n v).free = s.free := rfl
@[simp] theorem State.setIgn_tb (s : State) (n : Nat) (v : Ign) : (s.setIgn n v).tb = s.tb := rfl
@[simp] theorem State.setIgn_regs (s : State) (n : Nat) (v : Ign) : (s.setIgn n v).regs = s.regs := rfl
@[simp] theorem State.setIgn_staged (s : State) (n : Nat) (v : Ign) : (s.setIgn n v).staged = s.staged := rfl
@[simp] theorem State.setIgn_time (s : State) (n : Nat) (v : Ign) : (s.setIgn n v).time = s.time := rfl
@[simp] theorem State.setIgn_commit (s : State) (n : Nat) (v : Ign) : (s.setIgn n v).commit = s.commit := rfl
@[simp] theorem State.setIgn_bridge (s : State) (n : Nat) (v : Ign) : (s.setIgn n v).bridge = s.bridge := rfl
@[simp] theorem State.setIgn_sup (s : State) (n : Nat) (v : Ign) : (s.setIgn n v).sup = s.sup := rfl
@[simp] theorem State.setIgn_lat (s : State) (n : Nat) (v : Ign) : (s.setIgn n v).lat = s.lat := rfl
@[simp] theorem State.setIgn_irc (s : State) (n : Nat) (v : Ign) : (s.setIgn n v).irc = s.irc := rfl
@[simp] theorem State.setIgn_fus (s : State) (n : Nat) (v : Ign) : (s.setIgn n v).fus = s.fus := rfl
@[simp] theorem State.setIgn_pwr (s : State) (n : Nat) (v : Ign) : (s.setIgn n v).pwr = s.pwr := rfl
@[simp] theorem State.setIgn_wheel (s : State) (n : Nat) (v : Ign) : (s.setIgn n v).wheel = s.wheel := rfl
@[simp] theorem State.setIgn_sync (s : State) (n : Nat) (v : Ign) : (s.setIgn n v).sync = s.sync := rfl
@[simp] theorem State.setIgn_tan (s : State) (n : Nat) (v : Ign) : (s.setIgn n v).tan = s.tan := rfl
@[simp] theorem State.setIgn_evq (s : State) (n : Nat) (v : Ign) : (s.setIgn n v).evq = s.evq := rfl
@[simp] theorem State.setIgn_cmd (s : State) (n : Nat) (v : Ign) : (s.setIgn n v).cmd = s.cmd := rfl
@[simp] theorem State.setIgn_arcs (s : State) (n : Nat) (v : Ign) : (s.setIgn n v).arcs = s.arcs := rfl
@[simp] theorem State.setIgn_cmb (s : State) (n : Nat) (v : Ign) : (s.setIgn n v).cmb = s.cmb := rfl
@[simp] theorem State.setIgn_fbk (s : State) (n : Nat) (v : Ign) : (s.setIgn n v).fbk = s.fbk := rfl
@[simp] theorem State.setIgn_lan (s : State) (n : Nat) (v : Ign) : (s.setIgn n v).lan = s.lan := rfl
@[simp] theorem State.setIgn_dma (s : State) (n : Nat) (v : Ign) : (s.setIgn n v).dma = s.dma := rfl
@[simp] theorem State.setIgn_twn (s : State) (n : Nat) (v : Ign) : (s.setIgn n v).twn = s.twn := rfl
@[simp] theorem State.setIgn_elx (s : State) (n : Nat) (v : Ign) : (s.setIgn n v).elx = s.elx := rfl
@[simp] theorem State.setIgn_tap (s : State) (n : Nat) (v : Ign) : (s.setIgn n v).tap = s.tap := rfl
@[simp] theorem State.setIgn_hits (s : State) (n : Nat) (v : Ign) : (s.setIgn n v).hits = s.hits := rfl
@[simp] theorem State.setIgn_agenda (s : State) (n : Nat) (v : Ign) : (s.setIgn n v).agenda = s.agenda := rfl
@[simp] theorem State.setIgn_image (s : State) (n : Nat) (v : Ign) : (s.setIgn n v).image = s.image := rfl

@[simp] theorem State.ign_setIgn (s : State) (n : Nat) (v : Ign) : (s.setIgn n v).ign n = v := Tbl.get_put_same _ _ _ _
@[simp] theorem State.ign_setIgn_other (s : State) (n : Nat) (v : Ign) {i : Nat} (h : i ≠ n) : (s.setIgn n v).ign i = s.ign i :=
  Tbl.get_put_other _ h _ _

/-! ### setValve -/

@[simp] theorem State.setValve_pending (s : State) (n : Nat) (v : Valve) : (s.setValve n v).pending = s.pending := rfl
@[simp] theorem State.setValve_free (s : State) (n : Nat) (v : Valve) : (s.setValve n v).free = s.free := rfl
@[simp] theorem State.setValve_tb (s : State) (n : Nat) (v : Valve) : (s.setValve n v).tb = s.tb := rfl
@[simp] theorem State.setValve_regs (s : State) (n : Nat) (v : Valve) : (s.setValve n v).regs = s.regs := rfl
@[simp] theorem State.setValve_staged (s : State) (n : Nat) (v : Valve) : (s.setValve n v).staged = s.staged := rfl
@[simp] theorem State.setValve_time (s : State) (n : Nat) (v : Valve) : (s.setValve n v).time = s.time := rfl
@[simp] theorem State.setValve_commit (s : State) (n : Nat) (v : Valve) : (s.setValve n v).commit = s.commit := rfl
@[simp] theorem State.setValve_bridge (s : State) (n : Nat) (v : Valve) : (s.setValve n v).bridge = s.bridge := rfl
@[simp] theorem State.setValve_sup (s : State) (n : Nat) (v : Valve) : (s.setValve n v).sup = s.sup := rfl
@[simp] theorem State.setValve_lat (s : State) (n : Nat) (v : Valve) : (s.setValve n v).lat = s.lat := rfl
@[simp] theorem State.setValve_irc (s : State) (n : Nat) (v : Valve) : (s.setValve n v).irc = s.irc := rfl
@[simp] theorem State.setValve_fus (s : State) (n : Nat) (v : Valve) : (s.setValve n v).fus = s.fus := rfl
@[simp] theorem State.setValve_pwr (s : State) (n : Nat) (v : Valve) : (s.setValve n v).pwr = s.pwr := rfl
@[simp] theorem State.setValve_wheel (s : State) (n : Nat) (v : Valve) : (s.setValve n v).wheel = s.wheel := rfl
@[simp] theorem State.setValve_sync (s : State) (n : Nat) (v : Valve) : (s.setValve n v).sync = s.sync := rfl
@[simp] theorem State.setValve_tan (s : State) (n : Nat) (v : Valve) : (s.setValve n v).tan = s.tan := rfl
@[simp] theorem State.setValve_evq (s : State) (n : Nat) (v : Valve) : (s.setValve n v).evq = s.evq := rfl
@[simp] theorem State.setValve_cmd (s : State) (n : Nat) (v : Valve) : (s.setValve n v).cmd = s.cmd := rfl
@[simp] theorem State.setValve_arcs (s : State) (n : Nat) (v : Valve) : (s.setValve n v).arcs = s.arcs := rfl
@[simp] theorem State.setValve_cmb (s : State) (n : Nat) (v : Valve) : (s.setValve n v).cmb = s.cmb := rfl
@[simp] theorem State.setValve_fbk (s : State) (n : Nat) (v : Valve) : (s.setValve n v).fbk = s.fbk := rfl
@[simp] theorem State.setValve_lan (s : State) (n : Nat) (v : Valve) : (s.setValve n v).lan = s.lan := rfl
@[simp] theorem State.setValve_dma (s : State) (n : Nat) (v : Valve) : (s.setValve n v).dma = s.dma := rfl
@[simp] theorem State.setValve_twn (s : State) (n : Nat) (v : Valve) : (s.setValve n v).twn = s.twn := rfl
@[simp] theorem State.setValve_elx (s : State) (n : Nat) (v : Valve) : (s.setValve n v).elx = s.elx := rfl
@[simp] theorem State.setValve_tap (s : State) (n : Nat) (v : Valve) : (s.setValve n v).tap = s.tap := rfl
@[simp] theorem State.setValve_hits (s : State) (n : Nat) (v : Valve) : (s.setValve n v).hits = s.hits := rfl
@[simp] theorem State.setValve_agenda (s : State) (n : Nat) (v : Valve) : (s.setValve n v).agenda = s.agenda := rfl
@[simp] theorem State.setValve_image (s : State) (n : Nat) (v : Valve) : (s.setValve n v).image = s.image := rfl

@[simp] theorem State.valve_setValve (s : State) (n : Nat) (v : Valve) : (s.setValve n v).valve n = v := Tbl.get_put_same _ _ _ _
@[simp] theorem State.valve_setValve_other (s : State) (n : Nat) (v : Valve) {i : Nat} (h : i ≠ n) : (s.setValve n v).valve i = s.valve i :=
  Tbl.get_put_other _ h _ _

/-! ### setScrub -/

@[simp] theorem State.setScrub_pending (s : State) (n : Nat) (v : Scrub) : (s.setScrub n v).pending = s.pending := rfl
@[simp] theorem State.setScrub_free (s : State) (n : Nat) (v : Scrub) : (s.setScrub n v).free = s.free := rfl
@[simp] theorem State.setScrub_tb (s : State) (n : Nat) (v : Scrub) : (s.setScrub n v).tb = s.tb := rfl
@[simp] theorem State.setScrub_regs (s : State) (n : Nat) (v : Scrub) : (s.setScrub n v).regs = s.regs := rfl
@[simp] theorem State.setScrub_staged (s : State) (n : Nat) (v : Scrub) : (s.setScrub n v).staged = s.staged := rfl
@[simp] theorem State.setScrub_time (s : State) (n : Nat) (v : Scrub) : (s.setScrub n v).time = s.time := rfl
@[simp] theorem State.setScrub_commit (s : State) (n : Nat) (v : Scrub) : (s.setScrub n v).commit = s.commit := rfl
@[simp] theorem State.setScrub_bridge (s : State) (n : Nat) (v : Scrub) : (s.setScrub n v).bridge = s.bridge := rfl
@[simp] theorem State.setScrub_sup (s : State) (n : Nat) (v : Scrub) : (s.setScrub n v).sup = s.sup := rfl
@[simp] theorem State.setScrub_irc (s : State) (n : Nat) (v : Scrub) : (s.setScrub n v).irc = s.irc := rfl
@[simp] theorem State.setScrub_fus (s : State) (n : Nat) (v : Scrub) : (s.setScrub n v).fus = s.fus := rfl
@[simp] theorem State.setScrub_pwr (s : State) (n : Nat) (v : Scrub) : (s.setScrub n v).pwr = s.pwr := rfl
@[simp] theorem State.setScrub_wheel (s : State) (n : Nat) (v : Scrub) : (s.setScrub n v).wheel = s.wheel := rfl
@[simp] theorem State.setScrub_sync (s : State) (n : Nat) (v : Scrub) : (s.setScrub n v).sync = s.sync := rfl
@[simp] theorem State.setScrub_tan (s : State) (n : Nat) (v : Scrub) : (s.setScrub n v).tan = s.tan := rfl
@[simp] theorem State.setScrub_evq (s : State) (n : Nat) (v : Scrub) : (s.setScrub n v).evq = s.evq := rfl
@[simp] theorem State.setScrub_cmd (s : State) (n : Nat) (v : Scrub) : (s.setScrub n v).cmd = s.cmd := rfl
@[simp] theorem State.setScrub_arcs (s : State) (n : Nat) (v : Scrub) : (s.setScrub n v).arcs = s.arcs := rfl
@[simp] theorem State.setScrub_cmb (s : State) (n : Nat) (v : Scrub) : (s.setScrub n v).cmb = s.cmb := rfl
@[simp] theorem State.setScrub_fbk (s : State) (n : Nat) (v : Scrub) : (s.setScrub n v).fbk = s.fbk := rfl
@[simp] theorem State.setScrub_drv (s : State) (n : Nat) (v : Scrub) : (s.setScrub n v).drv = s.drv := rfl
@[simp] theorem State.setScrub_lan (s : State) (n : Nat) (v : Scrub) : (s.setScrub n v).lan = s.lan := rfl
@[simp] theorem State.setScrub_dma (s : State) (n : Nat) (v : Scrub) : (s.setScrub n v).dma = s.dma := rfl
@[simp] theorem State.setScrub_twn (s : State) (n : Nat) (v : Scrub) : (s.setScrub n v).twn = s.twn := rfl
@[simp] theorem State.setScrub_elx (s : State) (n : Nat) (v : Scrub) : (s.setScrub n v).elx = s.elx := rfl
@[simp] theorem State.setScrub_tap (s : State) (n : Nat) (v : Scrub) : (s.setScrub n v).tap = s.tap := rfl
@[simp] theorem State.setScrub_hits (s : State) (n : Nat) (v : Scrub) : (s.setScrub n v).hits = s.hits := rfl
@[simp] theorem State.setScrub_agenda (s : State) (n : Nat) (v : Scrub) : (s.setScrub n v).agenda = s.agenda := rfl
@[simp] theorem State.setScrub_image (s : State) (n : Nat) (v : Scrub) : (s.setScrub n v).image = s.image := rfl

@[simp] theorem State.scrubOf_setScrub (s : State) (n : Nat) (v : Scrub) : (s.setScrub n v).scrubOf n = v := Tbl.get_put_same _ _ _ _
@[simp] theorem State.scrubOf_setScrub_other (s : State) (n : Nat) (v : Scrub) {i : Nat} (h : i ≠ n) : (s.setScrub n v).scrubOf i = s.scrubOf i :=
  Tbl.get_put_other _ h _ _

/-! ### setLane -/

@[simp] theorem State.setLane_pending (s : State) (n : Nat) (v : Lane) : (s.setLane n v).pending = s.pending := rfl
@[simp] theorem State.setLane_free (s : State) (n : Nat) (v : Lane) : (s.setLane n v).free = s.free := rfl
@[simp] theorem State.setLane_tb (s : State) (n : Nat) (v : Lane) : (s.setLane n v).tb = s.tb := rfl
@[simp] theorem State.setLane_regs (s : State) (n : Nat) (v : Lane) : (s.setLane n v).regs = s.regs := rfl
@[simp] theorem State.setLane_staged (s : State) (n : Nat) (v : Lane) : (s.setLane n v).staged = s.staged := rfl
@[simp] theorem State.setLane_time (s : State) (n : Nat) (v : Lane) : (s.setLane n v).time = s.time := rfl
@[simp] theorem State.setLane_commit (s : State) (n : Nat) (v : Lane) : (s.setLane n v).commit = s.commit := rfl
@[simp] theorem State.setLane_bridge (s : State) (n : Nat) (v : Lane) : (s.setLane n v).bridge = s.bridge := rfl
@[simp] theorem State.setLane_sup (s : State) (n : Nat) (v : Lane) : (s.setLane n v).sup = s.sup := rfl
@[simp] theorem State.setLane_lat (s : State) (n : Nat) (v : Lane) : (s.setLane n v).lat = s.lat := rfl
@[simp] theorem State.setLane_irc (s : State) (n : Nat) (v : Lane) : (s.setLane n v).irc = s.irc := rfl
@[simp] theorem State.setLane_fus (s : State) (n : Nat) (v : Lane) : (s.setLane n v).fus = s.fus := rfl
@[simp] theorem State.setLane_pwr (s : State) (n : Nat) (v : Lane) : (s.setLane n v).pwr = s.pwr := rfl
@[simp] theorem State.setLane_wheel (s : State) (n : Nat) (v : Lane) : (s.setLane n v).wheel = s.wheel := rfl
@[simp] theorem State.setLane_sync (s : State) (n : Nat) (v : Lane) : (s.setLane n v).sync = s.sync := rfl
@[simp] theorem State.setLane_tan (s : State) (n : Nat) (v : Lane) : (s.setLane n v).tan = s.tan := rfl
@[simp] theorem State.setLane_evq (s : State) (n : Nat) (v : Lane) : (s.setLane n v).evq = s.evq := rfl
@[simp] theorem State.setLane_cmd (s : State) (n : Nat) (v : Lane) : (s.setLane n v).cmd = s.cmd := rfl
@[simp] theorem State.setLane_arcs (s : State) (n : Nat) (v : Lane) : (s.setLane n v).arcs = s.arcs := rfl
@[simp] theorem State.setLane_cmb (s : State) (n : Nat) (v : Lane) : (s.setLane n v).cmb = s.cmb := rfl
@[simp] theorem State.setLane_fbk (s : State) (n : Nat) (v : Lane) : (s.setLane n v).fbk = s.fbk := rfl
@[simp] theorem State.setLane_drv (s : State) (n : Nat) (v : Lane) : (s.setLane n v).drv = s.drv := rfl
@[simp] theorem State.setLane_dma (s : State) (n : Nat) (v : Lane) : (s.setLane n v).dma = s.dma := rfl
@[simp] theorem State.setLane_twn (s : State) (n : Nat) (v : Lane) : (s.setLane n v).twn = s.twn := rfl
@[simp] theorem State.setLane_elx (s : State) (n : Nat) (v : Lane) : (s.setLane n v).elx = s.elx := rfl
@[simp] theorem State.setLane_tap (s : State) (n : Nat) (v : Lane) : (s.setLane n v).tap = s.tap := rfl
@[simp] theorem State.setLane_hits (s : State) (n : Nat) (v : Lane) : (s.setLane n v).hits = s.hits := rfl
@[simp] theorem State.setLane_agenda (s : State) (n : Nat) (v : Lane) : (s.setLane n v).agenda = s.agenda := rfl
@[simp] theorem State.setLane_image (s : State) (n : Nat) (v : Lane) : (s.setLane n v).image = s.image := rfl

@[simp] theorem State.lane_setLane (s : State) (n : Nat) (v : Lane) : (s.setLane n v).lane n = v := Tbl.get_put_same _ _ _ _
@[simp] theorem State.lane_setLane_other (s : State) (n : Nat) (v : Lane) {i : Nat} (h : i ≠ n) : (s.setLane n v).lane i = s.lane i :=
  Tbl.get_put_other _ h _ _

/-! ### setSpare -/

@[simp] theorem State.setSpare_pending (s : State) (n : Nat) (v : Spare) : (s.setSpare n v).pending = s.pending := rfl
@[simp] theorem State.setSpare_free (s : State) (n : Nat) (v : Spare) : (s.setSpare n v).free = s.free := rfl
@[simp] theorem State.setSpare_tb (s : State) (n : Nat) (v : Spare) : (s.setSpare n v).tb = s.tb := rfl
@[simp] theorem State.setSpare_regs (s : State) (n : Nat) (v : Spare) : (s.setSpare n v).regs = s.regs := rfl
@[simp] theorem State.setSpare_staged (s : State) (n : Nat) (v : Spare) : (s.setSpare n v).staged = s.staged := rfl
@[simp] theorem State.setSpare_time (s : State) (n : Nat) (v : Spare) : (s.setSpare n v).time = s.time := rfl
@[simp] theorem State.setSpare_commit (s : State) (n : Nat) (v : Spare) : (s.setSpare n v).commit = s.commit := rfl
@[simp] theorem State.setSpare_bridge (s : State) (n : Nat) (v : Spare) : (s.setSpare n v).bridge = s.bridge := rfl
@[simp] theorem State.setSpare_sup (s : State) (n : Nat) (v : Spare) : (s.setSpare n v).sup = s.sup := rfl
@[simp] theorem State.setSpare_lat (s : State) (n : Nat) (v : Spare) : (s.setSpare n v).lat = s.lat := rfl
@[simp] theorem State.setSpare_irc (s : State) (n : Nat) (v : Spare) : (s.setSpare n v).irc = s.irc := rfl
@[simp] theorem State.setSpare_fus (s : State) (n : Nat) (v : Spare) : (s.setSpare n v).fus = s.fus := rfl
@[simp] theorem State.setSpare_pwr (s : State) (n : Nat) (v : Spare) : (s.setSpare n v).pwr = s.pwr := rfl
@[simp] theorem State.setSpare_wheel (s : State) (n : Nat) (v : Spare) : (s.setSpare n v).wheel = s.wheel := rfl
@[simp] theorem State.setSpare_sync (s : State) (n : Nat) (v : Spare) : (s.setSpare n v).sync = s.sync := rfl
@[simp] theorem State.setSpare_tan (s : State) (n : Nat) (v : Spare) : (s.setSpare n v).tan = s.tan := rfl
@[simp] theorem State.setSpare_evq (s : State) (n : Nat) (v : Spare) : (s.setSpare n v).evq = s.evq := rfl
@[simp] theorem State.setSpare_cmd (s : State) (n : Nat) (v : Spare) : (s.setSpare n v).cmd = s.cmd := rfl
@[simp] theorem State.setSpare_arcs (s : State) (n : Nat) (v : Spare) : (s.setSpare n v).arcs = s.arcs := rfl
@[simp] theorem State.setSpare_cmb (s : State) (n : Nat) (v : Spare) : (s.setSpare n v).cmb = s.cmb := rfl
@[simp] theorem State.setSpare_fbk (s : State) (n : Nat) (v : Spare) : (s.setSpare n v).fbk = s.fbk := rfl
@[simp] theorem State.setSpare_drv (s : State) (n : Nat) (v : Spare) : (s.setSpare n v).drv = s.drv := rfl
@[simp] theorem State.setSpare_dma (s : State) (n : Nat) (v : Spare) : (s.setSpare n v).dma = s.dma := rfl
@[simp] theorem State.setSpare_twn (s : State) (n : Nat) (v : Spare) : (s.setSpare n v).twn = s.twn := rfl
@[simp] theorem State.setSpare_elx (s : State) (n : Nat) (v : Spare) : (s.setSpare n v).elx = s.elx := rfl
@[simp] theorem State.setSpare_tap (s : State) (n : Nat) (v : Spare) : (s.setSpare n v).tap = s.tap := rfl
@[simp] theorem State.setSpare_hits (s : State) (n : Nat) (v : Spare) : (s.setSpare n v).hits = s.hits := rfl
@[simp] theorem State.setSpare_agenda (s : State) (n : Nat) (v : Spare) : (s.setSpare n v).agenda = s.agenda := rfl
@[simp] theorem State.setSpare_image (s : State) (n : Nat) (v : Spare) : (s.setSpare n v).image = s.image := rfl

@[simp] theorem State.spare_setSpare (s : State) (n : Nat) (v : Spare) : (s.setSpare n v).spare n = v := Tbl.get_put_same _ _ _ _
@[simp] theorem State.spare_setSpare_other (s : State) (n : Nat) (v : Spare) {i : Nat} (h : i ≠ n) : (s.setSpare n v).spare i = s.spare i :=
  Tbl.get_put_other _ h _ _

/-! ### setSource -/

@[simp] theorem State.setSource_pending (s : State) (n : Nat) (v : Source) : (s.setSource n v).pending = s.pending := rfl
@[simp] theorem State.setSource_free (s : State) (n : Nat) (v : Source) : (s.setSource n v).free = s.free := rfl
@[simp] theorem State.setSource_tb (s : State) (n : Nat) (v : Source) : (s.setSource n v).tb = s.tb := rfl
@[simp] theorem State.setSource_regs (s : State) (n : Nat) (v : Source) : (s.setSource n v).regs = s.regs := rfl
@[simp] theorem State.setSource_staged (s : State) (n : Nat) (v : Source) : (s.setSource n v).staged = s.staged := rfl
@[simp] theorem State.setSource_time (s : State) (n : Nat) (v : Source) : (s.setSource n v).time = s.time := rfl
@[simp] theorem State.setSource_commit (s : State) (n : Nat) (v : Source) : (s.setSource n v).commit = s.commit := rfl
@[simp] theorem State.setSource_bridge (s : State) (n : Nat) (v : Source) : (s.setSource n v).bridge = s.bridge := rfl
@[simp] theorem State.setSource_sup (s : State) (n : Nat) (v : Source) : (s.setSource n v).sup = s.sup := rfl
@[simp] theorem State.setSource_lat (s : State) (n : Nat) (v : Source) : (s.setSource n v).lat = s.lat := rfl
@[simp] theorem State.setSource_fus (s : State) (n : Nat) (v : Source) : (s.setSource n v).fus = s.fus := rfl
@[simp] theorem State.setSource_pwr (s : State) (n : Nat) (v : Source) : (s.setSource n v).pwr = s.pwr := rfl
@[simp] theorem State.setSource_wheel (s : State) (n : Nat) (v : Source) : (s.setSource n v).wheel = s.wheel := rfl
@[simp] theorem State.setSource_sync (s : State) (n : Nat) (v : Source) : (s.setSource n v).sync = s.sync := rfl
@[simp] theorem State.setSource_tan (s : State) (n : Nat) (v : Source) : (s.setSource n v).tan = s.tan := rfl
@[simp] theorem State.setSource_evq (s : State) (n : Nat) (v : Source) : (s.setSource n v).evq = s.evq := rfl
@[simp] theorem State.setSource_cmd (s : State) (n : Nat) (v : Source) : (s.setSource n v).cmd = s.cmd := rfl
@[simp] theorem State.setSource_arcs (s : State) (n : Nat) (v : Source) : (s.setSource n v).arcs = s.arcs := rfl
@[simp] theorem State.setSource_cmb (s : State) (n : Nat) (v : Source) : (s.setSource n v).cmb = s.cmb := rfl
@[simp] theorem State.setSource_fbk (s : State) (n : Nat) (v : Source) : (s.setSource n v).fbk = s.fbk := rfl
@[simp] theorem State.setSource_drv (s : State) (n : Nat) (v : Source) : (s.setSource n v).drv = s.drv := rfl
@[simp] theorem State.setSource_lan (s : State) (n : Nat) (v : Source) : (s.setSource n v).lan = s.lan := rfl
@[simp] theorem State.setSource_dma (s : State) (n : Nat) (v : Source) : (s.setSource n v).dma = s.dma := rfl
@[simp] theorem State.setSource_twn (s : State) (n : Nat) (v : Source) : (s.setSource n v).twn = s.twn := rfl
@[simp] theorem State.setSource_elx (s : State) (n : Nat) (v : Source) : (s.setSource n v).elx = s.elx := rfl
@[simp] theorem State.setSource_tap (s : State) (n : Nat) (v : Source) : (s.setSource n v).tap = s.tap := rfl
@[simp] theorem State.setSource_hits (s : State) (n : Nat) (v : Source) : (s.setSource n v).hits = s.hits := rfl
@[simp] theorem State.setSource_agenda (s : State) (n : Nat) (v : Source) : (s.setSource n v).agenda = s.agenda := rfl
@[simp] theorem State.setSource_image (s : State) (n : Nat) (v : Source) : (s.setSource n v).image = s.image := rfl

@[simp] theorem State.source_setSource (s : State) (n : Nat) (v : Source) : (s.setSource n v).source n = v := Tbl.get_put_same _ _ _ _
@[simp] theorem State.source_setSource_other (s : State) (n : Nat) (v : Source) {i : Nat} (h : i ≠ n) : (s.setSource n v).source i = s.source i :=
  Tbl.get_put_other _ h _ _

/-! ### setTarget -/

@[simp] theorem State.setTarget_pending (s : State) (n : Nat) (v : Target) : (s.setTarget n v).pending = s.pending := rfl
@[simp] theorem State.setTarget_free (s : State) (n : Nat) (v : Target) : (s.setTarget n v).free = s.free := rfl
@[simp] theorem State.setTarget_tb (s : State) (n : Nat) (v : Target) : (s.setTarget n v).tb = s.tb := rfl
@[simp] theorem State.setTarget_regs (s : State) (n : Nat) (v : Target) : (s.setTarget n v).regs = s.regs := rfl
@[simp] theorem State.setTarget_staged (s : State) (n : Nat) (v : Target) : (s.setTarget n v).staged = s.staged := rfl
@[simp] theorem State.setTarget_time (s : State) (n : Nat) (v : Target) : (s.setTarget n v).time = s.time := rfl
@[simp] theorem State.setTarget_commit (s : State) (n : Nat) (v : Target) : (s.setTarget n v).commit = s.commit := rfl
@[simp] theorem State.setTarget_bridge (s : State) (n : Nat) (v : Target) : (s.setTarget n v).bridge = s.bridge := rfl
@[simp] theorem State.setTarget_sup (s : State) (n : Nat) (v : Target) : (s.setTarget n v).sup = s.sup := rfl
@[simp] theorem State.setTarget_lat (s : State) (n : Nat) (v : Target) : (s.setTarget n v).lat = s.lat := rfl
@[simp] theorem State.setTarget_fus (s : State) (n : Nat) (v : Target) : (s.setTarget n v).fus = s.fus := rfl
@[simp] theorem State.setTarget_pwr (s : State) (n : Nat) (v : Target) : (s.setTarget n v).pwr = s.pwr := rfl
@[simp] theorem State.setTarget_wheel (s : State) (n : Nat) (v : Target) : (s.setTarget n v).wheel = s.wheel := rfl
@[simp] theorem State.setTarget_sync (s : State) (n : Nat) (v : Target) : (s.setTarget n v).sync = s.sync := rfl
@[simp] theorem State.setTarget_tan (s : State) (n : Nat) (v : Target) : (s.setTarget n v).tan = s.tan := rfl
@[simp] theorem State.setTarget_evq (s : State) (n : Nat) (v : Target) : (s.setTarget n v).evq = s.evq := rfl
@[simp] theorem State.setTarget_cmd (s : State) (n : Nat) (v : Target) : (s.setTarget n v).cmd = s.cmd := rfl
@[simp] theorem State.setTarget_arcs (s : State) (n : Nat) (v : Target) : (s.setTarget n v).arcs = s.arcs := rfl
@[simp] theorem State.setTarget_cmb (s : State) (n : Nat) (v : Target) : (s.setTarget n v).cmb = s.cmb := rfl
@[simp] theorem State.setTarget_fbk (s : State) (n : Nat) (v : Target) : (s.setTarget n v).fbk = s.fbk := rfl
@[simp] theorem State.setTarget_drv (s : State) (n : Nat) (v : Target) : (s.setTarget n v).drv = s.drv := rfl
@[simp] theorem State.setTarget_lan (s : State) (n : Nat) (v : Target) : (s.setTarget n v).lan = s.lan := rfl
@[simp] theorem State.setTarget_dma (s : State) (n : Nat) (v : Target) : (s.setTarget n v).dma = s.dma := rfl
@[simp] theorem State.setTarget_twn (s : State) (n : Nat) (v : Target) : (s.setTarget n v).twn = s.twn := rfl
@[simp] theorem State.setTarget_elx (s : State) (n : Nat) (v : Target) : (s.setTarget n v).elx = s.elx := rfl
@[simp] theorem State.setTarget_tap (s : State) (n : Nat) (v : Target) : (s.setTarget n v).tap = s.tap := rfl
@[simp] theorem State.setTarget_hits (s : State) (n : Nat) (v : Target) : (s.setTarget n v).hits = s.hits := rfl
@[simp] theorem State.setTarget_agenda (s : State) (n : Nat) (v : Target) : (s.setTarget n v).agenda = s.agenda := rfl
@[simp] theorem State.setTarget_image (s : State) (n : Nat) (v : Target) : (s.setTarget n v).image = s.image := rfl

@[simp] theorem State.target_setTarget (s : State) (n : Nat) (v : Target) : (s.setTarget n v).target n = v := Tbl.get_put_same _ _ _ _
@[simp] theorem State.target_setTarget_other (s : State) (n : Nat) (v : Target) {i : Nat} (h : i ≠ n) : (s.setTarget n v).target i = s.target i :=
  Tbl.get_put_other _ h _ _

/-! ### setReplica -/

@[simp] theorem State.setReplica_pending (s : State) (n : Nat) (v : Replica) : (s.setReplica n v).pending = s.pending := rfl
@[simp] theorem State.setReplica_free (s : State) (n : Nat) (v : Replica) : (s.setReplica n v).free = s.free := rfl
@[simp] theorem State.setReplica_tb (s : State) (n : Nat) (v : Replica) : (s.setReplica n v).tb = s.tb := rfl
@[simp] theorem State.setReplica_regs (s : State) (n : Nat) (v : Replica) : (s.setReplica n v).regs = s.regs := rfl
@[simp] theorem State.setReplica_staged (s : State) (n : Nat) (v : Replica) : (s.setReplica n v).staged = s.staged := rfl
@[simp] theorem State.setReplica_commit (s : State) (n : Nat) (v : Replica) : (s.setReplica n v).commit = s.commit := rfl
@[simp] theorem State.setReplica_bridge (s : State) (n : Nat) (v : Replica) : (s.setReplica n v).bridge = s.bridge := rfl
@[simp] theorem State.setReplica_sup (s : State) (n : Nat) (v : Replica) : (s.setReplica n v).sup = s.sup := rfl
@[simp] theorem State.setReplica_lat (s : State) (n : Nat) (v : Replica) : (s.setReplica n v).lat = s.lat := rfl
@[simp] theorem State.setReplica_irc (s : State) (n : Nat) (v : Replica) : (s.setReplica n v).irc = s.irc := rfl
@[simp] theorem State.setReplica_fus (s : State) (n : Nat) (v : Replica) : (s.setReplica n v).fus = s.fus := rfl
@[simp] theorem State.setReplica_pwr (s : State) (n : Nat) (v : Replica) : (s.setReplica n v).pwr = s.pwr := rfl
@[simp] theorem State.setReplica_wheel (s : State) (n : Nat) (v : Replica) : (s.setReplica n v).wheel = s.wheel := rfl
@[simp] theorem State.setReplica_sync (s : State) (n : Nat) (v : Replica) : (s.setReplica n v).sync = s.sync := rfl
@[simp] theorem State.setReplica_tan (s : State) (n : Nat) (v : Replica) : (s.setReplica n v).tan = s.tan := rfl
@[simp] theorem State.setReplica_evq (s : State) (n : Nat) (v : Replica) : (s.setReplica n v).evq = s.evq := rfl
@[simp] theorem State.setReplica_cmd (s : State) (n : Nat) (v : Replica) : (s.setReplica n v).cmd = s.cmd := rfl
@[simp] theorem State.setReplica_arcs (s : State) (n : Nat) (v : Replica) : (s.setReplica n v).arcs = s.arcs := rfl
@[simp] theorem State.setReplica_cmb (s : State) (n : Nat) (v : Replica) : (s.setReplica n v).cmb = s.cmb := rfl
@[simp] theorem State.setReplica_fbk (s : State) (n : Nat) (v : Replica) : (s.setReplica n v).fbk = s.fbk := rfl
@[simp] theorem State.setReplica_drv (s : State) (n : Nat) (v : Replica) : (s.setReplica n v).drv = s.drv := rfl
@[simp] theorem State.setReplica_lan (s : State) (n : Nat) (v : Replica) : (s.setReplica n v).lan = s.lan := rfl
@[simp] theorem State.setReplica_dma (s : State) (n : Nat) (v : Replica) : (s.setReplica n v).dma = s.dma := rfl
@[simp] theorem State.setReplica_twn (s : State) (n : Nat) (v : Replica) : (s.setReplica n v).twn = s.twn := rfl
@[simp] theorem State.setReplica_elx (s : State) (n : Nat) (v : Replica) : (s.setReplica n v).elx = s.elx := rfl
@[simp] theorem State.setReplica_tap (s : State) (n : Nat) (v : Replica) : (s.setReplica n v).tap = s.tap := rfl
@[simp] theorem State.setReplica_hits (s : State) (n : Nat) (v : Replica) : (s.setReplica n v).hits = s.hits := rfl
@[simp] theorem State.setReplica_agenda (s : State) (n : Nat) (v : Replica) : (s.setReplica n v).agenda = s.agenda := rfl
@[simp] theorem State.setReplica_image (s : State) (n : Nat) (v : Replica) : (s.setReplica n v).image = s.image := rfl

@[simp] theorem State.replica_setReplica (s : State) (n : Nat) (v : Replica) : (s.setReplica n v).replica n = v := Tbl.get_put_same _ _ _ _
@[simp] theorem State.replica_setReplica_other (s : State) (n : Nat) (v : Replica) {i : Nat} (h : i ≠ n) : (s.setReplica n v).replica i = s.replica i :=
  Tbl.get_put_other _ h _ _

/-! ### setQueue -/

@[simp] theorem State.setQueue_pending (s : State) (n : Nat) (v : List QEntry) : (s.setQueue n v).pending = s.pending := rfl
@[simp] theorem State.setQueue_free (s : State) (n : Nat) (v : List QEntry) : (s.setQueue n v).free = s.free := rfl
@[simp] theorem State.setQueue_tb (s : State) (n : Nat) (v : List QEntry) : (s.setQueue n v).tb = s.tb := rfl
@[simp] theorem State.setQueue_regs (s : State) (n : Nat) (v : List QEntry) : (s.setQueue n v).regs = s.regs := rfl
@[simp] theorem State.setQueue_staged (s : State) (n : Nat) (v : List QEntry) : (s.setQueue n v).staged = s.staged := rfl
@[simp] theorem State.setQueue_time (s : State) (n : Nat) (v : List QEntry) : (s.setQueue n v).time = s.time := rfl
@[simp] theorem State.setQueue_commit (s : State) (n : Nat) (v : List QEntry) : (s.setQueue n v).commit = s.commit := rfl
@[simp] theorem State.setQueue_bridge (s : State) (n : Nat) (v : List QEntry) : (s.setQueue n v).bridge = s.bridge := rfl
@[simp] theorem State.setQueue_sup (s : State) (n : Nat) (v : List QEntry) : (s.setQueue n v).sup = s.sup := rfl
@[simp] theorem State.setQueue_lat (s : State) (n : Nat) (v : List QEntry) : (s.setQueue n v).lat = s.lat := rfl
@[simp] theorem State.setQueue_irc (s : State) (n : Nat) (v : List QEntry) : (s.setQueue n v).irc = s.irc := rfl
@[simp] theorem State.setQueue_fus (s : State) (n : Nat) (v : List QEntry) : (s.setQueue n v).fus = s.fus := rfl
@[simp] theorem State.setQueue_pwr (s : State) (n : Nat) (v : List QEntry) : (s.setQueue n v).pwr = s.pwr := rfl
@[simp] theorem State.setQueue_wheel (s : State) (n : Nat) (v : List QEntry) : (s.setQueue n v).wheel = s.wheel := rfl
@[simp] theorem State.setQueue_sync (s : State) (n : Nat) (v : List QEntry) : (s.setQueue n v).sync = s.sync := rfl
@[simp] theorem State.setQueue_tan (s : State) (n : Nat) (v : List QEntry) : (s.setQueue n v).tan = s.tan := rfl
@[simp] theorem State.setQueue_cmd (s : State) (n : Nat) (v : List QEntry) : (s.setQueue n v).cmd = s.cmd := rfl
@[simp] theorem State.setQueue_arcs (s : State) (n : Nat) (v : List QEntry) : (s.setQueue n v).arcs = s.arcs := rfl
@[simp] theorem State.setQueue_cmb (s : State) (n : Nat) (v : List QEntry) : (s.setQueue n v).cmb = s.cmb := rfl
@[simp] theorem State.setQueue_fbk (s : State) (n : Nat) (v : List QEntry) : (s.setQueue n v).fbk = s.fbk := rfl
@[simp] theorem State.setQueue_drv (s : State) (n : Nat) (v : List QEntry) : (s.setQueue n v).drv = s.drv := rfl
@[simp] theorem State.setQueue_lan (s : State) (n : Nat) (v : List QEntry) : (s.setQueue n v).lan = s.lan := rfl
@[simp] theorem State.setQueue_dma (s : State) (n : Nat) (v : List QEntry) : (s.setQueue n v).dma = s.dma := rfl
@[simp] theorem State.setQueue_twn (s : State) (n : Nat) (v : List QEntry) : (s.setQueue n v).twn = s.twn := rfl
@[simp] theorem State.setQueue_elx (s : State) (n : Nat) (v : List QEntry) : (s.setQueue n v).elx = s.elx := rfl
@[simp] theorem State.setQueue_tap (s : State) (n : Nat) (v : List QEntry) : (s.setQueue n v).tap = s.tap := rfl
@[simp] theorem State.setQueue_hits (s : State) (n : Nat) (v : List QEntry) : (s.setQueue n v).hits = s.hits := rfl
@[simp] theorem State.setQueue_agenda (s : State) (n : Nat) (v : List QEntry) : (s.setQueue n v).agenda = s.agenda := rfl
@[simp] theorem State.setQueue_image (s : State) (n : Nat) (v : List QEntry) : (s.setQueue n v).image = s.image := rfl

@[simp] theorem State.queue_setQueue (s : State) (n : Nat) (v : List QEntry) : (s.setQueue n v).queue n = v := Tbl.get_put_same _ _ _ _
@[simp] theorem State.queue_setQueue_other (s : State) (n : Nat) (v : List QEntry) {i : Nat} (h : i ≠ n) : (s.setQueue n v).queue i = s.queue i :=
  Tbl.get_put_other _ h _ _

/-! ### setActive -/

@[simp] theorem State.setActive_pending (s : State) (n : Nat) (v : Option Pulse) : (s.setActive n v).pending = s.pending := rfl
@[simp] theorem State.setActive_free (s : State) (n : Nat) (v : Option Pulse) : (s.setActive n v).free = s.free := rfl
@[simp] theorem State.setActive_tb (s : State) (n : Nat) (v : Option Pulse) : (s.setActive n v).tb = s.tb := rfl
@[simp] theorem State.setActive_regs (s : State) (n : Nat) (v : Option Pulse) : (s.setActive n v).regs = s.regs := rfl
@[simp] theorem State.setActive_staged (s : State) (n : Nat) (v : Option Pulse) : (s.setActive n v).staged = s.staged := rfl
@[simp] theorem State.setActive_time (s : State) (n : Nat) (v : Option Pulse) : (s.setActive n v).time = s.time := rfl
@[simp] theorem State.setActive_commit (s : State) (n : Nat) (v : Option Pulse) : (s.setActive n v).commit = s.commit := rfl
@[simp] theorem State.setActive_bridge (s : State) (n : Nat) (v : Option Pulse) : (s.setActive n v).bridge = s.bridge := rfl
@[simp] theorem State.setActive_sup (s : State) (n : Nat) (v : Option Pulse) : (s.setActive n v).sup = s.sup := rfl
@[simp] theorem State.setActive_lat (s : State) (n : Nat) (v : Option Pulse) : (s.setActive n v).lat = s.lat := rfl
@[simp] theorem State.setActive_irc (s : State) (n : Nat) (v : Option Pulse) : (s.setActive n v).irc = s.irc := rfl
@[simp] theorem State.setActive_fus (s : State) (n : Nat) (v : Option Pulse) : (s.setActive n v).fus = s.fus := rfl
@[simp] theorem State.setActive_pwr (s : State) (n : Nat) (v : Option Pulse) : (s.setActive n v).pwr = s.pwr := rfl
@[simp] theorem State.setActive_wheel (s : State) (n : Nat) (v : Option Pulse) : (s.setActive n v).wheel = s.wheel := rfl
@[simp] theorem State.setActive_sync (s : State) (n : Nat) (v : Option Pulse) : (s.setActive n v).sync = s.sync := rfl
@[simp] theorem State.setActive_tan (s : State) (n : Nat) (v : Option Pulse) : (s.setActive n v).tan = s.tan := rfl
@[simp] theorem State.setActive_cmd (s : State) (n : Nat) (v : Option Pulse) : (s.setActive n v).cmd = s.cmd := rfl
@[simp] theorem State.setActive_arcs (s : State) (n : Nat) (v : Option Pulse) : (s.setActive n v).arcs = s.arcs := rfl
@[simp] theorem State.setActive_cmb (s : State) (n : Nat) (v : Option Pulse) : (s.setActive n v).cmb = s.cmb := rfl
@[simp] theorem State.setActive_fbk (s : State) (n : Nat) (v : Option Pulse) : (s.setActive n v).fbk = s.fbk := rfl
@[simp] theorem State.setActive_drv (s : State) (n : Nat) (v : Option Pulse) : (s.setActive n v).drv = s.drv := rfl
@[simp] theorem State.setActive_lan (s : State) (n : Nat) (v : Option Pulse) : (s.setActive n v).lan = s.lan := rfl
@[simp] theorem State.setActive_dma (s : State) (n : Nat) (v : Option Pulse) : (s.setActive n v).dma = s.dma := rfl
@[simp] theorem State.setActive_twn (s : State) (n : Nat) (v : Option Pulse) : (s.setActive n v).twn = s.twn := rfl
@[simp] theorem State.setActive_elx (s : State) (n : Nat) (v : Option Pulse) : (s.setActive n v).elx = s.elx := rfl
@[simp] theorem State.setActive_tap (s : State) (n : Nat) (v : Option Pulse) : (s.setActive n v).tap = s.tap := rfl
@[simp] theorem State.setActive_hits (s : State) (n : Nat) (v : Option Pulse) : (s.setActive n v).hits = s.hits := rfl
@[simp] theorem State.setActive_agenda (s : State) (n : Nat) (v : Option Pulse) : (s.setActive n v).agenda = s.agenda := rfl
@[simp] theorem State.setActive_image (s : State) (n : Nat) (v : Option Pulse) : (s.setActive n v).image = s.image := rfl

@[simp] theorem State.active_setActive (s : State) (n : Nat) (v : Option Pulse) : (s.setActive n v).active n = v := Tbl.get_put_same _ _ _ _
@[simp] theorem State.active_setActive_other (s : State) (n : Nat) (v : Option Pulse) {i : Nat} (h : i ≠ n) : (s.setActive n v).active i = s.active i :=
  Tbl.get_put_other _ h _ _

/-! ### setInput -/

@[simp] theorem State.setInput_pending (s : State) (n : Nat) (v : Input) : (s.setInput n v).pending = s.pending := rfl
@[simp] theorem State.setInput_free (s : State) (n : Nat) (v : Input) : (s.setInput n v).free = s.free := rfl
@[simp] theorem State.setInput_tb (s : State) (n : Nat) (v : Input) : (s.setInput n v).tb = s.tb := rfl
@[simp] theorem State.setInput_regs (s : State) (n : Nat) (v : Input) : (s.setInput n v).regs = s.regs := rfl
@[simp] theorem State.setInput_staged (s : State) (n : Nat) (v : Input) : (s.setInput n v).staged = s.staged := rfl
@[simp] theorem State.setInput_time (s : State) (n : Nat) (v : Input) : (s.setInput n v).time = s.time := rfl
@[simp] theorem State.setInput_commit (s : State) (n : Nat) (v : Input) : (s.setInput n v).commit = s.commit := rfl
@[simp] theorem State.setInput_bridge (s : State) (n : Nat) (v : Input) : (s.setInput n v).bridge = s.bridge := rfl
@[simp] theorem State.setInput_sup (s : State) (n : Nat) (v : Input) : (s.setInput n v).sup = s.sup := rfl
@[simp] theorem State.setInput_lat (s : State) (n : Nat) (v : Input) : (s.setInput n v).lat = s.lat := rfl
@[simp] theorem State.setInput_irc (s : State) (n : Nat) (v : Input) : (s.setInput n v).irc = s.irc := rfl
@[simp] theorem State.setInput_fus (s : State) (n : Nat) (v : Input) : (s.setInput n v).fus = s.fus := rfl
@[simp] theorem State.setInput_pwr (s : State) (n : Nat) (v : Input) : (s.setInput n v).pwr = s.pwr := rfl
@[simp] theorem State.setInput_sync (s : State) (n : Nat) (v : Input) : (s.setInput n v).sync = s.sync := rfl
@[simp] theorem State.setInput_tan (s : State) (n : Nat) (v : Input) : (s.setInput n v).tan = s.tan := rfl
@[simp] theorem State.setInput_evq (s : State) (n : Nat) (v : Input) : (s.setInput n v).evq = s.evq := rfl
@[simp] theorem State.setInput_cmd (s : State) (n : Nat) (v : Input) : (s.setInput n v).cmd = s.cmd := rfl
@[simp] theorem State.setInput_arcs (s : State) (n : Nat) (v : Input) : (s.setInput n v).arcs = s.arcs := rfl
@[simp] theorem State.setInput_cmb (s : State) (n : Nat) (v : Input) : (s.setInput n v).cmb = s.cmb := rfl
@[simp] theorem State.setInput_fbk (s : State) (n : Nat) (v : Input) : (s.setInput n v).fbk = s.fbk := rfl
@[simp] theorem State.setInput_drv (s : State) (n : Nat) (v : Input) : (s.setInput n v).drv = s.drv := rfl
@[simp] theorem State.setInput_lan (s : State) (n : Nat) (v : Input) : (s.setInput n v).lan = s.lan := rfl
@[simp] theorem State.setInput_dma (s : State) (n : Nat) (v : Input) : (s.setInput n v).dma = s.dma := rfl
@[simp] theorem State.setInput_twn (s : State) (n : Nat) (v : Input) : (s.setInput n v).twn = s.twn := rfl
@[simp] theorem State.setInput_elx (s : State) (n : Nat) (v : Input) : (s.setInput n v).elx = s.elx := rfl
@[simp] theorem State.setInput_tap (s : State) (n : Nat) (v : Input) : (s.setInput n v).tap = s.tap := rfl
@[simp] theorem State.setInput_hits (s : State) (n : Nat) (v : Input) : (s.setInput n v).hits = s.hits := rfl
@[simp] theorem State.setInput_agenda (s : State) (n : Nat) (v : Input) : (s.setInput n v).agenda = s.agenda := rfl
@[simp] theorem State.setInput_image (s : State) (n : Nat) (v : Input) : (s.setInput n v).image = s.image := rfl

@[simp] theorem State.input_setInput (s : State) (n : Nat) (v : Input) : (s.setInput n v).input n = v := Tbl.get_put_same _ _ _ _
@[simp] theorem State.input_setInput_other (s : State) (n : Nat) (v : Input) {i : Nat} (h : i ≠ n) : (s.setInput n v).input i = s.input i :=
  Tbl.get_put_other _ h _ _

/-! ### setBoost -/

@[simp] theorem State.setBoost_pending (s : State) (n : Nat) (v : Boost) : (s.setBoost n v).pending = s.pending := by
  unfold State.setBoost
  split <;> rfl
@[simp] theorem State.setBoost_free (s : State) (n : Nat) (v : Boost) : (s.setBoost n v).free = s.free := by
  unfold State.setBoost
  split <;> rfl
@[simp] theorem State.setBoost_tb (s : State) (n : Nat) (v : Boost) : (s.setBoost n v).tb = s.tb := by
  unfold State.setBoost
  split <;> rfl
@[simp] theorem State.setBoost_regs (s : State) (n : Nat) (v : Boost) : (s.setBoost n v).regs = s.regs := by
  unfold State.setBoost
  split <;> rfl
@[simp] theorem State.setBoost_staged (s : State) (n : Nat) (v : Boost) : (s.setBoost n v).staged = s.staged := by
  unfold State.setBoost
  split <;> rfl
@[simp] theorem State.setBoost_time (s : State) (n : Nat) (v : Boost) : (s.setBoost n v).time = s.time := by
  unfold State.setBoost
  split <;> rfl
@[simp] theorem State.setBoost_commit (s : State) (n : Nat) (v : Boost) : (s.setBoost n v).commit = s.commit := by
  unfold State.setBoost
  split <;> rfl
@[simp] theorem State.setBoost_bridge (s : State) (n : Nat) (v : Boost) : (s.setBoost n v).bridge = s.bridge := by
  unfold State.setBoost
  split <;> rfl
@[simp] theorem State.setBoost_sup (s : State) (n : Nat) (v : Boost) : (s.setBoost n v).sup = s.sup := by
  unfold State.setBoost
  split <;> rfl
@[simp] theorem State.setBoost_lat (s : State) (n : Nat) (v : Boost) : (s.setBoost n v).lat = s.lat := by
  unfold State.setBoost
  split <;> rfl
@[simp] theorem State.setBoost_irc (s : State) (n : Nat) (v : Boost) : (s.setBoost n v).irc = s.irc := by
  unfold State.setBoost
  split <;> rfl
@[simp] theorem State.setBoost_fus (s : State) (n : Nat) (v : Boost) : (s.setBoost n v).fus = s.fus := by
  unfold State.setBoost
  split <;> rfl
@[simp] theorem State.setBoost_pwr (s : State) (n : Nat) (v : Boost) : (s.setBoost n v).pwr = s.pwr := by
  unfold State.setBoost
  split <;> rfl
@[simp] theorem State.setBoost_wheel (s : State) (n : Nat) (v : Boost) : (s.setBoost n v).wheel = s.wheel := by
  unfold State.setBoost
  split <;> rfl
@[simp] theorem State.setBoost_sync (s : State) (n : Nat) (v : Boost) : (s.setBoost n v).sync = s.sync := by
  unfold State.setBoost
  split <;> rfl
@[simp] theorem State.setBoost_tan (s : State) (n : Nat) (v : Boost) : (s.setBoost n v).tan = s.tan := by
  unfold State.setBoost
  split <;> rfl
@[simp] theorem State.setBoost_evq (s : State) (n : Nat) (v : Boost) : (s.setBoost n v).evq = s.evq := by
  unfold State.setBoost
  split <;> rfl
@[simp] theorem State.setBoost_cmd (s : State) (n : Nat) (v : Boost) : (s.setBoost n v).cmd = s.cmd := by
  unfold State.setBoost
  split <;> rfl
@[simp] theorem State.setBoost_arcs (s : State) (n : Nat) (v : Boost) : (s.setBoost n v).arcs = s.arcs := by
  unfold State.setBoost
  split <;> rfl
@[simp] theorem State.setBoost_cmb (s : State) (n : Nat) (v : Boost) : (s.setBoost n v).cmb = s.cmb := by
  unfold State.setBoost
  split <;> rfl
@[simp] theorem State.setBoost_fbk (s : State) (n : Nat) (v : Boost) : (s.setBoost n v).fbk = s.fbk := by
  unfold State.setBoost
  split <;> rfl
@[simp] theorem State.setBoost_lan (s : State) (n : Nat) (v : Boost) : (s.setBoost n v).lan = s.lan := by
  unfold State.setBoost
  split <;> rfl
@[simp] theorem State.setBoost_dma (s : State) (n : Nat) (v : Boost) : (s.setBoost n v).dma = s.dma := by
  unfold State.setBoost
  split <;> rfl
@[simp] theorem State.setBoost_twn (s : State) (n : Nat) (v : Boost) : (s.setBoost n v).twn = s.twn := by
  unfold State.setBoost
  split <;> rfl
@[simp] theorem State.setBoost_elx (s : State) (n : Nat) (v : Boost) : (s.setBoost n v).elx = s.elx := by
  unfold State.setBoost
  split <;> rfl
@[simp] theorem State.setBoost_tap (s : State) (n : Nat) (v : Boost) : (s.setBoost n v).tap = s.tap := by
  unfold State.setBoost
  split <;> rfl
@[simp] theorem State.setBoost_hits (s : State) (n : Nat) (v : Boost) : (s.setBoost n v).hits = s.hits := by
  unfold State.setBoost
  split <;> rfl
@[simp] theorem State.setBoost_agenda (s : State) (n : Nat) (v : Boost) : (s.setBoost n v).agenda = s.agenda := by
  unfold State.setBoost
  split <;> rfl
@[simp] theorem State.setBoost_image (s : State) (n : Nat) (v : Boost) : (s.setBoost n v).image = s.image := by
  unfold State.setBoost
  split <;> rfl

@[simp] theorem State.boost_setBoost_zero (s : State) (v : Boost) : (s.setBoost 0 v).boost 0 = v := rfl
@[simp] theorem State.boost_setBoost_one (s : State) (v : Boost) : (s.setBoost 1 v).boost 1 = v := rfl

/-! ### setInc -/

@[simp] theorem State.setInc_pending (s : State) (n : Nat) (v : IncPort) : (s.setInc n v).pending = s.pending := by
  unfold State.setInc
  split <;> rfl
@[simp] theorem State.setInc_free (s : State) (n : Nat) (v : IncPort) : (s.setInc n v).free = s.free := by
  unfold State.setInc
  split <;> rfl
@[simp] theorem State.setInc_tb (s : State) (n : Nat) (v : IncPort) : (s.setInc n v).tb = s.tb := by
  unfold State.setInc
  split <;> rfl
@[simp] theorem State.setInc_regs (s : State) (n : Nat) (v : IncPort) : (s.setInc n v).regs = s.regs := by
  unfold State.setInc
  split <;> rfl
@[simp] theorem State.setInc_staged (s : State) (n : Nat) (v : IncPort) : (s.setInc n v).staged = s.staged := by
  unfold State.setInc
  split <;> rfl
@[simp] theorem State.setInc_time (s : State) (n : Nat) (v : IncPort) : (s.setInc n v).time = s.time := by
  unfold State.setInc
  split <;> rfl
@[simp] theorem State.setInc_commit (s : State) (n : Nat) (v : IncPort) : (s.setInc n v).commit = s.commit := by
  unfold State.setInc
  split <;> rfl
@[simp] theorem State.setInc_bridge (s : State) (n : Nat) (v : IncPort) : (s.setInc n v).bridge = s.bridge := by
  unfold State.setInc
  split <;> rfl
@[simp] theorem State.setInc_sup (s : State) (n : Nat) (v : IncPort) : (s.setInc n v).sup = s.sup := by
  unfold State.setInc
  split <;> rfl
@[simp] theorem State.setInc_lat (s : State) (n : Nat) (v : IncPort) : (s.setInc n v).lat = s.lat := by
  unfold State.setInc
  split <;> rfl
@[simp] theorem State.setInc_irc (s : State) (n : Nat) (v : IncPort) : (s.setInc n v).irc = s.irc := by
  unfold State.setInc
  split <;> rfl
@[simp] theorem State.setInc_fus (s : State) (n : Nat) (v : IncPort) : (s.setInc n v).fus = s.fus := by
  unfold State.setInc
  split <;> rfl
@[simp] theorem State.setInc_pwr (s : State) (n : Nat) (v : IncPort) : (s.setInc n v).pwr = s.pwr := by
  unfold State.setInc
  split <;> rfl
@[simp] theorem State.setInc_wheel (s : State) (n : Nat) (v : IncPort) : (s.setInc n v).wheel = s.wheel := by
  unfold State.setInc
  split <;> rfl
@[simp] theorem State.setInc_sync (s : State) (n : Nat) (v : IncPort) : (s.setInc n v).sync = s.sync := by
  unfold State.setInc
  split <;> rfl
@[simp] theorem State.setInc_tan (s : State) (n : Nat) (v : IncPort) : (s.setInc n v).tan = s.tan := by
  unfold State.setInc
  split <;> rfl
@[simp] theorem State.setInc_evq (s : State) (n : Nat) (v : IncPort) : (s.setInc n v).evq = s.evq := by
  unfold State.setInc
  split <;> rfl
@[simp] theorem State.setInc_cmd (s : State) (n : Nat) (v : IncPort) : (s.setInc n v).cmd = s.cmd := by
  unfold State.setInc
  split <;> rfl
@[simp] theorem State.setInc_arcs (s : State) (n : Nat) (v : IncPort) : (s.setInc n v).arcs = s.arcs := by
  unfold State.setInc
  split <;> rfl
@[simp] theorem State.setInc_cmb (s : State) (n : Nat) (v : IncPort) : (s.setInc n v).cmb = s.cmb := by
  unfold State.setInc
  split <;> rfl
@[simp] theorem State.setInc_drv (s : State) (n : Nat) (v : IncPort) : (s.setInc n v).drv = s.drv := by
  unfold State.setInc
  split <;> rfl
@[simp] theorem State.setInc_lan (s : State) (n : Nat) (v : IncPort) : (s.setInc n v).lan = s.lan := by
  unfold State.setInc
  split <;> rfl
@[simp] theorem State.setInc_dma (s : State) (n : Nat) (v : IncPort) : (s.setInc n v).dma = s.dma := by
  unfold State.setInc
  split <;> rfl
@[simp] theorem State.setInc_twn (s : State) (n : Nat) (v : IncPort) : (s.setInc n v).twn = s.twn := by
  unfold State.setInc
  split <;> rfl
@[simp] theorem State.setInc_elx (s : State) (n : Nat) (v : IncPort) : (s.setInc n v).elx = s.elx := by
  unfold State.setInc
  split <;> rfl
@[simp] theorem State.setInc_tap (s : State) (n : Nat) (v : IncPort) : (s.setInc n v).tap = s.tap := by
  unfold State.setInc
  split <;> rfl
@[simp] theorem State.setInc_hits (s : State) (n : Nat) (v : IncPort) : (s.setInc n v).hits = s.hits := by
  unfold State.setInc
  split <;> rfl
@[simp] theorem State.setInc_agenda (s : State) (n : Nat) (v : IncPort) : (s.setInc n v).agenda = s.agenda := by
  unfold State.setInc
  split <;> rfl
@[simp] theorem State.setInc_image (s : State) (n : Nat) (v : IncPort) : (s.setInc n v).image = s.image := by
  unfold State.setInc
  split <;> rfl

@[simp] theorem State.inc_setInc_zero (s : State) (v : IncPort) : (s.setInc 0 v).inc 0 = v := rfl
@[simp] theorem State.inc_setInc_one (s : State) (v : IncPort) : (s.setInc 1 v).inc 1 = v := rfl

/-! ### setSsi -/

@[simp] theorem State.setSsi_pending (s : State) (n : Nat) (v : SsiPort) : (s.setSsi n v).pending = s.pending := by
  unfold State.setSsi
  split <;> rfl
@[simp] theorem State.setSsi_free (s : State) (n : Nat) (v : SsiPort) : (s.setSsi n v).free = s.free := by
  unfold State.setSsi
  split <;> rfl
@[simp] theorem State.setSsi_tb (s : State) (n : Nat) (v : SsiPort) : (s.setSsi n v).tb = s.tb := by
  unfold State.setSsi
  split <;> rfl
@[simp] theorem State.setSsi_regs (s : State) (n : Nat) (v : SsiPort) : (s.setSsi n v).regs = s.regs := by
  unfold State.setSsi
  split <;> rfl
@[simp] theorem State.setSsi_staged (s : State) (n : Nat) (v : SsiPort) : (s.setSsi n v).staged = s.staged := by
  unfold State.setSsi
  split <;> rfl
@[simp] theorem State.setSsi_time (s : State) (n : Nat) (v : SsiPort) : (s.setSsi n v).time = s.time := by
  unfold State.setSsi
  split <;> rfl
@[simp] theorem State.setSsi_commit (s : State) (n : Nat) (v : SsiPort) : (s.setSsi n v).commit = s.commit := by
  unfold State.setSsi
  split <;> rfl
@[simp] theorem State.setSsi_bridge (s : State) (n : Nat) (v : SsiPort) : (s.setSsi n v).bridge = s.bridge := by
  unfold State.setSsi
  split <;> rfl
@[simp] theorem State.setSsi_sup (s : State) (n : Nat) (v : SsiPort) : (s.setSsi n v).sup = s.sup := by
  unfold State.setSsi
  split <;> rfl
@[simp] theorem State.setSsi_lat (s : State) (n : Nat) (v : SsiPort) : (s.setSsi n v).lat = s.lat := by
  unfold State.setSsi
  split <;> rfl
@[simp] theorem State.setSsi_irc (s : State) (n : Nat) (v : SsiPort) : (s.setSsi n v).irc = s.irc := by
  unfold State.setSsi
  split <;> rfl
@[simp] theorem State.setSsi_fus (s : State) (n : Nat) (v : SsiPort) : (s.setSsi n v).fus = s.fus := by
  unfold State.setSsi
  split <;> rfl
@[simp] theorem State.setSsi_pwr (s : State) (n : Nat) (v : SsiPort) : (s.setSsi n v).pwr = s.pwr := by
  unfold State.setSsi
  split <;> rfl
@[simp] theorem State.setSsi_wheel (s : State) (n : Nat) (v : SsiPort) : (s.setSsi n v).wheel = s.wheel := by
  unfold State.setSsi
  split <;> rfl
@[simp] theorem State.setSsi_sync (s : State) (n : Nat) (v : SsiPort) : (s.setSsi n v).sync = s.sync := by
  unfold State.setSsi
  split <;> rfl
@[simp] theorem State.setSsi_tan (s : State) (n : Nat) (v : SsiPort) : (s.setSsi n v).tan = s.tan := by
  unfold State.setSsi
  split <;> rfl
@[simp] theorem State.setSsi_evq (s : State) (n : Nat) (v : SsiPort) : (s.setSsi n v).evq = s.evq := by
  unfold State.setSsi
  split <;> rfl
@[simp] theorem State.setSsi_cmd (s : State) (n : Nat) (v : SsiPort) : (s.setSsi n v).cmd = s.cmd := by
  unfold State.setSsi
  split <;> rfl
@[simp] theorem State.setSsi_arcs (s : State) (n : Nat) (v : SsiPort) : (s.setSsi n v).arcs = s.arcs := by
  unfold State.setSsi
  split <;> rfl
@[simp] theorem State.setSsi_cmb (s : State) (n : Nat) (v : SsiPort) : (s.setSsi n v).cmb = s.cmb := by
  unfold State.setSsi
  split <;> rfl
@[simp] theorem State.setSsi_drv (s : State) (n : Nat) (v : SsiPort) : (s.setSsi n v).drv = s.drv := by
  unfold State.setSsi
  split <;> rfl
@[simp] theorem State.setSsi_lan (s : State) (n : Nat) (v : SsiPort) : (s.setSsi n v).lan = s.lan := by
  unfold State.setSsi
  split <;> rfl
@[simp] theorem State.setSsi_dma (s : State) (n : Nat) (v : SsiPort) : (s.setSsi n v).dma = s.dma := by
  unfold State.setSsi
  split <;> rfl
@[simp] theorem State.setSsi_twn (s : State) (n : Nat) (v : SsiPort) : (s.setSsi n v).twn = s.twn := by
  unfold State.setSsi
  split <;> rfl
@[simp] theorem State.setSsi_elx (s : State) (n : Nat) (v : SsiPort) : (s.setSsi n v).elx = s.elx := by
  unfold State.setSsi
  split <;> rfl
@[simp] theorem State.setSsi_tap (s : State) (n : Nat) (v : SsiPort) : (s.setSsi n v).tap = s.tap := by
  unfold State.setSsi
  split <;> rfl
@[simp] theorem State.setSsi_hits (s : State) (n : Nat) (v : SsiPort) : (s.setSsi n v).hits = s.hits := by
  unfold State.setSsi
  split <;> rfl
@[simp] theorem State.setSsi_agenda (s : State) (n : Nat) (v : SsiPort) : (s.setSsi n v).agenda = s.agenda := by
  unfold State.setSsi
  split <;> rfl
@[simp] theorem State.setSsi_image (s : State) (n : Nat) (v : SsiPort) : (s.setSsi n v).image = s.image := by
  unfold State.setSsi
  split <;> rfl

@[simp] theorem State.ssi_setSsi_zero (s : State) (v : SsiPort) : (s.setSsi 0 v).ssi 0 = v := rfl
@[simp] theorem State.ssi_setSsi_one (s : State) (v : SsiPort) : (s.setSsi 1 v).ssi 1 = v := rfl

/-! ### setPort -/

@[simp] theorem State.setPort_pending (s : State) (n : Nat) (v : Port) : (s.setPort n v).pending = s.pending := by
  unfold State.setPort
  split <;> rfl
@[simp] theorem State.setPort_free (s : State) (n : Nat) (v : Port) : (s.setPort n v).free = s.free := by
  unfold State.setPort
  split <;> rfl
@[simp] theorem State.setPort_tb (s : State) (n : Nat) (v : Port) : (s.setPort n v).tb = s.tb := by
  unfold State.setPort
  split <;> rfl
@[simp] theorem State.setPort_regs (s : State) (n : Nat) (v : Port) : (s.setPort n v).regs = s.regs := by
  unfold State.setPort
  split <;> rfl
@[simp] theorem State.setPort_staged (s : State) (n : Nat) (v : Port) : (s.setPort n v).staged = s.staged := by
  unfold State.setPort
  split <;> rfl
@[simp] theorem State.setPort_time (s : State) (n : Nat) (v : Port) : (s.setPort n v).time = s.time := by
  unfold State.setPort
  split <;> rfl
@[simp] theorem State.setPort_commit (s : State) (n : Nat) (v : Port) : (s.setPort n v).commit = s.commit := by
  unfold State.setPort
  split <;> rfl
@[simp] theorem State.setPort_bridge (s : State) (n : Nat) (v : Port) : (s.setPort n v).bridge = s.bridge := by
  unfold State.setPort
  split <;> rfl
@[simp] theorem State.setPort_sup (s : State) (n : Nat) (v : Port) : (s.setPort n v).sup = s.sup := by
  unfold State.setPort
  split <;> rfl
@[simp] theorem State.setPort_lat (s : State) (n : Nat) (v : Port) : (s.setPort n v).lat = s.lat := by
  unfold State.setPort
  split <;> rfl
@[simp] theorem State.setPort_irc (s : State) (n : Nat) (v : Port) : (s.setPort n v).irc = s.irc := by
  unfold State.setPort
  split <;> rfl
@[simp] theorem State.setPort_fus (s : State) (n : Nat) (v : Port) : (s.setPort n v).fus = s.fus := by
  unfold State.setPort
  split <;> rfl
@[simp] theorem State.setPort_pwr (s : State) (n : Nat) (v : Port) : (s.setPort n v).pwr = s.pwr := by
  unfold State.setPort
  split <;> rfl
@[simp] theorem State.setPort_wheel (s : State) (n : Nat) (v : Port) : (s.setPort n v).wheel = s.wheel := by
  unfold State.setPort
  split <;> rfl
@[simp] theorem State.setPort_sync (s : State) (n : Nat) (v : Port) : (s.setPort n v).sync = s.sync := by
  unfold State.setPort
  split <;> rfl
@[simp] theorem State.setPort_tan (s : State) (n : Nat) (v : Port) : (s.setPort n v).tan = s.tan := by
  unfold State.setPort
  split <;> rfl
@[simp] theorem State.setPort_evq (s : State) (n : Nat) (v : Port) : (s.setPort n v).evq = s.evq := by
  unfold State.setPort
  split <;> rfl
@[simp] theorem State.setPort_arcs (s : State) (n : Nat) (v : Port) : (s.setPort n v).arcs = s.arcs := by
  unfold State.setPort
  split <;> rfl
@[simp] theorem State.setPort_cmb (s : State) (n : Nat) (v : Port) : (s.setPort n v).cmb = s.cmb := by
  unfold State.setPort
  split <;> rfl
@[simp] theorem State.setPort_fbk (s : State) (n : Nat) (v : Port) : (s.setPort n v).fbk = s.fbk := by
  unfold State.setPort
  split <;> rfl
@[simp] theorem State.setPort_drv (s : State) (n : Nat) (v : Port) : (s.setPort n v).drv = s.drv := by
  unfold State.setPort
  split <;> rfl
@[simp] theorem State.setPort_lan (s : State) (n : Nat) (v : Port) : (s.setPort n v).lan = s.lan := by
  unfold State.setPort
  split <;> rfl
@[simp] theorem State.setPort_dma (s : State) (n : Nat) (v : Port) : (s.setPort n v).dma = s.dma := by
  unfold State.setPort
  split <;> rfl
@[simp] theorem State.setPort_twn (s : State) (n : Nat) (v : Port) : (s.setPort n v).twn = s.twn := by
  unfold State.setPort
  split <;> rfl
@[simp] theorem State.setPort_elx (s : State) (n : Nat) (v : Port) : (s.setPort n v).elx = s.elx := by
  unfold State.setPort
  split <;> rfl
@[simp] theorem State.setPort_tap (s : State) (n : Nat) (v : Port) : (s.setPort n v).tap = s.tap := by
  unfold State.setPort
  split <;> rfl
@[simp] theorem State.setPort_hits (s : State) (n : Nat) (v : Port) : (s.setPort n v).hits = s.hits := by
  unfold State.setPort
  split <;> rfl
@[simp] theorem State.setPort_agenda (s : State) (n : Nat) (v : Port) : (s.setPort n v).agenda = s.agenda := by
  unfold State.setPort
  split <;> rfl
@[simp] theorem State.setPort_image (s : State) (n : Nat) (v : Port) : (s.setPort n v).image = s.image := by
  unfold State.setPort
  split <;> rfl

@[simp] theorem State.port_setPort_zero (s : State) (v : Port) : (s.setPort 0 v).port 0 = v := rfl
@[simp] theorem State.port_setPort_one (s : State) (v : Port) : (s.setPort 1 v).port 1 = v := rfl

/-! ### setCfg -/

@[simp] theorem State.setCfg_pending (s : State) (addr idx v : Nat) : (s.setCfg addr idx v).pending = s.pending := rfl
@[simp] theorem State.setCfg_free (s : State) (addr idx v : Nat) : (s.setCfg addr idx v).free = s.free := rfl
@[simp] theorem State.setCfg_tb (s : State) (addr idx v : Nat) : (s.setCfg addr idx v).tb = s.tb := rfl
@[simp] theorem State.setCfg_staged (s : State) (addr idx v : Nat) : (s.setCfg addr idx v).staged = s.staged := rfl
@[simp] theorem State.setCfg_time (s : State) (addr idx v : Nat) : (s.setCfg addr idx v).time = s.time := rfl
@[simp] theorem State.setCfg_commit (s : State) (addr idx v : Nat) : (s.setCfg addr idx v).commit = s.commit := rfl
@[simp] theorem State.setCfg_bridge (s : State) (addr idx v : Nat) : (s.setCfg addr idx v).bridge = s.bridge := rfl
@[simp] theorem State.setCfg_sup (s : State) (addr idx v : Nat) : (s.setCfg addr idx v).sup = s.sup := rfl
@[simp] theorem State.setCfg_lat (s : State) (addr idx v : Nat) : (s.setCfg addr idx v).lat = s.lat := rfl
@[simp] theorem State.setCfg_irc (s : State) (addr idx v : Nat) : (s.setCfg addr idx v).irc = s.irc := rfl
@[simp] theorem State.setCfg_fus (s : State) (addr idx v : Nat) : (s.setCfg addr idx v).fus = s.fus := rfl
@[simp] theorem State.setCfg_pwr (s : State) (addr idx v : Nat) : (s.setCfg addr idx v).pwr = s.pwr := rfl
@[simp] theorem State.setCfg_wheel (s : State) (addr idx v : Nat) : (s.setCfg addr idx v).wheel = s.wheel := rfl
@[simp] theorem State.setCfg_sync (s : State) (addr idx v : Nat) : (s.setCfg addr idx v).sync = s.sync := rfl
@[simp] theorem State.setCfg_tan (s : State) (addr idx v : Nat) : (s.setCfg addr idx v).tan = s.tan := rfl
@[simp] theorem State.setCfg_evq (s : State) (addr idx v : Nat) : (s.setCfg addr idx v).evq = s.evq := rfl
@[simp] theorem State.setCfg_cmd (s : State) (addr idx v : Nat) : (s.setCfg addr idx v).cmd = s.cmd := rfl
@[simp] theorem State.setCfg_arcs (s : State) (addr idx v : Nat) : (s.setCfg addr idx v).arcs = s.arcs := rfl
@[simp] theorem State.setCfg_cmb (s : State) (addr idx v : Nat) : (s.setCfg addr idx v).cmb = s.cmb := rfl
@[simp] theorem State.setCfg_fbk (s : State) (addr idx v : Nat) : (s.setCfg addr idx v).fbk = s.fbk := rfl
@[simp] theorem State.setCfg_drv (s : State) (addr idx v : Nat) : (s.setCfg addr idx v).drv = s.drv := rfl
@[simp] theorem State.setCfg_lan (s : State) (addr idx v : Nat) : (s.setCfg addr idx v).lan = s.lan := rfl
@[simp] theorem State.setCfg_dma (s : State) (addr idx v : Nat) : (s.setCfg addr idx v).dma = s.dma := rfl
@[simp] theorem State.setCfg_twn (s : State) (addr idx v : Nat) : (s.setCfg addr idx v).twn = s.twn := rfl
@[simp] theorem State.setCfg_elx (s : State) (addr idx v : Nat) : (s.setCfg addr idx v).elx = s.elx := rfl
@[simp] theorem State.setCfg_tap (s : State) (addr idx v : Nat) : (s.setCfg addr idx v).tap = s.tap := rfl
@[simp] theorem State.setCfg_hits (s : State) (addr idx v : Nat) : (s.setCfg addr idx v).hits = s.hits := rfl
@[simp] theorem State.setCfg_agenda (s : State) (addr idx v : Nat) : (s.setCfg addr idx v).agenda = s.agenda := rfl
@[simp] theorem State.setCfg_image (s : State) (addr idx v : Nat) : (s.setCfg addr idx v).image = s.image := rfl

/-! ### arrive -/

@[simp] theorem State.arrive_pending (s : State) (n : Nat) : (s.arrive n).pending = s.pending := rfl
@[simp] theorem State.arrive_free (s : State) (n : Nat) : (s.arrive n).free = s.free := rfl
@[simp] theorem State.arrive_tb (s : State) (n : Nat) : (s.arrive n).tb = s.tb := rfl
@[simp] theorem State.arrive_regs (s : State) (n : Nat) : (s.arrive n).regs = s.regs := rfl
@[simp] theorem State.arrive_staged (s : State) (n : Nat) : (s.arrive n).staged = s.staged := rfl
@[simp] theorem State.arrive_time (s : State) (n : Nat) : (s.arrive n).time = s.time := rfl
@[simp] theorem State.arrive_commit (s : State) (n : Nat) : (s.arrive n).commit = s.commit := rfl
@[simp] theorem State.arrive_bridge (s : State) (n : Nat) : (s.arrive n).bridge = s.bridge := rfl
@[simp] theorem State.arrive_sup (s : State) (n : Nat) : (s.arrive n).sup = s.sup := rfl
@[simp] theorem State.arrive_lat (s : State) (n : Nat) : (s.arrive n).lat = s.lat := rfl
@[simp] theorem State.arrive_fus (s : State) (n : Nat) : (s.arrive n).fus = s.fus := rfl
@[simp] theorem State.arrive_pwr (s : State) (n : Nat) : (s.arrive n).pwr = s.pwr := rfl
@[simp] theorem State.arrive_wheel (s : State) (n : Nat) : (s.arrive n).wheel = s.wheel := rfl
@[simp] theorem State.arrive_sync (s : State) (n : Nat) : (s.arrive n).sync = s.sync := rfl
@[simp] theorem State.arrive_tan (s : State) (n : Nat) : (s.arrive n).tan = s.tan := rfl
@[simp] theorem State.arrive_evq (s : State) (n : Nat) : (s.arrive n).evq = s.evq := rfl
@[simp] theorem State.arrive_cmd (s : State) (n : Nat) : (s.arrive n).cmd = s.cmd := rfl
@[simp] theorem State.arrive_arcs (s : State) (n : Nat) : (s.arrive n).arcs = s.arcs := rfl
@[simp] theorem State.arrive_cmb (s : State) (n : Nat) : (s.arrive n).cmb = s.cmb := rfl
@[simp] theorem State.arrive_fbk (s : State) (n : Nat) : (s.arrive n).fbk = s.fbk := rfl
@[simp] theorem State.arrive_drv (s : State) (n : Nat) : (s.arrive n).drv = s.drv := rfl
@[simp] theorem State.arrive_lan (s : State) (n : Nat) : (s.arrive n).lan = s.lan := rfl
@[simp] theorem State.arrive_dma (s : State) (n : Nat) : (s.arrive n).dma = s.dma := rfl
@[simp] theorem State.arrive_twn (s : State) (n : Nat) : (s.arrive n).twn = s.twn := rfl
@[simp] theorem State.arrive_elx (s : State) (n : Nat) : (s.arrive n).elx = s.elx := rfl
@[simp] theorem State.arrive_tap (s : State) (n : Nat) : (s.arrive n).tap = s.tap := rfl
@[simp] theorem State.arrive_hits (s : State) (n : Nat) : (s.arrive n).hits = s.hits := rfl
@[simp] theorem State.arrive_agenda (s : State) (n : Nat) : (s.arrive n).agenda = s.agenda := rfl
@[simp] theorem State.arrive_image (s : State) (n : Nat) : (s.arrive n).image = s.image := rfl

/-! ### twnSend -/

@[simp] theorem State.twnSend_pending (s : State) (n : Nat) (b : List Word) : (s.twnSend n b).pending = s.pending := rfl
@[simp] theorem State.twnSend_free (s : State) (n : Nat) (b : List Word) : (s.twnSend n b).free = s.free := rfl
@[simp] theorem State.twnSend_tb (s : State) (n : Nat) (b : List Word) : (s.twnSend n b).tb = s.tb := rfl
@[simp] theorem State.twnSend_regs (s : State) (n : Nat) (b : List Word) : (s.twnSend n b).regs = s.regs := rfl
@[simp] theorem State.twnSend_staged (s : State) (n : Nat) (b : List Word) : (s.twnSend n b).staged = s.staged := rfl
@[simp] theorem State.twnSend_time (s : State) (n : Nat) (b : List Word) : (s.twnSend n b).time = s.time := rfl
@[simp] theorem State.twnSend_commit (s : State) (n : Nat) (b : List Word) : (s.twnSend n b).commit = s.commit := rfl
@[simp] theorem State.twnSend_bridge (s : State) (n : Nat) (b : List Word) : (s.twnSend n b).bridge = s.bridge := rfl
@[simp] theorem State.twnSend_sup (s : State) (n : Nat) (b : List Word) : (s.twnSend n b).sup = s.sup := rfl
@[simp] theorem State.twnSend_lat (s : State) (n : Nat) (b : List Word) : (s.twnSend n b).lat = s.lat := rfl
@[simp] theorem State.twnSend_irc (s : State) (n : Nat) (b : List Word) : (s.twnSend n b).irc = s.irc := rfl
@[simp] theorem State.twnSend_fus (s : State) (n : Nat) (b : List Word) : (s.twnSend n b).fus = s.fus := rfl
@[simp] theorem State.twnSend_pwr (s : State) (n : Nat) (b : List Word) : (s.twnSend n b).pwr = s.pwr := rfl
@[simp] theorem State.twnSend_wheel (s : State) (n : Nat) (b : List Word) : (s.twnSend n b).wheel = s.wheel := rfl
@[simp] theorem State.twnSend_sync (s : State) (n : Nat) (b : List Word) : (s.twnSend n b).sync = s.sync := rfl
@[simp] theorem State.twnSend_tan (s : State) (n : Nat) (b : List Word) : (s.twnSend n b).tan = s.tan := rfl
@[simp] theorem State.twnSend_evq (s : State) (n : Nat) (b : List Word) : (s.twnSend n b).evq = s.evq := rfl
@[simp] theorem State.twnSend_cmd (s : State) (n : Nat) (b : List Word) : (s.twnSend n b).cmd = s.cmd := rfl
@[simp] theorem State.twnSend_arcs (s : State) (n : Nat) (b : List Word) : (s.twnSend n b).arcs = s.arcs := rfl
@[simp] theorem State.twnSend_cmb (s : State) (n : Nat) (b : List Word) : (s.twnSend n b).cmb = s.cmb := rfl
@[simp] theorem State.twnSend_fbk (s : State) (n : Nat) (b : List Word) : (s.twnSend n b).fbk = s.fbk := rfl
@[simp] theorem State.twnSend_drv (s : State) (n : Nat) (b : List Word) : (s.twnSend n b).drv = s.drv := rfl
@[simp] theorem State.twnSend_lan (s : State) (n : Nat) (b : List Word) : (s.twnSend n b).lan = s.lan := rfl
@[simp] theorem State.twnSend_dma (s : State) (n : Nat) (b : List Word) : (s.twnSend n b).dma = s.dma := rfl
@[simp] theorem State.twnSend_elx (s : State) (n : Nat) (b : List Word) : (s.twnSend n b).elx = s.elx := rfl
@[simp] theorem State.twnSend_tap (s : State) (n : Nat) (b : List Word) : (s.twnSend n b).tap = s.tap := rfl
@[simp] theorem State.twnSend_hits (s : State) (n : Nat) (b : List Word) : (s.twnSend n b).hits = s.hits := rfl
@[simp] theorem State.twnSend_agenda (s : State) (n : Nat) (b : List Word) : (s.twnSend n b).agenda = s.agenda := rfl
@[simp] theorem State.twnSend_image (s : State) (n : Nat) (b : List Word) : (s.twnSend n b).image = s.image := rfl

/-! ### twnShow -/

@[simp] theorem State.twnShow_pending (s : State) (n : Nat) (b : List Word) : (s.twnShow n b).pending = s.pending := rfl
@[simp] theorem State.twnShow_free (s : State) (n : Nat) (b : List Word) : (s.twnShow n b).free = s.free := rfl
@[simp] theorem State.twnShow_tb (s : State) (n : Nat) (b : List Word) : (s.twnShow n b).tb = s.tb := rfl
@[simp] theorem State.twnShow_regs (s : State) (n : Nat) (b : List Word) : (s.twnShow n b).regs = s.regs := rfl
@[simp] theorem State.twnShow_staged (s : State) (n : Nat) (b : List Word) : (s.twnShow n b).staged = s.staged := rfl
@[simp] theorem State.twnShow_time (s : State) (n : Nat) (b : List Word) : (s.twnShow n b).time = s.time := rfl
@[simp] theorem State.twnShow_commit (s : State) (n : Nat) (b : List Word) : (s.twnShow n b).commit = s.commit := rfl
@[simp] theorem State.twnShow_bridge (s : State) (n : Nat) (b : List Word) : (s.twnShow n b).bridge = s.bridge := rfl
@[simp] theorem State.twnShow_sup (s : State) (n : Nat) (b : List Word) : (s.twnShow n b).sup = s.sup := rfl
@[simp] theorem State.twnShow_lat (s : State) (n : Nat) (b : List Word) : (s.twnShow n b).lat = s.lat := rfl
@[simp] theorem State.twnShow_irc (s : State) (n : Nat) (b : List Word) : (s.twnShow n b).irc = s.irc := rfl
@[simp] theorem State.twnShow_fus (s : State) (n : Nat) (b : List Word) : (s.twnShow n b).fus = s.fus := rfl
@[simp] theorem State.twnShow_pwr (s : State) (n : Nat) (b : List Word) : (s.twnShow n b).pwr = s.pwr := rfl
@[simp] theorem State.twnShow_wheel (s : State) (n : Nat) (b : List Word) : (s.twnShow n b).wheel = s.wheel := rfl
@[simp] theorem State.twnShow_sync (s : State) (n : Nat) (b : List Word) : (s.twnShow n b).sync = s.sync := rfl
@[simp] theorem State.twnShow_tan (s : State) (n : Nat) (b : List Word) : (s.twnShow n b).tan = s.tan := rfl
@[simp] theorem State.twnShow_evq (s : State) (n : Nat) (b : List Word) : (s.twnShow n b).evq = s.evq := rfl
@[simp] theorem State.twnShow_cmd (s : State) (n : Nat) (b : List Word) : (s.twnShow n b).cmd = s.cmd := rfl
@[simp] theorem State.twnShow_arcs (s : State) (n : Nat) (b : List Word) : (s.twnShow n b).arcs = s.arcs := rfl
@[simp] theorem State.twnShow_cmb (s : State) (n : Nat) (b : List Word) : (s.twnShow n b).cmb = s.cmb := rfl
@[simp] theorem State.twnShow_fbk (s : State) (n : Nat) (b : List Word) : (s.twnShow n b).fbk = s.fbk := rfl
@[simp] theorem State.twnShow_drv (s : State) (n : Nat) (b : List Word) : (s.twnShow n b).drv = s.drv := rfl
@[simp] theorem State.twnShow_lan (s : State) (n : Nat) (b : List Word) : (s.twnShow n b).lan = s.lan := rfl
@[simp] theorem State.twnShow_dma (s : State) (n : Nat) (b : List Word) : (s.twnShow n b).dma = s.dma := rfl
@[simp] theorem State.twnShow_elx (s : State) (n : Nat) (b : List Word) : (s.twnShow n b).elx = s.elx := rfl
@[simp] theorem State.twnShow_tap (s : State) (n : Nat) (b : List Word) : (s.twnShow n b).tap = s.tap := rfl
@[simp] theorem State.twnShow_hits (s : State) (n : Nat) (b : List Word) : (s.twnShow n b).hits = s.hits := rfl
@[simp] theorem State.twnShow_agenda (s : State) (n : Nat) (b : List Word) : (s.twnShow n b).agenda = s.agenda := rfl
@[simp] theorem State.twnShow_image (s : State) (n : Nat) (b : List Word) : (s.twnShow n b).image = s.image := rfl

/-! ### later -/

@[simp] theorem State.later_pending (s : State) (t : Tick) (w : Work) : (s.later t w).pending = s.pending := rfl
@[simp] theorem State.later_free (s : State) (t : Tick) (w : Work) : (s.later t w).free = s.free := rfl
@[simp] theorem State.later_tb (s : State) (t : Tick) (w : Work) : (s.later t w).tb = s.tb := rfl
@[simp] theorem State.later_regs (s : State) (t : Tick) (w : Work) : (s.later t w).regs = s.regs := rfl
@[simp] theorem State.later_staged (s : State) (t : Tick) (w : Work) : (s.later t w).staged = s.staged := rfl
@[simp] theorem State.later_time (s : State) (t : Tick) (w : Work) : (s.later t w).time = s.time := rfl
@[simp] theorem State.later_commit (s : State) (t : Tick) (w : Work) : (s.later t w).commit = s.commit := rfl
@[simp] theorem State.later_bridge (s : State) (t : Tick) (w : Work) : (s.later t w).bridge = s.bridge := rfl
@[simp] theorem State.later_sup (s : State) (t : Tick) (w : Work) : (s.later t w).sup = s.sup := rfl
@[simp] theorem State.later_lat (s : State) (t : Tick) (w : Work) : (s.later t w).lat = s.lat := rfl
@[simp] theorem State.later_irc (s : State) (t : Tick) (w : Work) : (s.later t w).irc = s.irc := rfl
@[simp] theorem State.later_fus (s : State) (t : Tick) (w : Work) : (s.later t w).fus = s.fus := rfl
@[simp] theorem State.later_pwr (s : State) (t : Tick) (w : Work) : (s.later t w).pwr = s.pwr := rfl
@[simp] theorem State.later_wheel (s : State) (t : Tick) (w : Work) : (s.later t w).wheel = s.wheel := rfl
@[simp] theorem State.later_sync (s : State) (t : Tick) (w : Work) : (s.later t w).sync = s.sync := rfl
@[simp] theorem State.later_tan (s : State) (t : Tick) (w : Work) : (s.later t w).tan = s.tan := rfl
@[simp] theorem State.later_evq (s : State) (t : Tick) (w : Work) : (s.later t w).evq = s.evq := rfl
@[simp] theorem State.later_cmd (s : State) (t : Tick) (w : Work) : (s.later t w).cmd = s.cmd := rfl
@[simp] theorem State.later_arcs (s : State) (t : Tick) (w : Work) : (s.later t w).arcs = s.arcs := rfl
@[simp] theorem State.later_cmb (s : State) (t : Tick) (w : Work) : (s.later t w).cmb = s.cmb := rfl
@[simp] theorem State.later_fbk (s : State) (t : Tick) (w : Work) : (s.later t w).fbk = s.fbk := rfl
@[simp] theorem State.later_drv (s : State) (t : Tick) (w : Work) : (s.later t w).drv = s.drv := rfl
@[simp] theorem State.later_lan (s : State) (t : Tick) (w : Work) : (s.later t w).lan = s.lan := rfl
@[simp] theorem State.later_dma (s : State) (t : Tick) (w : Work) : (s.later t w).dma = s.dma := rfl
@[simp] theorem State.later_twn (s : State) (t : Tick) (w : Work) : (s.later t w).twn = s.twn := rfl
@[simp] theorem State.later_elx (s : State) (t : Tick) (w : Work) : (s.later t w).elx = s.elx := rfl
@[simp] theorem State.later_tap (s : State) (t : Tick) (w : Work) : (s.later t w).tap = s.tap := rfl
@[simp] theorem State.later_hits (s : State) (t : Tick) (w : Work) : (s.later t w).hits = s.hits := rfl
@[simp] theorem State.later_image (s : State) (t : Tick) (w : Work) : (s.later t w).image = s.image := rfl

/-! ### hit -/

@[simp] theorem State.hit_pending (s : State) (addr idx lo : Nat) : (s.hit addr idx lo).pending = s.pending := rfl
@[simp] theorem State.hit_free (s : State) (addr idx lo : Nat) : (s.hit addr idx lo).free = s.free := rfl
@[simp] theorem State.hit_tb (s : State) (addr idx lo : Nat) : (s.hit addr idx lo).tb = s.tb := rfl
@[simp] theorem State.hit_regs (s : State) (addr idx lo : Nat) : (s.hit addr idx lo).regs = s.regs := rfl
@[simp] theorem State.hit_staged (s : State) (addr idx lo : Nat) : (s.hit addr idx lo).staged = s.staged := rfl
@[simp] theorem State.hit_time (s : State) (addr idx lo : Nat) : (s.hit addr idx lo).time = s.time := rfl
@[simp] theorem State.hit_commit (s : State) (addr idx lo : Nat) : (s.hit addr idx lo).commit = s.commit := rfl
@[simp] theorem State.hit_bridge (s : State) (addr idx lo : Nat) : (s.hit addr idx lo).bridge = s.bridge := rfl
@[simp] theorem State.hit_sup (s : State) (addr idx lo : Nat) : (s.hit addr idx lo).sup = s.sup := rfl
@[simp] theorem State.hit_lat (s : State) (addr idx lo : Nat) : (s.hit addr idx lo).lat = s.lat := rfl
@[simp] theorem State.hit_irc (s : State) (addr idx lo : Nat) : (s.hit addr idx lo).irc = s.irc := rfl
@[simp] theorem State.hit_fus (s : State) (addr idx lo : Nat) : (s.hit addr idx lo).fus = s.fus := rfl
@[simp] theorem State.hit_pwr (s : State) (addr idx lo : Nat) : (s.hit addr idx lo).pwr = s.pwr := rfl
@[simp] theorem State.hit_wheel (s : State) (addr idx lo : Nat) : (s.hit addr idx lo).wheel = s.wheel := rfl
@[simp] theorem State.hit_sync (s : State) (addr idx lo : Nat) : (s.hit addr idx lo).sync = s.sync := rfl
@[simp] theorem State.hit_tan (s : State) (addr idx lo : Nat) : (s.hit addr idx lo).tan = s.tan := rfl
@[simp] theorem State.hit_evq (s : State) (addr idx lo : Nat) : (s.hit addr idx lo).evq = s.evq := rfl
@[simp] theorem State.hit_cmd (s : State) (addr idx lo : Nat) : (s.hit addr idx lo).cmd = s.cmd := rfl
@[simp] theorem State.hit_arcs (s : State) (addr idx lo : Nat) : (s.hit addr idx lo).arcs = s.arcs := rfl
@[simp] theorem State.hit_cmb (s : State) (addr idx lo : Nat) : (s.hit addr idx lo).cmb = s.cmb := rfl
@[simp] theorem State.hit_fbk (s : State) (addr idx lo : Nat) : (s.hit addr idx lo).fbk = s.fbk := rfl
@[simp] theorem State.hit_drv (s : State) (addr idx lo : Nat) : (s.hit addr idx lo).drv = s.drv := rfl
@[simp] theorem State.hit_lan (s : State) (addr idx lo : Nat) : (s.hit addr idx lo).lan = s.lan := rfl
@[simp] theorem State.hit_dma (s : State) (addr idx lo : Nat) : (s.hit addr idx lo).dma = s.dma := rfl
@[simp] theorem State.hit_twn (s : State) (addr idx lo : Nat) : (s.hit addr idx lo).twn = s.twn := rfl
@[simp] theorem State.hit_elx (s : State) (addr idx lo : Nat) : (s.hit addr idx lo).elx = s.elx := rfl
@[simp] theorem State.hit_tap (s : State) (addr idx lo : Nat) : (s.hit addr idx lo).tap = s.tap := rfl
@[simp] theorem State.hit_agenda (s : State) (addr idx lo : Nat) : (s.hit addr idx lo).agenda = s.agenda := rfl
@[simp] theorem State.hit_image (s : State) (addr idx lo : Nat) : (s.hit addr idx lo).image = s.image := rfl

/-! ### setDom -/

@[simp] theorem State.setDom_pending (s : State) (n : Nat) (v : Dom) : (s.setDom n v).pending = s.pending := rfl
@[simp] theorem State.setDom_free (s : State) (n : Nat) (v : Dom) : (s.setDom n v).free = s.free := rfl
@[simp] theorem State.setDom_tb (s : State) (n : Nat) (v : Dom) : (s.setDom n v).tb = s.tb := rfl
@[simp] theorem State.setDom_regs (s : State) (n : Nat) (v : Dom) : (s.setDom n v).regs = s.regs := rfl
@[simp] theorem State.setDom_staged (s : State) (n : Nat) (v : Dom) : (s.setDom n v).staged = s.staged := rfl
@[simp] theorem State.setDom_time (s : State) (n : Nat) (v : Dom) : (s.setDom n v).time = s.time := rfl
@[simp] theorem State.setDom_commit (s : State) (n : Nat) (v : Dom) : (s.setDom n v).commit = s.commit := rfl
@[simp] theorem State.setDom_bridge (s : State) (n : Nat) (v : Dom) : (s.setDom n v).bridge = s.bridge := rfl
@[simp] theorem State.setDom_sup (s : State) (n : Nat) (v : Dom) : (s.setDom n v).sup = s.sup := rfl
@[simp] theorem State.setDom_lat (s : State) (n : Nat) (v : Dom) : (s.setDom n v).lat = s.lat := rfl
@[simp] theorem State.setDom_irc (s : State) (n : Nat) (v : Dom) : (s.setDom n v).irc = s.irc := rfl
@[simp] theorem State.setDom_fus (s : State) (n : Nat) (v : Dom) : (s.setDom n v).fus = s.fus := rfl
@[simp] theorem State.setDom_wheel (s : State) (n : Nat) (v : Dom) : (s.setDom n v).wheel = s.wheel := rfl
@[simp] theorem State.setDom_sync (s : State) (n : Nat) (v : Dom) : (s.setDom n v).sync = s.sync := rfl
@[simp] theorem State.setDom_tan (s : State) (n : Nat) (v : Dom) : (s.setDom n v).tan = s.tan := rfl
@[simp] theorem State.setDom_evq (s : State) (n : Nat) (v : Dom) : (s.setDom n v).evq = s.evq := rfl
@[simp] theorem State.setDom_cmd (s : State) (n : Nat) (v : Dom) : (s.setDom n v).cmd = s.cmd := rfl
@[simp] theorem State.setDom_arcs (s : State) (n : Nat) (v : Dom) : (s.setDom n v).arcs = s.arcs := rfl
@[simp] theorem State.setDom_cmb (s : State) (n : Nat) (v : Dom) : (s.setDom n v).cmb = s.cmb := rfl
@[simp] theorem State.setDom_fbk (s : State) (n : Nat) (v : Dom) : (s.setDom n v).fbk = s.fbk := rfl
@[simp] theorem State.setDom_drv (s : State) (n : Nat) (v : Dom) : (s.setDom n v).drv = s.drv := rfl
@[simp] theorem State.setDom_lan (s : State) (n : Nat) (v : Dom) : (s.setDom n v).lan = s.lan := rfl
@[simp] theorem State.setDom_dma (s : State) (n : Nat) (v : Dom) : (s.setDom n v).dma = s.dma := rfl
@[simp] theorem State.setDom_twn (s : State) (n : Nat) (v : Dom) : (s.setDom n v).twn = s.twn := rfl
@[simp] theorem State.setDom_elx (s : State) (n : Nat) (v : Dom) : (s.setDom n v).elx = s.elx := rfl
@[simp] theorem State.setDom_tap (s : State) (n : Nat) (v : Dom) : (s.setDom n v).tap = s.tap := rfl
@[simp] theorem State.setDom_hits (s : State) (n : Nat) (v : Dom) : (s.setDom n v).hits = s.hits := rfl
@[simp] theorem State.setDom_agenda (s : State) (n : Nat) (v : Dom) : (s.setDom n v).agenda = s.agenda := rfl
@[simp] theorem State.setDom_image (s : State) (n : Nat) (v : Dom) : (s.setDom n v).image = s.image := rfl

/-! ### report -/

@[simp] theorem State.report_pending (s : State) (code aux : Nat) : (s.report code aux).pending = s.pending := rfl
@[simp] theorem State.report_free (s : State) (code aux : Nat) : (s.report code aux).free = s.free := rfl
@[simp] theorem State.report_tb (s : State) (code aux : Nat) : (s.report code aux).tb = s.tb := rfl
@[simp] theorem State.report_regs (s : State) (code aux : Nat) : (s.report code aux).regs = s.regs := rfl
@[simp] theorem State.report_staged (s : State) (code aux : Nat) : (s.report code aux).staged = s.staged := rfl
@[simp] theorem State.report_time (s : State) (code aux : Nat) : (s.report code aux).time = s.time := rfl
@[simp] theorem State.report_commit (s : State) (code aux : Nat) : (s.report code aux).commit = s.commit := rfl
@[simp] theorem State.report_bridge (s : State) (code aux : Nat) : (s.report code aux).bridge = s.bridge := rfl
@[simp] theorem State.report_sup (s : State) (code aux : Nat) : (s.report code aux).sup = s.sup := rfl
@[simp] theorem State.report_lat (s : State) (code aux : Nat) : (s.report code aux).lat = s.lat := rfl
@[simp] theorem State.report_fus (s : State) (code aux : Nat) : (s.report code aux).fus = s.fus := rfl
@[simp] theorem State.report_pwr (s : State) (code aux : Nat) : (s.report code aux).pwr = s.pwr := rfl
@[simp] theorem State.report_wheel (s : State) (code aux : Nat) : (s.report code aux).wheel = s.wheel := rfl
@[simp] theorem State.report_sync (s : State) (code aux : Nat) : (s.report code aux).sync = s.sync := rfl
@[simp] theorem State.report_tan (s : State) (code aux : Nat) : (s.report code aux).tan = s.tan := rfl
@[simp] theorem State.report_evq (s : State) (code aux : Nat) : (s.report code aux).evq = s.evq := rfl
@[simp] theorem State.report_cmd (s : State) (code aux : Nat) : (s.report code aux).cmd = s.cmd := rfl
@[simp] theorem State.report_arcs (s : State) (code aux : Nat) : (s.report code aux).arcs = s.arcs := rfl
@[simp] theorem State.report_cmb (s : State) (code aux : Nat) : (s.report code aux).cmb = s.cmb := rfl
@[simp] theorem State.report_fbk (s : State) (code aux : Nat) : (s.report code aux).fbk = s.fbk := rfl
@[simp] theorem State.report_drv (s : State) (code aux : Nat) : (s.report code aux).drv = s.drv := rfl
@[simp] theorem State.report_lan (s : State) (code aux : Nat) : (s.report code aux).lan = s.lan := rfl
@[simp] theorem State.report_dma (s : State) (code aux : Nat) : (s.report code aux).dma = s.dma := rfl
@[simp] theorem State.report_elx (s : State) (code aux : Nat) : (s.report code aux).elx = s.elx := rfl
@[simp] theorem State.report_tap (s : State) (code aux : Nat) : (s.report code aux).tap = s.tap := rfl
@[simp] theorem State.report_hits (s : State) (code aux : Nat) : (s.report code aux).hits = s.hits := rfl
@[simp] theorem State.report_agenda (s : State) (code aux : Nat) : (s.report code aux).agenda = s.agenda := rfl
@[simp] theorem State.report_image (s : State) (code aux : Nat) : (s.report code aux).image = s.image := rfl

@[simp] theorem State.cfg_setCfg (s : State) (addr idx v : Nat) : (s.setCfg addr idx v).cfg addr idx = v % 65536 := by
  unfold State.cfg State.setCfg
  simp only [Tbl.find?_insert_same]
  exact BitVec.toNat_ofNat v 16

/-- The second of two values given to a lane stays, where neither is the lane of reset. -/
theorem State.setLane_setLane (s : State) (l : Nat) {v w : Lane} (hv : v ≠ {}) (hw : w ≠ {}) :
    (s.setLane l v).setLane l w = s.setLane l w := by
  simp only [State.setLane, Tbl.put, if_neg hv, if_neg hw, Tbl.insert_insert]

end Sys2Proof.Machine
end

