-- ==== Sys2Proof/Laws/Lanes.lean ====
section
/-! SUPPORT. What one lane cycle does: which operation runs, and how an instruction that completes or branches leaves its lane. -/

namespace Sys2Proof.Machine

theorem State.executes_running {s : State} {l i} (h : s.executes l i) : (s.lane l).st = .running := by
  have := h.2.1
  simp only [State.laneExecutes, State.laneDue, Bool.and_eq_true, decide_eq_true_eq] at this
  exact this.1.1.1.1.1.2

theorem Lane.ne_reset_of_running {k : Lane} (h : k.st = .running) : k ≠ {} := by
  intro e; rw [e] at h; exact absurd h (by decide)

theorem State.laneRun_eq {s0 s : State} {l i} {mn : Mn} {op : LarWord → Nat → State → State} (e : s = s0.laneSettle l) (h : s.executes l i)
    (hm : i.mn = mn) : s0.laneRun l mn op = op i l s := by
  subst e
  obtain ⟨h1, h2, h3, h4⟩ := h
  unfold State.laneRun
  simp only [h2, h3, h4, hm]
  rw [if_neg (by simp; omega)]
  simp

theorem State.lands_eq (s : State) (l due ws) : s.lands l due ws = s.setLane l { s.lane l with land := (s.lane l).land ++ ws.map (fun w => (due, w)) } := rfl

theorem State.proceed_eq {s : State} {l i} {jump : Option Nat} {t0 due : Nat} {ws : List LaneWrite} (hr : (s.lane l).st = .running) :
    (s.lands l due ws).proceed l i jump t0 due = s.setLane l ((s.lane l).retired i t0 due ws (jump.getD ((s.lane l).pc + i.len))) := by
  have n1 : ∀ k : Lane, k.st = .running → k ≠ {} := fun k => Lane.ne_reset_of_running
  unfold State.proceed
  simp only [State.lands_eq, State.lane_setLane]
  cases hk : (s.lane l).rep with
  | none =>
    simp only
    rw [State.setLane_setLane, State.setLane_setLane] <;> first | exact n1 _ hr | skip
    simp [Lane.retired, hk]
  | some b =>
    simp only
    by_cases hc : (s.lane l).cnt - 1 = 0
    · have h2 : (s.lane l).cnt ≤ 1 := by omega
      simp only [hc, if_true]
      rw [State.setLane_setLane, State.setLane_setLane] <;> first | exact n1 _ hr | skip
      simp [Lane.retired, hk, h2]
    · have h2 : ¬ (s.lane l).cnt ≤ 1 := by omega
      simp only [if_neg hc]
      rw [State.setLane_setLane, State.setLane_setLane] <;> first | exact n1 _ hr | skip
      simp [Lane.retired, hk, h2]

theorem State.finish_eq {s : State} {l i ws} (h : s.executes l i) : s.finish l i ws = s.completed l i ws (s.nextPc l i) := by
  unfold State.finish
  rw [State.proceed_eq (State.executes_running h)]
  rfl

theorem State.branch_eq {s : State} {l i ws t} (h : s.executes l i) : s.branch l i ws t = s.completed l i ws (t % 4096) := by
  unfold State.branch
  rw [State.proceed_eq (State.executes_running h)]
  rfl

end Sys2Proof.Machine
end

