-- ==== Sys2Proof/WellFormed.lean ====
section
/-! DEFINITION. Which commands are well formed: each operand names something that the spec gives the block. -/

namespace Sys2Proof

/-- 14_interrupts.md R461: the codes that name a delivery target. -/
def targetCode (t : Nat) : Bool := decide (t < 6) || (decide (0x80 ≤ t) && decide (t < 0x100))

/-- A command whose operands lie in the ranges that their rules give. -/
def Instr.wf (i : Instr) : Bool :=
  match i with
  | .bridgeMessage lane _ => decide (lane < 3)
  | .bridgeSilence => true
  | .supervisorLockstepMismatch => true
  | .supervisorRestartDone => true
  | .fullValueMessage island _ => decide (island < 14)
  | .launchArrival island => decide (island < 15)
  | .launchExecute island => decide (island < 15)
  | .islandPrepare island => decide (island < 16)
  | .islandAck island => decide (island < 16)
  | .commitDecision => true
  | .commitApply => true
  | .tbNow0Read => true
  | .tbStaleClr => true
  | .registerWrite addr _ _ => isRegAddr addr
  | .crankEdge input _ => decide (input < 2)
  | .vrPeakRecord input => decide (input < 2)
  | .armThresholdTimeout input => decide (input < 2)
  | .camEdge cam _ => decide (cam < 4)
  | .dirTrailingEdge input => decide (input < 2)
  | .dirReverseDecision input => decide (input < 2)
  | .angCntClr _ => true
  | .angVtxSel _ => true
  | .syncStallTimeout => true
  | .synCmdSearch => true
  | .synClr _ => true
  | .cycleBoundary => true
  | .save => true
  | .tableSaveDone => true
  | .load => true
  | .tableReloadDone => true
  | .clrgeo => true
  | .clrrip => true
  | .clrcnt => true
  | .angAccLoRead => true
  | .angS16PerlRead => true
  | .evqArm _ => true
  | .armRequest => true
  | .armRecordRead => true
  | .eventFire out => decide (out < 96)
  | .pulseEndFire out => decide (out < 96)
  | .guardExpiry out => decide (out < 96)
  | .startStatus => true
  | .evqCanCmd _ => true
  | .cancelRequest => true
  | .evqRcpCmd _ => true
  | .evqRlostClr => true
  | .evqCntClr _ => true
  | .entryRebuildDone out => decide (out < 96)
  | .offsetRebuildDone => true
  | .speedWindowStopped => true
  | .grayCodeParityFailure island => decide (island < 14)
  | .arcLaunchSend arc => decide (arc < 256)
  | .conversionResult conv raw => decide (conv < 16) && decide (raw < 65536)
  | .conversionTimeout conv => decide (conv < 16)
  | .referenceCheck conv raw => decide (conv < 16) && decide (raw < 65536)
  | .cal _ => true
  | .calibrationDone conv _ _ => decide (conv < 16)
  | .calibrationTimeout conv => decide (conv < 16)
  | .arcCntClr _ => true
  | .frameProcessing => true
  | .resultRecordWrite => true
  | .cmbCntClr _ => true
  | .fireMessage dest => decide (dest < 9)
  | .pulseStart out => decide (out < 24)
  | .startDropTimeout out => decide (out < 24)
  | .bankCurrentResult bank code _ => decide (bank < 6) && decide (code < 65536)
  | .phaseTimer bank => decide (bank < 6)
  | .minSwitchTimeExpiry bank => decide (bank < 6)
  | .pulseDurExpiry out => decide (out < 56)
  | .decayTimeout bank => decide (bank < 6)
  | .openLoadCheck bank => decide (bank < 6)
  | .boostMonitorResult monitor code _ => decide (monitor < 3) && decide (code < 65536)
  | .boostIlimReached ctl => decide (ctl < 2)
  | .boostTonmaxExpiry ctl => decide (ctl < 2)
  | .boostToffExpiry ctl => decide (ctl < 2)
  | .drvTrcCtl _ => true
  | .drvCntClr _ => true
  | .overdwell out => decide (24 ≤ out) && decide (out < 48)
  | .rampEnd out => decide (24 ≤ out) && decide (out < 48)
  | .soft _ => true
  | .ignOutputFault out => decide (24 ≤ out) && decide (out < 48)
  | .ignCntClr _ => true
  | .valveCurrentResult valve code => decide (valve < 8) && decide (code < 65536)
  | .valveTonExpiry valve => decide (valve < 8)
  | .valvePeriodEnd valve => decide (valve < 8)
  | .latch _ => true
  | .vlvCntClr _ => true
  | .drvDgClr _ => true
  | .larNop lane => decide (lane < 64)
  | .larHalt lane => decide (lane < 64)
  | .larRet lane => decide (lane < 64)
  | .larRetv lane => decide (lane < 64)
  | .larTrap lane => decide (lane < 64)
  | .larJr lane => decide (lane < 64)
  | .larAdd lane => decide (lane < 64)
  | .larAdc lane => decide (lane < 64)
  | .larSub lane => decide (lane < 64)
  | .larSbc lane => decide (lane < 64)
  | .larAnd lane => decide (lane < 64)
  | .larOr lane => decide (lane < 64)
  | .larXor lane => decide (lane < 64)
  | .larCmp lane => decide (lane < 64)
  | .larMov lane => decide (lane < 64)
  | .larTst lane => decide (lane < 64)
  | .larNeg lane => decide (lane < 64)
  | .larNot lane => decide (lane < 64)
  | .larMulu lane => decide (lane < 64)
  | .larMuls lane => decide (lane < 64)
  | .larDivu lane => decide (lane < 64)
  | .larDivs lane => decide (lane < 64)
  | .larShl lane => decide (lane < 64)
  | .larShr lane => decide (lane < 64)
  | .larSar lane => decide (lane < 64)
  | .larRor lane => decide (lane < 64)
  | .larRol lane => decide (lane < 64)
  | .larPar lane => decide (lane < 64)
  | .larBrev lane => decide (lane < 64)
  | .larSwpb lane => decide (lane < 64)
  | .larShli lane => decide (lane < 64)
  | .larShri lane => decide (lane < 64)
  | .larSari lane => decide (lane < 64)
  | .larRori lane => decide (lane < 64)
  | .larAddi lane => decide (lane < 64)
  | .larSubi lane => decide (lane < 64)
  | .larCmpi lane => decide (lane < 64)
  | .larMovi lane => decide (lane < 64)
  | .larBrevn lane => decide (lane < 64)
  | .larLd lane => decide (lane < 64)
  | .larSt lane => decide (lane < 64)
  | .larLdi lane => decide (lane < 64)
  | .larLda lane => decide (lane < 64)
  | .larSta lane => decide (lane < 64)
  | .larJmp lane => decide (lane < 64)
  | .larCall lane => decide (lane < 64)
  | .larDjnz lane => decide (lane < 64)
  | .larBr lane => decide (lane < 64)
  | .larMfsl lane => decide (lane < 64)
  | .larMfsh lane => decide (lane < 64)
  | .larMtsl lane => decide (lane < 64)
  | .larMtsh lane => decide (lane < 64)
  | .larCtcRun lane => decide (lane < 64)
  | .larCtcStop lane => decide (lane < 64)
  | .larCtcClear lane => decide (lane < 64)
  | .larPclr lane => decide (lane < 64)
  | .larPset lane => decide (lane < 64)
  | .larPtgl lane => decide (lane < 64)
  | .larPmovc lane => decide (lane < 64)
  | .larWait lane => decide (lane < 64)
  | .larShift lane => decide (lane < 64)
  | .larCrcb lane => decide (lane < 64)
  | .larRep lane => decide (lane < 64)
  | .larBmov lane => decide (lane < 64)
  | .larBfil lane => decide (lane < 64)
  | .larBcmp lane => decide (lane < 64)
  | .larBcrc lane => decide (lane < 64)
  | .larTang lane => decide (lane < 64)
  | .larTrate lane => decide (lane < 64)
  | .larTpred lane => decide (lane < 64)
  | .larTrpm lane => decide (lane < 64)
  | .larTsyn lane => decide (lane < 64)
  | .larTvtx lane => decide (lane < 64)
  | .larTa2t lane => decide (lane < 64)
  | .larC32i lane => decide (lane < 64)
  | .larC32w lane => decide (lane < 64)
  | .larC32f lane => decide (lane < 64)
  | .larC16w lane => decide (lane < 64)
  | .larHshi lane => decide (lane < 64)
  | .larHshw lane => decide (lane < 64)
  | .larLwr lane => decide (lane < 64)
  | .larLww lane => decide (lane < 64)
  | .larLwri lane => decide (lane < 64)
  | .larLwwi lane => decide (lane < 64)
  | .larEwr lane => decide (lane < 64)
  | .larEarm lane => decide (lane < 64)
  | .larEcan lane => decide (lane < 64)
  | .larCmbrdPstat lane => decide (lane < 64)
  | .larCmbrdPmax lane => decide (lane < 64)
  | .larCmbrdImep lane => decide (lane < 64)
  | .larCmbrdQmax lane => decide (lane < 64)
  | .larCmbrdA10A50 lane => decide (lane < 64)
  | .larCmbrdA90Lat lane => decide (lane < 64)
  | .larCmbrdKstat lane => decide (lane < 64)
  | .larCmbrdKint lane => decide (lane < 64)
  | .waitSatisfied lane => decide (lane < 64)
  | .shiftEdge lane => decide (lane < 64)
  | .extUnitAnswer lane => decide (lane < 64)
  | .compareMatch lane cmp => decide (lane < 64) && decide (cmp < 2)
  | .counterWrap lane ctr => decide (lane < 64) && decide (ctr < 2)
  | .gpPinEdge pin _ => decide (pin < 96)
  | .vectorEntry lane => decide (lane < 64)
  | .lanCmdHalt _ => true
  | .lanCmdStart _ => true
  | .lanCmdContinue _ => true
  | .lanRdlRead => true
  | .lanRdlWrite _ => true
  | .lanClr _ => true
  | .spareIdle _ => true
  | .spareNow _ => true
  | .spareCancel _ => true
  | .spareTakeover cluster => decide (cluster < 8)
  | .memoryFillDone cluster => decide (cluster < 8)
  | .undefinedInstruction lane => decide (lane < 64)
  | .fbkSincosSample port _ _ => decide (port < 2)
  | .quadEdge port _ _ => decide (port < 2)
  | .observerUpdate port => decide (port < 2)
  | .fbkStillTimeout port => decide (port < 2)
  | .fbkCmpvLo _ => true
  | .disarm _ => true
  | .clrpok _ => true
  | .fbkClrcnt _ => true
  | .fbkPosLoRead => true
  | .fbkSsiD0Read => true
  | .ssiPeriodicTrigger port _ => decide (port < 2)
  | .start _ _ => true
  | .ssiFrameBegin port => decide (port < 2)
  | .ssiTimeout port _ => decide (port < 2)
  | .ssiFrameComplete port _ => decide (port < 2)
  | .sourceArrival src => decide (src < 512)
  | .ircSet _ => true
  | .ircAckcnt _ => true
  | .ircHvecRead line => decide (line < 4)
  | .ircScfg _ => true
  | .deliverySelection tgt => targetCode tgt
  | .handshakeEnd tgt => targetCode tgt
  | .strayTimeout src => decide (src < 512)
  | .ircStraycntClr _ => true
  | .ircFlostClr _ => true
  | .faultReport block => decide (block < 16)
  | .faultRecordClose => true
  | .wakeLatchEdge w _ => decide (w < 64)
  | .dmaStart _ => true
  | .kick _ => true
  | .stop _ => true
  | .abort _ => true
  | .clrcred _ => true
  | .dmaCntClr _ => true
  | .descriptorFetch channel => decide (channel < 32)
  | .pacingCredit channel => decide (channel < 32)
  | .dmaBurst => true
  | .barrierEnd channel => decide (channel < 32)
  | .domainOn d => decide (d < 12)
  | .vgdLow => true
  | .vgdGood => true
  | .pairWalkCheck _ _ => true
  | .scrubRead => true
  | .scrubPassTimeout bank => decide (bank < 4)
  | .rowCopyDone bank => decide (bank < 4)
  | .fusProg _ => true
  | .fuseProgramDone => true
  | .latCntClr _ => true
  | .latInj _ => true
  | .pwrKtimLo _ => true
  | .claim => true
  | .cmdCntClr _ => true
  | .twnCntClr _ => true
  | .elxCntClr _ => true
  | .elxFrlostClr => true
  | .csnRise port => decide (port < 2)
  | .csnFall port => decide (port < 2)
  | .syncWordFound port => decide (port < 2)
  | .replyWordSlot port => decide (port < 2)
  | .packetReceived port _ _ len params _ => decide (port < 2) && (decide (518 < len.toNat) || decide (params.length = len.toNat))
  | .nopPacket => true
  | .undefinedOpcodePacket => true
  | .ident => true
  | .rd => true
  | .wr _ => true
  | .arm => true
  | .cancel => true
  | .rcpswap => true
  | .commit => true
  | .cmtcancel => true
  | .sin => true
  | .sout => true
  | .takeover => true
  | .release => true
  | .rejoin => true
  | .belithHello err _ _ _ _ _ _ => decide (err < 3)
  | .belithHeartbeat err _ _ _ _ _ _ _ _ => decide (err < 3)
  | .heartbeatSend => true
  | .heartbeatLoss => true
  | .digest err _ _ _ _ _ => decide (err < 3)
  | .digestTimeout => true
  | .releaseFrame err _ _ _ => decide (err < 3)
  | .handreq err _ _ _ _ _ => decide (err < 3)
  | .handoverRelease _ => true
  | .handoverIdleTimeout => true
  | .probeResult _ => true
  | .ownFaultRelease => true
  | .soloTimeout => true
  | .mirror err _ _ _ _ _ => decide (err < 3)
  | .areq err _ _ _ _ _ _ => decide (err < 3)
  | .bulk err _ _ _ _ _ => decide (err < 3)
  | .delta err _ _ _ => decide (err < 3)
  | .belithJoin err _ _ => decide (err < 3)
  | .belithDma err _ _ => decide (err < 3)
  | .belithAck err _ => decide (err < 3)
  | .belithResendTimeout => true
  | .belithLinkUp => true
  | .belithLinkDown _ => true
  | .copyDone _ => true
  | .joinTimeout => true
  | .rejoinTimer => true
  | .domain => true
  | .domread => true
  | .elrexHello port err _ _ _ _ _ _ => decide (port < 5) && decide (err < 3)
  | .elrexHelloSend port => decide (port < 5)
  | .tmark port err _ _ _ _ _ => decide (port < 5) && decide (err < 3)
  | .tmarkSend port _ => decide (port < 5)
  | .dreqSend _ => true
  | .dreq port err _ _ => decide (port < 5) && decide (err < 3)
  | .dresp port err _ _ => decide (port < 5) && decide (err < 3)
  | .dcmd port err _ _ _ _ _ _ => decide (port < 5) && decide (err < 3)
  | .domevt n => decide (n < 8)
  | .ignsoft => true
  | .origin => true
  | .dack port err _ _ _ _ _ => decide (port < 5) && decide (err < 3)
  | .dackDeadline => true
  | .domainCommandComplete => true
  | .frep port err _ _ => decide (port < 5) && decide (err < 3)
  | .domainRecordClose => true
  | .notice port err _ _ _ _ => decide (port < 5) && decide (err < 3)
  | .elrexJoin port err _ _ _ _ _ => decide (port < 5) && decide (err < 3)
  | .jres port err _ _ _ _ => decide (port < 5) && decide (err < 3)
  | .lack port err _ => decide (port < 5) && decide (err < 3)
  | .elrexResendTimeout port => decide (port < 5)
  | .elrexPortUp port => decide (port < 5)
  | .elrexPortDown port _ => decide (port < 5)
  | .holdoverStart => true
  | .holdoverEnd => true
  | .standbyTakeover => true
  | .joinRefresh => true
  | .joinEntryExpiry => true
  | .fwopen => true
  | .fwdata => true
  | .fwclose => true
  | .cfgstore => true
  | .cfgerase => true
  | .rung => true
  | .reset => true
  | .flashEraseDone => true
  | .cfgEraseDone => true
  | .rungEntry => true
  | .rungExit _ => true
  | .keepTimerExpiry => true
  | .hostlessLimit => true
  | .powerOnReset => true
  | .supplyReset => true
  | .pinReset _ => true
  | .commandReset => true
  | .coldBoot cfgAt readyAt bad => decide (cfgAt ≤ readyAt) && bad.all (fun p => decide (p.1 < 4) && decide (p.2 < 512))
  | .readyPulseEnd => true
  | .tckEdge _ _ _ _ => true

end Sys2Proof
end

