-- ==== Sys2Proof/Tests/Slice0.lean ====
section
/-! SUPPORT. Tests of the model: ill-formed commands are refused by the checks, and every hypothesis of every statement is met. -/

namespace Sys2Proof.Machine

set_option Elab.async false

/-- Well-formed commands, each beside one that a single operand makes ill-formed. -/
theorem test_ill_formed_1 : (([
  (.bridgeMessage 2 false, .bridgeMessage 3 false),
  (.fullValueMessage 0 0, .fullValueMessage 14 0),
  (.launchArrival 0, .launchArrival 15),
  (.launchExecute 0, .launchExecute 15),
  (.islandPrepare 0, .islandPrepare 16),
  (.islandAck 0, .islandAck 16),
  (.registerWrite Reg.SYN_CTL 0 false, .registerWrite 0 0 false),
  (.crankEdge 0 ⟨false, 0⟩, .crankEdge 2 ⟨false, 0⟩),
  (.vrPeakRecord 0, .vrPeakRecord 2),
  (.armThresholdTimeout 0, .armThresholdTimeout 2),
  (.camEdge 0 false, .camEdge 4 false),
  (.dirTrailingEdge 0, .dirTrailingEdge 2),
  (.dirReverseDecision 0, .dirReverseDecision 2),
  (.eventFire 0, .eventFire 96),
  (.pulseEndFire 0, .pulseEndFire 96),
  (.guardExpiry 0, .guardExpiry 96),
  (.entryRebuildDone 0, .entryRebuildDone 96),
  (.grayCodeParityFailure 0, .grayCodeParityFailure 14),
  (.arcLaunchSend 0, .arcLaunchSend 256),
  (.conversionResult 0 0, .conversionResult 16 0),
  (.conversionResult 0 0, .conversionResult 0 65536),
  (.conversionTimeout 0, .conversionTimeout 16),
  (.referenceCheck 0 0, .referenceCheck 16 0),
  (.referenceCheck 0 0, .referenceCheck 0 65536),
  (.calibrationDone 0 0 0, .calibrationDone 16 0 0),
  (.calibrationTimeout 0, .calibrationTimeout 16),
  (.fireMessage 0, .fireMessage 9),
  (.pulseStart 0, .pulseStart 24),
  (.startDropTimeout 0, .startDropTimeout 24)] : List (Instr × Instr)).all (fun p => p.1.wf && !p.2.wf)) = true := by decide +kernel

/-- Well-formed commands, each beside one that a single operand makes ill-formed. -/
theorem test_ill_formed_2 : (([
  (.bankCurrentResult 0 0 false, .bankCurrentResult 6 0 false),
  (.bankCurrentResult 0 0 false, .bankCurrentResult 0 65536 false),
  (.phaseTimer 0, .phaseTimer 6),
  (.minSwitchTimeExpiry 0, .minSwitchTimeExpiry 6),
  (.pulseDurExpiry 0, .pulseDurExpiry 56),
  (.decayTimeout 0, .decayTimeout 6),
  (.openLoadCheck 0, .openLoadCheck 6),
  (.boostMonitorResult 0 0 false, .boostMonitorResult 3 0 false),
  (.boostMonitorResult 0 0 false, .boostMonitorResult 0 65536 false),
  (.boostIlimReached 0, .boostIlimReached 2),
  (.boostTonmaxExpiry 0, .boostTonmaxExpiry 2),
  (.boostToffExpiry 0, .boostToffExpiry 2),
  (.overdwell 24, .overdwell 48),
  (.rampEnd 24, .rampEnd 48),
  (.ignOutputFault 24, .ignOutputFault 48),
  (.valveCurrentResult 0 0, .valveCurrentResult 8 0),
  (.valveCurrentResult 0 0, .valveCurrentResult 0 65536),
  (.valveTonExpiry 0, .valveTonExpiry 8),
  (.valvePeriodEnd 0, .valvePeriodEnd 8),
  (.larNop 0, .larNop 64),
  (.larHalt 0, .larHalt 64),
  (.larRet 0, .larRet 64),
  (.larRetv 0, .larRetv 64),
  (.larTrap 0, .larTrap 64),
  (.larJr 0, .larJr 64),
  (.larAdd 0, .larAdd 64),
  (.larAdc 0, .larAdc 64),
  (.larSub 0, .larSub 64)] : List (Instr × Instr)).all (fun p => p.1.wf && !p.2.wf)) = true := by decide +kernel

/-- Well-formed commands, each beside one that a single operand makes ill-formed. -/
theorem test_ill_formed_3 : (([
  (.larSbc 0, .larSbc 64),
  (.larAnd 0, .larAnd 64),
  (.larOr 0, .larOr 64),
  (.larXor 0, .larXor 64),
  (.larCmp 0, .larCmp 64),
  (.larMov 0, .larMov 64),
  (.larTst 0, .larTst 64),
  (.larNeg 0, .larNeg 64),
  (.larNot 0, .larNot 64),
  (.larMulu 0, .larMulu 64),
  (.larMuls 0, .larMuls 64),
  (.larDivu 0, .larDivu 64),
  (.larDivs 0, .larDivs 64),
  (.larShl 0, .larShl 64),
  (.larShr 0, .larShr 64),
  (.larSar 0, .larSar 64),
  (.larRor 0, .larRor 64),
  (.larRol 0, .larRol 64),
  (.larPar 0, .larPar 64),
  (.larBrev 0, .larBrev 64),
  (.larSwpb 0, .larSwpb 64),
  (.larShli 0, .larShli 64),
  (.larShri 0, .larShri 64),
  (.larSari 0, .larSari 64),
  (.larRori 0, .larRori 64),
  (.larAddi 0, .larAddi 64),
  (.larSubi 0, .larSubi 64),
  (.larCmpi 0, .larCmpi 64)] : List (Instr × Instr)).all (fun p => p.1.wf && !p.2.wf)) = true := by decide +kernel

/-- Well-formed commands, each beside one that a single operand makes ill-formed. -/
theorem test_ill_formed_4 : (([
  (.larMovi 0, .larMovi 64),
  (.larBrevn 0, .larBrevn 64),
  (.larLd 0, .larLd 64),
  (.larSt 0, .larSt 64),
  (.larLdi 0, .larLdi 64),
  (.larLda 0, .larLda 64),
  (.larSta 0, .larSta 64),
  (.larJmp 0, .larJmp 64),
  (.larCall 0, .larCall 64),
  (.larDjnz 0, .larDjnz 64),
  (.larBr 0, .larBr 64),
  (.larMfsl 0, .larMfsl 64),
  (.larMfsh 0, .larMfsh 64),
  (.larMtsl 0, .larMtsl 64),
  (.larMtsh 0, .larMtsh 64),
  (.larCtcRun 0, .larCtcRun 64),
  (.larCtcStop 0, .larCtcStop 64),
  (.larCtcClear 0, .larCtcClear 64),
  (.larPclr 0, .larPclr 64),
  (.larPset 0, .larPset 64),
  (.larPtgl 0, .larPtgl 64),
  (.larPmovc 0, .larPmovc 64),
  (.larWait 0, .larWait 64),
  (.larShift 0, .larShift 64),
  (.larCrcb 0, .larCrcb 64),
  (.larRep 0, .larRep 64),
  (.larBmov 0, .larBmov 64),
  (.larBfil 0, .larBfil 64)] : List (Instr × Instr)).all (fun p => p.1.wf && !p.2.wf)) = true := by decide +kernel

/-- Well-formed commands, each beside one that a single operand makes ill-formed. -/
theorem test_ill_formed_5 : (([
  (.larBcmp 0, .larBcmp 64),
  (.larBcrc 0, .larBcrc 64),
  (.larTang 0, .larTang 64),
  (.larTrate 0, .larTrate 64),
  (.larTpred 0, .larTpred 64),
  (.larTrpm 0, .larTrpm 64),
  (.larTsyn 0, .larTsyn 64),
  (.larTvtx 0, .larTvtx 64),
  (.larTa2t 0, .larTa2t 64),
  (.larC32i 0, .larC32i 64),
  (.larC32w 0, .larC32w 64),
  (.larC32f 0, .larC32f 64),
  (.larC16w 0, .larC16w 64),
  (.larHshi 0, .larHshi 64),
  (.larHshw 0, .larHshw 64),
  (.larLwr 0, .larLwr 64),
  (.larLww 0, .larLww 64),
  (.larLwri 0, .larLwri 64),
  (.larLwwi 0, .larLwwi 64),
  (.larEwr 0, .larEwr 64),
  (.larEarm 0, .larEarm 64),
  (.larEcan 0, .larEcan 64),
  (.larCmbrdPstat 0, .larCmbrdPstat 64),
  (.larCmbrdPmax 0, .larCmbrdPmax 64),
  (.larCmbrdImep 0, .larCmbrdImep 64),
  (.larCmbrdQmax 0, .larCmbrdQmax 64),
  (.larCmbrdA10A50 0, .larCmbrdA10A50 64),
  (.larCmbrdA90Lat 0, .larCmbrdA90Lat 64)] : List (Instr × Instr)).all (fun p => p.1.wf && !p.2.wf)) = true := by decide +kernel

/-- Well-formed commands, each beside one that a single operand makes ill-formed. -/
theorem test_ill_formed_6 : (([
  (.larCmbrdKstat 0, .larCmbrdKstat 64),
  (.larCmbrdKint 0, .larCmbrdKint 64),
  (.waitSatisfied 0, .waitSatisfied 64),
  (.shiftEdge 0, .shiftEdge 64),
  (.extUnitAnswer 0, .extUnitAnswer 64),
  (.compareMatch 0 0, .compareMatch 64 0),
  (.compareMatch 0 0, .compareMatch 0 2),
  (.counterWrap 0 0, .counterWrap 64 0),
  (.counterWrap 0 0, .counterWrap 0 2),
  (.gpPinEdge 0 false, .gpPinEdge 96 false),
  (.vectorEntry 0, .vectorEntry 64),
  (.spareTakeover 0, .spareTakeover 8),
  (.memoryFillDone 0, .memoryFillDone 8),
  (.undefinedInstruction 0, .undefinedInstruction 64),
  (.fbkSincosSample 0 0 0, .fbkSincosSample 2 0 0),
  (.quadEdge 0 false false, .quadEdge 2 false false),
  (.observerUpdate 0, .observerUpdate 2),
  (.fbkStillTimeout 0, .fbkStillTimeout 2),
  (.ssiPeriodicTrigger 0 false, .ssiPeriodicTrigger 2 false),
  (.ssiFrameBegin 0, .ssiFrameBegin 2),
  (.ssiTimeout 0 0, .ssiTimeout 2 0),
  (.ssiFrameComplete 0 0, .ssiFrameComplete 2 0),
  (.sourceArrival 0, .sourceArrival 512),
  (.ircHvecRead 0, .ircHvecRead 4),
  (.deliverySelection 0, .deliverySelection 6),
  (.handshakeEnd 0, .handshakeEnd 6),
  (.strayTimeout 0, .strayTimeout 512),
  (.faultReport 0, .faultReport 16)] : List (Instr × Instr)).all (fun p => p.1.wf && !p.2.wf)) = true := by decide +kernel

/-- Well-formed commands, each beside one that a single operand makes ill-formed. -/
theorem test_ill_formed_7 : (([
  (.wakeLatchEdge 0 false, .wakeLatchEdge 64 false),
  (.descriptorFetch 0, .descriptorFetch 32),
  (.pacingCredit 0, .pacingCredit 32),
  (.barrierEnd 0, .barrierEnd 32),
  (.domainOn 0, .domainOn 12),
  (.scrubPassTimeout 0, .scrubPassTimeout 4),
  (.rowCopyDone 0, .rowCopyDone 4),
  (.csnRise 0, .csnRise 2),
  (.csnFall 0, .csnFall 2),
  (.syncWordFound 0, .syncWordFound 2),
  (.replyWordSlot 0, .replyWordSlot 2),
  (.packetReceived 0 0 0 0 [] 0, .packetReceived 2 0 0 0 [] 0),
  (.packetReceived 0 0 0 0 [] 0, .packetReceived 0 0 0 1 [] 0),
  (.belithHello 0 0 0 0 0 0 0, .belithHello 3 0 0 0 0 0 0),
  (.belithHeartbeat 0 false 0 false 0 0 0 false 0, .belithHeartbeat 3 false 0 false 0 0 0 false 0),
  (.digest 0 0 false 0 0 0, .digest 3 0 false 0 0 0),
  (.releaseFrame 0 0 0 0, .releaseFrame 3 0 0 0),
  (.handreq 0 false 0 false false 0, .handreq 3 false 0 false false 0),
  (.mirror 0 0 false 0 [] false, .mirror 3 0 false 0 [] false),
  (.areq 0 0 0 0 0 0 0, .areq 3 0 0 0 0 0 0),
  (.bulk 0 0 0 0 [] false, .bulk 3 0 0 0 [] false),
  (.delta 0 0 0 [], .delta 3 0 0 []),
  (.belithJoin 0 0 .ask, .belithJoin 3 0 .ask),
  (.belithDma 0 0 [], .belithDma 3 0 []),
  (.belithAck 0 0, .belithAck 3 0),
  (.elrexHello 0 0 0 0 0 0 0 false, .elrexHello 5 0 0 0 0 0 0 false),
  (.elrexHello 0 0 0 0 0 0 0 false, .elrexHello 0 3 0 0 0 0 0 false),
  (.elrexHelloSend 0, .elrexHelloSend 5)] : List (Instr × Instr)).all (fun p => p.1.wf && !p.2.wf)) = true := by decide +kernel

/-- Well-formed commands, each beside one that a single operand makes ill-formed. -/
theorem test_ill_formed_8 : (([
  (.tmark 0 0 0 0 0 0 false, .tmark 5 0 0 0 0 0 false),
  (.tmark 0 0 0 0 0 0 false, .tmark 0 3 0 0 0 0 false),
  (.tmarkSend 0 0, .tmarkSend 5 0),
  (.dreq 0 0 0 0, .dreq 5 0 0 0),
  (.dreq 0 0 0 0, .dreq 0 3 0 0),
  (.dresp 0 0 0 0, .dresp 5 0 0 0),
  (.dresp 0 0 0 0, .dresp 0 3 0 0),
  (.dcmd 0 0 0 0 0 0 0 0, .dcmd 5 0 0 0 0 0 0 0),
  (.dcmd 0 0 0 0 0 0 0 0, .dcmd 0 3 0 0 0 0 0 0),
  (.domevt 0, .domevt 8),
  (.dack 0 0 0 0 0 0 0, .dack 5 0 0 0 0 0 0),
  (.dack 0 0 0 0 0 0 0, .dack 0 3 0 0 0 0 0),
  (.frep 0 0 0 ⟨0, 0, 0, [], 0, 0, 0⟩, .frep 5 0 0 ⟨0, 0, 0, [], 0, 0, 0⟩),
  (.frep 0 0 0 ⟨0, 0, 0, [], 0, 0, 0⟩, .frep 0 3 0 ⟨0, 0, 0, [], 0, 0, 0⟩),
  (.notice 0 0 0 0 0 0, .notice 5 0 0 0 0 0),
  (.notice 0 0 0 0 0 0, .notice 0 3 0 0 0 0),
  (.elrexJoin 0 0 0 0 0 0 0, .elrexJoin 5 0 0 0 0 0 0),
  (.elrexJoin 0 0 0 0 0 0 0, .elrexJoin 0 3 0 0 0 0 0),
  (.jres 0 0 0 0 0 0, .jres 5 0 0 0 0 0),
  (.jres 0 0 0 0 0 0, .jres 0 3 0 0 0 0),
  (.lack 0 0 0, .lack 5 0 0),
  (.lack 0 0 0, .lack 0 3 0),
  (.elrexResendTimeout 0, .elrexResendTimeout 5),
  (.elrexPortUp 0, .elrexPortUp 5),
  (.elrexPortDown 0 false, .elrexPortDown 5 false),
  (.coldBoot 5 5 [], .coldBoot 6 5 []),
  (.coldBoot 5 5 [(3, 511)], .coldBoot 5 5 [(3, 512)])] : List (Instr × Instr)).all (fun p => p.1.wf && !p.2.wf)) = true := by decide +kernel


/-! ### Small states -/

/-- A device in Run, with every power domain ON. -/
def wRun : State := { State.reset with
  tb := 1000000007, irc := {}, sup := { running := true }, bridge := { lastRx := 1000000007 }
  pwr := { dom := (List.range 12).map (fun n => (n, Dom.on)), ready := true, vgdok := true, booting := false } }

/-- A state with registers of one index set. -/
def State.wSet (s : State) (l : List (Nat × Nat × Nat)) : State := l.foldl (fun st p => st.setCfg p.1 p.2.1 p.2.2) s

/-- The value an island's replica holds is at most one below its full count. -/
theorem State.replicaNow_near (s : State) (i : Nat) :
    ((s.tb : Int) - 1 + (s.replica i).ofs).toNat ≤ s.replicaNow i ∧ s.replicaNow i ≤ ((s.tb : Int) + (s.replica i).ofs).toNat := by
  have h : s.lag i ≤ 1 := by
    unfold State.lag b2n
    split
    · omega
    · split <;> omega
  unfold State.replicaNow
  omega

/-! ### Every hypothesis is met: the machine, the Time Base, commits -/

theorem test_met_machine :
    ({ wRun with pending := [.tbStaleClr, .tbNow0Read] } : State).pending = .tbStaleClr :: [.tbNow0Read] ∧
    wRun.pending = [] ∧ wRun.pwr.rung = 0 ∧ wRun.pwr.booting = false ∧ State.reset.pending = [] ∧ State.reset.pwr.booting = true ∧
    State.reset.pwr.bootFrom = 0 ∧
    (∀ r ∈ [1, 2, 3, 7], ({ wRun with pwr := { wRun.pwr with rung := r } } : State).pwr.rung = r) ∧
    ((wRun.latPut 0x7FFFF 5).latPut 0 0xFFFF).memoriesWf = true ∧
    goesOn { wRun.latPut 0 7 with pending := [.tbStaleClr] } = true ∧ 0x7FFFF < 0x80000 := by decide +kernel

/-- A device whose replica 13 stands as given. -/
def wRep (i : Nat) (r : Replica) : State := wRun.setReplica i r

theorem test_met_replicas :
    ((wRep 13 { reload := true }).replica 13).reload = true ∧
    ((wRep 0 {}).replica 0).reload = false ∧ ((999997440 + 4096 * 0 : Nat) : Int) = ((wRun.tb / 4096 * 4096 : Nat) : Int) + ((wRep 0 {}).replica 0).ofs ∧
    ((5 : Nat) : Int) ≠ ((wRun.tb / 4096 * 4096 : Nat) : Int) + ((wRep 0 {}).replica 0).ofs ∧
    -- the sixteenth message after a mismatch is no second one within 16, the fifteenth is
    ¬ (∃ b, ((wRep 12 { msgs := 20, lastBad := some 4 }).replica 12).lastBad = some b ∧ 20 < b + 16) ∧
    (∃ b, ((wRep 12 { msgs := 20, lastBad := some 5 }).replica 12).lastBad = some b ∧ 20 < b + 16) ∧
    (∃ b, ((wRep 0 { msgs := 20, lastBad := some 20 }).replica 0).lastBad = some b ∧ 20 < b + 16) := by
  refine ⟨by decide +kernel, by decide +kernel, by decide +kernel, by decide +kernel, ?_, ⟨5, by decide +kernel⟩, ⟨20, by decide +kernel⟩⟩
  rintro ⟨b, h, h2⟩
  have h3 : some 4 = some b := h
  injection h3 with h4
  omega

theorem test_met_bridge :
    let item : FireItem := ⟨5, .pulseEnd, ⟨7, true, false, 2, false⟩, 0, none, 0, none, false⟩
    let s := { wRep 12 { inFlight := [⟨5, .other 3⟩], sending := [⟨6, .other 4⟩] } with
      bridge := { retrying := 7 }, evq := { flight := [(0, 5, [item])], status := [(⟨7, 3, false, 1000000005, 0, 0⟩, ⟨7, true, false, 2, false⟩)] } }
    bit wRun.bridge.retrying 2 = false ∧ bit s.bridge.retrying 0 = true ∧ bit s.bridge.retrying 1 = true ∧ bit s.bridge.retrying 2 = true ∧
    takeFirst (fun y => y.1 == 0) s.evq.flight = some ((0, 5, [item]), []) ∧ (s.replica 12).inFlight = ⟨5, .other 3⟩ :: [] ∧
    s.evq.status = (⟨7, 3, false, 1000000005, 0, 0⟩, ⟨7, true, false, 2, false⟩) :: [] ∧
    ({ wRun with tb := 1000000067 } : State).bridge.lastRx + 60 ≤ 1000000067 ∧ wRun.bridge.silent ≠ 3 ∧ wRun.domOn 9 = true ∧
    ({ wRun with pwr := { wRun.pwr with dom := [(10, .on)] } } : State).domOn 10 = true ∧
    wRun.sup.running = true ∧ ({ wRun with sup := {} } : State).sup.running = false ∧ wRun.pwr.booting = false ∧
    ({ wRun with sup := {} } : State).sup.rom = false := by decide +kernel

/-- A launch of tag 3 on its way to island i, and a fire message of one end to the DRIVE island. -/
def wLaunch (i v : Nat) : State := { wRep i { inFlight := [⟨v, .other 3⟩] } with
  evq := { flight := [(0, v, [⟨5, .pulseEnd, ⟨7, true, false, 2, false⟩, 0, none, 0, none, false⟩])] } }

theorem test_met_launches :
    ((wLaunch 11 1000000008).replica 11).inFlight = ⟨1000000008, .other 3⟩ :: [] ∧ (wLaunch 11 1000000008).replicaNow 11 < 1000000008 ∧
    ((wLaunch 11 1000000006).replica 11).inFlight = ⟨1000000006, .other 3⟩ :: [] ∧ 1000000006 ≤ (wLaunch 11 1000000006).replicaNow 11 ∧
    takeFirst (fun m => m.1 == 0) (wLaunch 11 1000000008).evq.flight =
      some ((0, 1000000008, [⟨5, .pulseEnd, ⟨7, true, false, 2, false⟩, 0, none, 0, none, false⟩]), []) ∧
    (wLaunch 11 1000000008).replicaNow (destIsland 0) < 1000000008 ∧ 1000000006 ≤ (wLaunch 11 1000000006).replicaNow (destIsland 0) ∧
    ((wRep 12 { stopped := true }).replica 12).stopped = true ∧ ((wRep 12 {}).replica 12).stopped = false ∧
    ((wRep 11 {}).replica 11).stopped = false := by
  refine ⟨by decide +kernel, ?_, by decide +kernel, ?_, by decide +kernel, ?_, ?_, by decide +kernel, by decide +kernel, by decide +kernel⟩
  · exact Nat.lt_of_le_of_lt (State.replicaNow_near _ _).2 (by decide +kernel)
  · exact Nat.le_trans (by decide +kernel) (State.replicaNow_near _ _).1
  · exact Nat.lt_of_le_of_lt (State.replicaNow_near _ _).2 (by decide +kernel)
  · exact Nat.le_trans (by decide +kernel) (State.replicaNow_near _ _).1

theorem test_met_converters :
    (let s := { wRun with arcs := { conv := [(15, { wait := [⟨1000000000, 2, 3, 4⟩] }), (0, { wait := [⟨1000000009, 2, 3, 4⟩] })] } }
     (s.convOf 15).cur = none ∧ (s.convOf 15).wait = ⟨1000000000, 2, 3, 4⟩ :: [] ∧
     s.convBegins 15 (s.convOf 15) ⟨1000000000, 2, 3, 4⟩ + 40 ≤ s.adcNow ∧
     (s.convOf 0).cur = none ∧ (s.convOf 0).wait = ⟨1000000009, 2, 3, 4⟩ :: [] ∧
     s.adcNow < s.convBegins 0 (s.convOf 0) ⟨1000000009, 2, 3, 4⟩ + 40) := by
  refine ⟨by decide +kernel, by decide +kernel, ?_, by decide +kernel, by decide +kernel, ?_⟩
  · exact Nat.le_trans (by decide +kernel) (State.replicaNow_near _ 11).1
  · exact Nat.lt_of_le_of_lt (State.replicaNow_near _ 11).2 (by decide +kernel)

/-- A launch-value commit of one Tangent register and one valve register, whose islands have their prepare messages on the way. -/
def wCommit : Commit :=
  { mode := .launch, pending := true, c := 1000000135, prepares := [12, 14], acks := [2], waiting := [12, 14]
    closed := [(Reg.ANG_TCTL, 0x2688#16), (Reg.VLV_DMAX, 5#16)] }

def wCom (c : Commit) : State := { wRun with commit := c }

theorem test_met_commit :
    let mine := fun i => wCommit.closed.filter (fun p => shadowIsland (keyAddr p.1) (keyIdx p.1) p.2.toNat == i)
    wCommit.pending = true ∧ 14 ∈ wCommit.prepares ∧ (∀ p ∈ mine 14, p.1 ∉ wCommit.bad) ∧
    12 ∈ ({ wCommit with bad := [Reg.VLV_DMAX] } : Commit).prepares ∧ (∃ p ∈ mine 12, p.1 ∈ [Reg.VLV_DMAX]) ∧ 2 ∈ wCommit.acks ∧
    -- an acknowledgement in the tick C - 128 counts, one in the tick after it does not
    ¬ (wCommit.mode = .launch ∧ wCommit.c < wRun.tb + 128) ∧
    (wCommit.mode = .launch ∧ ({ wCommit with c := 1000000134 } : Commit).c < wRun.tb + 128) ∧
    wCommit.mode = .launch ∧ wCommit.stands = false ∧ wCommit.c ≤ wRun.tb + 128 ∧ ({ wCommit with armed := true } : Commit).armed = true ∧
    wCommit.armed = false ∧ (wCom wCommit).isShadow = false ∧
    ({ wCommit with c := 1000000007, stands := true } : Commit).c ≤ wRun.tb ∧ ({ wCommit with stands := true } : Commit).stands = true ∧
    ({ wCommit with mode := .cycle, cSent := true } : Commit).cSent = true ∧
    bits Reg.ANG_TCTL 15 8 ∈ [1, 2, 3] ∧ Reg.ANG_TCTL < 0x1000000 ∧ (regKey Reg.ANG_TCTL 0, 0x2688#16) ∈ wCommit.closed ∧
    regKey Reg.ANG_TCTL 0 ∉ wCommit.bad ∧ (∀ p ∈ wCommit.closed, p.1 = regKey Reg.ANG_TCTL 0 → p.2 = 0x2688#16) := by decide +kernel

/-- Whether a shadow of the set applies a tick later is its island's lag, which the implementation fixes. -/
theorem test_met_lagging_shadow :
    (wRun.lag 12 = 1 → ((wCommit.closed.filter (fun p => !(wCommit.bad.contains p.1))).filter wRun.shadowLags) ≠ []) ∧
    (wRun.lag 12 = 0 → wRun.shadowLags (Reg.VLV_DMAX, 5#16) = false) := by
  have hi : wRun.shadowLags (Reg.VLV_DMAX, 5#16) = decide (wRun.lag 12 = 1) := rfl
  refine ⟨fun h he => ?_, fun h => by rw [hi, h]; rfl⟩
  have hm : (Reg.VLV_DMAX, 5#16) ∈ (wCommit.closed.filter (fun p => !(wCommit.bad.contains p.1))).filter wRun.shadowLags :=
    List.mem_filter.2 ⟨by decide +kernel, by rw [hi, h]; rfl⟩
  rw [he] at hm
  cases hm

/-! ### Every hypothesis is met: wheel inputs, synchronisation, the Tangent -/

/-- A device whose input i stands as given, with every wheel input enabled, crank inputs in Hall mode where `hall`. -/
def wIn (hall : Bool) (i : Nat) (v : Input) : State :=
  (wRun.wSet ([(Reg.ANG_IN_CTL, 0, 0x3F)] ++ if hall then [(Reg.ANG_CRK0_AFE, 0, 0x800), (Reg.ANG_CRK1_AFE, 0, 0x800)] else [])).setInput i v

/-- Crank 1 in Hall mode with POL = 1. -/
def wPol : State := (wIn true 1 {}).setCfg Reg.ANG_CRK1_AFE 0 0xC00

theorem test_met_crank :
    (∀ s ∈ [wIn false 1 {}, wIn true 0 {}, wPol], s.angleOn = true) ∧
    (wIn true 0 {}).hall 0 = true ∧ true = !((wIn true 0 {}).flag (Reg.ANG_CRK0_AFE + 0) 0 10) ∧
    wPol.hall 1 = true ∧ false = !(wPol.flag (Reg.ANG_CRK0_AFE + 1) 0 10) ∧ true = wPol.flag (Reg.ANG_CRK0_AFE + 1) 0 10 ∧
    (wIn false 1 {}).hall 1 = false ∧ true = !((wIn false 1 {}).flag (Reg.ANG_CRK0_AFE + 1) 0 10) ∧
    -- a peak at the floor of 4 codes is no edge, one above it is
    8 * 4 ≤ (wIn false 1 {}).armLevel 1 ∧ (wIn false 1 {}).armLevel 1 < 8 * 5 := by decide +kernel

theorem test_met_crank_judged :
    (∀ s ∈ [wIn true 0 { lastV := some 999999608 }, wIn true 1 { lastV := some 999999607 },
        wIn true 1 { lastV := some 999999008, per1 := 4001, per2 := 4001 }],
      s.flag Reg.ANG_IN_CTL 0 0 = true ∧ s.flag Reg.ANG_IN_CTL 0 1 = true) ∧
    -- 399 ticks after the last accepted edge is too close with MINSP = 400; 400 ticks are not
    tooClose { lastV := some 999999608 } ((wIn true 0 { lastV := some 999999608 }).cfg (Reg.ANG_CRK0_MINSP + 0) 0) 1000000007 = true ∧
    tooClose { lastV := some 999999607 } ((wIn true 1 { lastV := some 999999607 }).cfg (Reg.ANG_CRK0_MINSP + 1) 0) 1000000007 = false ∧
    tooClose { lastV := some 999999008, per1 := 4001, per2 := 4001 } ((wIn true 1 {}).cfg (Reg.ANG_CRK0_MINSP + 1) 0) 1000000007 = false ∧
    -- 999 ticks lie in the noise window of a period of 4,001 with NWIN = 16, and none is known before two periods
    (wIn true 1 { lastV := some 999999008, per1 := 4001, per2 := 4001 }).noisy 1 1000000007 = true ∧
    (wIn true 1 { lastV := some 999999607 }).noisy 1 1000000007 = false ∧ 0 = (wIn true 0 {}).activeCrank := by decide +kernel

theorem test_met_cams :
    (wIn false 5 {}).angleOn = true ∧ (wIn false 5 {}).flag Reg.ANG_IN_CTL 0 (2 + 3) = true ∧ (wIn false 2 {}).flag Reg.ANG_IN_CTL 0 (2 + 0) = true ∧
    tooClose { lastV := some 1000000006 } ((wIn false 2 { lastV := some 1000000006 }).cfg Reg.ANG_CAM_MINSP 0) 1000000007 = true ∧
    tooClose {} ((wIn false 5 {}).cfg Reg.ANG_CAM_MINSP 0) 1000000007 = false ∧
    ((wIn true 1 { dirOpen := some 999976007 }).input 1).dirOpen = some 999976007 ∧
    999976007 + 20 * (wIn true 1 {}).cfg Reg.ANG_DIR_REV 0 ≤ wRun.tb ∧
    (wIn true 1 { dirOpen := some 999976007 }).dirComing 1 (999976007 + 20 * (wIn true 1 {}).cfg Reg.ANG_DIR_REV 0) = false ∧
    wRun.tb < 999976008 + 20 * (wIn true 1 {}).cfg Reg.ANG_DIR_REV 0 ∧
    ({ wIn true 1 {} with agenda := [(1000000008, .trail 1 1000000004)] } : State).dirComing 1 1000000005 = true ∧
    ({ wIn true 1 {} with agenda := [(1000000008, .trail 1 1000000004)] } : State).dirComing 1 1000000004 = false ∧
    ((wIn true 1 { dirOpen := some 999976007 }).input 1).dirOpen.isSome = true ∧
    (wIn true 1 { dirOpen := some 999976007 }).dirComing 1 (wRun.tb - 2) = false ∧
    -- the three widths, at both thresholds
    (∃ w ∈ [0, 5, 100, 1000, 2000, 10000, 24000], w < 20 * (wIn true 1 {}).cfg Reg.ANG_DIR_FWD 0) ∧
    ¬ (20 * (wIn true 1 {}).cfg Reg.ANG_DIR_FWD 0 < 20 * (wIn true 1 {}).cfg Reg.ANG_DIR_FWD 0) ∧
    20 * (wIn true 1 {}).cfg Reg.ANG_DIR_FWD 0 < 20 * (wIn true 1 {}).cfg Reg.ANG_DIR_REV 0 ∧
    -- of two crossings whose records are not yet written, the first is written first
    ((wIn false 1 { peakRec := [(1000000003, 9), (1000000005, 8)], hist := [{ stamp := 1000000003, period := 5 }] }).input 1).peakRec
      = (1000000003, 9) :: [(1000000005, 8)] ∧ 1000000003 + 4 ≤ wRun.tb ∧
    ((wIn false 0 { lastCross := 932891143 }).input 0).lastCross + 0x4000000 ≤ wRun.tb := by decide +kernel

/-- A device in a state of the synchronisation machine. -/
def wSyn (y : Sync) : State := { wRun with sync := y }

/-- A device in FULL_SYNC whose Tangent runs. -/
def wFull : State := { wRun with
  sync := { state := .fullSync, phaseValid := true, half := true, pos := 3, eligible := true }
  tan := { ast := .running, seg := { e := 999999907, a := 100000, len := 139810, rate := 0x1000000, phat := 139810, pos := 3, half := true }
           wrap := some 1000000007, lastB := some 980000000 } }

theorem test_met_sync :
    wRun.lastVertex + wRun.stallTime + 4 ≤ wRun.tb ∧ wRun.sync.state = .stall ∧
    (wSyn { state := .search }).lastVertex + (wSyn { state := .search }).stallTime + 4 ≤ wRun.tb ∧
    (wSyn { state := .search }).sync.state = .search ∧ (wSyn { state := .search }).sync.state ≠ .stall ∧
    (wSyn { state := .search, acted := true }).sync.acted = true ∧ wFull.sync.state ≠ .stall ∧ wFull.sync.acted = false ∧
    wFull.sync.state.runs = true := by decide +kernel

/-- Of a stall, a host's search and a REVERSE decision found in one tick, the machine acts on the host's. -/
theorem test_met_settle :
    let s := wSyn { state := .crankSync, conds := [.dir 2, .host, .stall] }
    s.sync.acted = false ∧ firstCond (s.sync.conds.filter s.syncHolds) = some (.host, [.dir 2, .stall]) ∧
    (∀ d ∈ s.sync.conds, s.syncHolds d = true → SyncCond.host.rank ≤ d.rank) := by decide +kernel

theorem test_met_boundary :
    wFull.tan.ast = .running ∧ wFull.tan.wrap = some 1000000007 ∧ wFull.tan.x.act = false ∧ wFull.tan.x.lostAt = none ∧
    1000000007 ≤ wFull.tb ∧ ({ wFull with tb := 1000000006 } : State).tb < 1000000007 ∧ wFull.tan.lastB = some 980000000 ∧
    wFull.fullSync = true := by decide +kernel

/-- In the tick of its wrap, FULL_SYNC stays and the outputs become eligible. -/
theorem test_met_eligible : ∃ t, exec .cycleBoundary wFull = .next t ∧ t.fullSync = true ∧ t.sync.eligible = true :=
  ⟨_, rfl, by decide +kernel⟩

/-- A fold that computes its number at every element. -/
def wFold (f : Nat → Nat → Nat) : List Nat → Nat → Nat
  | [], c => c
  | v :: vs, c =>
    match f c v with
    | 0 => wFold f vs 0
    | n + 1 => wFold f vs (n + 1)

theorem wFold_eq (f : Nat → Nat → Nat) (l : List Nat) (c : Nat) : l.foldl f c = wFold f l c := by
  induction l generalizing c with
  | nil => rfl
  | cons v vs ih =>
    simp only [List.foldl_cons, wFold]
    split <;> next h => rw [h, ih]

/-- A read of a Lattice without errors leaves it as it is. -/
theorem State.latTouchN_clean (s : State) (h : s.lat.errs = []) (a n : Nat) : s.latTouchN a n = s := by
  have h1 : ∀ a, s.latTouch a = s := by
    intro a
    unfold State.latTouch State.latErrs
    rw [h]
    rfl
  induction n generalizing a with
  | zero => rfl
  | succ n ih => rw [State.latTouchN, h1, ih]

theorem State.latVals_zero (s : State) (a n : Nat) (h : ∀ b, a ≤ b → s.latVal b = 0) : s.latVals a n = List.replicate n 0 := by
  induction n generalizing a with
  | zero => rfl
  | succ n ih =>
    rw [State.latVals, h a (Nat.le_refl a), ih (a + 1) (fun b hb => h b (Nat.le_of_succ_le hb))]
    rfl

theorem State.latOkN_all (s : State) (a n : Nat) (h : ∀ b, s.latOk b = true) : s.latOkN a n = true := by
  induction n generalizing a with
  | zero => rfl
  | succ n ih => rw [State.latOkN, h, ih]; rfl

theorem Tbl.get_all {α : Type} (p : α → Prop) (d : α) (t : Tbl α) (hd : p d) (h : ∀ e ∈ t, p e.2) (k : Nat) : p (Tbl.get d k t) := by
  induction t with
  | nil => exact hd
  | cons e t ih =>
    rw [Tbl.get]
    split
    · exact h e (List.mem_cons_self ..)
    · exact ih (fun x hx => h x (List.mem_cons_of_mem _ hx))

theorem Tbl.get_above {α : Type} (d : α) (t : Tbl α) (k : Nat) (h : ∀ e ∈ t, e.1 < k) : Tbl.get d k t = d := by
  induction t with
  | nil => rfl
  | cons e t ih =>
    have h1 := h e (List.mem_cons_self ..)
    rw [Tbl.get, if_neg (Nat.ne_of_lt h1)]
    exact ih (fun x hx => h x (List.mem_cons_of_mem _ hx))

/-- A device whose reload of the tables is in progress, with a Lattice that lists m. -/
def wTab (m : Tbl TwinWord) : State := { wRun with tan := { loading := some 1 }, lat := { mem := m } }

theorem wTab_touch (m : Tbl TwinWord) : ((wTab m).latTouchN tanArea 10).latTouchN (tanArea + 0x10) 0x4B0 = wTab m := by
  rw [State.latTouchN_clean _ rfl, State.latTouchN_clean _ rfl]

theorem wTab_ok (m : Tbl TwinWord) (h : ∀ e ∈ m, e.2.valid = true) (a n : Nat) : (wTab m).latOkN a n = true := by
  apply State.latOkN_all
  intro b
  have h1 : (wTab m).latOk b = (Tbl.get latFill b m).valid := by
    simp [State.latOk, State.latRead, State.latUnc, State.latErrs, wTab, Tbl.get]
  rw [h1]
  exact Tbl.get_all (fun t => t.valid = true) latFill m rfl h b

theorem wTab_zero (m : Tbl TwinWord) (a n : Nat) (h : ∀ e ∈ m, e.1 < a) : (wTab m).latVals a n = List.replicate n 0 := by
  apply State.latVals_zero
  intro b hb
  have h1 : (wTab m).latVal b = (Tbl.get latFill b m).value.toNat := by
    simp [State.latVal, State.latRead, State.latUnc, State.latErrs, wTab, Tbl.get]
  rw [h1, Tbl.get_above _ _ _ (fun e he => Nat.lt_of_lt_of_le (h e he) hb)]
  rfl

/-- An exchange area with the head of the device's wheel and the CRC-32 c, its geometry table beginning with g, the rest zero. -/
def wArea (c g : Nat) : Tbl TwinWord :=
  mapIdxFrom (fun i v => (tanArea + i, TwinWord.of (toWord v))) 0 (wRun.tanHead ++ [c % 65536, c / 65536, 0, 0, 0, 0, 0, 0, g])

theorem wArea_valid (c g : Nat) : ∀ e ∈ wArea c g, e.2.valid = true := by
  have h : ∀ (l : List Nat) i, ∀ e ∈ mapIdxFrom (fun i v => (tanArea + i, TwinWord.of (toWord v))) i l, e.2.valid = true := by
    intro l
    induction l with
    | nil => intro i e he; cases he
    | cons v vs ih =>
      intro i e he
      rcases List.mem_cons.mp he with rfl | h2
      · have h1 : toWord v ^^^ ~~~toWord v = 65535#16 := by
          apply BitVec.eq_of_getLsbD_eq
          intro j hj
          have h2 : ∀ j : Fin 16, (65535#16).getLsbD j = true := by decide
          simp [hj]
          exact h2 ⟨j, hj⟩
        simp [TwinWord.valid, TwinWord.of, h1]
      · exact ih _ e h2
  exact h _ 0

theorem test_met_tables_1 :
    ({ wRun with tan := { saving := some 1 } } : State).tanBusy = true ∧ wRun.tanBusy = false ∧ wRun.sync.state.lost = true ∧
    ({ wRun with tan := { saving := some 1, savedHead := wRun.tanHead } } : State).tan.savedHead.length = 8 ∧
    (wTab []).tan.loading.isSome = true ∧ (wTab [(tanArea, ⟨1, 1⟩)]).latOkN tanArea 10 = false ∧
    (wTab []).latVals tanArea 10 ≠ (wTab []).tanHead.take 5 ∧ ((wTab []).latVals tanArea 10).take 5 ≠ (wTab []).tanHead.take 5 ∧
    ∀ c g, ((wTab (wArea c g)).latOkN tanArea 10 && (wTab (wArea c g)).latOkN (tanArea + 0x10) 0x4B0) = true := by
  refine ⟨by decide +kernel, by decide +kernel, by decide +kernel, by decide +kernel, by decide +kernel, by decide +kernel,
    by decide +kernel, by decide +kernel, fun c g => ?_⟩
  rw [wTab_ok _ (wArea_valid c g), wTab_ok _ (wArea_valid c g)]
  rfl

/-- A hundred zero values into the CRC-32. -/
def wHundred (c : Nat) : Nat := wFold crc32Val (List.replicate 100 0) c

theorem wCrc_zeros (g x y c : Nat) (l : List Nat) (h0 : wFold crc32Val (wRun.tanHead ++ g :: List.replicate 99 0) 0xFFFFFFFF = x)
    (hl : l.foldl (fun x _ => wHundred x) x = y) (h : l.length = 11) (hc : y ^^^ 0xFFFFFFFF = c) :
    crc32 (wRun.tanHead ++ (g :: List.replicate 399 0) ++ List.replicate 800 0) = c := by
  have h1 : ∀ (l : List Nat) x, l.foldl (fun x _ => wHundred x) x = (List.replicate (100 * l.length) 0).foldl crc32Val x := by
    intro l
    induction l with
    | nil => intro x; rfl
    | cons y ys ih =>
      intro x
      rw [List.foldl_cons, ih, List.length_cons, Nat.mul_succ, Nat.add_comm, ← List.replicate_append_replicate, List.foldl_append]
      simp only [wHundred, wFold_eq]
  rw [← h0, h1, h, ← wFold_eq, ← List.foldl_append] at hl
  rw [crc32, ← hc, ← hl, List.append_assoc, List.append_assoc, List.cons_append, List.cons_append,
    List.replicate_append_replicate, List.replicate_append_replicate]

theorem wCrc_a1 : wFold crc32Val (wRun.tanHead ++ 0 :: List.replicate 99 0) 0xFFFFFFFF = 3493998908 := by decide +kernel
theorem wCrc_a2 : wHundred 3493998908 = 2485235610 := by decide +kernel
theorem wCrc_a3 : wHundred 2485235610 = 4114960216 := by decide +kernel
theorem wCrc_a4 : wHundred 4114960216 = 1601699568 := by decide +kernel
theorem wCrc_a5 : wHundred 1601699568 = 1663469498 := by decide +kernel
theorem wCrc_a6 : wHundred 1663469498 = 1869249767 := by decide +kernel
theorem wCrc_a7 : wHundred 1869249767 = 222107813 := by decide +kernel
theorem wCrc_a8 : wHundred 222107813 = 2275911196 := by decide +kernel
theorem wCrc_a9 : wHundred 2275911196 = 3540052203 := by decide +kernel
theorem wCrc_a10 : wHundred 3540052203 = 1207847244 := by decide +kernel
theorem wCrc_a11 : wHundred 1207847244 = 187015439 := by decide +kernel
theorem wCrc_a12 : wHundred 187015439 = 161916299 := by decide +kernel

theorem wCrc_a : crc32 (wRun.tanHead ++ (0 :: List.replicate 399 0) ++ List.replicate 800 0) = 4133050996 := by
  refine wCrc_zeros _ 3493998908 161916299 _ [0, 0, 0, 0, 0, 0, 0, 0, 0, 0, 0] wCrc_a1 ?_ rfl (by decide)
  simp only [List.foldl_cons, List.foldl_nil, wCrc_a2, wCrc_a3, wCrc_a4, wCrc_a5, wCrc_a6, wCrc_a7, wCrc_a8, wCrc_a9, wCrc_a10, wCrc_a11, wCrc_a12]

theorem wCrc_b1 : wFold crc32Val (wRun.tanHead ++ 0x8000 :: List.replicate 99 0) 0xFFFFFFFF = 2537670225 := by decide +kernel
theorem wCrc_b2 : wHundred 2537670225 = 1732277004 := by decide +kernel
theorem wCrc_b3 : wHundred 1732277004 = 3085055500 := by decide +kernel
theorem wCrc_b4 : wHundred 3085055500 = 1707179766 := by decide +kernel
theorem wCrc_b5 : wHundred 1707179766 = 2139046666 := by decide +kernel
theorem wCrc_b6 : wHundred 2139046666 = 4284320440 := by decide +kernel
theorem wCrc_b7 : wHundred 4284320440 = 2104279982 := by decide +kernel
theorem wCrc_b8 : wHundred 2104279982 = 4138721390 := by decide +kernel
theorem wCrc_b9 : wHundred 4138721390 = 1539801110 := by decide +kernel
theorem wCrc_b10 : wHundred 1539801110 = 740152231 := by decide +kernel
theorem wCrc_b11 : wHundred 740152231 = 2952908235 := by decide +kernel
theorem wCrc_b12 : wHundred 2952908235 = 469262697 := by decide +kernel

theorem wCrc_b : crc32 (wRun.tanHead ++ (0x8000 :: List.replicate 399 0) ++ List.replicate 800 0) = 3825704598 := by
  refine wCrc_zeros _ 2537670225 469262697 _ [0, 0, 0, 0, 0, 0, 0, 0, 0, 0, 0] wCrc_b1 ?_ rfl (by decide)
  simp only [List.foldl_cons, List.foldl_nil, wCrc_b2, wCrc_b3, wCrc_b4, wCrc_b5, wCrc_b6, wCrc_b7, wCrc_b8, wCrc_b9, wCrc_b10, wCrc_b11, wCrc_b12]


/-- The exchange areas of the test: a wrong CRC-32, an entry out of range, and a table that loads. -/
def wSaved : State := wTab (wArea 4133050996 0)
def wBadCrc : State := wTab (wArea 0 0)
def wBadRange : State := wTab (wArea 3825704598 0x8000)

theorem wArea_below (c g : Nat) : ∀ e ∈ wArea c g, e.1 < tanArea + 17 := by
  have h2 : ∀ (l : List Nat) i, ∀ e ∈ mapIdxFrom (fun i v => (tanArea + i, TwinWord.of (toWord v))) i l, e.1 < tanArea + i + l.length := by
    intro l
    induction l with
    | nil => intro i e he; cases he
    | cons v vs ih =>
      intro i e he
      rcases List.mem_cons.mp he with rfl | h3
      · simp
      · have h4 := ih _ e h3
        simp only [List.length_cons]
        omega
  intro e he
  have h5 := h2 _ 0 e he
  simpa [State.tanHead] using h5

theorem wArea_rv (c g : Nat) : (wTab (wArea c g)).latVals (tanArea + 0x1A0) 800 = List.replicate 800 0 :=
  wTab_zero _ _ _ (fun e he => Nat.lt_trans (wArea_below c g e he) (by decide))

theorem wArea_gv (c g : Nat) (h : (wTab (wArea c g)).latVal (tanArea + 0x10) = g) :
    (wTab (wArea c g)).latVals (tanArea + 0x10) 400 = g :: List.replicate 399 0 := by
  rw [State.latVals, h, wTab_zero _ _ _ (fun e he => Nat.lt_of_lt_of_le (wArea_below c g e he) (by decide))]

/-- What a reload reads: the head as the device has it, and a CRC-32 that is right, or not; then the ranges. -/
theorem test_met_tables_2 :
    let sound := fun (s : State) => crc32 ((s.latVals tanArea 10).take 8 ++ s.latVals (tanArea + 0x10) 400 ++ s.latVals (tanArea + 0x1A0) 800) =
      nth 0 (s.latVals tanArea 10) 8 + 65536 * nth 0 (s.latVals tanArea 10) 9
    let ranges := fun (s : State) => s.rangesOk (s.latVals (tanArea + 0x10) 400) (s.latVals (tanArea + 0x1A0) 800) (nth 0 s.tanHead 4)
    (∀ s ∈ [wSaved, wBadCrc, wBadRange], (s.latVals tanArea 10).take 5 = s.tanHead.take 5) ∧
    ¬ sound wBadCrc ∧ sound wBadRange ∧ ranges wBadRange = false ∧ sound wSaved ∧ ranges wSaved = true := by
  simp only [wSaved, wBadCrc, wBadRange]
  rw [wArea_gv _ _ (by decide +kernel), wArea_gv _ _ (by decide +kernel), wArea_gv _ _ (by decide +kernel), wArea_rv, wArea_rv, wArea_rv]
  have h0 : ((wTab (wArea 0 0)).latVals tanArea 10).take 8 = wRun.tanHead := by decide +kernel
  have h1 : ((wTab (wArea 4133050996 0)).latVals tanArea 10).take 8 = wRun.tanHead := by decide +kernel
  have h2 : ((wTab (wArea 3825704598 0x8000)).latVals tanArea 10).take 8 = wRun.tanHead := by decide +kernel
  rw [h0, h1, h2, wCrc_a, wCrc_b]
  decide +kernel

theorem test_met_captures :
    ({ wRun with tan := { s16Last := 0 } } : State).tan.s16Last + wRun.cfg Reg.SYN_STALL_T 0 * 65536 ≤ wRun.tb ∧
    ({ wRun with tan := { offsBad := true } } : State).tan.offsBad = true ∧
    bits (0x053F#16).toNat 15 11 = 0 ∧ bits (0x053F#16).toNat 7 6 = 0 ∧ bits (0x053F#16).toNat 10 8 < 6 ∧
    bits (0x0800#16).toNat 15 11 ≠ 0 ∧ bits (0x0040#16).toNat 7 6 ≠ 0 ∧ 6 ≤ bits (0x0600#16).toNat 10 8 := by decide +kernel

/-! ### Every hypothesis is met: events -/

/-- The origin of a test event. -/
def wOrg : Origin := ⟨7, true, false, 8191, false⟩

/-- A committed entry of output o whose pin time is t. -/
def wEnt (o : Nat) (t : Tick) : QEntry :=
  ⟨.pulse, true, true, false, false, o, 200000, 50, 2, 0, 0, 3, wOrg, 0, 0, 0, 0, true, none, false, some t, 0, false, false⟩

/-- A device in FULL_SYNC, its outputs eligible, with the events state given. -/
def wEv (e : Events) : State := { wFull with evq := e }

theorem test_met_requests :
    (∀ n ∈ [0, 95, 0x100], ¬ (bits n 15 9 ≠ 0 ∨ bit n 7 = true ∨ (bit n 8 = false ∧ 96 ≤ bits n 6 0) ∨ (bit n 8 = true ∧ bits n 6 0 ≠ 0))) ∧
    (∀ n ∈ [0x200, 0x80, 96, 0x101], bits n 15 9 ≠ 0 ∨ bit n 7 = true ∨ (bit n 8 = false ∧ 96 ≤ bits n 6 0) ∨ (bit n 8 = true ∧ bits n 6 0 ≠ 0)) ∧
    (8191#16).toNat < 8192 ∧ 8192 ≤ (8192#16).toNat ∧ (1024#16).toNat ≤ 1024 ∧ 1024 < (1025#16).toNat ∧ wRun.evq.rcpPend = none ∧
    (wEv { rcpPend := some (1, 2) }).evq.rcpPend ≠ none ∧
    (wEv { reqs := [.arm 8191 .host] }).evq.arming = none ∧ (wEv { reqs := [.arm 8191 .host] }).evq.reqs = .arm 8191 .host :: [] ∧
    Tbl.find? 8191 (wEv { reqs := [.arm 8191 .host] }).evq.slots = none ∧
    Tbl.find? 0 (wEv { reqs := [.arm 0 .host], slots := [(0, (1, 5))] }).evq.slots ≠ none ∧
    (wEv { reqs := [.arm 0 (.lane 63)], slots := [(0, (1, 5))] }).evq.reqs = .arm 0 (.lane 63) :: [] := by decide +kernel

/-- An arm of slot 8191 whose record holds the values given, with n entries in the queue of output 95. -/
def wArm (recd : List Nat) (n : Nat) : State :=
  (wEv { arming := some (8191, .host, 5), q := [(95, (List.range n).map (fun _ => wEnt 95 1000000100))] }).latPuts 65528 recd

/-- What the statement names of an arm: intact, fields, room, passed, guarded. -/
def wChecks (s : State) : Bool × Bool × Bool × Bool × Bool :=
  let s1 := s.latTouchN 65528 8
  let e := s1.readEntry 65528 false 8191 s.tb
  (s1.recIntegrity 65528, s1.recFields 65528 false, decide ((s.queue e.out).length < 16),
    decide (s1.held e.out = false ∧ e.cqmode = 1 ∧ e.cq = s.tan.cyc ∧ e.angle ≤ s1.angleAt s.tb), e.guard)

/-- An EDGE record of output 95 at 0x030000 CAU, with the word 5 given. -/
def wEdge (w5 : Nat) : List Nat := [0x005F, 0, 3, 0, 0xFFFF, w5, 7, 0]

theorem test_met_arms :
    (wArm [] 0).evq.arming = some (8191, .host, 5) ∧ (wArm [] 0).hostArmWaits = false ∧
    (wChecks ({ wArm [] 0 with lat := { mem := [(65535, ⟨1, 1⟩)] } })).1 = false ∧
    (wChecks (wArm [0xC000] 0)).1 = true ∧ (wChecks (wArm [0xC000] 0)).2.1 = false ∧
    ((wChecks (wArm (wEdge 0) 16)).1, (wChecks (wArm (wEdge 0) 16)).2.1, (wChecks (wArm (wEdge 0) 16)).2.2.1) = (true, true, false) ∧
    wChecks (wArm [0x005F, 0, 1, 0, 0xFFFF, 0x40, 7, 0] 15) = (true, true, true, true, false) ∧
    wChecks (wArm (wEdge 0) 15) = (true, true, true, false, false) := by decide +kernel

/-- A pulse end of output o. -/
def wEnd (o : Nat) (a : Option Nat) (pin : Option Tick) (wait : Bool) : Pulse := ⟨o, wOrg, 3, a, 0, pin, 0, 999999931, 100, wait, false⟩

theorem test_met_fires :
    (∀ p ∈ [(23, 1000000031), (95, 1000000031), (95, 999999999), (95, 999999998)],
      let s := wEv { q := [(p.1, [wEnt p.1 p.2])] }
      s.settle.queue p.1 = wEnt p.1 p.2 :: [] ∧ s.settle.mayFire p.1 (wEnt p.1 p.2) = true ∧
      (wEnt p.1 p.2).tooLate ((wEnt p.1 p.2).lateAt s.settle.tb) = decide (p.2 = 999999998)) ∧
    (∀ p ∈ [wEnd 95 (some 9) (some 1000000031) false, wEnd 0 (some 9) (some 1000000031) false, wEnd 56 none none false, wEnd 55 none none false],
      let s := wEv { act := [(p.out, some p)] }
      s.settle.active p.out = some p ∧ p.bad = false ∧ s.settle.fireTick p.out s.tb = s.tb ∧
      (p.endAngle = none → p.start + p.dur ≤ s.tb + 24) ∧ (p.out = 55 → p.awaiting = false)) := by decide +kernel

/-- An entry of output 5 with a time guard of 31 ticks after its base, uncommitted. -/
def wGuard (base : Tick) : QEntry := { wEnt 5 0 with guard := true, pin := none, gbase := base, latest := 31 }

theorem test_met_queues :
    -- the guard of the entry ends 24 ticks ahead of its last tick, so one base is one tick late and the next is not
    (wEv { q := [(5, [wGuard 1000000000])] }).queue 5 = [wGuard 1000000000] ∧
    ((wEv { q := [(5, [wGuard 1000000000])] }).queue 5).filter (fun e => e.expired wFull.tb) ≠ [] ∧
    ((wEv { q := [(5, [wGuard 1000000002])] }).queue 5).filter (fun e => e.expired wFull.tb) = [] ∧ (wEv {}).evq.drops ≤ 255 ∧
    (wGuard 1000000000).org.rcp = false ∧
    (∀ d ∈ [true, false],
      let s := wEv { status := [(⟨23, 7, d, 5, 0, 0⟩, wOrg)], act := [(23, some (wEnd 23 (some 9) none true))] }
      s.evq.status = (⟨23, 7, d, 5, 0, 0⟩, wOrg) :: [] ∧ s.active 23 = some (wEnd 23 (some 9) none true) ∧
      (wEnd 23 (some 9) none true).out = 23 ∧ (wEnd 23 (some 9) none true).org = wOrg ∧ (wEnd 23 (some 9) none true).awaiting = true) ∧
    (wEv { reqs := [.cancel 7 false 95 .host] }).evq.arming = none ∧
    (wEv { reqs := [.cancel 7 false 95 .host] }).evq.reqs = .cancel 7 false 95 .host :: [] ∧
    (wEv { reqs := [.cancel 7 true 0 .host] }).evq.reqs = .cancel 7 true 0 .host :: [] := by decide +kernel

/-- An entry that failed its check, and a record of its slot from which it is whole again. -/
def wBad (pin : Option Tick) : QEntry := { wEnt 5 0 with bad := true, pin := pin, org := { wOrg with tag := 7 } }

theorem test_met_rebuilds :
    (let s := (wEv { q := [(5, [wBad none])], slots := [(8191, (1, 5))] }).latPuts 65528 (wEdge 0)
     s.settle.active 5 = none ∧ ((s.settle.queue 5).map (fun e => e.pin)) = [none] ∧ s.settle.restorable (wBad none).org = true) ∧
    (let s := (wEv { q := [(5, [wBad (some 1000000031)])], slots := [(8191, (1, 5))] }).latPuts 65528 (wEdge 0)
     let e := { wBad (some 1000000031) with bad := false }
     s.settle.active 5 = none ∧ (s.settle.queue 5).map (fun e => { e with bad := false }) = e :: [] ∧
     s.settle.mayFire 5 e = true ∧ e.tooLate (e.lateAt s.tb) = false) ∧
    (let p := { wEnd 5 (some 9) (some 1000000031) false with bad := true }
     let s := (wEv { act := [(5, some p)], q := [(5, [wBad none])], slots := [(8191, (1, 5))] }).latPuts 65528 (wEdge 0)
     s.settle.active 5 = some p ∧ p.bad = true ∧ s.settle.restorable p.org = true ∧
     ∀ e ∈ s.settle.queue 5, (e.bad && !(s.settle.restorable e.org)) = false) := by decide +kernel

/-! ### Every hypothesis is met: arcs, converters, combustion -/

def wArcRec : ArcRec := ⟨false, true, 1, 5, 3, 0, 1000, 16, 0, 0x44000, 4, 9⟩

def wArcRun : ArcRun := ⟨7, wArcRec, 2, some 1000000071, false, 0, none, 0, 0⟩

/-- A device whose converter k, ADC replica and frames stand as given. -/
def wConv (k : Nat) (c : Conv) (f : List Frame) : State := { wRun with arcs := { conv := [(k, c)], frames := f } }

def wFrame : Frame := ⟨3, 7, wArcRec, 0x7FFE0, 0, 0, 0, 0, 0, false, false, false, 0, 0, [], none, 0⟩

/-- A conversion of a sample of frame 7, held at its hold tick with GAIN 0x8000 and the OFS given. -/
def wCur (job : ConvJob) (hold : Tick) (ofs : Int) : ConvCur := ⟨job, hold, 0x8000, ofs⟩

def wReq : ConvReq := ⟨0, 3, 7, 16⟩

theorem wConv_now (k : Nat) (c : Conv) (f : List Frame) : 1000000006 ≤ (wConv k c f).adcNow ∧ (wConv k c f).adcNow ≤ 1000000007 :=
  ⟨Nat.le_trans (show 1000000006 ≤ ((wRun.tb : Int) - 1 + (wRun.replica 11).ofs).toNat by decide +kernel) (State.replicaNow_near (wConv k c f) 11).1,
    Nat.le_trans (State.replicaNow_near (wConv k c f) 11).2 (show ((wRun.tb : Int) + (wRun.replica 11).ofs).toNat ≤ 1000000007 by decide +kernel)⟩

theorem test_met_arcs :
    (let s : State := { wRun with arcs := { arc := [(255, { run := some wArcRun })] } }
     (s.settle.arcOf 255).run = some wArcRun ∧ wArcRun.pin = some 1000000071 ∧ 1000000071 ≤ s.tb + 64 ∧
       (s.settle.replica 11).inFlight.length < 8 ∧ (s.settle.replica 11).sending = []) ∧
    -- a conversion whose result comes, within 60 to 99 ticks of its hold tick, whatever the replica's lag
    (∀ job ∈ [ConvJob.arc wReq, .cal false, .cal true, .mid], ∀ hold ∈ [999999946, 999999908],
      let s := wConv 0 { cur := some (wCur job hold 0) } [wFrame]
      (s.convOf 0).cur = some (wCur job hold 0) ∧ (s.convOf 0).freeJob = none ∧ (wCur job hold 0).job = job ∧
      hold + 60 ≤ 1000000006 ∧ 1000000007 < hold + 100) ∧
    (let s := wConv 0 { cur := some (wCur (.arc wReq) 999999946 0) } [wFrame]
     s.frameOf wReq.serial = some wFrame ∧ wFrame.total = none ∧ wFrame.gone = [] ∧ wFrame.base + 8 + wReq.idx < 0x80000) ∧
    -- none has come by 100 ticks
    (let s := wConv 15 { cur := some (wCur .mid 999999906 0) } [wFrame]
     (s.convOf 15).cur = some (wCur .mid 999999906 0) ∧ (s.convOf 15).freeJob = none ∧ 999999906 + 100 ≤ 1000000006) ∧
    -- the mid reference: 256 codes away, and 257
    (∀ r ∈ [0x7F00, 0x8100], let c := (clampInt 0 65535 (roundDiv (((r : Nat) - (0 : Int)) * 0x8000) 32768)).toNat
      ¬ (c + 256 < 0x8000 ∨ 0x8000 + 256 < c)) ∧
    (∀ r ∈ [0x7EFF, 0x8101], let c := (clampInt 0 65535 (roundDiv (((r : Nat) - (0 : Int)) * 0x8000) 32768)).toNat
      c + 256 < 0x8000 ∨ 0x8000 + 256 < c) := by decide +kernel

theorem test_met_calibration :
    wRun.calibrating = false ∧ (2#16 : Word) ≠ 1#16 ∧ (wConv 15 { calFrom := some 999737863 } []).calibrating = true ∧
    ((wConv 15 { calFrom := some 999737863 } []).convOf 15).calFrom = some 999737863 ∧ wRun.tb ≤ 999737863 + 0x40000 ∧
    ((wConv 15 { calFrom := some 999737863 } []).convOf 15).calLeft = 0 ∧ ({ calLeft := 64 } : Conv).calLeft ≠ 0 ∧
    999737862 + 0x40000 < wRun.tb ∧
    (let gain := roundDiv ((0xE000 * 32768 * 32 : Nat) : Int) ((0xF000 * 32 - 0x1000 * 32 : Nat) : Int)
     let ofs := roundDiv (((0x1000 * 32 : Nat) : Int) * gain - ((0x1000 * 32768 * 32 : Nat) : Int)) (32 * gain)
     0x1000 * 32 < 0xF000 * 32 ∧ 0x6000 ≤ gain ∧ gain ≤ 0xA000 ∧ -2048 ≤ ofs ∧ ofs ≤ 2047) ∧ ¬ (5 < 5) := by decide +kernel

/-- A combustion frame of cylinder 5 and its figures. -/
def wJob : CmbJob := ⟨3, wArcRec, 0x44000, 5, 6⟩

theorem test_met_combustion :
    (let s : State := { wRun with cmb := { param := [(5, List.replicate 32 1)], queue := [wJob] } }
     s.cmb.run = none ∧ s.cmb.queue = wJob :: [] ∧ Tbl.find? wJob.rcd.cyl s.cmb.param = some (List.replicate 32 1)) ∧
    (let s : State := { wRun with cmb := { queue := [{ wJob with rcd := { wArcRec with cyl := 4 } }] } }
     Tbl.find? 4 s.cmb.param = none) ∧
    (∀ r ∈ [(⟨wJob, 1, 2, 3, 5, 0, [], false⟩ : CmbRun), ⟨{ wJob with rcd := { wArcRec with cmb := 2 } }, 1, 2, 3, 1, 0, [1, 2, 3], false⟩],
      ({ wRun with cmb := { run := some r } } : State).cmb.run = some r) ∧ (5 : Nat) ≠ 1 := by decide +kernel

/-! ### Every hypothesis is met: the drive -/

/-- The state in the tick in which the DRIVE island's replica holds t. -/
def State.atDrv (s : State) (t : Tick) : State := { s with tb := t + s.lag 12 }

/-- Of the tests' devices, the DRIVE island's replica holds what the name says. -/
theorem State.atDrv_now (s : State) (t : Tick) (h : (s.replica 12).ofs = 0) : (s.atDrv t).drvNow = t := by
  have h1 : (s.atDrv t).replica 12 = s.replica 12 := rfl
  have h2 : (s.atDrv t).lag 12 = s.lag 12 := rfl
  unfold State.drvNow State.replicaNow
  rw [h1, h2, h]
  show (((t + s.lag 12 : Nat) : Int) - (s.lag 12 : Int) + 0).toNat = t
  omega

/-- A profile whose word 0 is given: PEAK and HOLD levels, times in steps of 20 ticks. -/
def wProf (w0 : Nat) : List Nat := [w0, 2000, 100, 10, 50, 800, 100, 100, 400, 50, 40, 40, 30, 20, 0, 0, 0xC000, 100, 5, 3000, 5, 0, 0]

/-- A start on output 23, with its allowance. -/
def wStart (w : Option Nat) : Start := ⟨23, wOrg, 3, 1000000000, w, 0, none, false, false⟩

/-- A device with a start waiting in tick 1000000007, a profile and a boost enabled or not; its banks are enabled and its profiles loaded. -/
def wDrv (w0 : Nat) (w : Option Nat) (bank : Bank) (boost : Bool) : State :=
  ({ wRun.wSet [(Reg.DRV_CTL, 0, if boost then 0x33F else 0x3F)] with
    drv := { waiting := [wStart w], profs := [(3, wProf w0)], banks := [(5, bank)], loaded := true
             boost0 := { v := 4095 }, boost1 := { v := 4095 } } }).atDrv 1000000007

theorem wDrv_now (w0 : Nat) (w : Option Nat) (k : Bank) (boost : Bool) : (wDrv w0 w k boost).drvNow = 1000000007 := by
  refine State.atDrv_now _ _ ?_
  cases boost <;> rfl

/-- The start that has reached its pin time waits, and lies before or beyond its allowance. -/
theorem test_met_start_waits (w0 : Nat) (w : Option Nat) (k : Bank) (boost : Bool) :
    (wDrv w0 w k boost).waitingOn 23 = some (wStart w) := by
  have h : (wDrv w0 w k boost).drv.waiting = [wStart w] := rfl
  rw [State.waitingOn, h, wDrv_now]
  rfl

theorem wDrv_ahead (w0 : Nat) (w v : Option Nat) (k : Bank) (boost : Bool) : (wDrv w0 w k boost).someAhead (wStart v) = false := by
  have h : (wDrv w0 w k boost).drv.waiting = [wStart w] := rfl
  rw [State.someAhead, h, wDrv_now]
  simp [wStart]

/-- A bank blocks a start while its regulator is not IDLE, and one whose guards have passed does not. -/
theorem test_met_blocked :
    (wDrv 0 (some 7) { readySeen := true } true).blockedIn (wStart (some 7)) 1000000007 = false ∧
    (wDrv 0x2000 (some 7) {} false).blockedIn (wStart (some 7)) 1000000007 = false ∧
    (∀ n, (wDrv (0x4000 * n) none {} false).blockedIn (wStart none) 1000000007 = false) ∧
    (wDrv 0x4000 (some 6) {} false).blockedIn (wStart (some 6)) (1000000007 - 1) = false ∧
    (wDrv 0 (some 6) { readySeen := true, hist := [{ phase := .hold1 }] } true).blockedIn (wStart (some 6)) (1000000007 - 1) = true := by
  unfold State.blockedIn
  simp only [wDrv_ahead]
  exact ⟨by decide +kernel, by decide +kernel, fun n => rfl, by decide +kernel, by decide +kernel⟩

theorem test_met_starts :
    -- a start begins in the last tick of its allowance with the boost ready, or from the battery; without the boost by its BNR
    (∀ s ∈ [wDrv 0 (some 7) { readySeen := true } true, wDrv 0x2000 (some 7) {} false],
      s.cannotStart (wStart (some 7)) = none ∧ 1000000007 ≤ (wStart (some 7)).p + 7 ∧ s.boostShort (wStart (some 7)) = false) ∧
    (∀ n ∈ [0, 1, 2], (wDrv (0x4000 * n) none {} false).cannotStart (wStart none) = none ∧ (wStart none).w = none ∧
      (wDrv (0x4000 * n) none {} false).boostShort (wStart none) = true ∧ pfBnr ((wDrv (0x4000 * n) none {} false).profile 3) = n) ∧
    ¬ 1000000007 ≤ (wStart (some 6)).p + 6 ∧ (wStart (some 6)).overdue 1000000007 = true ∧ (wStart (some 7)).overdue 1000000007 = false ∧
    (let s := wDrv 0x4000 (some 6) {} false
     (s.bank (23 / 4)).idleAt ≠ 1000000007 ∧ s.boostShort (wStart (some 6)) = true ∧ pfBnr (s.profile 3) = 1) ∧
    ((wDrv 0 (some 6) { idleAt := 1000000007 } true).bank (23 / 4)).idleAt = 1000000007 := by decide +kernel

/-- What stops a start before all else: its bank is not active, or no profiles are loaded. -/
theorem test_met_dropped_starts :
    (let s := (wDrv 0 none {} false).setCfg Reg.DRV_CTL 0 0x1F
     s.bankActive (23 / 4) = false ∧ s.cannotStart (wStart none) = some 5) ∧
    (let s := wDrv 0 none {} false
     let t := { s with drv := { s.drv with loaded := false } }
     t.bankActive (23 / 4) = true ∧ t.drv.loaded = false ∧ t.cannotStart (wStart none) = some 6) ∧
    (wDrv 0 none {} false).bankActive (23 / 4) = true ∧ (wDrv 0 none {} false).drv.loaded = true := by decide +kernel

/-- Bank 5 in a phase since its S, in the DRIVE island's tick t. -/
def wBank (t : Tick) (ph : Phase) (st e : Tick) (hsv : Bool) (f : Bank → Bank) : State :=
  ({ wRun with drv := { banks := [(5, f { hist := [{ phase := ph, hsv := hsv, ls := .on }], ch := 3, s := st, prof := wProf 0x400, endTick := e })] } }).atDrv t

theorem wBank_now (t : Tick) (ph : Phase) (st e : Tick) (hsv : Bool) (f : Bank → Bank) : (wBank t ph st e hsv f).drvNow = t :=
  State.atDrv_now _ _ rfl

/-- The ticks stand for drvNow, by wBank_now. -/
theorem test_met_regulator :
    (∀ s ∈ [wBank 1000000017 .decay 1000000000 1000000016 false id, wBank 1000000017 .decay 1000000000 1000000017 false id,
        wBank 1000000017 .hold1 1000000000 0 false id],
      1000000017 % 20 = 17 ∧ (s.bank 5).phase ≠ .idle ∧ (s.bank 5).s + 17 ≤ 1000000017) ∧
    ((wBank 1000000017 .decay 1000000000 1000000016 false id).bank 5).endTick ≠ 1000000017 ∧ 20 ≤ pf (wProf 0) 13 ∧
    ((wBank 1000000017 .decay 1000000000 1000000017 false id).bank 5).endTick = 1000000017 ∧ pf (wProf 0) 13 < 21 ∧
    (let k := (wBank 1000000017 .hold1 1000000000 0 false id).bank 5
     ({ k.addEcl 1000000000 3000 with last := some 3000 } : Bank).shorted 1000000000 3000 = true ∧
       ({ k.addEcl 1000000000 2999 with last := some 2999 } : Bank).shorted 1000000000 2999 = false ∧ k.olWait = false ∧ k.ch < 4 ∧
       k.phase ≠ .decay) ∧
    (∀ b, b < 6 → wRun.unitHere b = true) ∧
    ((wBank 1000000017 .hold1 1000000000 0 true id).bank 5).now.hsv = true ∧
    ((wBank 1000000017 .hold1 1000000000 0 false id).bank 5).now.hsv = false ∧ 0 + pf (wProf 0) 10 ≤ 40 ∧ 50 ≤ 100 - 50 ∧
    0 + pf (wProf 0) 11 ≤ 40 ∧
    (let k := (wBank 1000001000 .peak 1000000000 0 false id).bank 5
     k.phase = .peak ∧ k.s + 20 * pf k.prof 4 ≤ 1000001000) ∧
    (∀ ph ∈ [Phase.trans1, .hold1], let k := (wBank 1000003000 ph 1000000000 0 false id).bank 5
     k.phase = ph ∧ pfH2 k.prof = true ∧ k.s + 20 * (pf k.prof 4 + pf k.prof 7) ≤ 1000003000) := by decide +kernel

theorem test_met_regulator_timers :
    (let s := wBank 1000000200 .boost 1000000000 0 false (fun k => { k with olDone := true })
     (s.bank 5).phase = .boost ∧ (s.bank 5).s + 20 * pf (s.bank 5).prof 3 ≤ 1000000200 ∧
       (decide ((s.bank 5).phase = .boost) && bit (pf (s.bank 5).prof 16) 15 && s.unitHere 5 && !(s.bank 5).olDone) = false ∧
       (bit (pf (s.bank 5).prof 16) 12 && s.unitHere 5) = false) ∧
    (∀ v ∈ [true, false], let k := (wBank 1000000200 .peak 1000000000 0 false (fun k => { k with want := some v, hsvAt := 1000000160 })).bank 5
     k.want = some v ∧ k.hsvAt + (if v then pf k.prof 11 else pf k.prof 10) ≤ 1000000200) ∧
    (let k := (wBank 1000065536 .decay 0 1000000000 false id).bank 5
     k.phase = .decay ∧ k.endTick + 65536 ≤ 1000065536) ∧
    (∀ c ∈ [99, 100], let s := wBank 1000000100 .boost 1000000000 0 false (fun k => { k with last := some c })
     (s.bank 5).last = some c ∧ pf (s.bank 5).prof 17 = 100) := by decide +kernel

/-- The check for an open load is due in the tick S + 20 × TOL, and is not once it has been made. -/
theorem test_met_open_load :
    (∀ c ∈ [99, 100], (wBank 1000000100 .boost 1000000000 0 false (fun k => { k with last := some c })).openDue 5 = true) ∧
    (wBank 1000000200 .boost 1000000000 0 false (fun k => { k with olDone := true })).openDue 5 = false := by
  unfold State.openDue
  simp only [wBank_now]
  decide +kernel

/-- The ticks stand for drvNow: each state is one of atDrv. -/
theorem test_met_ends :
    (let s := wBank 1000000100 .hold1 1000000000 0 false (fun k => { k with dur := some 100 })
     (s.bank (23 / 4)).ch = 23 % 4 ∧ (s.bank (23 / 4)).dur = some 100 ∧ (s.bank (23 / 4)).s + 100 ≤ 1000000100 ∧
       (s.bank (23 / 4)).phase ≠ .idle ∧ (s.bank (23 / 4)).phase ≠ .decay) ∧
    (let s := State.atDrv { wRun with drv := { ign := [(23, { st := .dwell, dur := some (1000000000, 7) })] } } 1000000007
     (s.ign 23).st = .dwell ∧ (s.ign 23).dur = some (1000000000, 7) ∧ 1000000000 + 7 ≤ 1000000007) ∧
    (let s := State.atDrv { wRun with drv := { valves := [(7, { run := true, pulse := true, dur := some (1000000000, 7) })] } } 1000000007
     (s.valve 7).pulse = true ∧ (s.valve 7).dur = some (1000000000, 7) ∧ 1000000000 + 7 ≤ 1000000007) := by decide +kernel

/-- A device at a boost monitor's tick, its boosts enabled where `en`, with target 2000, hysteresis 20 and overvoltage 2200. -/
def wBst (en : Bool) (c : Boost) : State :=
  ({ (wRun.wSet [(Reg.DRV_CTL, 0, if en then 0x300 else 0), (Reg.DRV_BST0_TGT, 0, 2000), (Reg.DRV_BST1_TGT, 0, 2000), (Reg.DRV_BST0_SW, 0, 20),
      (Reg.DRV_BST1_SW, 0, 20), (Reg.DRV_BST0_OVP, 0, 2200), (Reg.DRV_BST1_OVP, 0, 2200)]) with
    drv := { boost0 := c, boost1 := c } }).atDrv 1000000100

theorem wBst_now (en : Bool) (c : Boost) : (wBst en c).drvNow = 1000000100 := by
  refine State.atDrv_now _ _ ?_
  cases en <;> rfl

theorem test_met_boost :
    1000000100 % 200 = 100 ∧
    (∀ m ∈ [0, 1], (wBst true {}).domOn (9 + m) = true ∧ (wBst true {}).unitHere (6 + m) = true ∧ (wBst true {}).boostEn m = true ∧
      (wBst true {}).drvOn m = true ∧
      (wBst true {}).boostOvp m ≤ 2200 ∧ 2199 < (wBst true {}).boostOvp m ∧ 1980 ≤ (wBst true {}).boostTgt m - (wBst true {}).boostHyst m ∧
      ¬ 1981 ≤ (wBst true {}).boostTgt m - (wBst true {}).boostHyst m ∧ (wBst true {}).boostTgt m ≤ 2000 ∧ 1999 < (wBst true {}).boostTgt m ∧
      ((wBst true {}).boost m).fet = .rest ∧ ((wBst true { fet := .off }).boost m).fet ≠ .rest ∧ (wBst false {}).boostEn m = false) ∧
    (let s : State := { wBst true {} with fus := { shadow := [(6, TwinWord.of 5#16)] } }
     s.unitHere 6 = false ∧ s.unitHere 7 = false ∧ s.domOn 10 = true) ∧
    (∀ m ∈ [0, 1], let s := wBst true { fet := .on, since := 999994999 }
      (s.boost m).fet = .on ∧ (s.boost m).since + 20 * bits (s.boostTim m) 15 8 ≤ 1000000100) ∧
    (∀ m ∈ [0, 1], let s := wBst true { fet := .off, since := 999994999 }
      (s.boost m).fet = .off ∧ (s.boost m).since + 20 * bits (s.boostTim m) 7 0 ≤ 1000000100) ∧
    (let s := wRun.wSet [(Reg.DRV_TRC_BASE_HI, 0, 4), (Reg.DRV_TRC_BASE_LO, 0, 0)]
     (0xD000#16).toNat % 256 = 0 ∧ bit (0xD000#16).toNat 11 = false ∧ bits (0xD000#16).toNat 14 12 < 6 ∧ s.drv.trc = none ∧ s.traceBase ≠ 0 ∧
       s.domOn 9 = true ∧ ¬ bits (0xE000#16).toNat 14 12 < 6) := by decide +kernel

/-! ### Every hypothesis is met: ignition and valves -/

def wIgn (g : Ign) : State :=
  ({ wRun.wSet [(Reg.IGN_EN1, 0, 0xFF), (Reg.IGN_DWMAX, 0, 5), (Reg.IGN_RAMP, 0, 5)] with drv := { ign := [(23, g)] } }).atDrv 1000000007

theorem wIgn_now (g : Ign) : (wIgn g).drvNow = 1000000007 := State.atDrv_now _ _ rfl

/-- A fire item of output 47. -/
def wItem (k : FireKind) (soft : Bool) : FireItem := ⟨47, k, wOrg, 0, none, 0, none, soft⟩

theorem test_met_ignition :
    (wItem .pulseStart false).out = 24 + 23 ∧ (wItem .pulseStart false).kind = .pulseStart ∧ ((wIgn {}).ign 23).st = .low ∧
    (wIgn {}).ignEn 23 = true ∧ bit (wIgn {}).drv.ignFlt 23 = false ∧ (wIgn {}).drvOn 1 = true ∧
    (wItem .pulseEnd false).kind = .pulseEnd ∧ (wItem .pulseEnd false).soft = false ∧ ((wIgn { st := .dwell }).ign 23).st = .dwell ∧
    ((wIgn { st := .ramp, since := 1000000007 }).ign 23).st = .ramp ∧ 1000000007 ≤ ((wIgn { st := .ramp, since := 1000000007 }).ign 23).since ∧
    ((wIgn { st := .dwell, since := 999999007 }).ign 23).since + (wIgn {}).cfg Reg.IGN_DWMAX 0 * 200 ≤ 1000000007 ∧
    ((wIgn { st := .ramp, rampEnd := 1000000007 }).ign 23).st = .ramp ∧ ((wIgn { st := .ramp, rampEnd := 1000000007 }).ign 23).rampEnd ≤ 1000000007 ∧
    (wIgn {}).domOn 10 = true ∧ ((wIgn {}).ign 23).st ≠ .dwell ∧ (2#16 : Word) ≠ 1#16 ∧ (wIgn {}).unitHere 8 = true ∧
    ((wIgn { st := .dwell, since := 999999608 }).ign 23).runLong 1000000007 = true ∧
    ((wIgn { found := some 999999607 }).ign 23).runLong 1000000007 = true := by decide +kernel

/-- Valve 7 in the DRIVE island's tick t. -/
def wVlv (t : Tick) (v : Valve) : State :=
  ({ wRun.wSet [(Reg.VLV_IOC, 7, 0x800), (Reg.VLV_SEL, 0, 7), (Reg.VLV_CFG, 7, 1), (Reg.VLV_DMAX, 7, 0xF333)] with drv := { valves := [(7, v)] } }).atDrv t

theorem wVlv_now (t : Tick) (v : Valve) : (wVlv t v).drvNow = t := State.atDrv_now _ _ rfl

theorem test_met_valves :
    (let s := wVlv 1000000750 { run := true, start := 1000000750 }
     1000000750 % 800 = 100 * 7 + 50 ∧ (s.valve 7).run = true ∧ (s.valve 7).start ≤ 1000000750 ∧ s.fld Reg.VLV_IOC 7 11 0 ≤ 0x800 ∧
       s.unitHere 9 = true ∧ ¬ s.fld Reg.VLV_IOC 7 11 0 ≤ 0x7FF ∧ (s.valve 7).ocOff = none) ∧
    ((wVlv 5 { run := true, ocOff := some 3 }).valve 7).ocOff ≠ none ∧
    (let v := (wVlv 1000100000 { run := true, gate := true, start := 1000000000, d := 32768 }).valve 7
     v.run = true ∧ v.gate = true ∧ v.start + tonOf v.per v.d ≤ 1000100000) ∧
    (let v := (wVlv 1000200000 { run := true, start := 1000000000 }).valve 7
     v.run = true ∧ v.start + v.per * 800 ≤ 1000200000 ∧ v.ocOff = none) ∧
    (let v := (wVlv 1000200000 { run := true, start := 1000000000, ocOff := some 3, ocRun := 3 }).valve 7
     v.start + v.per * 800 ≤ 1000200000 ∧ v.ocOff ≠ none ∧ 3 ≤ v.ocRun ∧ ({ v with ocRun := 2 } : Valve).ocRun < 3) ∧
    (let s := wVlv 1000200000 { latch := true }
     bit (0x8000#16).toNat 15 = true ∧ (0x8000#16).toNat % 1024 = 0 ∧ s.domOn 10 = true ∧ s.fld Reg.VLV_SEL 0 2 0 = 7 ∧ (s.valve 7).latch = true ∧
       s.vlvMode 7 = 1 ∧ s.vlvLive = true ∧ s.keptBit Reg.VLV_STAT 7 15 = false ∧ (s.hit Reg.VLV_STAT 7 15).keptBit Reg.VLV_STAT 7 15 = true) := by
  decide +kernel

/-! ### Every hypothesis is met: the lanes -/

/-- A tick at which lane 63 begins a lane cycle, whatever the lag of its island's replica. -/
def wBase : Tick := 1000000000 + b2n (Config.replicaLag 10 0)

/-- A lane with nothing to settle. -/
def wQuiet (k : Lane) : Bool := !k.cmp0.hit && !k.cmp1.hit

theorem wQuiet_settles (s : State) (l : Nat) (h : wQuiet (s.lane l) = true) : s = s.laneSettle l := by
  simp only [wQuiet, Bool.and_eq_true, Bool.not_eq_true'] at h
  obtain ⟨h3, h4⟩ := h
  have c : s.matchDone l 0 = s := if_pos (by rw [show ((s.lane l).cmp 0).hit = false from h3]; rfl)
  have d : s.matchDone l 1 = s := if_pos (by rw [show ((s.lane l).cmp 1).hit = false from h4]; rfl)
  unfold State.laneSettle
  rw [c, d]

/-- Lane 63 in a state, with registers and its cluster's memories as given, at the start of a lane cycle. -/
def wLane (cfg mem : Tbl Word) (k : Lane) : State :=
  { wRun with tb := wBase, lan := { lane := [(63, k)], mem := mem }, regs := cfg }

/-- A lane that runs and has nothing to settle, no vector pending and no wait. -/
def wRuns (k : Lane) : Bool :=
  decide (k.st = .running) && decide (k.runFrom = 0) && decide (k.wait = none) && decide (k.next = 0) && decide (k.pend = []) &&
    decide (k.badItem = none) && !k.cmp0.hit && !k.cmp1.hit

theorem wLane_clock (cfg mem : Tbl Word) (k : Lane) : (wLane cfg mem k).laneClock 63 = 1000000000 := by
  have h : (wLane cfg mem k).replica 10 = {} := by rfl
  have h2 : (wLane cfg mem k).lag 10 = b2n (Config.replicaLag 10 0) := by
    unfold State.lag
    rw [h]
    rfl
  show (wLane cfg mem k).replicaNow 10 = _
  unfold State.replicaNow
  rw [h, h2]
  show (((1000000000 + b2n (Config.replicaLag 10 0) : Nat) : Int) - _ + 0).toNat = _
  omega

theorem wLane_meets (cfg mem : Tbl Word) (k : Lane) (i : LarWord) (hk : wRuns k = true) (hw : (wLane cfg mem k).laneWord 63 = some i) :
    wLane cfg mem k = (wLane cfg mem k).laneSettle 63 ∧ (wLane cfg mem k).executes 63 i := by
  simp only [wRuns, Bool.and_eq_true, decide_eq_true_eq, Bool.not_eq_true'] at hk
  obtain ⟨⟨⟨⟨⟨⟨⟨h1, h2⟩, h3⟩, h4⟩, h5⟩, h6⟩, h9⟩, h10⟩ := hk
  have hl : (wLane cfg mem k).lane 63 = k := rfl
  refine ⟨?_, by decide, ?_, ?_, hw⟩
  · exact wQuiet_settles _ _ (by rw [hl]; simp [wQuiet, h9, h10])
  · have hv : (wLane cfg mem k).vecReady 63 = none := by
      unfold State.vecReady
      simp only [hl, h5]
      simp
    have ho : (wLane cfg mem k).laneOn 63 = true := by rfl
    have ht : (wLane cfg mem k).takeoverDue 63 = false := by rfl
    simp only [State.laneExecutes, State.laneDue, hv, ho, ht, hl, State.laneCycle, wLane_clock, h1, h2, h3, h4]
    simp
  · unfold State.fetchBad
    rw [hl, h6]
    simp [State.iBad, wLane]

/-- A lane whose word, at address 0 of its cluster, is v and whose next word is w. -/
def wCode (v w : Nat) : Tbl Word := [(iAddr 63 0, toWord v), (iAddr 63 1, toWord w)]

/-- Lane 63 executes in this state an instruction, and what is asked of both holds. -/
def wMeets (cfg mem : Tbl Word) (k : Lane) (p : LarWord → State → Bool) : Bool :=
  wRuns k && match (wLane cfg mem k).laneWord 63 with
    | some i => p i (wLane cfg mem k)
    | none => false

theorem wMeets_means (cfg mem : Tbl Word) (k : Lane) (p : LarWord → State → Bool) (h : wMeets cfg mem k p = true) :
    ∃ (i : LarWord) (s0 s : State), s = s0.laneSettle 63 ∧ s.executes 63 i ∧ p i s = true := by
  simp only [wMeets, Bool.and_eq_true] at h
  obtain ⟨h1, h2⟩ := h
  split at h2
  · next i hi =>
    obtain ⟨a, b⟩ := wLane_meets cfg mem k i h1 hi
    exact ⟨i, _, _, a, b, h2⟩
  · exact absurd h2 (by decide)

/-- A running lane. -/
def wK : Lane := { st := .running }

/-- The block forms of a cluster, and TRAP for its stack errors and divisions. -/
def wBlocks : Tbl Word := [(regKey Reg.LAN_CCFG 7, 1#16)]
def wTraps : Tbl Word := [(regKey Reg.LAN_LCFG 63, 3#16)]

/-- One word of each mnemonic. -/
def wWords : List (Mn × Nat) := [(.nop, 0x0000), (.halt, 0x0100), (.ret, 0x0200), (.retv, 0x0300), (.trap, 0x0400), (.jr, 0x0500), (.add, 0x0800), (.adc, 0x0808), (.sub, 0x0810), (.sbc, 0x0818), (.land, 0x1000), (.lor, 0x1008), (.lxor, 0x1010), (.cmp, 0x1018), (.mov, 0x1800), (.tst, 0x1808), (.neg, 0x1810), (.lnot, 0x1818), (.mulu, 0x2000), (.muls, 0x2008), (.divu, 0x2010), (.divs, 0x2018), (.shl, 0x2800), (.shr, 0x2808), (.sar, 0x2810), (.ror, 0x2818), (.rol, 0x3000), (.par, 0x3008), (.brev, 0x3010), (.swpb, 0x3018), (.shli, 0x3800), (.shri, 0x4000), (.sari, 0x4800), (.rori, 0x5000), (.addi, 0x5800), (.subi, 0x6000), (.cmpi, 0x6800), (.movi, 0x7000), (.brevn, 0x7808), (.ld, 0x8000), (.st, 0x8800), (.ldi, 0x9000), (.lda, 0x9020), (.sta, 0x9040), (.jmp, 0x9060), (.call, 0x9080), (.djnz, 0x90A0), (.br, 0x9800), (.mfsl, 0xA040), (.mfsh, 0xA840)] ++ [(.mtsl, 0xB040), (.mtsh, 0xB840), (.ctcRun, 0xC000), (.ctcStop, 0xC008), (.ctcClear, 0xC010), (.pclr, 0xC800), (.pset, 0xC808), (.ptgl, 0xC810), (.pmovc, 0xC818), (.wait, 0xD000), (.shift, 0xD800), (.crcb, 0xE000), (.rep, 0xE800), (.tang, 0xF000), (.trate, 0xF008), (.tpred, 0xF010), (.trpm, 0xF018), (.tsyn, 0xF020), (.tvtx, 0xF028), (.ta2t, 0xF030), (.c32i, 0xF100), (.c32w, 0xF108), (.c32f, 0xF110), (.c16w, 0xF118), (.hshi, 0xF120), (.hshw, 0xF128), (.lwr, 0xF200), (.lww, 0xF208), (.lwri, 0xF210), (.lwwi, 0xF218), (.ewr, 0xF300), (.earm, 0xF308), (.ecan, 0xF310), (.pstat, 0xF400), (.pmax, 0xF408), (.imep, 0xF410), (.qmax, 0xF418), (.a1050, 0xF420), (.a90lat, 0xF428), (.kstat, 0xF430), (.kint, 0xF438)]
def wBlockWords : List (Mn × Nat) := [(.bmov, 0xE800), (.bfil, 0xEA00), (.bcmp, 0xEC00), (.bcrc, 0xEE00)]

theorem test_met_mnemonics :
    wWords.all (fun p => wMeets [] (wCode p.2 0) wK (fun i _ => decide (i.mn = p.1))) = true ∧
    wBlockWords.all (fun p => wMeets wBlocks (wCode p.2 0) wK (fun i _ => decide (i.mn = p.1))) = true ∧
    ∀ m : Mn, m ∈ wWords.map (·.1) ∨ m ∈ wBlockWords.map (·.1) := by
  refine ⟨by decide +kernel, by decide +kernel, fun m => ?_⟩
  cases m <;> decide

/-- A register of a lane. -/
def wG (l : List (Nat × Nat)) : Lane := { wK with g := l.map (fun p => (p.1, toWord p.2)) }

/-- The instructions of a lane at the edges of their rules: the word, the lane, and what the statement asks. -/
theorem test_met_lane_edges_1 :
    -- division by 0 with DZT = 0 and 1, and by another divisor
    wMeets [] (wCode 0x2030 0) (wG [(1, 1)]) (fun i s => decide (i.mn = .divu) && decide ((s.lane 63).gw i.rs ≠ 0)) = true ∧
    wMeets [] (wCode 0x2038 0) wK (fun i s => decide (i.mn = .divs) && decide ((s.lane 63).gw i.rs = 0) && !s.flag Reg.LAN_LCFG 63 1) = true ∧
    wMeets wTraps (wCode 0x2038 0) wK (fun i s => decide (i.mn = .divs) && decide ((s.lane 63).gw i.rs = 0) && s.flag Reg.LAN_LCFG 63 1) = true ∧
    -- data addresses 2,047 and 2,048
    wMeets [] (wCode 0x8020 0) (wG [(1, 2047)]) (fun i s => decide (i.mn = .ld) && decide (((s.lane 63).gw i.rs).toNat = 2047) &&
      !s.lan.parity.contains (dAddr 63 2047)) = true ∧
    wMeets [] (wCode 0x8820 0) (wG [(1, 2047)]) (fun i s => decide (i.mn = .st) && decide (((s.lane 63).gw i.rs).toNat ≤ 2047)) = true ∧
    wMeets [] (wCode 0x8020 0) (wG [(1, 2048)]) (fun i s => decide (i.mn = .ld) && decide (2047 < ((s.lane 63).gw i.rs).toNat)) = true ∧
    wMeets [] (wCode 0x8820 0) (wG [(1, 65535)]) (fun i s => decide (i.mn = .st) && decide (2047 < ((s.lane 63).gw i.rs).toNat)) = true ∧
    -- calls at depth 8 and returns at depth 0, with WRAP and TRAP; RETV with and without a vector in service
    (∀ c ∈ [([], 7), ([], 8), (wTraps, 7)],
      wMeets c.1 (wCode 0x9080 5) { wK with depth := c.2 } (fun i s => decide (i.mn = .call) && decide ((s.lane 63).depth = 8 → s.flag Reg.LAN_LCFG 63 0 = false)) = true) ∧
    wMeets wTraps (wCode 0x9080 5) { wK with depth := 8 } (fun i s => decide (i.mn = .call) && decide ((s.lane 63).depth = 8) && s.flag Reg.LAN_LCFG 63 0) = true ∧
    (∀ c ∈ [([], 0), (wTraps, 1)],
      wMeets c.1 (wCode 0x0200 0) { wK with depth := c.2 } (fun i s => decide (i.mn = .ret) && decide ((s.lane 63).depth = 0 → s.flag Reg.LAN_LCFG 63 0 = false)) = true ∧
      wMeets c.1 (wCode 0x0300 0) { wK with depth := c.2, insvc := [3] } (fun i s => decide (i.mn = .retv) && decide ((s.lane 63).insvc ≠ [])) = true) ∧
    wMeets wTraps (wCode 0x0200 0) wK (fun i s => decide (i.mn = .ret) && decide ((s.lane 63).depth = 0) && s.flag Reg.LAN_LCFG 63 0) = true ∧
    wMeets wTraps (wCode 0x0300 0) { wK with insvc := [0] } (fun i s => decide (i.mn = .retv) && decide ((s.lane 63).insvc ≠ []) && decide ((s.lane 63).depth = 0)) = true ∧
    wMeets [] (wCode 0x0300 0) wK (fun i s => decide (i.mn = .retv) && decide ((s.lane 63).insvc = [])) = true ∧
    -- reads of a capture FIFO and of other items
    wMeets [] (wCode 0xA070 0) wK (fun i _ => decide (i.mn = .mfsl) && decide (i.b ∈ [0xE, 0xF])) = true ∧
    wMeets [] (wCode 0xA080 0) wK (fun i _ => decide (i.mn = .mfsl) && decide (i.b ∉ [0xE, 0xF])) = true := by decide +kernel

theorem test_met_lane_edges_2 :
    -- the waiting extension functions, inside and outside their ranges
    wMeets [] (wCode 0xF028 0) (wG [(3, 2040)]) (fun i s => decide (i.mn = .tvtx) && decide ((s.lane 63).reg 3 + 7 ≤ 2047)) = true ∧
    wMeets [] (wCode 0xF028 0) (wG [(3, 2041)]) (fun i s => decide (i.mn = .tvtx) && decide (2047 < (s.lane 63).reg 3 + 7)) = true ∧
    (∀ p ∈ [(Mn.lwr, 0xF200), (.lww, 0xF208), (.lwri, 0xF210), (.lwwi, 0xF218)],
      wMeets [] (wCode p.2 0) (wG [(3, 7), (2, 0xFFFF)]) (fun i s => decide (i.mn = p.1) && decide ((s.lane 63).reg 3 < 8) &&
        inGeneral (windowAddr ((s.lane 63).reg 2) ((s.lane 63).reg 3)) 1) = true ∧
      wMeets [] (wCode p.2 0) (wG [(3, 8)]) (fun i s => decide (i.mn = p.1) && decide (8 ≤ (s.lane 63).reg 3)) = true ∧
      wMeets [] (wCode p.2 0) (wG [(3, 4), (2, 0x3FFF)]) (fun i s => decide (i.mn = p.1) &&
        !inGeneral (windowAddr ((s.lane 63).reg 2) ((s.lane 63).reg 3)) 1) = true) ∧
    wMeets [] (wCode 0xF300 0) (wG [(2, 8191), (3, 7)]) (fun i s => decide (i.mn = .ewr) && decide ((s.lane 63).reg 2 < 8192) && decide ((s.lane 63).reg 3 < 8)) = true ∧
    wMeets [] (wCode 0xF300 0) (wG [(3, 8)]) (fun i s => decide (i.mn = .ewr) && decide (8 ≤ (s.lane 63).reg 3)) = true ∧
    wMeets [] (wCode 0xF308 0) (wG [(2, 8191)]) (fun i s => decide (i.mn = .earm) && decide ((s.lane 63).reg 2 < 8192)) = true ∧
    wMeets [] (wCode 0xF308 0) (wG [(2, 8192)]) (fun i s => decide (i.mn = .earm) && decide (8192 ≤ (s.lane 63).reg 2)) = true ∧
    wMeets [] (wCode 0xF310 0) (wG [(3, 95)]) (fun i s => decide (i.mn = .ecan) && cancelOk ((s.lane 63).reg 3)) = true ∧
    wMeets [] (wCode 0xF310 0) (wG [(3, 96)]) (fun i s => decide (i.mn = .ecan) && !cancelOk ((s.lane 63).reg 3)) = true ∧
    -- REP before a word that may be repeated and one that may not; the block instructions
    wMeets [] (wCode 0xE800 0x0800) wK (fun i s => decide (i.mn = .rep) && decide ((s.lane 63).rep = none) &&
      repeatable (s.lanWord (iAddr 63 ((s.lane 63).pc + 1)))) = true ∧
    wMeets [] (wCode 0xE800 0x0000) wK (fun i s => decide (i.mn = .rep) && !repeatable (s.lanWord (iAddr 63 ((s.lane 63).pc + 1)))) = true ∧
    (∀ p ∈ [(Mn.bmov, 0xE800), (.bfil, 0xEA00), (.bcmp, 0xEC00), (.bcrc, 0xEE00)],
      wMeets wBlocks (wCode p.2 0) wK (fun i s => decide (i.mn = p.1) && decide ((s.lane 63).cnt = 0)) = true ∧
      wMeets wBlocks (wCode p.2 0) { wK with cnt := 1, sa := 2047, da := 2047 } (fun i s => decide (i.mn = p.1) && decide ((s.lane 63).cnt ≠ 0) &&
        decide ((s.lane 63).sa ≤ 2047) && decide ((s.lane 63).da ≤ 2047) && !s.lan.parity.contains (dAddr 63 2047) &&
        decide (s.lanWord (dAddr 63 (s.lane 63).sa) = s.lanWord (dAddr 63 (s.lane 63).da))) = true ∧
      wMeets wBlocks (wCode p.2 0) { wK with cnt := 1, sa := 2048 } (fun i s => decide (i.mn = p.1) && decide (2047 < (s.lane 63).sa)) = true) ∧
    wMeets wBlocks (wCode 0xEC00 0 ++ [(dAddr 63 0, 1#16)]) { wK with cnt := 2, da := 1 } (fun i s => decide (i.mn = .bcmp) &&
      decide (s.lanWord (dAddr 63 (s.lane 63).sa) ≠ s.lanWord (dAddr 63 (s.lane 63).da))) = true := by decide +kernel

/-- A running segment as unit 0 finds it, as the ANGLE island held it at the end of tick n. -/
def wU0 (run : Bool) (n : Tick) : UnitZero :=
  ⟨n, 100000, 3, if run then .running else .invalid, { a := 100000, len := 139810, rate := 0x1000000 }, 5, 6, 7, []⟩

/-- What was held 8 ticks before the lane cycle is the answer; what was held 7 before is not yet. -/
theorem test_met_units :
    (∀ (run : Bool) (mem : Tbl Word),
      let s := { wLane [] mem wK with lan := { (wLane [] mem wK).lan with u0 := [wU0 run 999999993, wU0 run 999999992] } }
      s.lan.u0.find? (fun x => decide (x.tick + 8 ≤ s.laneClock 63)) = some (wU0 run 999999992)) ∧
    ((wU0 true 5).ast == .running) = true ∧ cauSub (1 * 65536 + 34464) (wU0 true 5).seg.a < (wU0 true 5).seg.len ∧
    (wU0 true 5).seg.len ≤ cauSub (3 * 65536 + 43202) (wU0 true 5).seg.a ∧ ((wU0 false 5).ast == .running) = false ∧ ¬ (256#16 : Word) < 256 ∧
    (255#16 : Word) < 256 ∧
    Tbl.find? 23 [(23, List.replicate 16 1)] = some (List.replicate 16 1) ∧ Tbl.find? 0 ([] : Tbl (List Nat)) = none := by
  refine ⟨fun run mem => ?_, by decide +kernel⟩
  have h : ({ wLane [] mem wK with lan := { (wLane [] mem wK).lan with u0 := [wU0 run 999999993, wU0 run 999999992] } } : State).laneClock 63
      = 1000000000 := wLane_clock [] mem wK
  simp only [h]
  cases run <;> rfl

/-- A waiting lane 0 with its port 7 on pin 95, whose level began at the tick `t`. -/
def wWait (w : WaitFor) (lv : Bool) (t : Tick) (f : Lane → Lane) : State :=
  { wRun with tb := 1000000004, regs := [(regKey (Reg.LAN_PMAP0 + 7) 0, 0x405F#16)]
              lan := { lane := [(0, f { st := .running, wait := some ⟨w, 1000000000, ⟨.wait, 0, 7, 0, 0, 0, 1⟩, 0⟩ })], pads := [(95, (lv, t))] } }

/-- The lane waits for a condition that holds in this tick. -/
def wHolds (kind n : Nat) (lv : Bool) (f : Lane → Lane) : Bool :=
  let s := wWait (.cond kind n) lv 1000000004 f
  decide ((s.lane 0).st = .running) && decide ((s.lane 0).wait.map (·.for_) = some (.cond kind n)) && decide ((s.lane 0).wait.map (·.test) = some 0) && decide (1000000000 ≤ s.tb) &&
    s.condHolds 0 kind n 1000000000 && wQuiet (s.lane 0)

theorem test_met_wait_ends :
    wHolds 0 7 true id = true ∧ wHolds 1 7 false id = true ∧ wHolds 2 1 false (fun k => { k with cap1 := [5] }) = true ∧
    wHolds 3 1 false (fun k => { k with cmp1 := { last := some 1000000003 } }) = true ∧
    (∀ f ∈ [id, fun k => { k with cap1 := [5] }, fun k => { k with cmp1 := { last := some 1000000003 } }],
      ((wWait (.cond 0 7) true 1000000004 f).lane 0).badItem = none) := by decide +kernel

/-- A clock's edge is a level that the port did not have in the tick before: of its pin, or as a port map takes effect. -/
theorem test_met_edge_ends :
    (∀ f ∈ [true, false], ∀ o ∈ [true, false], let s := wWait (.shift 3 7 f o) (!f) 1000000004 id
      ((s.lane 0).wait.map (·.for_)) = some (.shift 3 7 f o) ∧ ((s.lane 0).wait.map (·.test)) = some 0 ∧
        ((s.lane 0).wait.map (·.from_)) = some 1000000000 ∧ (s.lane 0).badItem = none ∧
        s.portLevel 0 7 = (!f) ∧ s.portBefore 0 7 = f) ∧
    (let s := wWait (.shift 3 7 false false) true 5 (fun k => { k with remap := some 0x7F })
     s.portLevel 0 7 = true ∧ s.portBefore 0 7 = false) := by decide +kernel

theorem test_met_answers_1 :
    (∀ p ∈ [(Mn.lwr, 0xFFFF, 7), (.lwri, 0, 0), (.lww, 0x3FFF, 1), (.lwwi, 0x8000, 4), (.tvtx, 2048, 0), (.earm, 1, 0), (.ecan, 1, 0)],
      let s := (wWait (.unit p.1 5 p.2.1 p.2.2 []) false 0 id).ewrTurn 0
      ((s.lane 0).wait.map (·.for_)) = some (.unit p.1 5 p.2.1 p.2.2 []) ∧ ((s.lane 0).wait.map (·.test)) = some 0 ∧
        (s.lane 0).badItem = none ∧ (s.lane 0).st = .running ∧ s.latOk (windowAddr p.2.1 p.2.2) = true ∧
        (p.1 = .lww ∨ p.1 = .lwwi → s.latLocked (windowAddr p.2.1 p.2.2) = false)) := by decide +kernel

theorem test_met_answers_2 :
    (let s := { wWait (.unit .lwr 5 0xFFFF 7 []) false 0 id with lat := { mem := [(0x7FFFF, ⟨1, 1⟩)] } }
     s.latOk (windowAddr 0xFFFF 7) = false) ∧
    (let s := { wWait (.unit .lww 5 0x3FFF 1 []) false 0 id with evq := { rcpActive := true } }
     s.latLocked (windowAddr 0x3FFF 1) = true ∧ s.latLocked (windowAddr 0x1FFF 1) = false) ∧
    2048 ≤ 2048 ∧ bits 0x40 7 6 ≠ 0 ∧ 6 ≤ bits 0x600 10 8 ∧ (65535 : Nat) < 65536 ∧ bits 2047 10 8 ≥ 6 ∧
    0x53F < 2048 ∧ bits 0x53F 7 6 = 0 ∧ bits 0x53F 10 8 < 6 ∧ (List.replicate 8 (0#16 : Word)).length = 8 ∧
    takeFirst (fun p => p.1 == 0) [(5, 1, 1), (0, 2, 3), (0, 4, 4)] = some ((0, 2, 3), [(5, 1, 1), (0, 4, 4)]) := by decide +kernel

/-- A lane's write to an event record, first of the requests, of a slot that is locked or not. -/
theorem test_met_ewr :
    ∀ locked ∈ [true, false],
      let s := { wWait (.unit .ewr 5 8191 7 []) false 0 id with
        evq := { reqs := [.write 8191 7 5 0], slots := if locked then [(8191, (1, 5))] else [] } }
      ((s.lane 0).wait.map (·.for_)) = some (.unit .ewr 5 8191 7 []) ∧ s.evq.arming = none ∧
      s.evq.reqs = .write 8191 7 5 0 :: [] ∧ (∀ x ∈ s.evq.answers, x.1 ≠ 0) ∧ s.latLocked (8 * 8191 + 7) = locked := by decide +kernel

/-- Lane 63 in a lane cycle with a vector pending. -/
def wVec (k : Lane) : State := wLane [(regKey (Reg.LAN_VSRC0 + 3) 63, 0x8000#16)] [] { k with pend := [(3, 999999996)] }

theorem test_met_vector : let s := wVec wK
    s = s.laneSettle 63 ∧ s.laneDue 63 = true ∧ s.takeoverDue 63 = false ∧ (s.lane 63).rep ≠ some false ∧ (s.lane 63).badItem = none ∧ s.vecReady 63 = some 3 ∧
      ((s.lane 63).depth = 8 → s.flag Reg.LAN_LCFG 63 0 = false) := by
  intro s
  have hl : s.lane 63 = { wK with pend := [(3, 999999996)] } := rfl
  have hd : decide (999999996 + 4 ≤ s.tb) = true := by
    show decide (999999996 + 4 ≤ 1000000000 + b2n (Config.replicaLag 10 0)) = true
    exact decide_eq_true (by omega)
  refine ⟨wQuiet_settles _ _ (by rw [hl]; rfl), ?_, rfl, by rw [hl]; decide, by rw [hl]; rfl, ?_, fun h => ?_⟩
  · have ho : s.laneOn 63 = true := rfl
    have hc : s.laneClock 63 = 1000000000 := wLane_clock _ _ _
    have ht : decide (0 ≤ s.tb) = true := decide_eq_true (Nat.zero_le _)
    simp only [State.laneDue, State.laneCycle, ho, hc, hl]
    simp [wK]
  · unfold State.vecReady
    rw [hl]
    have hf : s.flag (Reg.LAN_VSRC0 + 3) 63 15 = true := by decide +kernel
    rw [show List.range 4 = [0, 1, 2, 3] from rfl]
    simp only [List.any_cons, List.any_nil, hd]
    simp [List.find?, hf, wK]
  · rw [hl] at h
    exact absurd h (by decide)

theorem test_met_lane_events :
    (let s := wWait (.cond 0 0) false 0 (fun k => { k with cmp1 := { hit := true, staged := true, shadow := 9, live := 4 } })
     ((s.lane 0).cmp 1).hit = true ∧ ((s.lane 0).cmp 1).staged = true) ∧
    (let s := { wWait (.cond 0 0) false 0 (fun k => { k with ct1 := { v := 0xFFFFFFFF }, cmp0 := { staged := true } }) with
        regs := [(regKey Reg.LAN_CMPCFG 0, 0x00C0#16), (regKey (Reg.LAN_CTCFG0 + 1) 0, 0x8000#16)] }
     wQuiet (s.lane 0) = true ∧ s.wrapsNow 0 1 = true ∧ s.cmpSrc 0 0 = 1 ∧ s.cmpStaged 0 0 = true ∧ ((s.lane 0).cmp 0).staged = true) ∧
    (let s := { wWait (.cond 0 0) false 0 (fun k => { k with ct0 := { v := 0xFFFFFFFF } }) with
        regs := [(regKey Reg.LAN_CTCFG0 0, 0x8000#16), (regKey (Reg.LAN_CTCFG0 + 1) 0, 0xE000#16)] }
     s.wrapsNow 0 0 = true ∧ bits (s.ctCfg 0 1) 14 12 = 6) ∧
    (wWait (.cond 0 0) true 0 id).padLevel 95 ≠ false ∧
    wRuns wK = true ∧ (wLane [] (wCode 0x00FF 0) wK).laneWord 63 = none := by decide +kernel

/-- The device with lane l selected, its lane and its cluster's spare as given. -/
def wSel (k : Lane) (sp : Spare) (item : Nat) : State :=
  { wRun with regs := [(Reg.LAN_SEL, 0x0077#16), (regKey Reg.LAN_RSEL 63, toWord item)], lan := { lane := [(63, k)], spare := [(7, sp)] } }

theorem test_met_lane_commands :
    (wSel {} .free 0).laneSel = 63 ∧ (wSel {} .free 0).laneOn 63 = true ∧ (wSel {} .free 0).fld Reg.LAN_SEL 0 6 4 = 7 ∧
    bits (0x2000#16).toNat 14 12 = 2 ∧ bits (0x2FFF#16).toNat 14 12 = 2 ∧ (wK.stateCode 5 = 1) ∧
    (({ wK with wait := some ⟨.cond 0 0, 1, ⟨.wait, 0, 0, 0, 0, 0, 1⟩, 0⟩ } : Lane).stateCode 5 = 2) ∧
    bits (0xCFFF#16).toNat 14 12 = 4 ∧ ({} : Lane).stateCode 5 = 0 ∧ ({ st := .faulted } : Lane).stateCode 5 = 3 ∧
    (wSel {} .free 0).lan.filling.contains (63 / 8) = false ∧ (wSel {} .free 7).fld Reg.LAN_RSEL 63 4 0 < 8 ∧
    (wSel {} .free 0).domOn (laneDom 7) = true ∧ (wSel {} .free 0).spare 7 = .free ∧ bits (0x4007#16).toNat 13 3 = 0 ∧
    bits (0x4007#16).toNat 15 14 = 1 ∧ bits (0x8007#16).toNat 15 14 = 2 ∧ bits (0x8007#16).toNat 13 3 = 0 ∧
    ((wSel {} (.auto 7) 0).spare 7).pending.isSome = true := by decide +kernel

theorem test_met_clusters :
    (∀ sp ∈ [Spare.idle 7, .now 7], let s := { wLane [] [] {} with lan := { lane := [(63, {})], spare := [(7, sp)] } }
      s.spare 7 = sp ∧ (s.lane (8 * 7 + 7)).stateCode 5 ≠ 1) ∧
    (∀ sp, ({ wLane [] [] {} with lan := { lane := [(63, {})], spare := [(7, sp)] } } : State).laneCycle (8 * 7 + 7) = true) ∧
    ({ wRun with lan := { filling := [7] } } : State).lan.filling.contains 7 = true := by
  refine ⟨by decide +kernel, fun sp => ?_, by decide +kernel⟩
  have h : ({ wLane [] [] {} with lan := { lane := [(63, {})], spare := [(7, sp)] } } : State).laneClock 63 = 1000000000 := wLane_clock [] [] {}
  show decide (_ % 4 = 0) = true
  rw [h]
  rfl

/-! ### Every hypothesis is met: feedback -/

/-- The device when its ADC island's replica holds the tick t. -/
def wAdc (t : Tick) (l : List (Nat × Nat × Nat)) (f : Feedback) : State :=
  { wRun.wSet l with tb := t + wRun.lag 11, fbk := f }

theorem wSet_time (s : State) (l : List (Nat × Nat × Nat)) : (s.wSet l).time = s.time ∧ (s.wSet l).pwr = s.pwr := by
  unfold State.wSet
  induction l generalizing s with
  | nil => exact ⟨rfl, rfl⟩
  | cons p l ih => exact ih _

theorem wAdc_now (t : Tick) (l : List (Nat × Nat × Nat)) (f : Feedback) : (wAdc t l f).adcNow = t := by
  have h : (wAdc t l f).replica 11 = wRun.replica 11 := by
    show Tbl.get _ 11 (wRun.wSet l).time.isl = _
    rw [(wSet_time _ _).1]
    rfl
  have h2 : (wAdc t l f).lag 11 = wRun.lag 11 := by
    have h3 : (wAdc t l f).pwr = wRun.pwr := (wSet_time wRun l).2
    unfold State.lag
    rw [h, h3]
  unfold State.adcNow State.replicaNow
  rw [h, h2]
  show (((t + wRun.lag 11 : Nat) : Int) - _ + 0).toNat = _
  omega

/-- An incremental port in a mode (1 sin/cos, 2 quadrature), with updates each 100 ticks. -/
def wInc (n m : Nat) (p : IncPort) : State :=
  wAdc 1000000080 [(Reg.FBK_CFG, n, 0x4000 * m + 1), (Reg.FBK_AMP, n, 0xFF10), (Reg.FBK_GAINS, n, 0x8000), (Reg.FBK_GAINC, n, 0x8000)]
    (if n = 0 then { pA := p } else { pB := p })

theorem wInc_update (n m : Nat) (p : IncPort) (h : (wInc n m p).fbkT n = 100) : (wInc n m p).updateTick n = true := by
  have a : (wInc n m p).adcNow = 1000000080 := wAdc_now _ _ _
  unfold State.updateTick
  rw [a, h]
  rfl

/-- A track of a sin/cos sample as the statement corrects it. -/
def wTrack (raw calG : Nat) (calO ofs : Int) (gain : Nat) : Int :=
  ((correctCode (raw % 65536) calG calO : Int) - 32768 - ofs) * gain

/-- A sample held 80 ticks before tick 1000000080, with unit gains. -/
def wHold (s : Tick) : FbkHold := ⟨s, 0x4001, 0xFF10, 0x8000, 0, 0x8000, 0, 0x8000, 0, 0x8000, 0⟩

theorem test_met_sincos :
    (∀ n ∈ [0, 1], (wInc n 1 {}).fbkMode n = 1 ∧ (wInc n 1 {}).domOn 8 = true ∧ ((wInc n 1 {}).inc n).first = true) ∧
    (∀ n ∈ [0, 1], (wInc n 1 {}).updateTick n = true) ∧
    (∀ p : IncPort, p.holds = [wHold 1000000000, wHold 1000000001] →
      p.holds.find? (fun x => x.s + 80 == (wInc 1 1 p).adcNow) = some (wHold 1000000000)) ∧
    (let h := wHold 1000000000
     ampOk (wTrack 49152 h.calGS h.calOS h.ofsS h.gainS) (wTrack 32768 h.calGC h.calOC h.ofsC h.gainC) h.amp = true ∧
     ampOk (wTrack 32768 h.calGS h.calOS h.ofsS h.gainS) (wTrack 32768 h.calGC h.calOC h.ofsC h.gainC) h.amp = false) ∧
    ((wInc 1 1 { first := false, bad := 3 }).inc 1).first = false ∧ ((wInc 1 1 { first := false, bad := 3 }).inc 1).bad = 3 ∧
    -- the difference of -2,048 that has no sign, and one of less
    ((((0 + 4096 - 2048 + 2048) % 4096 : Nat) : Int) - 2048 = -2048) ∧ ((((1 + 4096 - 2048 + 2048) % 4096 : Nat) : Int) - 2048 ≠ -2048) := by
  refine ⟨by decide +kernel, fun n hn => wInc_update n 1 {} ?_, fun p hp => ?_, by decide +kernel⟩
  · have h : ∀ n ∈ [0, 1], (wInc n 1 {}).fbkT n = 100 := by decide +kernel
    exact h n hn
  · rw [show (wInc 1 1 p).adcNow = 1000000080 from wAdc_now _ _ _, hp]
    rfl

theorem test_met_quadrature :
    (∀ n ∈ [0, 1], (wInc n 2 {}).fbkMode n = 2 ∧ (wInc n 2 {}).domOn 8 = true) ∧
    -- edges of both tracks, of one track, near the last edge of the track and not
    (true ≠ ({} : IncPort).lvA ∧ false = ({} : IncPort).lvB ∧ (false, false, true, false) ∈
      [(false, false, true, false), (true, false, true, true), (true, true, false, true), (false, true, false, false)] ∧
      (false, false, false, true) ∉ [(false, false, true, false), (true, false, true, true), (true, true, false, true), (false, true, false, false)]) ∧
    (∃ e, (some 1000000074 : Option Tick) = some e ∧ (wInc 1 2 {}).adcNow - 5 < e + (wInc 1 2 {}).cfg Reg.FBK_QMINSP 1) ∧
    ¬ (∃ e, (none : Option Tick) = some e ∧ (wInc 1 2 {}).adcNow - 5 < e + (wInc 1 2 {}).cfg Reg.FBK_QMINSP 1) := by
  refine ⟨by decide +kernel, by decide +kernel, ⟨1000000074, rfl, ?_⟩, fun h => ?_⟩
  · rw [show (wInc 1 2 {}).adcNow = 1000000080 from wAdc_now _ _ _]
    have h : 1000000080 - 5 < 1000000074 + (wInc 1 2 {}).cfg Reg.FBK_QMINSP 1 := by decide +kernel
    exact h
  · obtain ⟨e, he, _⟩ := h
    cases he

theorem test_met_compares :
    bit (0x0200#16).toNat 9 = true ∧ bits (0x0200#16).toNat 12 11 ≠ 3 ∧ bits (0x0200#16).toNat 8 0 = 0 ∧ (3 : Nat) ≠ 2 ∧
    ((wInc 0 1 { still := false }).inc 0).still = false ∧ ((wInc 0 1 { still := false }).inc 0).starting = none ∧
    ((wInc 0 1 {}).inc 0).still = true ∧ (wInc 0 1 {}).fbkMode 0 ≠ 0 ∧ ((wInc 0 1 { quietFrom := 0 }).inc 0).quietFrom + 1 * 65536 ≤ 1000000080 ∧
    (wInc 0 1 {}).cfg Reg.FBK_STILL 0 * 65536 ≤ 1000000080 := by decide +kernel

/-- SSI port 1, periodic or triggered by the host, at its period's tick. -/
def wSsi (host : Bool) (p : SsiPort) : State :=
  wAdc 1000000000 [(Reg.FBK_SSI_CFG, 1, (if host then 0xC000 else 0x8000) + 13), (Reg.FBK_SSI_PER, 1, 20), (Reg.FBK_SSI_CLK, 1, 100), (Reg.FBK_SEL, 0, 0x10),
    (Reg.FBK_SSI_FMT, 1, 0), (Reg.FBK_SSI_TMO, 1, 10)] { s1 := p }

/-- A frame of 13 bits that began at the tick f. -/
def wFrm (f : Tick) : SsiFrame := ⟨f, 0x800D, 100, 200, 0, 0, 0⟩

theorem test_met_serial :
    (∀ h ∈ [true, false], (wSsi h {}).domOn 8 = true ∧ (wSsi h {}).flag Reg.FBK_SSI_CFG 1 15 = true ∧ (wSsi h {}).flag Reg.FBK_SSI_CFG 1 14 = h ∧
      (wSsi h {}).fld Reg.FBK_SEL 0 4 4 = 1 ∧ ((wSsi h {}).ssi 1).phase = .idle ∧ ((wSsi h { phase := .waiting 5 200 }).ssi 1).phase ≠ .idle) ∧
    (∀ h p, (wSsi h p).adcNow = 1000000000) ∧ 1000000000 % ((wSsi false {}).cfg Reg.FBK_SSI_PER 1 * 100) = 0 ∧
    ((wSsi false {}).ssi 1).lastTrig ≠ some 1000000000 ∧
    -- a wait that ends in its last tick, or at the timeout, and a frame of 13 bits that ends, in time and at the timeout
    ((wSsi false { phase := .waiting 999999800 200 }).ssi 1).phase = .waiting 999999800 200 ∧ 1000000000 ≤ 999999800 + 200 ∧
    999999800 + 200 ≤ 1000000000 ∧
    (∀ f ∈ [999997300, 999997100], ((wSsi false { phase := .running (wFrm f) }).ssi 1).phase = .running (wFrm f)) ∧
    (let g := wFrm 999997300
     g.f + (2 * (bits g.cfg 13 11 + bits g.cfg 5 0) + 1) * g.half = 1000000000 ∧ bits g.fmt 4 0 = 0) ∧
    (let g := wFrm 999997100
     g.f + (2 * (bits g.cfg 13 11 + bits g.cfg 5 0) + 1) * g.half + g.tmo = 1000000000) ∧
    -- a checksum of 8 bits that the frame 0x0001 fails
    (let g := { wFrm 999997300 with fmt := 8, poly := 0x2F, init := 0xFF }
     bits g.fmt 4 0 ≠ 0 ∧ ssiCrc 8 g.poly (0x0001 / 2 ^ 8) (13 - 8) g.init ^^^ 0 ≠ 0x0001 % 2 ^ 8) := by
  refine ⟨by decide +kernel, fun h p => wAdc_now _ _ _, by decide +kernel⟩

/-! ### Every hypothesis is met: interrupts -/

/-- A device whose source 511 counts, is enabled at priority 5 for target g, beside a lesser source. -/
def wSrc (g : Nat) (v : Source) : State :=
  { wRun with irc := { src := [(5, { count := 1 }), (511, v)] }, regs := [(regKey Reg.IRC_SCFG 5, toWord (0x8500 + g)), (regKey Reg.IRC_SCFG 511, toWord (0x8600 + g))] }

/-- The candidates of target g, and whether source n is the first of them. -/
def wFirst (s : State) (g n : Nat) : Bool :=
  s.irc.src.any (fun p => decide (p.1 = n)) && s.candidate g n && s.irc.src.all (fun p =>
    !(s.candidate g p.1) || decide (s.srcPrio p.1 < s.srcPrio n) || (decide (s.srcPrio p.1 = s.srcPrio n) && decide (n ≤ p.1)))

theorem test_met_sources :
    (let s : State := { wRun with irc := { arrivals := [3, 511, 3], src := [(511, { count := 255 })] } }
     s.irc.arrivals = [3] ++ 511 :: [3] ∧ 511 ∉ [3] ∧ 255 ≤ (s.source 511).count ∧ (s.source 3).count < 255) ∧
    (511#16).toNat < 512 ∧ 1 ≤ (255#16).toNat ∧ (255#16).toNat < 256 ∧
    (let s : State := { wRun with irc := { src := [(5, { count := 3, dlv := some 3 })], tgt := [(3, { held := some 5 })] }, regs := [(Reg.IRC_ACKSRC, 5#16)] }
     (s.source (s.cfg Reg.IRC_ACKSRC 0)).dlv = some 3 ∧ (s.target 3).held = some (s.cfg Reg.IRC_ACKSRC 0)) ∧
    ([0x8003#16, 0x0005#16, 0x0080#16, 0x0FFF#16].all (fun v => decide (bits v.toNat 14 12 = 0) &&
      (decide (bits v.toNat 7 0 < 4) || decide (bits v.toNat 7 0 = 5) || decide (0x80 ≤ bits v.toNat 7 0)))) = true ∧
    ([0x1000#16, 0x0006#16, 0x007F#16].all (fun v => decide (bits v.toNat 14 12 ≠ 0) ||
      (decide (4 < bits v.toNat 7 0) && decide (bits v.toNat 7 0 ≠ 5) && decide (bits v.toNat 7 0 < 0x80)))) = true ∧
    (let s : State := { wRun with regs := [(Reg.IRC_SSEL, 0xBF#16)] }
     bits (0x8F04#16).toNat 7 0 = 4 ∧ 0xA0 ≤ s.cfg Reg.IRC_SSEL 0 ∧ s.cfg Reg.IRC_SSEL 0 ≤ 0xBF) ∧
    ([3, 5, 0xFF].all (fun g => let s := wSrc g { count := 2 }
      decide (s.pwr.rung = 0) && decide ((s.target g).hs = none) && decide ((s.target g).held = none) && !s.moderated g && !s.asleep g &&
        decide (s.pwr.readyPulse = none) && wFirst s g 511)) = true ∧
    (let s : State := { wRun with irc := { tgt := [(3, { hs := some 5, released := some 1000000003 }), (4, { hs := some 6 })] } }
     (s.target 3).hs = some 5 ∧ (s.target 3).released = some 1000000003 ∧ 1000000003 + 4 ≤ s.tb ∧ (s.target 4).hs = some 6) ∧
    (let s : State := { wRun with irc := { src := [(5, { strayFrom := some 999934471 })] }, regs := [(Reg.IRC_STRAYT, 1#16)] }
     (s.source 5).strayFrom = some 999934471 ∧ (s.source 5).stray = false ∧ 999934471 + s.cfg Reg.IRC_STRAYT 0 * 65536 ≤ s.tb) := by decide +kernel

/-- A device with an open record and reports on their way. -/
def wRec (rd : Nat) (l : List OpenRec) : State :=
  { wRun with irc := { reports := [⟨0x4001, 1, 2⟩, ⟨0x5B04, 1, 1000000000⟩, ⟨0x5B05, 7, 8⟩], openRecs := l, flwr := 511 }, regs := [(Reg.IRC_FLRD, toWord rd)] }

theorem test_met_records :
    (let s := wRec 5 [⟨0x5B04, 1, 1, 999980008, 2, some 3⟩]
     s.irc.reports = [⟨0x4001, 1, 2⟩] ++ ⟨0x5B04, 1, 1000000000⟩ :: [⟨0x5B05, 7, 8⟩] ∧ bits 0x5B04 11 8 = 0xB ∧
       (∀ x ∈ ([⟨0x4001, 1, 2⟩] : List Report), bits x.code 11 8 ≠ 0xB) ∧ (∀ x ∈ s.irc.openRecs, s.tb < x.first + 20000) ∧
       (∃ x ∈ s.irc.openRecs, x.code = 0x5B04)) ∧
    (∀ rd ∈ [0, 1], let s := wRec rd []
      (∀ x ∈ s.irc.openRecs, x.code ≠ 0x5B04) ∧ s.irc.openRecs.length < 16 ∧ decide ((s.irc.flwr + 1) % 512 = s.cfg Reg.IRC_FLRD 0) = decide (rd = 0) ∧
        s.irc.flwr < 512 ∧ (s.source (bits 0x5B04 15 12)).count < 255) ∧
    (let x : OpenRec := ⟨0x5B04, 1, 1, 999980007, 2, some 511⟩
     let s := wRec 5 [x]
     s.irc.openRecs.filter (fun y => decide (y.first + 20000 ≤ s.tb)) = [x] ∧ x.index = some 511) ∧
    (let s : State := { wRun with regs := [(regKey Reg.IRC_WCFG 0, 0xA000#16), (regKey Reg.IRC_WCFG 63, 0x4000#16)] }
     s.latchSees 0 true = true ∧ s.latchSees 63 false = true ∧ s.pwr.pwren = true ∧ s.domOn 2 = true ∧ s.pwr.rung = 0 ∧
       s.flag Reg.IRC_WCFG 0 15 = true ∧ s.flag Reg.IRC_WCFG 63 15 = false ∧ 0 ∉ s.irc.latches ∧
       ({ s with pwr := { s.pwr with rung := 3 } } : State).pwr.rung ≠ 0) := by decide +kernel

/-! ### Every hypothesis is met: DMA -/

/-- A device whose channel 31 stands as given, its descriptor 255 as given, and selected. -/
def wDma (v : Chan) (d : List Nat) : State :=
  { wRun.latPuts (descAddr 31 255) d with dma := { ch := [(31, v)], credits := [3, 31, 3] }, regs := [(Reg.DMA_CSEL, 31#16)] }

theorem test_met_channels :
    (wDma {} []).chanSel = 31 ∧
    (∀ st ∈ [ChanState.stopped, .idle, .credit, .moving, .barrier, .error], ((wDma { st := st } []).chan 31).st = st) ∧
    (1#16 : Word) ≠ 2#16 ∧ 31 < 32 ∧ ((wDma { idx := 255 } []).chan 31).idx < 256 := by decide +kernel

/-- A descriptor: OWN with BAR, PACE and the peer given, to or from the Lattice, of k values at 0x44000. -/
def wDesc (w0 k : Nat) : List Nat := [w0, 0x4000, 4, 0, 0, k, 0, 0]

theorem test_met_descriptors :
    ((wDma { fetch := true, idx := 255 } []).chan 31).fetch = true ∧
    ({ wDma { fetch := true, idx := 255 } [] with lat := { mem := [(descAddr 31 255 + 7, ⟨1, 1⟩)] } } : State).latOkN (descAddr 31 255) 8 = false ∧
    (∀ p ∈ [(wDesc 0x0010 64, false, false), (wDesc 0x8011 64, true, false), (wDesc 0x8010 64, true, true), (wDesc 0xC810 65, true, true)],
      let s := wDma { fetch := true, idx := 255 } p.1
      let d := s.latVals (descAddr 31 255) 8
      s.latOkN (descAddr 31 255) 8 = true ∧ dOwn d = p.2.1 ∧ (dOwn d = true → descOk d = p.2.2) ∧ dSg d = false) ∧
    dPace (wDesc 0xC810 65) = true ∧ dPace (wDesc 0x8010 65) = false ∧
    (wDma {} []).dma.credits = [3] ++ 31 :: [3] ∧ 31 ∉ [3] ∧ 255 ≤ ((wDma { pcnt := 255 } []).chan 31).pcnt ∧
    ((wDma { pcnt := 254, st := .credit } []).chan 31).pcnt < 255 ∧ ((wDma { pcnt := 254, st := .credit } []).chan 31).st = .credit ∧
    ((wDma { st := .barrier, idx := 255 } []).chan 31).st = .barrier := by decide +kernel

/-- A channel that moves k values between a stream of CP1 and the Lattice, in or out. -/
def wBurst (inn : Bool) (k : Nat) (srx : List Word) : State :=
  { wDma { st := .moving, desc := wDesc (if inn then 0xC120 else 0xC020) k, ranges := [(0x44000, k)], total := k } [] with
    cmd := { p1 := { srx := srx, stx := List.replicate 448 0 } } }

theorem test_met_bursts :
    (∀ k ∈ [1, 64, 65], ∀ inn ∈ [true, false],
      let s := wBurst inn k (List.replicate 64 1)
      let v := s.chan 31
      v.st = .moving ∧ v.abort = false ∧ v.ranges = [(0x44000, k)] ∧ v.total = v.moved + k ∧ 1 ≤ k ∧ dPeer v.desc = 1 + 1 ∧ dTwin v.desc = false ∧
        dBar v.desc = true ∧ dIn v.desc = inn ∧
        (∀ j, j < 32 → (s.chan j).st = .moving → (s.chan j).abort = false → (31 + 32 - s.dma.turn % 32) % 32 ≤ (j + 32 - s.dma.turn % 32) % 32) ∧
        (inn = false → s.latOkN 0x44000 (min k 64) = true ∧ (s.twn.shadow && s.twn.paired) = false ∧ (s.port 1).stx.length + min k 64 ≤ 512) ∧
        (inn = true → min k 64 ≤ (s.port 1).srx.length ∧ (∀ i, i < min k 64 → s.latLocked (0x44000 + i) = false) ∧ 0x44000 + min k 64 ≤ 0x80000)) ∧
    ((wBurst true 5 []).port 1).srx = [] ∧ dIn ((wBurst true 5 []).chan 31).desc = true := by decide +kernel

/-! ### Every hypothesis is met: the command ports -/

/-- A port in a frame, or not. -/
def wPort (v : Port) : State := { wRun with cmd := { p1 := v } }

theorem test_met_frames :
    (wRun.port 1).csnLow = false ∧ wRun.pwr.rung = 0 ∧
    (∀ b ∈ [true, false], ((wPort { csnLow := true, inPacket := b }).port 1).csnLow = true ∧ ((wPort { csnLow := true, inPacket := b }).port 1).inPacket = b ∧
      ((wPort { csnLow := true, outReal := b }).port 1).outReal = b) ∧ ((wPort { csnLow := true }).port 1).hunt = true ∧
    (∀ x ∈ ((wPort {}).port 1).rx, x.host = none) ∧ (∀ x ∈ ((wPort { rx := [⟨1, 2, 3, [], none⟩] }).port 1).rx, x.host = none) ∧
    (518#16).toNat ≤ 518 ∧ 518 < (519#16).toNat ∧
    -- a CRC that is right and one that is not, an image that runs, the ROM, and a device before READY
    crc16 (0x0000#16 :: 1#16 :: 2#16 :: [3#16, 4#16]) = (toWord (crc16 [0, 1, 2, 3, 4])).toNat ∧ crc16 (0x0000#16 :: 1#16 :: 0#16 :: []) ≠ 0 ∧
    (wRun.sup.running = true ∧ wRun.pwr.ready = true) ∧
    (let s : State := { wRun with sup := { rom := true } }
     (s.sup.running && s.pwr.ready) = false ∧ s.sup.rom = true ∧ 0x0100 / 256 = 0x01 ∧ 0x70 ≤ 0x7200 / 256 ∧ 0x7200 / 256 ≤ 0x72) ∧
    (let s : State := { wRun with pwr := { wRun.pwr with ready := false } }
     ¬ (s.sup.running = true ∧ s.pwr.ready = true) ∧ s.sup.rom = false) ∧
    ((wPort {}).port 1).rxWords + 518 + 5 ≤ 2048 ∧ ((wPort { tx := List.replicate 2041 0 }).port 1).tx.length + 7 ≤ 2048 ∧ wRun.cmd.cur = none := by decide +kernel

/-- A packet whose values are given. -/
def wPk (op : Nat) (l : List Nat) : Packet := ⟨op * 256, 9, 2 * l.length, twinList l, none⟩

/-- A device that next takes packet k of port p; every port may write. -/
def wNext (p : Nat) (k : Packet) (f : State → State) : State :=
  f { wRun with cmd := { p0 := { rx := if p = 0 then [k] else [] }, p1 := { rx := if p = 0 then [] else [k] }, turn := 1 - p }
                fus := { shadow := (List.range 8).map (fun i => (8 + i, TwinWord.of 0xFFFF#16)) } }

/-- The packet is executed. -/
def wExec (s : State) (op p : Nat) (k : Packet) : Bool :=
  decide (s.nextPacket = some (p, k)) && decide (k.opw / 256 = op) && !((s.port p).isDup k) && decide (s.packetFault p k = none)

theorem wExec_means (s : State) (op p : Nat) (k : Packet) (h : wExec s op p k = true) : s.executing op p k := by
  simp only [wExec, Bool.and_eq_true, decide_eq_true_eq, Bool.not_eq_true'] at h
  exact ⟨h.1.1.1, h.1.1.2, h.1.2, h.2⟩

/-- The packet with opcode op and values l is executed, in a device that f makes, where c holds. -/
def wDoes (op : Nat) (l : List Nat) (f : State → State) (c : State → Bool) : Bool :=
  wExec (wNext 1 (wPk op l) f) op 1 (wPk op l) && c (wNext 1 (wPk op l) f)

theorem test_met_taken :
    (wNext 0 (wPk 0x00 []) id).nextPacket = some (0, wPk 0x00 []) ∧ wRun.nextPacket = none ∧
    (let k : Packet := { wPk 0x20 [1] with opw := 0x2002 }
     let s := wNext 1 k (fun s => s.setPort 1 { s.port 1 with lseq := 9, lseqv := true })
     s.nextPacket = some (1, k) ∧ k.opw / 256 = 0x20 ∧ (s.port 1).isDup k = true) ∧
    (let k := { wPk 0x20 [1] with params := [1#16, 1#16] }
     (wNext 1 k id).nextPacket = some (1, k) ∧ (wNext 1 k id).packetFault 1 k = some (0x15, 0)) ∧
    (let k := wPk 0x20 [1]
     let s := wNext 1 k (fun s => { s with fus := {} })
     s.packetFault 1 k = some (0x17, 5) ∧ (s.port 1).isDup k = false) ∧
    (let k := wPk 0x20 [1, 2]
     (wNext 1 k id).packetFault 1 k = some (0x11, 2)) ∧
    (let k := wPk 0x02 []
     (wNext 1 k id).nextPacket = some (1, k)) ∧
    ({ wRun with cmd := { cur := some (1, 0x2000, 9) } } : State).cmd.cur = some (1, 0x2000, 9) := by decide +kernel

/-- The device is a SHADOW. -/
def wShadow (s : State) : State := { s with twn := { s.twn with paired := true, shadow := true, jstate := 5 } }

/-- A set is open. -/
def wOpen (s : State) : State := { s with staged := [(Reg.EVQ_CTL, 1#16)] }

theorem test_met_reads_and_writes :
    wDoes 0x00 [] id (fun _ => true) = true ∧ wDoes 0x01 [] id (fun s => !s.sup.rom) = true ∧
    wDoes 0x01 [] (fun s => { s with sup := { rom := true } }) (fun s => s.sup.rom) = true ∧
    -- reads: a bad bank, a bad count, across regions, good, an invalid twin-word, a register
    wDoes 0x10 [0, 0xF0, 0] id (fun _ => true) = true ∧ wDoes 0x10 [0, 0, 257] id (fun _ => true) = true ∧
    wDoes 0x10 [0xFFFF, 7, 2] id (fun _ => !oneRegion 0x7FFFF 2) = true ∧ wDoes 0x10 [0xFF00, 7, 256] id (fun s => s.latOkN 0x7FF00 256) = true ∧
    wDoes 0x10 [0xFF00, 7, 256] (fun s => { s with lat := { mem := [(0x7FFFF, ⟨1, 1⟩)] } }) (fun s => s.latOkN 0x7FF00 255 && !s.latOk (0x7FF00 + 255)) = true ∧
    wDoes 0x10 [0, 0xF0, 1] id (fun _ => true) = true ∧ wDoes 0x10 [0x12FF, 0xF0, 1] id (fun _ => true) = true ∧
    wDoes 0x10 [0, 0x100, 1] id (fun _ => true) = true ∧
    -- the window of a lane's item, read and written
    wDoes 0x10 [Reg.LAN_RDL % 65536, 0xF0, 1] id (fun s => s.laneOn s.laneSel && decide (Reg.LAN_RDL % 65536 + 65536 * 0xF0 = Reg.LAN_RDL)) = true ∧
    wDoes 0x11 [Reg.LAN_RDL % 65536, 0xF0, 1, 7] id (fun s => s.laneOn s.laneSel && fieldOk Reg.LAN_RDL 7 && !s.isShadow) = true ∧
    -- writes: to a SHADOW, of 256 values, to a locked slot; registers with a reserved bit, refused, and taken
    wDoes 0x11 [0, 0, 1, 5] wShadow (fun s => s.isShadow) = true ∧
    wDoes 0x11 ([0xFF00, 7, 256] ++ List.replicate 256 9) id (fun s => !s.isShadow && !s.flag Reg.LAT_INJ 0 15) = true ∧
    wDoes 0x11 [7, 0, 2, 5, 6] (fun s => { s with evq := { slots := [(1, (1, 2))] } }) (fun s => !s.latLocked 7 && s.latLocked 8) = true ∧
    wDoes 0x11 [0x301, 0xF0, 1, 0x2000] id (fun _ => !fieldOk Reg.EVQ_ARM 0x8000) = true ∧
    wDoes 0x11 [0x301, 0xF0, 1, 1] wShadow (fun s => fieldOk 0xF00301 1 && s.isShadow && decide ((addrGroup 0xF00301).getD 99 ≤ 14)) = true ∧
    wDoes 0x11 [0x8, 0xF0, 1, 2000] id (fun s => fieldOk Reg.TB_CLEAD 2000 && !s.isShadow &&
      ((s.taken 1 (wPk 0x11 [0x8, 0xF0, 1, 2000])).writeReg 0xF00008 2000 false).isSome) = true := by decide +kernel

theorem test_met_requests_of_ports :
    wDoes 0x20 [8192] id (fun _ => true) = true ∧ wDoes 0x20 [8191] wShadow (fun s => s.isShadow) = true ∧ wDoes 0x20 [8191] id (fun s => !s.isShadow) = true ∧
    wDoes 0x21 [7, 96] id (fun _ => !fieldOk Reg.EVQ_CAN_CMD 96) = true ∧ wDoes 0x21 [7, 95] wShadow (fun s => s.isShadow && fieldOk Reg.EVQ_CAN_CMD 95) = true ∧
    wDoes 0x21 [7, 0x100] id (fun s => !s.isShadow && fieldOk Reg.EVQ_CAN_CMD 0x100) = true ∧
    wDoes 0x22 [1025] id (fun _ => true) = true ∧ wDoes 0x22 [1024] wShadow (fun s => s.isShadow) = true ∧
    wDoes 0x22 [1024] (fun s => { s with evq := { rcpPend := some (1, 2) } }) (fun s => s.evq.rcpPend.isSome) = true ∧
    wDoes 0x22 [1024] id (fun s => s.evq.rcpPend.isNone) = true ∧
    wDoes 0x30 [3, 0, 0, 0, 0] id (fun _ => true) = true ∧ wDoes 0x30 [1, 0, 0, 0, 1] id (fun _ => true) = true ∧
    wDoes 0x30 [2, 0, 0, 0, 0] id (fun s => decide (s.staged = [])) = true ∧ wDoes 0x30 [1, 0, 0, 0, 0] (wOpen ∘ wShadow) (fun s => s.isShadow) = true ∧
    wDoes 0x30 [1, 0, 0, 0, 0] (fun s => { wOpen s with commit := { pending := true } }) (fun s => s.commit.pending) = true ∧
    wDoes 0x30 [1, 0, 0, 0, 0] wOpen (fun s => s.setOk && !s.isShadow && !s.commit.pending && decide (s.staged ≠ [])) = true ∧
    wDoes 0x30 [2, 0, 0x3B9B, 0, 0] (fun s => { s with staged := [(Reg.EVQ_GBASE_LO, 1#16)] }) (fun s => !s.setOk) = true ∧
    wDoes 0x31 [] id (fun s => !s.cancellable) = true ∧
    wDoes 0x31 [] (fun s => { s with commit := { mode := .cycle, pending := true } }) (fun s => s.cancellable && !s.isShadow) = true ∧
    wDoes 0x40 [5] wShadow (fun s => s.isShadow) = true ∧ wDoes 0x40 [5] id (fun s => !s.isShadow && !s.mirrors) = true ∧
    wDoes 0x41 [0] id (fun _ => true) = true ∧ wDoes 0x41 [513] id (fun _ => true) = true ∧ wDoes 0x41 [512] id (fun _ => true) = true := by decide +kernel

/-- The launch values of a commit, around the present of the supervisors' replica and its lead. -/
theorem test_met_launch_values :
    let s := wNext 1 (wPk 0x30 [2, 0, 0, 0, 0]) wOpen
    999999999 < s.replicaNow 1 + s.cfg Reg.TB_CLEAD 0 ∧ s.replicaNow 1 + s.cfg Reg.TB_CLEAD 0 ≤ 1000020007 ∧
    1000020007 ≤ s.replicaNow 1 + 4294967296 ∧ s.replicaNow 1 + 4294967296 < 6000000000 := by
  intro s
  have h := State.replicaNow_near s 1
  have h1 : ((s.tb : Int) - 1 + (s.replica 1).ofs).toNat = 1000000006 := by decide +kernel
  have h2 : ((s.tb : Int) + (s.replica 1).ofs).toNat = 1000000007 := by decide +kernel
  have h3 : s.cfg Reg.TB_CLEAD 0 = 20000 := by decide +kernel
  rw [h1, h2] at h
  rw [h3]
  omega

theorem test_met_updates :
    wDoes 0x61 [17] id (fun _ => true) = true ∧ wDoes 0x61 [16] id (fun s => !s.elxOn) = true ∧
    wDoes 0x61 [16] (fun s => { s with fus := { s.fus with shadow := s.fus.shadow ++ [(7, TwinWord.of 0x2000#16)] }, regs := [(Reg.ELX_CFG, 1#16)]
                                       elx := { arole := 2 } }) (fun s => s.elxOn && decide (s.elx.arole = 2)) = true ∧
    wDoes 0x70 [72, 0] id (fun _ => true) = true ∧ wDoes 0x70 [1, 12] id (fun _ => true) = true ∧ wDoes 0x70 [73, 0] id (fun _ => true) = true ∧
    wDoes 0x70 [0, 12] id (fun _ => true) = true ∧
    wDoes 0x71 [0, 0, 5] id (fun s => decide (s.fus.fw ≠ .receiving)) = true ∧
    wDoes 0x71 [72, 0, 5] (fun s => { s with fus := { s.fus with fw := .receiving, len := 73, received := 72 } })
      (fun s => decide (s.fus.fw = .receiving) && decide (s.fus.received = 72) && decide (72 + 1 ≤ s.fus.len)) = true ∧
    wDoes 0x72 [2] id (fun _ => true) = true ∧ wDoes 0x72 [1] id (fun s => decide (s.fus.fw = .idle)) = true ∧
    (∀ st ∈ [FwState.receiving, .closed], wDoes 0x72 [1] (fun s => { s with fus := { s.fus with fw := st, len := 73, received := 73 } })
      (fun s => decide (s.fus.received = s.fus.len)) = true) ∧
    wDoes 0x74 [0, 0, 5] (fun s => { s with fus := { s.fus with shadow := s.fus.shadow ++ [(16, TwinWord.of 2#16)] } }) (fun s => bit s.locks 1) = true ∧
    wDoes 0x74 [0, 4, 5] id (fun s => !bit s.locks 1) = true ∧ wDoes 0x74 [0xFFFF, 3, 5] (fun s => { s with pwr := { s.pwr with cfgBusy := true } }) (fun s => s.pwr.cfgBusy) = true ∧
    wDoes 0x74 [0xFFFF, 3, 5] id (fun s => !s.pwr.cfgBusy && decide (s.flashWord (0x180000 + 0x3FFFF + 0) = 0xFFFF)) = true ∧
    wDoes 0x74 [0xFFFF, 3, 5] (fun s => { s with fus := { s.fus with flash := [(0x1BFFFF, 1#16)] } }) (fun s => decide (s.flashWord (0x180000 + 0x3FFFF + 0) ≠ 0xFFFF)) = true ∧
    wDoes 0x75 [] (fun s => { s with fus := { s.fus with shadow := s.fus.shadow ++ [(16, TwinWord.of 2#16)] } }) (fun s => bit s.locks 1) = true ∧
    wDoes 0x75 [] (fun s => { s with pwr := { s.pwr with cfgBusy := true } }) (fun s => !bit s.locks 1) = true ∧ wDoes 0x75 [] id (fun s => !s.pwr.cfgBusy) = true ∧
    wDoes 0x78 [0] id (fun _ => true) = true ∧ wDoes 0x78 [8] id (fun _ => true) = true ∧ wDoes 0x78 [7] wOpen (fun s => !s.rungOk 7) = true ∧
    wDoes 0x78 [7] id (fun s => s.rungOk 7) = true ∧ wDoes 0x79 [0] id (fun _ => true) = true ∧ wDoes 0x79 [1] id (fun _ => true) = true := by decide +kernel

theorem test_met_register_writes :
    isRegAddr 0xEFFFFF = false ∧ fieldOk Reg.EVQ_CTL 4 = false ∧ 2000 ≤ (2000#16).toNat ∧ (95#16).toNat < 96 ∧ (8191#16).toNat < 8192 ∧
    (7#16).toNat < 8 ∧ (4#16).toNat ≤ 4 ∧ (3#16).toNat < 4 ∧ (Reg.EVQ_CTL + 1, 0) ≠ (Reg.EVQ_CTL, 0) ∧ Reg.EVQ_CTL + 1 < 16777216 ∧
    (63#16).toNat < 64 ∧ 64 ≤ (64#16).toNat ∧ 8 ≤ (8#16).toNat ∧ 4 ≤ (4#16).toNat ∧ bits (0x8000#16).toNat 14 8 = 0 ∧ bit (0x8000#16).toNat 15 = true ∧
    bits (0x0100#16).toNat 14 8 ≠ 0 ∧ wRun.domOn 11 = true ∧ wRun.domOn 8 = true ∧ wRun.laneOn wRun.laneSel = true ∧
    (let s : State := { wRun with pwr := {} }
     s.domOn 11 = false ∧ s.domOn 8 = false ∧ s.laneOn s.laneSel = false) := by decide +kernel

/-! ### Every hypothesis is met: the twin pair -/

/-- One of a pair, whose Belith state is given. -/
def wTwin (t : Twin) : State :=
  { wRun with tb := 1000000000, fus := { shadow := [(6, TwinWord.of 0x55#16)] ++ (List.range 8).map (fun i => (8 + i, TwinWord.of 0xFFFF#16)) }, twn := t }

theorem test_met_belith :
    (wTwin {}).fuse 6 ≠ 0 ∧ (wTwin {}).domOn 11 = true ∧ (wTwin {}).twn.link = false ∧ (wTwin { link := true }).twn.link = true ∧
    (wTwin { lastRx := 999998800 }).twn.lastRx + 1200 ≤ 1000000000 ∧ (∀ j ∈ [2, 4], 2 ≤ (wTwin { jstate := j }).twn.jstate ∧ (wTwin { jstate := j }).twn.jstate ≤ 4) ∧
    (wTwin { jstate := 1 }).twn.jstate < 2 ∧ 4 < (wTwin { jstate := 5 }).twn.jstate ∧
    (wTwin { rxSeq := some 65535 }).twn.rxSeq = some 65535 ∧ (1 : Nat) ≠ (65535 + 1) % 65536 ∧ (wTwin {}).twn.rxSeq = none ∧ (1 : Nat) ≠ 0 ∧
    (let f : SentFrame := ⟨5, 7, [], 999999488⟩
     let s := wTwin { link := true, tx := [⟨4, 7, [], 999999488⟩, f, f], resends := 8 }
     s.twn.tx = [⟨4, 7, [], 999999488⟩] ++ f :: [f] ∧ (∀ x ∈ [(⟨4, 7, [], 999999488⟩ : SentFrame)], x.seq ≠ f.seq) ∧ f.at_ + 512 ≤ s.tb ∧ 8 ≤ s.twn.resends ∧ 7 < 8) ∧
    (let s := wTwin { link := true, own := 3 }
     s.twn.paired = false ∧ s.twn.refused = false ∧ 0x55 = s.fuse 6 ∧ (onesOf s.twn.own 11 < onesOf 7 11) ∧ onesOf s.twn.own 11 = onesOf 5 11 ∧
       ¬ (5 : Nat) < s.serialNo ∧ ¬ onesOf s.twn.own 11 < onesOf 0 11 ∧ (0x56 : Nat) ≠ s.fuse 6 ∧ (wTwin { link := true }).twn.own = 0) ∧
    (let s := wTwin { link := true, paired := true, shadow := true, jstate := 5, hbSent := some 999999800 }
     s.twn.hbSent = some 999999800 ∧ s.time.aligned = false ∧ s.maySlew = true ∧ s.fusedRole = 0 ∧
       2 ≤ diff32 s.tb 999999898 - diff32 999999900 999999800 ∧ diff32 s.tb 999999902 - diff32 999999900 999999800 ≤ -2) ∧
    (wTwin { shadow := false }).tb % 400 = 0 ∧ ({ wTwin { shadow := true } with tb := 1000000200 } : State).tb % 400 = 200 ∧
    (wTwin { hbSent := some 5 }).twn.hbSent ≠ some (wTwin {}).tb ∧
    (let s := wTwin { hbSeen := some 999998800, paired := true, jstate := 5, shadow := true, pown := 0x7FF }
     s.twn.hbSeen = some 999998800 ∧ s.twn.lost = false ∧ 999998800 + 1200 ≤ s.tb) ∧
    (let s := { wTwin {} with regs := [(Reg.TWN_CFG, 4#16)] }
     s.pwr.ready = true ∧ s.flag Reg.TWN_CFG 0 2 = true ∧ s.twn.soloDone = false ∧ s.pwr.readyAt + 4000000 ≤ s.tb ∧ s.twn.own = 0 ∧ s.twn.fault = false) := by decide +kernel

/-- A handover. -/
def wHand (idle taker : Bool) : Handover := ⟨0x7FF, idle, true, 999999000, 3, taker, 0x3FF, 0, [], false⟩

theorem test_met_handovers :
    (let s := wTwin { probes := [(0x7FF, 999999952, 5)] }
     s.twn.probes = (0x7FF, 999999952, 5) :: [] ∧ 999999952 + 48 ≤ s.tb ∧ unitsMinus 0x7FF (if s.twn.fault then 0x7FF else unitsMinus 0x7FF (unitsMinus (s.unitsOn 0x7FF) (0x7FF &&& 0x00F &&& s.unitsWithNets))) ≠ 0) ∧
    (∀ c ∈ [1, 2, 3, 4], (wTwin { probes := [(0x7FF, 1, c)] }).twn.probes = (0x7FF, 1, c) :: []) ∧
    (let s := wTwin { link := true, paired := true, jstate := 5, shadow := true }
     s.twn.lost = false ∧ s.mayTake = true) ∧ (wTwin { link := true, paired := true, fault := true }).mayTake = false ∧
    (wTwin { faultAt := some 5, fault := true, own := 0x7FF }).twn.faultAt.isSome = true ∧
    (wTwin { faultAt := some 5, fault := true, own := 0x7FF }).twn.fault = true ∧ (wTwin { own := 0x7FF }).twn.own ≠ 0 ∧ (wTwin { own := 0x7FF }).twn.own < 2048 ∧
    (wTwin { link := true, paired := true }).twn.hand = none ∧
    (wTwin { link := true, hand := some (wHand true false) }).twn.hand = some (wHand true false) ∧ (wHand true false).taker = false ∧
    (wHand true false).back = [] ∧
    (let h := wHand false true
     h.r ≤ 1000000000 ∧ unitsMinus (unitsMinus h.units h.released) h.done = 0x400 ∧ unitsMinus 0x400 0x400 = 0 ∧ h.idle = false) ∧
    (∀ u, u < 11 → bit 0x400 u = true → (wTwin { hand := some (wHand true true) }).unitIdle u = true) ∧
    (let h : Handover := { wHand true false with r := 932891136, done := 0x7FF }
     h.idle = true ∧ h.r + 67108864 ≤ 1000000000 ∧ unitsMinus h.units (h.done ||| unitsMinus h.units h.released) = 0) ∧
    (∀ p ∈ [(0x4000, 0), (0, 2), (0x801, 0), (0x8001, 1)], ∀ op ∈ [0x50, 0x51],
      wDoes op [p.1, p.2] (fun s => { s with fus := { shadow := (wTwin {}).fus.shadow } }) (fun _ => true) = true) ∧
    wDoes 0x50 [0x001, 1] (fun s => { s with fus := { shadow := (wTwin {}).fus.shadow } }) (fun s => s.handRefused 1 false true) = true ∧
    wDoes 0x50 [0x7FF, 1] (fun s => { s with fus := { shadow := (wTwin {}).fus.shadow }, twn := { link := true, paired := true, jstate := 5, pown := 0x7FF, shadow := true, psyn := 3 }, sync := { state := .fullSync } })
      (fun s => !s.handRefused 0x7FF false true) = true ∧
    wDoes 0x51 [0x7FF, 1] (fun s => { s with fus := { shadow := (wTwin {}).fus.shadow }, twn := { link := true, paired := true, jstate := 5, own := 0x7FF, psyn := 3 }, sync := { state := .fullSync } })
      (fun s => !s.handRefused 0x7FF false false) = true ∧
    wDoes 0x52 [] id (fun s => !s.mayJoin) = true ∧
    (∀ sh ∈ [true, false], wDoes 0x52 [] (fun s => { s with fus := { shadow := (wTwin {}).fus.shadow }, twn := { link := true, paired := true, shadow := sh, jstate := 1 } })
      (fun s => s.mayJoin) = true) := by decide +kernel

/-- A pair whose next ordered frame is number 9. -/
def wPair (sh : Bool) (j : Nat) : State := wTwin { link := true, paired := true, shadow := sh, jstate := j, rxSeq := some 8 }

/-- A digest of this device's. -/
def wDig : VertexDigest := ⟨5, true, 3, 100, 7, false, 1000000000⟩

theorem test_met_joins :
    (wPair true 5).twn.link = true ∧ (wPair true 5).isShadow = true ∧ 0x7FF00 + 256 ≤ 0x80000 ∧ (wPair true 5).twn.rxSeq = some 8 ∧ (9 : Nat) = (8 + 1) % 65536 ∧
    (∀ j ∈ [2, 4], ∀ sh ∈ [true, false], 2 ≤ (wPair sh j).twn.jstate ∧ (wPair sh j).twn.jstate ≤ 4 ∧ (wPair sh j).twn.shadow = sh) ∧
    (wOpen (wPair true 5)).staged ≠ [] ∧ (wOpen (wPair true 5)).commit.pending = false ∧
    ({ wPair true 5 with commit := { pending := true } } : State).commit.pending = true ∧ isRegAddr Reg.TWN_CFG = true ∧
    (let s := wTwin { link := true, paired := true, jstate := 5, mine := [wDig] }
     s.twn.mine = [wDig] ∧ s.twn.jstate = 5 ∧ s.twn.theirs.length < 64 ∧ wDig.pos = 5 ∧ wDig.half = true ∧ wDig.cyc = 3 ∧ ¬ wDig.cyc = 4 ∧
       wDig.digest = 7 ∧ wDig.digest ≠ 8 ∧ s.tb ≤ wDig.due ∧ ({ wDig with due := 999999999 } : VertexDigest).due < s.tb) ∧
    (wPair false 1).joining = false ∧ (wPair true 4).sync.state = .stall ∧ (wTwin { joinIn := some 5 }).twn.joinIn = some 5 ∧
    (wTwin { joinIn := some 3 }).twn.joinIn ≠ some 5 ∧
    (let s := wTwin { jstate := 4, bs := some 5, cycles := 4 }
     s.twn.bs = some 5 ∧ 4 ≤ s.twn.cycles) ∧
    (let s := { wTwin { rejoinAt := some 1000000000, link := true, paired := true, jstate := 1 } with regs := [(Reg.TWN_CFG, 1#16)] }
     s.twn.rejoinAt = some 1000000000 ∧ 1000000000 ≤ s.tb ∧ s.mayJoin = true ∧ s.twn.shadow = false ∧ s.flag Reg.TWN_CFG 0 0 = true) := by decide +kernel

/-! ### Every hypothesis is met: the Elrex domain -/

/-- Node 5 of a domain, with a fused role (1 MEMBER, 2 ORIGIN, 3 STANDBY). -/
def wNode (role : Nat) (e : Elrex) : State :=
  { wRun with tb := 1000000000, fus := { shadow := [(7, TwinWord.of (BitVec.ofNat 16 (4096 * role + 5)))] }
              regs := [(Reg.ELX_CFG, 0x0101#16), (Reg.ELX_TIM, 0x0204#16)], elx := e }

/-- A node whose port p stands as v. -/
def wAt (role p : Nat) (v : ElxPort) (e : Elrex) : State := (wNode role e).setElxPort p v

/-- A port that is up, next SEQ 9. -/
def wUp : ElxPort := { up := true, lock := true, rxSeq := some 8, lastRx := 999999000 }

/-- The frame that port p expects next, where port p is up. -/
def wOpenPort (s : State) (p : Nat) : Bool := s.elxOn && decide (p < 5) && (s.elxPort p).up

theorem wOpenPort_means (s : State) (p : Nat) (h : wOpenPort s p = true) : s.elxOn = true ∧ p < 5 ∧ (s.elxPort p).up = true := by
  simp only [wOpenPort, Bool.and_eq_true, decide_eq_true_eq] at h
  exact ⟨h.1.1, h.1.2, h.2⟩

theorem test_met_elrex_ports :
    (∀ p, p < 5 → wOpenPort (wAt 1 p wUp {}) p = true) ∧ (3 : Nat) ≠ (8 + 1) % 16 ∧
    (wAt 1 4 { wUp with rxSeq := some 15 } {}).elxOn = true ∧
    (∀ p, p < 5 → ((wAt 1 p { wUp with helloAt := some 999934464 } {}).elxPort p).helloAt = some 999934464) ∧ 999934464 + 65536 ≤ (wNode 1 {}).tb ∧
    (let v : ElxPort := { lock := true, sentHello := 2, seenHello := 2, peerRole := 2, peerEpoch := 8 }
     let s := wAt 2 3 v { arole := 2, epoch := 7 }
     s.elxOn = true ∧ s.elxPort 3 = v ∧ v.up = false ∧ s.fusedRole = 2 ∧ s.elx.epoch < v.peerEpoch ∧
     (wAt 1 0 v { arole := 1 }).elx.arole ≠ 2 ∧ 0 = (wAt 1 0 v { arole := 1 }).upPort ∧ (wAt 1 0 v { arole := 1 }).elxPort 0 = v) ∧
    ((wAt 1 0 { wUp with lastRx := 999996000 } {}).elxPort 0).lastRx + 4000 ≤ 1000000000 ∧ (wAt 1 0 wUp {}).upPort = 0 ∧
    (let f : SentFrame := ⟨7, 5, [], 999997952⟩
     let v := { wUp with tx := [f], resends := 8 }
     ((wAt 1 4 v {}).elxPort 4).tx = f :: [] ∧ ((wAt 1 4 v {}).elxPort 4).up = true ∧ f.at_ + 2048 ≤ 1000000000 ∧ 8 ≤ v.resends ∧
     ((wAt 1 4 { v with resends := 7 } {}).elxPort 4).resends < 8 ∧
     ((wAt 1 4 { v with tx := [⟨6, 5, [], 1⟩, f, f] } {}).elxPort 4).tx = [⟨6, 5, [], 1⟩] ++ f :: [f] ∧ (∀ x ∈ [(⟨6, 5, [], 1⟩ : SentFrame)], x.seq ≠ f.seq)) ∧
    (let s := wAt 2 1 wUp { arole := 2, table := [(9, 77, 999999999)] }
     wOpenPort s 1 = true ∧ s.elx.arole = 2 ∧ (∀ e ∈ s.elx.table, e.1 = 9 → e.2.1 = 77) ∧ (∃ e ∈ s.elx.table, e.1 = 9 ∧ e.2.1 ≠ 78)) ∧
    (let s := (wAt 1 0 wUp { arole := 1 }).setElxPort 4 wUp
     wOpenPort s 4 = true ∧ s.elx.arole ≠ 2 ∧ (s.elxPort s.upPort).up = true ∧ 4 ≠ s.upPort) ∧
    (let s := wAt 1 0 { wUp with peerDepth := 15 } { arole := 1 }
     wOpenPort s s.upPort = true ∧ s.elx.arole ≠ 2 ∧ s.nodeId = 5 ∧ s.serialNo = 0 ∧ (s.elxPort 0).peerDepth + 1 ≤ 16 ∧
     16 < ((wAt 1 0 { wUp with peerDepth := 16 } { arole := 1 }).elxPort 0).peerDepth + 1) ∧
    (let s := wAt 1 0 wUp { arole := 1, accepted := true, joinAt := some 932891136 }
     s.elx.joinAt = some 932891136 ∧ s.elx.accepted = true ∧ s.elxOn = true ∧ (s.elxPort s.upPort).up = true ∧ 932891136 + 67108864 ≤ s.tb) := by
  decide +kernel

/-- A joined member with the stamps of a mark, whose drives may or may not count as disabled. -/
def wMark (e : Elrex) : State := wAt 1 0 wUp { e with arole := 1, accepted := true, mark := some (16000000000, 16000000000), t3 := some 16000000016 }

theorem test_met_alignment :
    wOpenPort (wAt 1 0 wUp { arole := 1 }) (wAt 1 0 wUp { arole := 1 }).upPort = true ∧ (wAt 1 0 wUp { arole := 1 }).elx.arole ≠ 2 ∧
    (wMark {}).elx.accepted = true ∧ 15 + 1 ≤ 16 ∧ 16 < 16 + 1 ∧
    (let s := { wAt 2 4 wUp { arole := 2 } with time := { aligned := true } }
     s.elxOn = true ∧ s.time.aligned = true ∧ s.tb % 2000 = 0 ∧ 4 ∈ s.downPorts ∧ (s.elxPort 4).up = true ∧ wOpenPort s 4 = true) ∧
    (let s := { wMark {} with tb := 1000001000 }
     s.elx.mark = some (16000000000, 16000000000) ∧ s.elxOn = true ∧ s.elx.accepted = true ∧ s.tb % 2000 = 1000 ∧ (s.elxPort s.upPort).up = true) ∧
    (let s := wMark {}
     wOpenPort s s.upPort = true ∧ s.elx.mark = some (16000000000, 16000000000) ∧ s.elx.t3 = some 16000000016 ∧ s.elx.placed = false ∧
     s.drivesDisabled = true ∧ s.noLaunch = true ∧ s.elx.stepblk = false ∧ s.maySlew = true ∧
     1024 ≤ fdiv (((16000000000 : Nat) : Int) - (16000000000 : Nat) - (((15999997968 : Nat) : Int) - (16000000016 : Nat))) 2) ∧
    ({ wMark {} with evq := { flight := [(0, 5, [])] } } : State).noLaunch = false ∧ (wMark { placed := true }).elx.placed = true ∧
    ((wAt 1 0 { wUp with peerAligned := true } { good := 3 }).elxPort 0).peerAligned = true ∧ 3 ≤ (wMark { good := 3 }).elx.good ∧
    ({ wMark {} with time := { lastSlew := some 999999999 } } : State).maySlew = false ∧
    (let s := { wMark { lastMark := some 999996000 } with time := { aligned := true } }
     s.elx.lastMark = some 999996000 ∧ s.time.aligned = true ∧ s.elx.holdFrom = none ∧ 999996000 + 4000 ≤ s.tb) ∧
    (let s := wMark { holdFrom := some 999996000 }
     s.elx.holdFrom = some 999996000 ∧ 999996000 + s.fld Reg.ELX_TIM 0 15 8 * 2000 ≤ s.tb) ∧
    (let s := wAt 3 0 wUp { arole := 3, goodMark := true, lastMark := some 999992000 }
     s.elx.lastMark = some 999992000 ∧ s.elxOn = true ∧ s.elx.arole = 3 ∧ s.elx.goodMark = true ∧
     999992000 + s.fld Reg.ELX_TIM 0 3 0 * 2000 ≤ s.tb ∧ ((wAt 3 0 {} { arole := 3 }).elxPort 0).up = false) := by decide +kernel

/-- The node that a DOMAIN packet reaches; it acts in role r. -/
def wOrigin (e : Elrex) (s : State) : State :=
  ({ s with fus := { shadow := [(7, TwinWord.of 0x2005#16)] ++ s.fus.shadow }, regs := [(Reg.ELX_CFG, 0x0101#16)], elx := e }).setElxPort 1 wUp

/-- A command of the origin, for every node. -/
def wCmd (waits : List Nat) (done : Bool) (at_ : Tick) : DomCmd := ⟨6, 2, 3, 0, at_, 1, 0, 0, 0, waits, done⟩

/-- A domain record. -/
def wDomRec : DomRec := ⟨0x3F45, 0, 4000, [5], 1000000000, 1000000000, 0⟩

theorem test_met_domain_commands :
    (∀ a ∈ [0, 5], wDoes 0x60 [a, 0, 0, 0, 0, 0, 0] id (fun _ => true) = true) ∧ domainFault (pairValues (wPk 0x60 [2, 8, 0, 0, 0, 0, 0]).params) = some 2 ∧
    domainFault (pairValues (wPk 0x60 [1, 0, 0xC000, 0, 0, 0, 0]).params) = some 4 ∧ wDoes 0x60 [2, 8, 0, 0, 0, 0, 0] id (fun _ => true) = true ∧
    domainFault (pairValues (wPk 0x60 [4, 0, 0, 0, 0, 0, 0]).params) = none ∧
    wDoes 0x60 [1, 0, 0, 0, 0, 0, 0] id (fun s => !s.elxOn) = true ∧
    wDoes 0x60 [4, 0, 0, 0, 0, 0, 0] (wOrigin { arole := 2 }) (fun s => s.elxOn && decide (s.elx.arole = 2) && !s.originBelow) = true ∧
    wDoes 0x60 [2, 3, 0, 0, 0, 0, 0] (wOrigin { arole := 2, cmd := some (wCmd [] false 5) })
      (fun s => decide (s.elx.cmd = some (wCmd [] false 5)) && s.elxOn) = true ∧
    wDoes 0x60 [2, 3, 0, 6183, 15259, 0, 0] (wOrigin { arole := 2, cmd := some (wCmd [] true 5) })
      (fun s => decide (s.elx.cmd = some (wCmd [] true 5)) && s.elxOn) = true := by decide +kernel

theorem test_met_domain_frames :
    (let s := (wAt 1 0 wUp { arole := 1 }).setElxPort 4 wUp
     wOpenPort s s.upPort = true ∧ s.elx.arole ≠ 2 ∧ s.commit.pending = false ∧ s.staged = [] ∧ (∃ q ∈ s.downPorts, (s.elxPort q).up = true) ∧
     (∀ q ∈ (wAt 1 0 wUp { arole := 1 }).downPorts, ((wAt 1 0 wUp { arole := 1 }).elxPort q).up = false) ∧
     (wOpen s).staged ≠ [] ∧ (wOpen s).setOk = true ∧ bits 0x4005 15 14 = 1 ∧ bits 0x4005 11 0 = s.nodeId ∧
     bits 0x8001 15 14 = 2 ∧ (0x8001 % 256 &&& s.fld Reg.ELX_CFG 0 15 8) ≠ 0 ∧ bits 0x4006 15 14 = 1 ∧ bits 0x4006 11 0 ≠ s.nodeId) ∧
    (let s := wAt 2 1 wUp { arole := 2, cmd := some (wCmd [1] false 2000000000) }
     wOpenPort s 1 = true ∧ (wCmd [1] false 2000000000).cnum = 6 ∧ (wCmd [1] false 2000000000).done = false ∧ 1 ∈ (wCmd [1] false 2000000000).waits ∧
     s.elx.cmd = some (wCmd [1] false 2000000000) ∧
     (wAt 1 1 wUp { arole := 1, fwd := some (wCmd [1] false 1000000256) }).elx.fwd = some (wCmd [1] false 1000000256) ∧
     (wCmd [1] false 1000000256).t ≤ s.tb + 256 ∧ (wAt 1 1 wUp { arole := 1 }).upPort < 5 ∧ (wCmd [] false 5).waits = []) ∧
    ((wNode 2 {}).replica 1).stopped = false ∧ (∀ a ∈ [(2, 7), (3, 0), (4, 0)], (wNode 2 { arole := 1, reversed := true, queued := [(2, 7, 1000000001)] ++ (a.1, a.2, 999999999) :: [] }).elx.queued =
      [(2, 7, 1000000001)] ++ (a.1, a.2, 999999999) :: []) ∧ (wNode 2 {}).tb = 1000000000 ∧ (wNode 2 {}).fusedRole = 2 ∧
    (wNode 3 { arole := 2 }).fusedRole ≠ 2 ∧ (wNode 3 { arole := 2 }).elx.arole = 2 ∧ (wNode 1 { arole := 1 }).elx.arole ≠ 2 ∧
    (let s := wAt 2 1 wUp { arole := 2 }
     wOpenPort s 1 = true ∧ 1 ∈ s.downPorts ∧ s.elx.open_.length < 32 ∧ (∀ x ∈ s.elx.open_, x.joins wDomRec = false)) ∧
    (wAt 2 1 wUp { arole := 2, open_ := [wDomRec] }).elx.open_ = [wDomRec] ∧ wDomRec.joins wDomRec = true := by decide +kernel

/-- The ticks of a domain command, around the present of the supervisors' replica. -/
theorem test_met_domain_ticks :
    let s := (wAt 1 0 wUp { arole := 1 }).setElxPort 4 wUp
    let k := wPk 0x60 [2, 3, 0, 6183, 15259, 0, 0]
    let o := wNext 1 k (wOrigin { arole := 2, cmd := some (wCmd [] true 5) })
    1000000000 < s.replicaNow 1 + 1024 ∧ s.replicaNow 1 + 1024 ≤ 1000001024 ∧ 999999999 ≤ s.replicaNow 1 ∧ s.replicaNow 1 < 1000000001 ∧
    o.launchFault (ofWords (((pairValues k.params).drop 3).take 4 |>.map toWord)) = none := by
  intro s k o
  have h := State.replicaNow_near s 1
  have h1 : ((s.tb : Int) - 1 + (s.replica 1).ofs).toNat = 999999999 := by decide +kernel
  have h2 : ((s.tb : Int) + (s.replica 1).ofs).toNat = 1000000000 := by decide +kernel
  rw [h1, h2] at h
  refine ⟨by omega, by omega, by omega, by omega, ?_⟩
  have g := State.replicaNow_near o 1
  have g1 : ((o.tb : Int) - 1 + (o.replica 1).ofs).toNat = 1000000006 := by decide +kernel
  have g2 : ((o.tb : Int) + (o.replica 1).ofs).toNat = 1000000007 := by decide +kernel
  have g3 : o.cfg Reg.TB_CLEAD 0 = 20000 := by decide +kernel
  have g4 : ofWords (((pairValues k.params).drop 3).take 4 |>.map toWord) = 1000000007 + 20000 := by decide +kernel
  rw [g1, g2] at g
  unfold State.launchFault
  rw [g3, g4]
  simp only
  rw [if_neg (by omega), if_neg (by omega)]

/-! ### Every hypothesis is met: integrity, power, resets, frames -/

/-- A Lattice, the supervisors running. -/
def wLat (l : Lattice) : State := { wRun with lat := l }

/-- A fuse array with every field of Tirore's programmed. -/
def wFuses : Tbl Nat := (List.range 33).map (fun n => (n, if n ≤ 5 ∨ 17 ≤ n then 1 + 65536 * 65534 else 0))

theorem test_met_scrubbing :
    (wLat { writeBack := [8, 9] }).lat.writeBack.filter (fun a => a % 4 == 0) = 8 :: [] ∧
    (wLat {}).sup.running = true ∧ ({ wRun with sup := {} } : State).sup.running = false ∧
    (let s := wLat { scrub := [(3, { pos := 131071 })], errs := [(524287, [4])] }
     (s.scrubOf 3).pos < 131072 ∧ s.latErrs (4 * (s.scrubOf 3).pos + 3) = [4] ∧ s.lat.maps.filter (fun m => m.bank == 3) = []) ∧
    (wLat {}).latErrs 0 = [] ∧ 2 ≤ ((wLat { errs := [(524287, [4, 38])] }).latErrs 524287).length ∧
    (let m : RowMap := ⟨3, 511, 0, true, 1⟩
     (wLat { maps := [m] }).lat.maps.filter (fun m => m.bank == 3) = [m] ∧ 0 < m.left) ∧
    ((wLat { scrub := [(2, { start := 5 })] }).scrubOf 2).late = false ∧ ((wLat { scrub := [(2, { start := 5 })] }).scrubOf 2).start + 10000000 ≤ wRun.tb ∧
    (let m : RowMap := ⟨3, 511, 0, true, 0⟩
     (wLat { maps := [m] }).lat.maps.find? (fun x => x.bank == 3 && x.copying && decide (x.left = 0)) = some m) ∧
    injOk 0x8000 = true ∧ injOk 0x4000 = false := by decide +kernel

theorem test_met_pairs_and_fuses :
    (wEv { q := [(95, [wEnt 95 5])] }).queue 95 = [wEnt 95 5] ∧ (wEv { q := [(95, [wEnt 95 5])] }).restorable wOrg = false ∧
    (let s := (wEv { q := [(95, [wEnt 95 5])], slots := [(8191, (1, 5))] }).latPuts 65528 (wEdge 0)
     (s.queue 95)[0]? = some (wEnt 95 5) ∧ s.restorable (wEnt 95 5).org = true) ∧ (4 : Nat) ≠ 95 ∧
    (Tbl.find? 15 ([(15, [])] : Tbl (List Nat))).isSome = true ∧
    (let s : State := { wRun with fus := { array := [] }, regs := [(Reg.FUS_SEL, 16#16)] }
     bit s.locks 2 = false ∧ s.fld Reg.FUS_SEL 0 6 0 = 16 ∧ s.fuseKind 16 = 0 ∧ s.fus.prog = none) ∧
    ({ wRun with fus := { prog := some (16, 65535) } } : State).fus.prog = some (16, 65535) ∧
    ({ wRun with fus := { fw := .erasing } } : State).fus.fw = .erasing := by decide +kernel

theorem test_met_rungs :
    (let s : State := { wRun with pwr := { rising := [(11, 5)] } }
     (∃ c ∈ s.pwr.rising, c.1 = 11) ∧ s.domOn 11 = false) ∧ regDoms Reg.TWN_CFG 0 = [11] ∧
    wRun.pwr.vgdok = true ∧ ({ wRun with pwr := {} } : State).pwr.vgdRep = false ∧
    (let e : RungEntry := ⟨7, 1, 0, 999980008⟩
     ({ wRun with pwr := { wRun.pwr with entering := some e } } : State).pwr.entering = some e ∧ e.left = 0 ∧ wRun.tb < e.since + 20000 ∧
     wRun.dom 11 ≠ .off) ∧
    (∀ r ∈ [1, 2, 3, 4, 5, 6, 7], ({ wRun with pwr := { rung := r, wake := true } } : State).pwr.rung = r) ∧
    ({ wRun with pwr := { rung := 1, wake := true } } : State).pwr.wake = true ∧ wRun.pwr.wake = false ∧
    ({ wRun with pwr := { ktRun := true } } : State).pwr.ktRun = true ∧ wRun.pwr.ktRun = false := by decide +kernel

/-- The keep timer's latch is enabled, in Run and in a rung. -/
theorem test_met_keep_timer :
    let s := wRun.setCfg Reg.IRC_WCFG 14 0x2000
    s.fld Reg.IRC_WCFG 14 14 13 ≠ 0 ∧ s.pwr.rung = 0 ∧ s.domOn 2 = true ∧
    ({ s with pwr := { rung := 2, ktRun := true } } : State).pwr.rung ≠ 0 := by decide +kernel

theorem test_met_resets :
    wRun.pwr.pwren = true ∧ ({ wRun with pwr := { pwren := false } } : State).pwr.pwren = false ∧
    ({ wRun with pwr := { resetAt := some 999990007 } } : State).pwr.resetAt = some 999990007 ∧ 999990007 + 10000 ≤ wRun.tb ∧
    wRun.tb < 999990008 + 10000 ∧ keepReg Reg.PWR_KEEP0 = true ∧ keepReg Reg.ANG_TCTL = false ∧
    (let s : State := { wRun with pwr := {}, fus := { array := wFuses } }
     s.pwr.booting = true ∧ s.sup.rom = false ∧ s.bootFuses.slotOk s.fus.markB = true) ∧
    (let s : State := { wRun with pwr := {}, fus := { array := [] } }
     s.bootFuses.slotOk s.fus.markB = false ∧ s.bootFuses.slotOk (!s.fus.markB) = false ∧ s.pwr.bootFrom = 0) ∧
    ({ wRun with pwr := { bootFrom := 6, verified := true } } : State).pwr.verified = true ∧
    ({ wRun with pwr := { readyPulse := some 1000000007 } } : State).pwr.readyPulse = some 1000000007 ∧
    (let s : State := { wRun with tb := 10485765, pwr := { limited := true, hltmo := 10, limFrom := 5 } }
     s.pwr.limited = true ∧ s.pwr.hltmo ≠ 0 ∧ s.pwr.limFrom + s.pwr.hltmo * 1048576 ≤ s.tb) := by decide +kernel

theorem test_met_tap :
    bit ({ wRun with fus := {} } : State).locks 0 = false ∧ wRun.tap.tck = false ∧
    bit ({ wRun with fus := { shadow := [(16, TwinWord.of 1#16)] } } : State).locks 0 = true ∧
    (∀ q ∈ [TapState.shDr, .shIr, .capDr, .upDr], ({ wRun with tap := { st := q, tck := true } } : State).tap.st = q) ∧
    ({ wRun with tap := { instr := .bypass } } : State).tap.instr = .bypass := by decide +kernel

/-- Commands of the frames go on to a next state. -/
theorem test_met_command_frames :
    goesOn { wRun with pending := [.claim] } = true ∧ goesOn { wRun with pending := [.latInj 5#16] } = true ∧
    goesOn { wRun with pending := [.larHalt 5] } = true ∧ goesOn { wRun with pending := [.camEdge 0 true] } = true ∧
    goesOn { wRun with pending := [.supplyReset] } = true := by decide +kernel

end Sys2Proof.Machine
end

section
/-! SUPPORT. The results of the lanes' logical, bit, shift and rotate instructions, as numbers and as 16-bit words
(12_larlar_isa.md R391, R397, R398). The machine computes with numbers; the statements speak of words. -/

namespace Sys2Proof.Machine

/-! ### Bits and flags -/

theorem bit_eq_testBit (x j : Nat) : bit x j = x.testBit j := by
  rw [Nat.testBit_eq_decide_div_mod_eq]
  rfl

theorem bit_toNat (x : Word) (j : Nat) : bit x.toNat j = x.getLsbD j := bit_eq_testBit _ _

/-- R391: Z and N of a number that is a word. -/
theorem Flags.zn_toNat (f : Flags) (r : Word) : f.zn r.toNat = f.ofWord r := by
  have hz : r.toNat % 65536 = 0 ↔ r = 0 := by
    rw [Nat.mod_eq_of_lt r.isLt, ← BitVec.toNat_inj]
    rfl
  simp only [Flags.zn, Flags.ofWord, hz, bit_toNat, BitVec.msb_eq_getLsbD_last]

/-! ### NOT and the bit instructions (R390, R398) -/

theorem lnot_toNat (y : Word) : 65535 - y.toNat = (~~~y).toNat := by
  simp [BitVec.toNat_not]

theorem onesOf_mod_two (x : Word) (n : Nat) :
    onesOf x.toNat n % 2 = b2n ((List.range n).foldl (fun p j => p != x.getLsbD j) false) := by
  induction n with
  | zero => rfl
  | succ n ih =>
    rw [List.range_succ, List.foldl_append, onesOf, Nat.add_mod, ih, bit_toNat]
    generalize (List.range n).foldl (fun p j => p != x.getLsbD j) false = p
    cases p <;> cases h : x.getLsbD n <;> simp [b2n, h]

theorem par_toNat (x y : Word) (n : Nat) : onesOf y.toNat 16 % 2 = (Mn.par.bitwise x y n).toNat := by
  rw [onesOf_mod_two]
  simp only [b2n, Mn.bitwise]
  split <;> rfl

theorem reverseBits_lt (x n : Nat) : reverseBits x n < 2 ^ n := by
  induction n generalizing x with
  | zero => simp [reverseBits]
  | succ n ih =>
    have := ih (x / 2)
    rw [reverseBits, Nat.pow_succ, b2n]
    split <;> omega

theorem testBit_b2n_mul_two_pow (b : Bool) (n j : Nat) : (b2n b * 2 ^ n).testBit j = (b && decide (j = n)) := by
  cases b
  · simp [b2n]
  · simp [b2n, Nat.testBit_two_pow, eq_comm]

theorem testBit_reverseBits (x n j : Nat) : (reverseBits x n).testBit j = (decide (j < n) && x.testBit (n - 1 - j)) := by
  induction n generalizing x with
  | zero => simp [reverseBits]
  | succ n ih =>
    have hor : reverseBits x (n + 1) = b2n (bit x 0) * 2 ^ n ||| reverseBits (x / 2) n := by
      rw [reverseBits, Nat.add_comm, Nat.mul_comm, Nat.two_pow_add_eq_or_of_lt (reverseBits_lt _ _)]
    rw [hor, Nat.testBit_or, testBit_b2n_mul_two_pow, ih, Nat.testBit_div_two, bit_eq_testBit]
    rcases Nat.lt_trichotomy j n with hj | rfl | hj
    · rw [show n - 1 - j + 1 = n + 1 - 1 - j by omega]
      simp [hj, Nat.ne_of_lt hj, Nat.lt_succ_of_lt hj]
    · simp
    · simp [show ¬ j < n by omega, show ¬ j < n + 1 by omega, Nat.ne_of_gt hj]

/-- R398: the lowest n bits of a word in reverse order, 0 above them. -/
theorem reverseBits_toNat (x : Word) {n : Nat} (hn : n ≤ 16) : reverseBits x.toNat n = (x.reverse >>> (16 - n)).toNat := by
  apply Nat.eq_of_testBit_eq
  intro j
  rw [testBit_reverseBits, BitVec.testBit_toNat, BitVec.testBit_toNat, BitVec.getLsbD_ushiftRight, BitVec.getLsbD_reverse,
    BitVec.getMsbD, show 16 - 1 - (16 - n + j) = n - 1 - j by omega, decide_eq_decide.mpr (show j < n ↔ 16 - n + j < 16 by omega)]

theorem brev_toNat (y : Word) : reverseBits y.toNat 16 = y.reverse.toNat := by
  rw [reverseBits_toNat y (Nat.le_refl 16), Nat.sub_self, BitVec.ushiftRight_zero]

/-! ### Shifts and rotates (R397) -/

/-- The two parts of a left rotate do not overlap, so their sum is their union. -/
theorem mul_add_div_mod_eq_or {x k : Nat} (hx : x < 2 ^ 16) (hk : k ≤ 16) :
    (x * 2 ^ k + x / 2 ^ (16 - k)) % 65536 = x <<< k % 2 ^ 16 ||| x >>> (16 - k) := by
  have hlow : x / 2 ^ (16 - k) < 2 ^ k := by
    rw [Nat.div_lt_iff_lt_mul (Nat.two_pow_pos _), ← Nat.pow_add, Nat.add_sub_cancel' hk]
    exact hx
  rw [← Nat.shiftLeft_eq, Nat.shiftLeft_add_eq_or_of_lt hlow, show 65536 = 2 ^ 16 from rfl, Nat.or_mod_two_pow,
    Nat.mod_eq_of_lt (Nat.lt_of_lt_of_le hlow (Nat.pow_le_pow_right (by decide) hk)), Nat.shiftRight_eq_div_pow]

theorem rotateLeft_toNat (x : Word) (n : Nat) :
    (x.toNat * 2 ^ (n % 16) + x.toNat / 2 ^ (16 - n % 16)) % 65536 = (x.rotateLeft n).toNat := by
  rw [BitVec.toNat_rotateLeft, mul_add_div_mod_eq_or x.isLt (Nat.le_of_lt (Nat.mod_lt n (by decide)))]

/-- R398: the two bytes exchanged are a rotate by 8. -/
theorem swpb_toNat (x : Word) : x.toNat % 256 * 256 + x.toNat / 256 = (x.rotateLeft 8).toNat := by
  have hx := x.isLt
  rw [← rotateLeft_toNat]
  show _ = (x.toNat * 256 + x.toNat / 256) % 65536
  omega

theorem rotateRight_toNat (x : Word) (n : Nat) :
    (x.toNat / 2 ^ (n % 16) + x.toNat * 2 ^ (16 - n % 16)) % 65536 = (x.rotateRight n).toNat := by
  have hn : n % 16 ≤ 16 := Nat.le_of_lt (Nat.mod_lt n (by decide))
  have h := mul_add_div_mod_eq_or x.isLt (Nat.sub_le 16 (n % 16))
  rwa [Nat.sub_sub_self hn, Nat.add_comm, Nat.or_comm, ← BitVec.toNat_rotateRight] at h

theorem rotateLeft_eq_rotateRight_sub (x : Word) {n : Nat} (h0 : 0 < n) (hn : n < 16) : x.rotateLeft n = x.rotateRight (16 - n) := by
  rw [BitVec.rotateLeft_def, BitVec.rotateRight_def, Nat.mod_eq_of_lt hn, Nat.mod_eq_of_lt (by omega), Nat.sub_sub_self (Nat.le_of_lt hn),
    BitVec.or_comm]

theorem shiftLeft_toNat (x : Word) (n : Nat) : (if 16 ≤ n then 0 else x.toNat * 2 ^ n % 65536) = (x <<< n).toNat := by
  split
  · next h => rw [BitVec.shiftLeft_eq_zero h]; rfl
  · rw [BitVec.toNat_shiftLeft, Nat.shiftLeft_eq]

theorem ushiftRight_toNat (x : Word) (n : Nat) : (if 16 ≤ n then 0 else x.toNat / 2 ^ n) = (x >>> n).toNat := by
  split
  · next h => rw [BitVec.ushiftRight_eq_zero h]; rfl
  · rw [BitVec.toNat_ushiftRight, Nat.shiftRight_eq_div_pow]

theorem s16_toNat (x : Word) : s16 x.toNat = x.toInt := by
  rw [BitVec.toInt_eq_toNat_cond, s16, signedOf, Nat.mod_eq_of_lt x.isLt]
  simp only [show x.toNat < 2 ^ (16 - 1) ↔ 2 * x.toNat < 2 ^ 16 by omega]

theorem toNat_sshiftRight_of_le (x : Word) {n : Nat} (hn : 16 ≤ n) : (x.sshiftRight n).toNat = if x.msb then 0xFFFF else 0 := by
  have hzero (m : Nat) (hm : m < 2 ^ 16) : m >>> n = 0 :=
    Nat.shiftRight_eq_zero m n (Nat.lt_of_lt_of_le hm (Nat.pow_le_pow_right (by decide) hn))
  rw [BitVec.toNat_sshiftRight, hzero _ x.isLt, hzero _ (by omega)]

theorem sshiftRight_toNat (x : Word) (n : Nat) :
    (if 16 ≤ n then (if bit x.toNat 15 then 0xFFFF else 0) else ofSigned 16 (fdiv (s16 x.toNat) (2 ^ n : Nat))) = (x.sshiftRight n).toNat := by
  split
  · next h => rw [toNat_sshiftRight_of_le x h, bit_toNat, BitVec.msb_eq_getLsbD_last]
  · rw [s16_toNat, fdiv, Int.fdiv_eq_ediv_of_nonneg _ (Int.natCast_nonneg _), BitVec.sshiftRight_eq, BitVec.toNat_ofInt,
      Int.shiftRight_eq_div_pow]
    rfl

/-- A result as it goes to gd: the word as a number, with the flags (State.toGd). -/
abbrev numbered (r : Word × Flags) : Nat × Flags := (r.1.toNat, r.2)

section
variable (f : Flags) (x : Word) (n : Nat)

theorem shlOf_toNat : shlOf f x.toNat n = numbered (Mn.shl.shifted x n f) := by
  by_cases h0 : n = 0
  · simp only [shlOf, Mn.shifted, if_pos h0, Flags.zn_toNat]
  · simp only [shlOf, Mn.shifted, if_neg h0, shiftLeft_toNat, Flags.zn_toNat, bit_toNat, Bool.if_false_right]

theorem shrOf_toNat : shrOf f x.toNat n = numbered (Mn.shr.shifted x n f) := by
  by_cases h0 : n = 0
  · simp only [shrOf, Mn.shifted, if_pos h0, Flags.zn_toNat]
  · simp only [shrOf, Mn.shifted, if_neg h0, ushiftRight_toNat, Flags.zn_toNat, bit_toNat, Bool.if_false_right]

theorem sarOf_toNat : sarOf f x.toNat n = numbered (Mn.sar.shifted x n f) := by
  by_cases h0 : n = 0
  · simp only [sarOf, Mn.shifted, if_pos h0, Flags.zn_toNat]
  · simp only [sarOf, Mn.shifted, if_neg h0, sshiftRight_toNat, Flags.zn_toNat]
    simp only [bit_toNat, BitVec.msb_eq_getLsbD_last]

theorem rorOf_toNat : rorOf f x.toNat n = numbered (Mn.ror.shifted x n f) := by
  by_cases h0 : n = 0
  · simp only [rorOf, Mn.shifted, if_pos h0, Flags.zn_toNat]
  · simp only [rorOf, Mn.shifted, if_neg h0, rotateRight_toNat, Flags.zn_toNat, bit_toNat, BitVec.msb_eq_getLsbD_last,
      BitVec.rotateRight_mod_eq_rotateRight]

theorem rolOf_toNat : rolOf f x.toNat n = numbered (Mn.rol.shifted x n f) := by
  by_cases h0 : n = 0
  · simp only [rolOf, Mn.shifted, if_pos h0, Flags.zn_toNat]
  · simp only [rolOf, Mn.shifted, if_neg h0, rotateLeft_toNat, Flags.zn_toNat, bit_toNat, BitVec.rotateLeft_mod_eq_rotateLeft]

end

end Sys2Proof.Machine
end

section
/-! SUPPORT. BREVN in the decoder (R390): its number is at most 16. -/

namespace Sys2Proof.Machine

theorem byFn_mem (fn : Nat) (a b c d : Mn) : byFn fn a b c d ∈ [a, b, c, d] := by
  unfold byFn
  split <;> simp

theorem byFn_ne {fn : Nat} {a b c d m : Mn} (h : m ∉ [a, b, c, d]) : byFn fn a b c d ≠ m :=
  fun e => h (e ▸ byFn_mem fn a b c d)

theorem decodeOp0_ne_brevn (a b d : Nat) : decodeOp0 a b d ≠ some .brevn := by
  unfold decodeOp0
  repeat' split
  all_goals simp only [ne_eq, Option.some.injEq, reduceCtorEq, not_false_eq_true]

theorem decodeOp12_ne_brevn (a kind w : Nat) : decodeOp12 a kind w ≠ some .brevn := by
  unfold decodeOp12
  split <;> simp

theorem decodeOp1D_ne_brevn (v : Nat) (blocks : Bool) : decodeOp1D v blocks ≠ some .brevn := by
  have hfn : byFn (bits v 10 9) .bmov .bfil .bcmp .bcrc ≠ .brevn := byFn_ne (by decide)
  unfold decodeOp1D
  dsimp only
  repeat' split
  all_goals simp only [ne_eq, Option.some.injEq, hfn, reduceCtorEq, not_false_eq_true]

theorem extMn_ne_brevn (unit fn : Nat) : extMn unit fn ≠ some .brevn := by
  unfold extMn
  split
  case h_6 => simp
  all_goals exact fun e => absurd (List.mem_of_getElem? e) (by decide)

theorem le_of_mnOf_brevn {v w : Nat} {blocks : Bool} (h : mnOf v w blocks = some .brevn) : bits v 7 3 ≤ 16 := by
  unfold mnOf at h
  dsimp only at h
  split at h
  case h_16 => exact (Option.ite_none_right_eq_some.mp h).1.2
  all_goals simp [byFn_ne, decodeOp0_ne_brevn, decodeOp12_ne_brevn, decodeOp1D_ne_brevn, extMn_ne_brevn] at h

theorem le_of_decodeLar_brevn {v w : Nat} {blocks : Bool} {i : LarWord} (h : decodeLar v w blocks = some i) (hm : i.mn = .brevn) :
    i.b ≤ 16 := by
  unfold decodeLar at h
  split at h
  · next m hmn =>
    obtain rfl := Option.some.inj h
    exact le_of_mnOf_brevn (hmn.trans (congrArg some hm))
  · cases h

end Sys2Proof.Machine
end

section
/-! SUPPORT. A lane's command is one lane cycle of its instruction: the writes with which the logical instructions and the shifts
complete (R341, R390). `hexec` is the meaning that `exec` gives the command; for a named command it is true by `rfl`. -/

namespace Sys2Proof.Machine

section
variable {s0 s : State} {l : Nat} {i : LarWord} {c : Instr} {m : Mn} {op : LarWord → Nat → State → State}
  (hs : s = s0.laneSettle l) (h : s.executes l i) (hm : i.mn = m) (hexec : exec c s0 = .next (s0.laneRun l m op))
include hs h hm hexec

theorem exec_of_executes : exec c s0 = .next (op i l s) := by
  rw [hexec, State.laneRun_eq hs h hm]

theorem exec_finish {ws : List LaneWrite} (hop : op i l s = s.finish l i ws) :
    exec c s0 = .next (s.completed l i ws (s.nextPc l i)) := by
  rw [exec_of_executes hs h hm hexec, hop, State.finish_eq h]

theorem exec_logic {n : Nat} {r : Word} (hop : op i l s = s.logic l i n) (hr : n = r.toNat) :
    exec c s0 = .next (s.completed l i [.g i.a r.toNat, .flags ((s.lane l).fl.ofWord r)] (s.nextPc l i)) := by
  refine exec_finish hs h hm hexec (hop.trans ?_)
  rw [hr, ← Flags.zn_toNat]
  rfl

theorem exec_shift {of : Flags → Nat → Nat → Nat × Flags} {n : Nat} (hop : op i l s = s.toGd l i (of (s.laneFlags l) (s.gd l i) n))
    (hof : ∀ f (x : Word) n, of f x.toNat n = numbered (m.shifted x n f)) :
    let r := m.shifted ((s.lane l).gw i.a) n (s.lane l).fl
    exec c s0 = .next (s.completed l i [.g i.a r.1.toNat, .flags r.2] (s.nextPc l i)) := by
  refine exec_finish hs h hm hexec (hop.trans ?_)
  exact congrArg (s.toGd l i) (hof _ _ _)

end

end Sys2Proof.Machine
end

section
/-! The branch condition, the logical and bit instructions, the moves and the shifts (R390 to R393, R397, R398). -/

namespace Sys2Proof.Machine

/-- R390: the number of a BREVN that executes is at most 16. -/
theorem State.executes_brevn_le {s : State} {l : Nat} {i : LarWord} (h : s.executes l i) (hm : i.mn = .brevn) : i.b ≤ 16 := by
  obtain ⟨_, _, _, hword⟩ := h
  exact le_of_decodeLar_brevn hword hm

theorem opBr_eq {s : State} {l : Nat} {i : LarWord} (h : s.executes l i) :
    opBr i l s = s.completed l i [] (if (s.lane l).fl.holds (2 * i.a + i.b / 16) then i.w % 4096 else s.nextPc l i) := by
  unfold opBr
  rw [State.branch_eq h, State.finish_eq h, ← apply_ite]
  rfl

/-- Settles O35: BR runs as its taken or its untaken completion, and each condition is read off the flags. -/
theorem branchConditions : Obligations.BranchConditions := by
  refine ⟨fun l i s0 s hs h hm => ?_, fun f => ?_⟩
  · rw [exec_of_executes hs h hm rfl, opBr_eq h]
  · simp [Flags.holds]

theorem exec_bitwise {s0 s : State} {l : Nat} {i : LarWord} (hs : s = s0.laneSettle l) (h : s.executes l i)
    (hm : i.mn ∈ [.land, .lor, .lxor, .lnot, .par, .brev, .swpb, .brevn]) :
    let r := i.mn.bitwise ((s.lane l).gw i.a) ((s.lane l).gw i.rs) i.b
    exec (i.mn.command l) s0 = .next (s.completed l i [.g i.a r.toNat, .flags ((s.lane l).fl.ofWord r)] (s.nextPc l i)) := by
  simp only [List.mem_cons, List.not_mem_nil, or_false] at hm
  rcases hm with hm | hm | hm | hm | hm | hm | hm | hm <;> rw [hm]
  · exact exec_logic hs h hm rfl rfl (BitVec.toNat_and ..).symm
  · exact exec_logic hs h hm rfl rfl (BitVec.toNat_or ..).symm
  · exact exec_logic hs h hm rfl rfl (BitVec.toNat_xor ..).symm
  · exact exec_logic hs h hm rfl rfl (lnot_toNat ((s.lane l).gw i.rs))
  · exact exec_logic hs h hm rfl rfl (par_toNat _ _ _)
  · exact exec_logic hs h hm rfl rfl (brev_toNat _)
  · exact exec_logic hs h hm rfl rfl (swpb_toNat _)
  · exact exec_logic hs h hm rfl rfl (reverseBits_toNat _ (State.executes_brevn_le h hm))

/-- Settles O29: each logical instruction completes with its word, whose Z and N are the flags it sets; TST keeps gd, and the moves
write gd alone. -/
theorem laneLogicAndMoves : Obligations.LaneLogicAndMoves := by
  intro l i s0 s hs h
  refine ⟨exec_bitwise hs h, fun hm => ?_, fun hm => ?_, fun hm => ?_, fun hm => ?_⟩
  · refine exec_finish hs h hm rfl ?_
    rw [hm, ← Flags.zn_toNat, Mn.bitwise, BitVec.toNat_and]
    rfl
  · exact exec_finish hs h hm rfl rfl
  · exact exec_finish hs h hm rfl rfl
  · exact exec_finish hs h hm rfl rfl

/-- Settles O30: the amount is the instruction's number or gs[4:0], and the shift of numbers is the shift of words. -/
theorem laneShifts : Obligations.LaneShifts := by
  refine ⟨fun l i s0 s hs h hm => ?_, fun x n f h0 hn => ?_⟩
  · simp only [List.mem_cons, List.not_mem_nil, or_false] at hm
    rcases hm with hm | hm | hm | hm | hm | hm | hm | hm | hm <;> rw [hm]
    · exact exec_shift hs h hm rfl rfl shlOf_toNat
    · exact exec_shift hs h hm rfl rfl shrOf_toNat
    · exact exec_shift hs h hm rfl rfl sarOf_toNat
    · exact exec_shift hs h hm rfl rfl rorOf_toNat
    · exact exec_shift hs h hm rfl rfl rolOf_toNat
    · exact exec_shift hs h hm rfl rfl shlOf_toNat
    · exact exec_shift hs h hm rfl rfl shrOf_toNat
    · exact exec_shift hs h hm rfl rfl sarOf_toNat
    · exact exec_shift hs h hm rfl rfl rorOf_toNat
  · simp only [Mn.shifted, if_neg (Nat.ne_of_gt h0), if_neg (show 16 - n ≠ 0 by omega), BitVec.rotateLeft_mod_eq_rotateLeft,
      BitVec.rotateRight_mod_eq_rotateRight]
    exact rotateLeft_eq_rotateRight_sub x h0 hn

end Sys2Proof.Machine
end
